-- ==== Sys2Proof/Word.lean ====
section
/-! DEFINITION. The word types of the OB416 and the plainest arithmetic of R2. -/

namespace Sys2Proof

/-- One byte on the shield line or in the configuration memory. -/
abbrev Byte := BitVec 8
/-- An elapsed-time count in units of 10 ms: 32 bits, wrapping (00_scope section 4.5). -/
abbrev Time := BitVec 32
/-- A ring number: 65,535 is followed by 0 (R22). -/
abbrev RingNumber := BitVec 16
/-- An order tag, a request tag or a sequence number, 0 to 255 and wrapping. -/
abbrev Tag := BitVec 8
/-- A configuration digest, the CRC-32 of an image (R193). -/
abbrev Digest := BitVec 32

/-- R2: a value brought to the nearer end of a range. -/
def clamp (lo hi v : Int) : Int :=
  if v < lo then lo else if hi < v then hi else v

/-- R2: whether placing a value in a range would change it. -/
def outside (lo hi v : Int) : Bool :=
  decide (v < lo) || decide (hi < v)

/-- R54: the signed quotient, truncated toward zero. -/
def squot (q d : Int) : Int :=
  if 0 ≤ q then q / d else -((-q) / d)

/-- R5: the span from a stored count to now, modulo 2^32. -/
def elapsedSince (start now : Time) : Nat :=
  (now - start).toNat

/-- A timer is the count at which it started, or none while it does not run. -/
abbrev Timer := Option Time

/-- R5: a running timer whose span has passed. -/
def due (t : Timer) (span : Nat) (now : Time) : Bool :=
  match t with
  | none => false
  | some start => decide (span ≤ elapsedSince start now)

/-- A value set at one place of a list that stands for a fixed number of like things. -/
def putAt {α : Type} (l : List α) (k : Nat) (v : α) : List α :=
  l.set k v

end Sys2Proof
end

