-- ==== Sys2Proof/Config.lean ====
section
/-! DEFINITION. What the part is told at cold start (straps, configuration image), the fixed spans and
sizes the chapters give, and the alarm kinds with their classes and default persistences. -/

namespace Sys2Proof

/-! ## Fixed numbers of the manual -/

namespace Config

/-- 00_scope section 4.5: spans in units of 10 ms. Field sample and status period (section 3.3). -/
def samplePeriod : Nat := 1
/-- Section 3.3: the status timer's period, 10 ms. -/
def statusPeriod : Nat := 1
/-- R30, R120: the duty and balance evaluation period, 100 ms. -/
def evaluationPeriod : Nat := 10
/-- R193: the read limit of the image, 200 ms. -/
def loadLimit : Nat := 20
/-- R195: the length of LISTEN, 300 ms. -/
def listenSpan : Nat := 30
/-- R194, R195: the JOIN period, 50 ms. -/
def joinPeriod : Nat := 5
/-- R195: the JOIN frames of one LISTEN. -/
def joinsPerListen : Nat := 6
/-- R10: LIVE to SILENT, 30 ms. -/
def liveSpan : Nat := 3
/-- R10: SILENT or JOINING to LOST, 100 ms. -/
def lostSpan : Nat := 10
/-- R19: console LIVE to SILENT, 300 ms. -/
def consoleSilentSpan : Nat := 30
/-- R19: console to LOST, 1,000 ms. -/
def consoleLostSpan : Nat := 100
/-- R31: the start watch, 300 ms. -/
def startWatchSpan : Nat := 30
/-- R82: the answer wait, 100 ms. -/
def answerSpan : Nat := 10
/-- R150: the span after a duplicate-station notice, 1,000 ms. -/
def duplicateSpan : Nat := 100
/-- R175: the frames the transmit queue holds. -/
def queueSize : Nat := 8
/-- R101: the parcels the demand queue holds. -/
def parcelLimit : Nat := 16
/-- R173: the consecutive collisions that drop a frame. -/
def collisionLimit : Nat := 16
/-- R113: whether the flush pressure stop stands after a VALID sample that is at or above P_max and at or
below P_resume at once, given whether it stood before, the pressure and the elapsed count. The manual sets
the stop and clears it on such a sample and gives no precedence: a FREE VALUE (log 20), no body. -/
opaque flushStopTie : Bool → Int → Time → Bool
/-- R176: STATUS frames from one diagnostic STATUS to the next. -/
def diagnosticEvery : Nat := 50

end Config

/-! ## Alarm kinds (R149) -/

/-- The alarm kinds, in the order of their numbers (R183). -/
inductive AlarmKind
  | sectorMissing | consoleLost | dutyConflict | dutyMissing | configMismatch | duplicateStation
  | lineFault | cutterheadOvertorque | cutterheadJam | motorOvertemp | strokeSensorFault
  | substitutionDenied | skew | groupPressureLimit | buildTimeout | requestUnanswered
  | buildOrphaned | groutLag | groutBlocked | groutNeedsFlush | groutAbsent | facePressureLow
  | facePressureHigh | overextraction | underextraction | balanceBlind | pressureBlind
  | screwFault | estop | arith
  deriving DecidableEq, Repr

/-- Every alarm kind, in the order of R183's numbers. -/
def AlarmKind.all : List AlarmKind :=
  [.sectorMissing, .consoleLost, .dutyConflict, .dutyMissing, .configMismatch, .duplicateStation,
   .lineFault, .cutterheadOvertorque, .cutterheadJam, .motorOvertemp, .strokeSensorFault,
   .substitutionDenied, .skew, .groupPressureLimit, .buildTimeout, .requestUnanswered,
   .buildOrphaned, .groutLag, .groutBlocked, .groutNeedsFlush, .groutAbsent, .facePressureLow,
   .facePressureHigh, .overextraction, .underextraction, .balanceBlind, .pressureBlind,
   .screwFault, .estop, .arith]

/-- R183: the number of an alarm kind, its bit in the active alarm set. -/
def AlarmKind.number : AlarmKind → Nat
  | .sectorMissing => 0 | .consoleLost => 1 | .dutyConflict => 2 | .dutyMissing => 3
  | .configMismatch => 4 | .duplicateStation => 5 | .lineFault => 6 | .cutterheadOvertorque => 7
  | .cutterheadJam => 8 | .motorOvertemp => 9 | .strokeSensorFault => 10 | .substitutionDenied => 11
  | .skew => 12 | .groupPressureLimit => 13 | .buildTimeout => 14 | .requestUnanswered => 15
  | .buildOrphaned => 16 | .groutLag => 17 | .groutBlocked => 18 | .groutNeedsFlush => 19
  | .groutAbsent => 20 | .facePressureLow => 21 | .facePressureHigh => 22 | .overextraction => 23
  | .underextraction => 24 | .balanceBlind => 25 | .pressureBlind => 26 | .screwFault => 27
  | .estop => 28 | .arith => 29

/-- R142, R146 to R148: the three alarm classes. -/
inductive AlarmClass
  | warning | hold | stop
  deriving DecidableEq, Repr

/-- R151: the five sticky flags. -/
inductive Flag
  | saturated | clamped | fifoMergedFull | counterWrap | ringResync
  deriving DecidableEq, Repr

/-- A set drawn from the sticky flags: the flags themselves, the escalation set, the field of a STATUS. -/
structure FlagSet where
  saturated : Bool := false
  clamped : Bool := false
  fifoMergedFull : Bool := false
  counterWrap : Bool := false
  ringResync : Bool := false
  deriving DecidableEq, Repr

/-! ## Straps (R192) -/

/-- R192: the five strap pins as read, true for a pin tied to ground (1). -/
structure Straps where
  stn0 : Bool := false
  stn1 : Bool := false
  stn2 : Bool := false
  erector : Bool := false
  conveyor : Bool := false
  deriving DecidableEq, Repr

/-! ## The configuration image (11_configuration_and_start section 11.2) -/

/-- R27: one row of the duty-level table. -/
structure DutyLevel where
  valid : Bool
  speed : Int
  torqueLimit : Int
  loadHigh : Int
  loadLow : Int
  hDown : Nat
  hUp : Nat
  advanceCap : Int
  deriving DecidableEq, Repr

/-- R71: one placement of the build plan. -/
structure Placement where
  segment : Nat
  key : Bool
  position : Nat
  deriving DecidableEq, Repr

/-- R159: gain, offset and plausibility window of an analog input channel. -/
structure AnalogScale where
  gain : Int
  offset : Int
  low : Int
  high : Int
  deriving DecidableEq, Repr

/-- R165: gain and offset of a numeric output channel. -/
structure OutputScale where
  gain : Int
  offset : Int
  deriving DecidableEq, Repr

/-- R149: raise and clear persistence of an alarm kind, in units of 10 ms. -/
structure Persistence where
  raise : Nat
  clear : Nat
  deriving DecidableEq, Repr

/-- The fields of the configuration image, by the groups of section 11.2. Spans are in units of 10 ms.
`persistences` stands by alarm kind number, `analog` by channel number 0 to 7, `outputs` for MOTOR_REF_0,
MOTOR_REF_1, GROUP_VALVE, GROUT_PUMP_REF and SCREW_REF in that order. -/
structure Image where
  nS : Nat
  aFace : Int
  aSector : Int
  bulking : Int
  fFill : Int
  vS : Int
  sEnd : Int
  sBuildMin : Int
  sRetract : Int
  pHold : Int
  pRetract : Int
  pGroupMax : Int
  kA : Int
  lSkew : Int
  lSkewAlarm : Int
  levels : List DutyLevel
  rRamp : Int
  tHigh : Int
  tLow : Int
  lTherm : Nat
  dDroop : Int
  tAlarm : Int
  tTrip : Int
  plan : List Placement
  tStep : Nat
  tGrip : Nat
  tRetract : Nat
  tExtend : Nat
  tRelease : Nat
  vParcel : Int
  vStart : Int
  lBoost : Int
  rateLow : Int
  rateHigh : Int
  pMax : Int
  pResume : Int
  tBlock : Nat
  tSet : Nat
  tFlush : Nat
  lLag : Int
  lLagClear : Int
  kP : Int
  kB : Int
  slew : Int
  nMax : Int
  lOver : Int
  lUnder : Int
  lHyst : Int
  pTargetInit : Int
  bandInit : Int
  persistences : List Persistence
  escalation : FlagSet
  escalationClass : AlarmClass
  analog : List AnalogScale
  outputs : List OutputScale
  safeMotor0 : Int
  safeMotor1 : Int
  safePump : Int
  safeScrew : Int
  safeFlushOpen : Bool
  cMeterMax : Nat
  cEncMax : Nat
  deriving DecidableEq, Repr

/-- DESIGN CHOICE (log 2): what stands for the image while none has been read: every number 0, every list
empty. Unsafe only for a reader of image values in LOAD or CONFIG_FAULT, where no rule reads one. -/
def Image.blank : Image :=
  { nS := 0, aFace := 0, aSector := 0, bulking := 0, fFill := 0, vS := 0, sEnd := 0, sBuildMin := 0
    sRetract := 0, pHold := 0, pRetract := 0, pGroupMax := 0, kA := 0, lSkew := 0, lSkewAlarm := 0
    levels := [], rRamp := 0, tHigh := 0, tLow := 0, lTherm := 0, dDroop := 0, tAlarm := 0, tTrip := 0
    plan := [], tStep := 0, tGrip := 0, tRetract := 0, tExtend := 0, tRelease := 0, vParcel := 0
    vStart := 0, lBoost := 0, rateLow := 0, rateHigh := 0, pMax := 0, pResume := 0, tBlock := 0
    tSet := 0, tFlush := 0, lLag := 0, lLagClear := 0, kP := 0, kB := 0, slew := 0, nMax := 0
    lOver := 0, lUnder := 0, lHyst := 0, pTargetInit := 0, bandInit := 0, persistences := []
    escalation := {}, escalationClass := .warning, analog := [], outputs := []
    safeMotor0 := 0, safeMotor1 := 0, safePump := 0, safeScrew := 0, safeFlushOpen := false
    cMeterMax := 0, cEncMax := 0 }

/-- What the configuration memory delivered in LOAD: its bytes (two of length, the content, four of check
value) and, beside them, the values its content holds. The spec gives the fields of the content, not their
encoding, so the values travel with the bytes (DESIGN CHOICE, log 4). -/
structure ImageRead where
  bytes : List Byte
  fields : Image
  deriving DecidableEq, Repr

/-! ## What a field sample reads (R158) -/

/-- R161: a supervised current loop, as read at one sample. -/
inductive Loop
  | on | off | fault
  deriving DecidableEq, Repr

/-- R164: one step of the SCREW_ENCODER tracks: +1 in the conveying direction, -1 against it, or both
tracks changed together (a quadrature error). -/
inductive EncoderStep
  | forward | backward | bothChanged
  deriving DecidableEq, Repr

/-- The readings of every input at one field sample expiry: eight raw analog values (R159), the loops of
the discrete channels (R161, R162), the meter's loop and pulses (R163), the encoder's loops and steps (R164). -/
structure FieldInputs where
  stroke : BitVec 16 := 0
  groupPressure : BitVec 16 := 0
  chamberPressure : BitVec 16 := 0
  groutPressure : BitVec 16 := 0
  motorTemp0 : BitVec 16 := 0
  motorTemp1 : BitVec 16 := 0
  motorTorque0 : BitVec 16 := 0
  motorTorque1 : BitVec 16 := 0
  estopIn : Loop := .on
  driveReady0 : Loop := .off
  driveReady1 : Loop := .off
  retractedLimit : Loop := .off
  feederReady : Loop := .off
  atPosition : Loop := .off
  placementDone : Loop := .off
  gateClosed : Loop := .off
  meterFault : Bool := false
  meterPulses : Nat := 0
  encoderFault : Bool := false
  encoderSteps : List EncoderStep := []
  deriving DecidableEq, Repr

end Sys2Proof
end

