-- ==== Sys2Proof/Syntax.lean ====
section
/-! DEFINITION. The commands of the OB416: one constructor per row of spec/opcode_table.json, in the table's
order. A frame command carries the characters heard on the line (R171, R174), so that the delimiter, the
CRC and the form of the frame are the station's to judge. -/

namespace Sys2Proof

/-- The characters of one transmission as heard, first character first (R171). -/
abbrev Chars := List Byte

/-- The commands. -/
inductive Instr
  /-- R195: power-up, with the strap pins as they stand (R192). -/
  | powerUp (straps : Straps)
  /-- R193: the end of LOAD, with what the configuration memory delivered, or none where it did not. -/
  | loadEnd (read : Option ImageRead)
  /-- R194: the 50 ms JOIN timer of CONFIG_FAULT. -/
  | faultJoinTimerExpiry
  /-- R195: the 50 ms JOIN timer of LISTEN. -/
  | listenJoinTimerExpiry
  /-- R196: the end of LISTEN. -/
  | listenEnd
  /-- R158: the field sample timer, with the readings of every input. -/
  | fieldSampleExpiry (inputs : FieldInputs)
  /-- R143: the persistence timer of one alarm entry. -/
  | alarmPersistenceExpiry (kind : AlarmKind)
  /-- R150: the span after the latest duplicate-station notice. -/
  | duplicateStationExpiry
  /-- R30: the duty evaluation timer. -/
  | dutyEvaluationExpiry
  /-- R31: the start watch over one peer. -/
  | startWatchExpiry (peer : Nat)
  /-- R47: one step of the elapsed-time count. -/
  | residencyTick
  /-- R128: the balance evaluation timer. -/
  | balanceEvaluationExpiry
  /-- R176: the status timer. -/
  | statusTimerExpiry
  /-- R172: an instant of the idle line, with the idle count in gap units. -/
  | transmitStart (idle : Nat)
  /-- R173: the frame being sent has gone out whole. -/
  | frameSent
  /-- R173: a readback mismatch in the frame being sent. -/
  | collision
  /-- R178: the line fell idle before the frame was complete. -/
  | receptionEarlyEnd (chars : Chars)
  /-- R6. -/
  | status (chars : Chars)
  /-- R8. -/
  | join (chars : Chars)
  /-- R65. -/
  | retractGroup (chars : Chars)
  /-- R66. -/
  | extendGroup (chars : Chars)
  /-- R83. -/
  | reply (chars : Chars)
  /-- R153. -/
  | alarm (chars : Chars)
  /-- R9. -/
  | ringReport (chars : Chars)
  /-- R10: LIVE to SILENT. -/
  | peerLiveTimeout (peer : Nat)
  /-- R10: SILENT to LOST. -/
  | peerSilentTimeout (peer : Nat)
  /-- R10: JOINING to LOST. -/
  | peerJoiningTimeout (peer : Nat)
  /-- R19. -/
  | consoleSilentExpiry
  /-- R19. -/
  | consoleLostExpiry
  /-- R81. -/
  | stepTimerExpiry
  /-- R79. -/
  | gripTimerExpiry
  /-- R85. -/
  | retractTimerExpiry
  /-- R87. -/
  | extendTimerExpiry
  /-- R83. -/
  | answerWaitExpiry
  /-- R88. -/
  | releaseTimerExpiry
  /-- R110. -/
  | blockTimerExpiry
  /-- R111. -/
  | settingTimerExpiry
  /-- R113. -/
  | flushTimerExpiry
  /-- R185: order code 1. -/
  | keepalive (chars : Chars)
  /-- R55: order code 2. -/
  | setAdvance (chars : Chars)
  /-- R60: order code 3. -/
  | startAdvance (chars : Chars)
  /-- R61: order code 4. -/
  | pause (chars : Chars)
  /-- R29: order code 5. -/
  | startCutterhead (chars : Chars)
  /-- R32: order code 6. -/
  | stopCutterhead (chars : Chars)
  /-- R38: order code 7. -/
  | setMaxLevel (chars : Chars)
  /-- R72: order code 8. -/
  | build (chars : Chars)
  /-- R92, R74: order code 9. -/
  | abortBuild (chars : Chars)
  /-- R91: order code 10. -/
  | resumeBuild (chars : Chars)
  /-- R127: order code 11. -/
  | setFacePressure (chars : Chars)
  /-- R122: order code 12. -/
  | screwStart (chars : Chars)
  /-- R122: order code 13. -/
  | screwStop (chars : Chars)
  /-- R126: order code 14. -/
  | screwMode (chars : Chars)
  /-- R124: order code 15. -/
  | gate (chars : Chars)
  /-- R112: order code 16. -/
  | groutFlush (chars : Chars)
  /-- R115: order code 17. -/
  | groutWriteOff (chars : Chars)
  /-- R145: order code 18. -/
  | ackAlarms (chars : Chars)
  /-- R151: order code 19. -/
  | clearFlags (chars : Chars)
  /-- R181: order code 20. -/
  | clearCounters (chars : Chars)
  /-- R155: order code 21. -/
  | resume (chars : Chars)
  /-- R191: order code 22. -/
  | restartStation (chars : Chars)
  /-- R190: order code 23. -/
  | setRing (chars : Chars)
  /-- R187: an order of no defined kind code, or with a wrong parameter count. -/
  | orderUndefinedKind (chars : Chars)
  deriving DecidableEq, Repr

end Sys2Proof
end

