-- ==== Sys2Proof/Machine/Records.lean ====
section
/-! DEFINITION. The named values of the chapters and the records the frames carry (R20 to R25, R96, R183),
by their named fields; the bytes are in Operands.lean. -/

namespace Sys2Proof.Machine

open Sys2Proof

/-! ## Named values -/

/-- R20, R195, R194: the drive phase, the start phases and CONFIG_FAULT. -/
inductive Phase
  | load | probe | listen | idle | advancing | paused | building | halted | configFault
  deriving DecidableEq, Repr

/-- R60, R61: why the advance is paused. -/
inductive PauseCause
  | none | automatic | ordered
  deriving DecidableEq, Repr

/-- R20, section 2.2: the cutterhead states. -/
inductive Cutterhead
  | stopped | starting | running | stopping | tripped
  deriving DecidableEq, Repr

/-- R48: the thrust group states other than FROZEN. -/
inductive GroupMotion
  | holding | advancing | retracting | retracted | extending
  deriving DecidableEq, Repr

/-- R48: the thrust group state: a motion, or FROZEN with the state it was frozen in. -/
inductive Group
  | moving (m : GroupMotion)
  | frozen (m : GroupMotion)
  deriving DecidableEq, Repr

/-- R21: the standing of a stroke value. -/
inductive Quality
  | valid | substituted | invalid
  deriving DecidableEq, Repr

/-- R65, R66: the two requests of ring building. -/
inductive RequestKind
  | retract | extend
  deriving DecidableEq, Repr

/-- R65, R66: the answers to a request. -/
inductive Answer
  | accepted | busy | refused
  deriving DecidableEq, Repr

/-- R186: the results of an order. -/
inductive OrderResult
  | accepted | done | clamped | refusedState | refusedRange | refusedBusy | notApplicable
  deriving DecidableEq, Repr

/-- R98: the grout line states. -/
inductive GroutLine
  | absent | idle | pumping | pressureHold | blocked | needsFlush | flushing
  deriving DecidableEq, Repr

/-- R121: the conveyor states. -/
inductive Conveyor
  | stopped | running | holding | fault
  deriving DecidableEq, Repr

/-- Section 4.3: the build states. -/
inductive BuildState
  | idle | buildWait | pick | travel | awaitRetract | place | awaitExtend | release | suspended
  deriving DecidableEq, Repr

/-- Section 4.3: how far the placement at the cursor has gone. -/
inductive Progress
  | new | gripped | placed | complete
  deriving DecidableEq, Repr

/-- R142: where an alarm stands. -/
inductive AlarmState
  | inactive | pendingRaise | active | pendingClear
  deriving DecidableEq, Repr

/-- R6, R3: the standing of a sector entry. -/
inductive Liveness
  | self | absent | joining | live | silent | lost | mismatched
  deriving DecidableEq, Repr

/-- R19: the standing of the console entry. -/
inductive ConsoleLiveness
  | absent | live | silent | lost
  deriving DecidableEq, Repr

/-- R172: the frame classes. -/
inductive FrameClass
  | safety | control | report
  deriving DecidableEq, Repr

/-- R48: the modes of the group valve. -/
inductive ValveMode
  | hold | advance | retract | extend
  deriving DecidableEq, Repr

/-- R76: the commands of the erector. -/
inductive ErectorCmd
  | hold
  | grip (segment : Nat)
  | travel (position : Nat)
  | place
  | release
  deriving DecidableEq, Repr

/-- R158, section 8.4: the channels of the field ports, in the order of R183's channel numbers. -/
inductive Channel
  | stroke | groupPressure | chamberPressure | groutPressure | motorTemp0 | motorTemp1 | motorTorque0
  | motorTorque1 | estopIn | driveReady0 | driveReady1 | retractedLimit | feederReady | atPosition
  | placementDone | gateClosed | groutMeter | screwEncoder | motorRef0 | motorRef1 | groupValve
  | groutPump | flushValve | screwRef | gateCmd | erectorCmd
  deriving DecidableEq, Repr

/-- R183: the number of a channel, its bit in the fitted set. -/
def Channel.number : Channel → Nat
  | .stroke => 0 | .groupPressure => 1 | .chamberPressure => 2 | .groutPressure => 3 | .motorTemp0 => 4
  | .motorTemp1 => 5 | .motorTorque0 => 6 | .motorTorque1 => 7 | .estopIn => 8 | .driveReady0 => 9
  | .driveReady1 => 10 | .retractedLimit => 11 | .feederReady => 12 | .atPosition => 13
  | .placementDone => 14 | .gateClosed => 15 | .groutMeter => 16 | .screwEncoder => 17
  | .motorRef0 => 18 | .motorRef1 => 19 | .groupValve => 20 | .groutPump => 21 | .flushValve => 22
  | .screwRef => 23 | .gateCmd => 24 | .erectorCmd => 25

/-- R13: a set drawn from the two duties. -/
structure Claims where
  erector : Bool := false
  conveyor : Bool := false
  deriving DecidableEq, Repr

/-- R186: the last order taken, as published. -/
structure Echo where
  tag : Tag
  code : Nat
  result : OrderResult
  deriving DecidableEq, Repr

/-! ## Records of the line -/

/-- R23, R177: the conveyor part; `account` holds the balance account, E_ring and X_ring of the full form. -/
structure ConveyorPart where
  conveyor : Conveyor
  manual : Bool
  balanceValid : Bool
  restarted : Bool
  screwRef : Int
  pMean : Int
  account : Option (Int × Int × Int)
  deriving DecidableEq, Repr

/-- R24: the erector part. -/
structure ErectorPart where
  state : BuildState
  placement : Nat
  ring : RingNumber
  target : Nat
  request : Option RequestKind
  requestTag : Tag
  deriving DecidableEq, Repr

/-- R25: the diagnostic part. -/
structure DiagnosticPart where
  crcErrors : Nat
  formatErrors : Nat
  collisions : Nat
  queueDrops : Nat
  elapsed : Time
  deriving DecidableEq, Repr

/-- R20 to R22: a STATUS record, its base part and the optional parts its frame carried. -/
structure StatusRecord where
  phase : Phase
  cutterhead : Cutterhead
  proposed : Nat
  applied : Nat
  changing : Bool
  throttle : Bool
  torqueSum : Int
  motorCount : Nat
  group : Group
  stroke : Int
  quality : Quality
  rate : Int
  counter : Int
  strokeEnd : Bool
  groupPressure : Int
  chamberPressure : Int
  chamberValid : Bool
  enable : Bool
  pendingKind : Option RequestKind
  pendingTag : Tag
  ring : RingNumber
  line : GroutLine
  outstanding : Int
  postedRing : Int
  deliveredRing : Int
  echo : Option Echo
  alarms : BitVec 32
  flags : FlagSet
  conveyorPart : Option ConveyorPart
  erectorPart : Option ErectorPart
  diagnostic : Option DiagnosticPart
  deriving DecidableEq, Repr

/-- R183, R195: the payload of a JOIN. -/
structure JoinRecord where
  station : Nat
  claims : Claims
  warm : Bool
  fault : Bool
  digest : Digest
  fitted : BitVec 32
  ring : RingNumber
  deriving DecidableEq, Repr

/-- R96, R97: one sector's item of the ring record. -/
structure SectorItem where
  posted : Int
  delivered : Int
  outstanding : Int
  heard : Bool
  substituted : Bool
  deriving DecidableEq, Repr

/-- R96: part 0 of the ring record. `volumes` holds E_ring, X_ring and the balance at close; `marks` holds
BALANCE_RESTARTED and SATURATED; each is none where it is absent. -/
structure RingSummary where
  buildStart : Option Time
  close : Time
  placed : Nat
  volumes : Option (Int × Int × Int)
  marks : Option (Bool × Bool)
  maxTorque : Int
  deriving DecidableEq, Repr

/-- R97: the parts of a ring record. -/
inductive RingPart
  | summary (r : RingSummary)
  | residency (counts : List Nat)
  | sectors (items : List SectorItem)
  deriving DecidableEq, Repr

/-- R183: what a frame carries, by kind. An ORDER's parameters are left as the console sent them; a heard
RING_REPORT is checked for form and carries its part no further (R9). -/
inductive Body
  | status (r : StatusRecord)
  | join (r : JoinRecord)
  | order (tag : Tag) (code : Nat) (params : List Int)
  | request (kind : RequestKind) (ring : RingNumber) (tag : Tag)
  | reply (tag : Tag) (answer : Answer)
  | alarm (kind : AlarmKind) (raised : Bool) (cls : AlarmClass)
  | ringReport (ring : RingNumber) (index count : Nat) (part : RingPart)
  deriving DecidableEq, Repr

/-- R174: the header fields a unit reads. -/
structure Header where
  source : Nat
  dest : Nat
  seq : Tag
  deriving DecidableEq, Repr

/-- R175: a frame handed to LIF: its destination (15 for all stations) and what it carries. -/
structure TxFrame where
  dest : Nat
  body : Body
  deriving DecidableEq, Repr

/-- R165: the values written to the output channels, or what their pins carry. -/
structure Outputs where
  motor0 : Int := 0
  motor1 : Int := 0
  enable0 : Bool := false
  enable1 : Bool := false
  valveMode : ValveMode := .hold
  valvePressure : Int := 0
  pump : Int := 0
  flushOpen : Bool := false
  screw : Int := 0
  gateOpen : Bool := false
  erector : ErectorCmd := .hold
  deriving DecidableEq, Repr

/-- R194: the built-in references of LOAD and CONFIG_FAULT. -/
def builtInReferences : Outputs := {}

/-- Section 5.3: one parcel of the demand queue. -/
structure Parcel where
  ring : RingNumber
  volume : Int
  posted : Time
  started : Bool
  current : Bool
  deriving DecidableEq, Repr

end Sys2Proof.Machine
end

