-- ==== Sys2Proof/Machine/State.lean ====
section
/-! DEFINITION. The state of one OB416, block by block (00_scope section 3.1), as plain data; the reasons a
step can stop; and the state right after power-up. -/

namespace Sys2Proof.Machine

open Sys2Proof

/-- The part has no fault that stops it: every trouble is an alarm, a flag, a counter or an echoed refusal,
so no constructor. -/
inductive Fault
  deriving DecidableEq, Repr

/-- Why a command has no meaning here. -/
inductive Refusal
  /-- Raised by exec for a row whose meaning is not written. Safe: the model stops. -/
  | notModelled (mnemonic : String)
  /-- Raised by a frame command whose characters spell a valid frame of another row of the table: an
  ill-formed command, no event of the part (log 6). Safe: the model stops. -/
  | otherRow
  deriving DecidableEq, Repr

/-! ## CFG: 11_configuration_and_start -/

structure CfgState where
  straps : Straps
  image : Image
  digest : Digest
  /-- Start kind WARM (R195, R197). -/
  warm : Bool
  listenTimer : Timer
  joinTimer : Timer
  joinCount : Nat
  faultTimer : Timer
  deriving DecidableEq, Repr

/-! ## PTB: 01_stations_sectors_and_the_peer_table -/

/-- Section 1.2: a sector entry. -/
structure PeerEntry where
  liveness : Liveness := .absent
  lastSeq : Option Tag := none
  lastFrame : Timer := none
  lastStatus : Timer := none
  good : Nat := 0
  claims : Claims := {}
  ringHeard : Option RingNumber := none
  record : Option StatusRecord := none
  agreement : Nat := 0
  deriving DecidableEq, Repr

/-- R19: the console entry. -/
structure ConsoleEntry where
  liveness : ConsoleLiveness := .absent
  lastOrder : Timer := none
  deriving DecidableEq, Repr

/-- R14, R16: the outcome of the duty evaluation for one duty. -/
structure DutyOutcome where
  holder : Option Nat := none
  conflict : Bool := false
  missing : Bool := false
  deriving DecidableEq, Repr

structure PtbState where
  peers : List PeerEntry
  console : ConsoleEntry
  endOfListen : Bool
  listenEnd : Time
  erector : DutyOutcome
  conveyor : DutyOutcome
  exErector : Bool
  exConveyor : Bool
  deriving DecidableEq, Repr

/-! ## ORU: 10_orders_from_the_console -/

structure OruState where
  lastTag : Option Tag
  echo : Option Echo
  deriving DecidableEq, Repr

/-! ## DSU: 02_cutterhead_drive_and_duty_levels -/

structure DsuState where
  cutterhead : Cutterhead
  nr : Int
  choice : Nat
  downCount : Nat
  upCount : Nat
  throttle : Bool
  consoleMax : Nat
  proposed : Nat
  applied : Nat
  candidate : Option Nat
  changing : Bool
  rampCap : Int
  startedAt : Time
  stoppedSince : List Timer
  overtorque : Bool
  jam : Bool
  ringMax : Int
  residency : List Nat
  timer : Timer
  deriving DecidableEq, Repr

/-! ## THU: 03_thrust_stroke_and_advance -/

/-- R53: a machine-advance set: per sector, none where it did not contribute, else its counter then. -/
abbrev MachineSet := List (Option Int)

/-- R64: the pending-request slot. -/
structure Slot where
  kind : RequestKind
  tag : Tag
  source : Nat
  deriving DecidableEq, Repr

/-- R64: the last-answer record. -/
structure LastAnswer where
  source : Nat
  kind : RequestKind
  tag : Tag
  answer : Answer
  deriving DecidableEq, Repr

structure ThuState where
  group : Group
  pRef : Int
  quality : Quality
  stroke : Int
  rate : Int
  history : List Int
  fresh : Bool
  neighbours : Option (Int × Int)
  counter : Int
  set : MachineSet
  blind : Bool
  strokeEnd : Bool
  rateTarget : Int
  bias : Int
  enable : Bool
  slot : Option Slot
  lastAnswer : Option LastAnswer
  strokeFault : Bool
  denied : Bool
  skew : Bool
  orphaned : Bool
  deriving DecidableEq, Repr

/-! ## BSQ: 04_ring_building -/

/-- Section 4.3: the outstanding request; `accepted` is its answer mark. -/
structure OutRequest where
  kind : RequestKind
  tag : Tag
  target : Nat
  ring : RingNumber
  accepted : Bool
  deriving DecidableEq, Repr

/-- R84: the outstanding retraction. A group seen HOLDING clears it when `proven` (its RETRACT_GROUP was
accepted or its answer wait ran out), or when `deadline`, the issue time of a RETRACT_GROUP replaced while
still awaited, lies an answer wait back (log 9). -/
structure Retraction where
  placement : Nat
  target : Nat
  proven : Bool
  deadline : Timer
  deriving DecidableEq, Repr

structure BsqState where
  state : BuildState
  cursor : Nat
  cursorRing : RingNumber
  progress : Progress
  request : Option OutRequest
  issued : Bool
  retraction : Option Retraction
  nextTag : Tag
  buildStart : Option Time
  placed : Nat
  substituted : List Bool
  stepTimer : Timer
  gripTimer : Timer
  retractTimer : Timer
  extendTimer : Timer
  releaseTimer : Timer
  answerWait : Timer
  timedOut : Bool
  unanswered : Bool
  holderSeen : Bool
  deriving DecidableEq, Repr

/-! ## GRU: 05_grout_injection -/

structure GruState where
  active : Bool
  line : GroutLine
  queue : List Parcel
  remG : Int
  posted : Int
  delivered : Int
  writtenOff : Int
  overrun : Int
  flushed : Int
  postedRing : Int
  deliveredRing : Int
  lag : Bool
  settingTimer : Timer
  blockTimer : Timer
  flushTimer : Timer
  flushRun : Nat
  flushStop : Bool
  deriving DecidableEq, Repr

/-! ## BAL: 06_face_balance_and_muck_removal -/

structure BalState where
  active : Bool
  timer : Timer
  conveyor : Conveyor
  manual : Bool
  manualRef : Int
  gateOpen : Bool
  stopHold : Bool
  nCmd : Int
  acc : Int
  set : MachineSet
  blind : Bool
  account : Int
  remE : Int
  remX : Int
  eRing : Int
  xRing : Int
  restarted : Bool
  pTarget : Int
  band : Int
  pMean : Int
  nP : Int
  overCount : Nat
  recoverCount : Nat
  overdrawn : Bool
  owed : Bool
  pLow : Bool
  pHigh : Bool
  pressureBlind : Bool
  deriving DecidableEq, Repr

/-! ## ALU: 07_alarms_holds_and_emergency_stop -/

/-- R142: an entry of the alarm table. -/
structure AlarmEntry where
  state : AlarmState := .inactive
  cond : Bool := false
  timer : Timer := none
  latch : Bool := false
  deriving DecidableEq, Repr

structure AluState where
  active : Bool
  entries : List AlarmEntry
  flags : FlagSet
  estop : Bool
  duplicate : Timer
  deriving DecidableEq, Repr

/-! ## FPT: 08_field_ports -/

/-- R160: an input channel; `served` is 1 or 0 for a discrete channel. -/
structure InputState where
  valid : Bool := false
  bad : Nat := 0
  good : Nat := 0
  served : Int := 0
  deriving DecidableEq, Repr

/-- R162: ESTOP_IN: asserted or not, still in its start state, and the run of ON samples. -/
structure EstopInput where
  asserted : Bool
  start : Bool
  run : Nat
  deriving DecidableEq, Repr

/-- R167 to R169: the trial in hand (1 to 17, 0 for none), its samples, its run of good samples, the
starting pressure of the grout line trial and whether the forcing held at one of its samples. -/
structure ProbeState where
  trial : Nat
  samples : Nat
  run : Nat
  startPressure : Option Int
  forcingSeen : Bool
  deriving DecidableEq, Repr

structure FptState where
  timer : Timer
  fitted : List Bool
  inputs : List InputState
  estopIn : EstopInput
  probe : ProbeState
  written : Outputs
  wires : Outputs
  forced : Bool
  deriving DecidableEq, Repr

/-! ## LIF: 09_the_shield_line -/

/-- R172: the line slot. `leaves` marks a frame that goes with its attempt in hand (R182). -/
structure LineSlot where
  frame : TxFrame
  seq : Tag
  chars : Chars
  collisions : Nat
  sending : Bool
  leaves : Bool
  deriving DecidableEq, Repr

/-- LIF's registers. `abandoned`: the station is in the rest of a transmission during which it abandoned its frame,
which it does not receive (R173, log 39). -/
structure LifState where
  queue : List TxFrame
  slot : Option LineSlot
  seq : Tag
  idle : Nat
  crcErrors : Nat
  formatErrors : Nat
  collisions : Nat
  queueDrops : Nat
  diagCount : Nat
  timer : Timer
  lineFault : Bool
  abandoned : Bool
  deriving DecidableEq, Repr

/-! ## The station -/

/-- One OB416. `pending` is the model's own queue of waiting commands, first in first out. -/
structure State where
  pending : List Instr
  elapsed : Time
  phase : Phase
  pauseCause : PauseCause
  ring : RingNumber
  cfg : CfgState
  ptb : PtbState
  oru : OruState
  dsu : DsuState
  thu : ThuState
  bsq : BsqState
  gru : GruState
  bal : BalState
  alu : AluState
  fpt : FptState
  lif : LifState
  deriving DecidableEq, Repr

/-- R192: the station number of the straps, STN0 least significant. -/
def Straps.station (p : Straps) : Nat :=
  p.stn0.toNat + 2 * p.stn1.toNat + 4 * p.stn2.toNat

namespace State

/-- R192: the own station number. -/
def own (s : State) : Nat :=
  Straps.station s.cfg.straps

/-! Updates of one block each. -/

def onCfg (s : State) (f : CfgState → CfgState) : State := { s with cfg := f s.cfg }
def onPtb (s : State) (f : PtbState → PtbState) : State := { s with ptb := f s.ptb }
def onOru (s : State) (f : OruState → OruState) : State := { s with oru := f s.oru }
def onDsu (s : State) (f : DsuState → DsuState) : State := { s with dsu := f s.dsu }
def onThu (s : State) (f : ThuState → ThuState) : State := { s with thu := f s.thu }
def onBsq (s : State) (f : BsqState → BsqState) : State := { s with bsq := f s.bsq }
def onGru (s : State) (f : GruState → GruState) : State := { s with gru := f s.gru }
def onBal (s : State) (f : BalState → BalState) : State := { s with bal := f s.bal }
def onAlu (s : State) (f : AluState → AluState) : State := { s with alu := f s.alu }
def onFpt (s : State) (f : FptState → FptState) : State := { s with fpt := f s.fpt }
def onLif (s : State) (f : LifState → LifState) : State := { s with lif := f s.lif }
def setPhase (s : State) (p : Phase) : State := { s with phase := p }
def setPauseCause (s : State) (c : PauseCause) : State := { s with pauseCause := c }
def setRing (s : State) (r : RingNumber) : State := { s with ring := r }
def setElapsed (s : State) (t : Time) : State := { s with elapsed := t }
def setPending (s : State) (q : List Instr) : State := { s with pending := q }

end State

/-! ## Cold-start state of each block (the table that closes its chapter) -/

/-- R4: the entries after a cold start: the own number's is SELF, every other ABSENT. -/
def freshPeers (own : Nat) : List PeerEntry :=
  putAt (List.replicate 8 {}) own { liveness := .self }

def PtbState.cold (own : Nat) : PtbState :=
  { peers := freshPeers own, console := {}, endOfListen := false, listenEnd := 0
    erector := {}, conveyor := {}, exErector := false, exConveyor := false }

def OruState.cold : OruState := { lastTag := none, echo := none }

/-- Section 2.10. The conditions of R45 start false (DESIGN CHOICE, log 18). -/
def DsuState.cold : DsuState :=
  { cutterhead := .stopped, nr := 0, choice := 0, downCount := 0, upCount := 0, throttle := false
    consoleMax := 7, proposed := 0, applied := 0, candidate := none, changing := false, rampCap := 0
    startedAt := 0, stoppedSince := List.replicate 8 none, overtorque := false, jam := false
    ringMax := 0, residency := List.replicate 8 0, timer := none }

/-- Section 3.7's table. The stroke, its rate and quality before the first sample are DESIGN CHOICES (log 18). -/
def ThuState.cold (pHold : Int) : ThuState :=
  { group := .moving .holding, pRef := pHold, quality := .invalid, stroke := 0, rate := 0, history := []
    fresh := true, neighbours := none, counter := 0, set := List.replicate 8 none, blind := true
    strokeEnd := false, rateTarget := 0, bias := 0, enable := false, slot := none, lastAnswer := none
    strokeFault := false, denied := false, skew := false, orphaned := false }

/-- R75. Before the end of LISTEN the rules give the cursor ring no value: it starts at 0 (DESIGN CHOICE,
log 37). -/
def BsqState.cold : BsqState :=
  { state := .idle, cursor := 0, cursorRing := 0, progress := .new, request := none, issued := false
    retraction := none, nextTag := 0, buildStart := none, placed := 0
    substituted := List.replicate 8 false, stepTimer := none, gripTimer := none, retractTimer := none
    extendTimer := none, releaseTimer := none, answerWait := none, timedOut := false
    unanswered := false, holderSeen := false }

/-- R99 before GRU becomes active; the line state while inactive is a DESIGN CHOICE (log 18). -/
def GruState.cold : GruState :=
  { active := false, line := .idle, queue := [], remG := 0, posted := 0, delivered := 0, writtenOff := 0
    overrun := 0, flushed := 0, postedRing := 0, deliveredRing := 0, lag := false, settingTimer := none
    blockTimer := none, flushTimer := none, flushRun := 0, flushStop := false }

/-- Section 6.9's table. While BAL is not yet active its conveyor stands at STOPPED, whatever the encoder, and
R120 sets it when BAL becomes active (DEDUCED, log 27). -/
def BalState.cold (pTarget band : Int) : BalState :=
  { active := false, timer := none, conveyor := .stopped, manual := false, manualRef := 0
    gateOpen := false, stopHold := false, nCmd := 0, acc := 0, set := List.replicate 8 none, blind := true
    account := 0, remE := 0, remX := 0, eRing := 0, xRing := 0, restarted := false, pTarget := pTarget
    band := band, pMean := 0, nP := 0, overCount := 0, recoverCount := 0, overdrawn := false, owed := false
    pLow := false, pHigh := false, pressureBlind := false }

/-- R142: the entries in their reset state. -/
def freshEntries : List AlarmEntry := List.replicate 30 {}

/-- Section 7.7's table, before ALU becomes active. -/
def AluState.cold : AluState :=
  { active := false, entries := freshEntries, flags := {}, estop := false, duplicate := none }

/-- Section 8.5's table, before the probe. -/
def FptState.cold : FptState :=
  { timer := none, fitted := List.replicate 26 false, inputs := List.replicate 18 {}
    estopIn := { asserted := true, start := true, run := 0 }
    probe := { trial := 0, samples := 0, run := 0, startPressure := none, forcingSeen := false }
    written := builtInReferences, wires := builtInReferences, forced := false }

/-- R181, R182. -/
def LifState.cold : LifState :=
  { queue := [], slot := none, seq := 0, idle := 0, crcErrors := 0, formatErrors := 0, collisions := 0
    queueDrops := 0, diagCount := 0, timer := none, lineFault := false
    abandoned := false }

/-- R195: the station at power-up, LOAD begun, the straps read (R192), the image not yet. -/
def coldStart (straps : Straps) (pending : List Instr) : State :=
  { pending := pending, elapsed := 0, phase := .load, pauseCause := .none, ring := 0
    cfg :=
      { straps := straps, image := Image.blank, digest := 0, warm := false, listenTimer := none
        joinTimer := none, joinCount := 0, faultTimer := none }
    ptb := PtbState.cold (Straps.station straps), oru := OruState.cold, dsu := DsuState.cold
    thu := ThuState.cold 0, bsq := BsqState.cold, gru := GruState.cold, bal := BalState.cold 0 0
    alu := AluState.cold, fpt := FptState.cold, lif := LifState.cold }

/-- The station right after power-up with every strap open and no command waiting (log 2). -/
def State.reset : State :=
  coldStart {} []

end Sys2Proof.Machine
end

