-- ==== Sys2Proof/Machine/Flags.lean ====
section
/-! DEFINITION. The sticky flags (R151), the line counters (R181) and the escalation of the flags (R152). -/

namespace Sys2Proof.Machine

open Sys2Proof

/-- R151: a flag set in a set. -/
def flagUp (f : Flag) (fs : FlagSet) : FlagSet :=
  match f with
  | .saturated => { fs with saturated := true }
  | .clamped => { fs with clamped := true }
  | .fifoMergedFull => { fs with fifoMergedFull := true }
  | .counterWrap => { fs with counterWrap := true }
  | .ringResync => { fs with ringResync := true }

/-- R151: an owner sets a sticky flag; setting a set flag changes nothing. -/
def setFlag (f : Flag) (s : State) : State :=
  s.onAlu fun a => { a with flags := flagUp f a.flags }

/-- R2: the flag a rule names, set when its clamp or wrap has changed the result. -/
def setFlagIf (b : Bool) (f : Flag) (s : State) : State :=
  if b then setFlag f s else s

/-- R151: CLEAR_FLAGS clears all five. -/
def clearAllFlags (s : State) : State :=
  s.onAlu fun a => { a with flags := {} }

/-- R152: at least one flag of the escalation set is set. -/
def escalated (escalation flags : FlagSet) : Bool :=
  (escalation.saturated && flags.saturated) || (escalation.clamped && flags.clamped) ||
    (escalation.fifoMergedFull && flags.fifoMergedFull) ||
    (escalation.counterWrap && flags.counterWrap) || (escalation.ringResync && flags.ringResync)

/-- R181: a line counter after one more event: 65,535 is followed by 0. -/
def counterNext (n : Nat) : Nat :=
  if n < 65535 then n + 1 else 0

/-- R181: the rise that takes a counter from 65,535 to 0. -/
def counterWraps (n : Nat) : Bool :=
  decide (65535 ≤ n)

/-- R178: CRC_ERRORS rises by one. -/
def countCrcError (s : State) : State :=
  setFlagIf (counterWraps s.lif.crcErrors) .counterWrap
    (s.onLif fun l => { l with crcErrors := counterNext l.crcErrors })

/-- R179: FORMAT_ERRORS rises by one. -/
def countFormatError (s : State) : State :=
  setFlagIf (counterWraps s.lif.formatErrors) .counterWrap
    (s.onLif fun l => { l with formatErrors := counterNext l.formatErrors })

/-- R173: COLLISIONS rises by one. -/
def countCollision (s : State) : State :=
  setFlagIf (counterWraps s.lif.collisions) .counterWrap
    (s.onLif fun l => { l with collisions := counterNext l.collisions })

/-- R175: QUEUE_DROPS rises by one. -/
def countQueueDrop (s : State) : State :=
  setFlagIf (counterWraps s.lif.queueDrops) .counterWrap
    (s.onLif fun l => { l with queueDrops := counterNext l.queueDrops })

end Sys2Proof.Machine
end

