-- ==== Sys2Proof/Machine/Bits.lean ====
section
/-! DEFINITION. Byte order, bit fields, two's complement and the two CRCs (R174, R183, R193). -/

namespace Sys2Proof.Machine

open Sys2Proof

/-! ## Bytes -/

/-- The low eight bits of a number. -/
def byteOf (n : Nat) : Byte :=
  BitVec.ofNat 8 n

/-- R183: two bytes, most significant first. -/
def bytes2 (n : Nat) : List Byte :=
  [byteOf (n / 256), byteOf n]

/-- R183: three bytes, most significant first. -/
def bytes3 (n : Nat) : List Byte :=
  [byteOf (n / 65536), byteOf (n / 256), byteOf n]

/-- R183: four bytes, most significant first. -/
def bytes4 (n : Nat) : List Byte :=
  [byteOf (n / 16777216), byteOf (n / 65536), byteOf (n / 256), byteOf n]

/-- R183: six bytes, most significant first. -/
def bytes6 (n : Nat) : List Byte :=
  [byteOf (n / 1099511627776), byteOf (n / 4294967296)] ++ bytes4 n

/-- The byte at a place, 0 beyond the end. -/
def byteAt (l : List Byte) (k : Nat) : Nat :=
  (l.getD k 0).toNat

/-- R183: the number in two bytes. -/
def read2 (l : List Byte) (k : Nat) : Nat :=
  byteAt l k * 256 + byteAt l (k + 1)

/-- R183: the number in three bytes. -/
def read3 (l : List Byte) (k : Nat) : Nat :=
  byteAt l k * 65536 + read2 l (k + 1)

/-- R183: the number in four bytes. -/
def read4 (l : List Byte) (k : Nat) : Nat :=
  read2 l k * 65536 + read2 l (k + 2)

/-- R183: the number in six bytes. -/
def read6 (l : List Byte) (k : Nat) : Nat :=
  read2 l k * 4294967296 + read4 l (k + 2)

/-- R183: bits `lo` to `lo + width - 1` of a number, bit 0 least significant. -/
def bits (n lo width : Nat) : Nat :=
  n / 2 ^ lo % 2 ^ width

/-- One bit of a number. -/
def bit (n k : Nat) : Bool :=
  bits n k 1 == 1

/-- R183: the two's complement code of a signed number in `width` bits. -/
def twos (width : Nat) (v : Int) : Nat :=
  (v % (2 ^ width : Int)).toNat

/-- R183: the signed number of a two's complement code. -/
def signed (width n : Nat) : Int :=
  if n < 2 ^ (width - 1) then (n : Int) else (n : Int) - 2 ^ width

/-! ## The CRC of a frame (R174) -/

/-- R174: one bit through the register of the generator x^16+x^12+x^5+1. -/
def crc16Shift (r : BitVec 16) : BitVec 16 :=
  if r.msb then (r <<< 1) ^^^ 0x1021#16 else r <<< 1

/-- Eight or fewer bits through the register. -/
def crc16Shifts : Nat → BitVec 16 → BitVec 16
  | 0, r => r
  | n + 1, r => crc16Shifts n (crc16Shift r)

/-- R174: one byte through the register, most significant bit first. -/
def crc16Byte (r : BitVec 16) (b : Byte) : BitVec 16 :=
  crc16Shifts 8 (r ^^^ (b.setWidth 16 <<< 8))

/-- R174: the register starts at all ones; nothing is added to the result. -/
def crc16 (l : List Byte) : BitVec 16 :=
  l.foldl crc16Byte 0xFFFF#16

/-! ## The CRC of the image (R193) -/

/-- R193: one bit through the register, least significant first (the generator's bits reversed). -/
def crc32Shift (r : BitVec 32) : BitVec 32 :=
  if r.getLsbD 0 then (r >>> 1) ^^^ 0xEDB88320#32 else r >>> 1

/-- Eight or fewer bits through the register. -/
def crc32Shifts : Nat → BitVec 32 → BitVec 32
  | 0, r => r
  | n + 1, r => crc32Shifts n (crc32Shift r)

/-- R193: one byte through the register, least significant bit first. -/
def crc32Byte (r : BitVec 32) (b : Byte) : BitVec 32 :=
  crc32Shifts 8 (r ^^^ b.setWidth 32)

/-- R193: the register starts at all ones and is inverted at the end. -/
def crc32 (l : List Byte) : BitVec 32 :=
  ~~~(l.foldl crc32Byte 0xFFFFFFFF#32)

end Sys2Proof.Machine
end

