-- ==== Sys2Proof/Machine/Operands.lean ====
section
/-! DEFINITION. The operand of a frame command: the frame in its characters. Every layout of R183, written
(what the station sends) and read with the checks of R178 and R179 (what it hears). -/

namespace Sys2Proof.Machine

open Sys2Proof

/-! ## Codes of R183 -/

def Phase.code : Phase → Nat
  | .idle => 0 | .advancing => 1 | .paused => 2 | .building => 3 | .halted => 4
  | .load => 0 | .probe => 0 | .listen => 0 | .configFault => 0

def phaseOfCode : Nat → Option Phase
  | 0 => some .idle | 1 => some .advancing | 2 => some .paused | 3 => some .building
  | 4 => some .halted | _ => none

def Cutterhead.code : Cutterhead → Nat
  | .stopped => 0 | .starting => 1 | .running => 2 | .stopping => 3 | .tripped => 4

def cutterheadOfCode : Nat → Option Cutterhead
  | 0 => some .stopped | 1 => some .starting | 2 => some .running | 3 => some .stopping
  | 4 => some .tripped | _ => none

def GroupMotion.code : GroupMotion → Nat
  | .holding => 0 | .advancing => 1 | .retracting => 2 | .retracted => 3 | .extending => 4

def motionOfCode : Nat → Option GroupMotion
  | 0 => some .holding | 1 => some .advancing | 2 => some .retracting | 3 => some .retracted
  | 4 => some .extending | _ => none

/-- R183: thrust group state and, in the three bits above, the state frozen in. -/
def Group.code : Group → Nat
  | .moving m => m.code
  | .frozen m => 5 + 8 * m.code

/-- R183: the state frozen in is coded like the state and is 0 when not FROZEN (log 16). -/
def groupOfCode (n : Nat) : Option Group :=
  if bits n 0 3 = 5 then (motionOfCode (bits n 3 3)).map .frozen
  else if bits n 3 3 = 0 then (motionOfCode (bits n 0 3)).map .moving
  else none

def Quality.code : Quality → Nat
  | .valid => 0 | .substituted => 1 | .invalid => 2

def qualityOfCode : Nat → Option Quality
  | 0 => some .valid | 1 => some .substituted | 2 => some .invalid | _ => none

def RequestKind.code : RequestKind → Nat
  | .retract => 1 | .extend => 2

def requestKindOfCode : Nat → Option RequestKind
  | 1 => some .retract | 2 => some .extend | _ => none

/-- R183: a pending or outstanding request kind, 0 for none. -/
def pendingCode : Option RequestKind → Nat
  | none => 0
  | some k => k.code

def pendingOfCode : Nat → Option (Option RequestKind)
  | 0 => some none | 1 => some (some .retract) | 2 => some (some .extend) | _ => none

def GroutLine.code : GroutLine → Nat
  | .absent => 0 | .idle => 1 | .pumping => 2 | .pressureHold => 3 | .blocked => 4
  | .needsFlush => 5 | .flushing => 6

def lineOfCode : Nat → Option GroutLine
  | 0 => some .absent | 1 => some .idle | 2 => some .pumping | 3 => some .pressureHold
  | 4 => some .blocked | 5 => some .needsFlush | 6 => some .flushing | _ => none

def OrderResult.code : OrderResult → Nat
  | .accepted => 0 | .done => 1 | .clamped => 2 | .refusedState => 3 | .refusedRange => 4
  | .refusedBusy => 5 | .notApplicable => 6

def resultOfCode : Nat → Option OrderResult
  | 0 => some .accepted | 1 => some .done | 2 => some .clamped | 3 => some .refusedState
  | 4 => some .refusedRange | 5 => some .refusedBusy | 6 => some .notApplicable | _ => none

def Conveyor.code : Conveyor → Nat
  | .stopped => 0 | .running => 1 | .holding => 2 | .fault => 3

def conveyorOfCode : Nat → Option Conveyor
  | 0 => some .stopped | 1 => some .running | 2 => some .holding | 3 => some .fault | _ => none

def BuildState.code : BuildState → Nat
  | .idle => 0 | .buildWait => 1 | .pick => 2 | .travel => 3 | .awaitRetract => 4 | .place => 5
  | .awaitExtend => 6 | .release => 7 | .suspended => 8

def buildStateOfCode : Nat → Option BuildState
  | 0 => some .idle | 1 => some .buildWait | 2 => some .pick | 3 => some .travel
  | 4 => some .awaitRetract | 5 => some .place | 6 => some .awaitExtend | 7 => some .release
  | 8 => some .suspended | _ => none

def Answer.code : Answer → Nat
  | .accepted => 0 | .busy => 1 | .refused => 2

def answerOfCode : Nat → Option Answer
  | 0 => some .accepted | 1 => some .busy | 2 => some .refused | _ => none

def classCodeOfAlarm : AlarmClass → Nat
  | .warning => 0 | .hold => 1 | .stop => 2

def alarmClassOfCode : Nat → Option AlarmClass
  | 0 => some .warning | 1 => some .hold | 2 => some .stop | _ => none

/-- R183: the alarm kind of a number. -/
def alarmKindOfCode (n : Nat) : Option AlarmKind :=
  AlarmKind.all[n]?

/-- R183: the five sticky flags, SATURATED lowest. -/
def flagsCode (f : FlagSet) : Nat :=
  f.saturated.toNat + 2 * f.clamped.toNat + 4 * f.fifoMergedFull.toNat + 8 * f.counterWrap.toNat +
    16 * f.ringResync.toNat

def flagsOfCode (n : Nat) : FlagSet :=
  { saturated := bit n 0, clamped := bit n 1, fifoMergedFull := bit n 2, counterWrap := bit n 3
    ringResync := bit n 4 }

/-! ## Payloads as sent -/

/-- R183: the echo bytes 31 and 32; none is tag 0, kind code 0, result 0 (R186). -/
def echoBytes : Option Echo → List Byte
  | none => [0, 0]
  | some e => [e.tag, byteOf (e.code % 32 + 32 * e.result.code)]

/-- R183: the conveyor part, 4 bytes in short form and 16 in full form (R177). -/
def conveyorBytes (c : ConveyorPart) : List Byte :=
  bytes4 (c.conveyor.code + 4 * c.manual.toNat + 8 * c.balanceValid.toNat + 16 * c.restarted.toNat +
      32 * c.screwRef.toNat + 131072 * c.pMean.toNat) ++
    match c.account with
    | none => []
    | some (bal, e, x) => bytes4 (twos 32 bal) ++ bytes4 (twos 32 e) ++ bytes4 (twos 32 x)

/-- R183: the erector part. -/
def erectorBytes (e : ErectorPart) : List Byte :=
  [byteOf (e.state.code + 16 * e.placement)] ++ bytes2 e.ring.toNat ++
    [byteOf (e.target + 8 * pendingCode e.request), e.requestTag]

/-- R183: the diagnostic part. -/
def diagnosticBytes (d : DiagnosticPart) : List Byte :=
  bytes2 d.crcErrors ++ bytes2 d.formatErrors ++ bytes2 d.collisions ++ bytes2 d.queueDrops ++
    bytes4 d.elapsed.toNat

/-- R183: the STATUS base part, 38 bytes. -/
def baseBytes (r : StatusRecord) : List Byte :=
  [byteOf (r.conveyorPart.isSome.toNat + 2 * r.erectorPart.isSome.toNat +
      4 * r.diagnostic.isSome.toNat + 8 * pendingCode r.pendingKind + 32 * r.quality.code +
      128 * r.strokeEnd.toNat),
   byteOf (r.phase.code + 8 * r.cutterhead.code + 64 * r.motorCount),
   byteOf (r.group.code + 64 * r.enable.toNat + 128 * r.chamberValid.toNat),
   byteOf (r.line.code + 8 * r.proposed + 64 * r.changing.toNat + 128 * r.throttle.toNat),
   byteOf (r.applied + 8 * flagsCode r.flags)] ++
  bytes2 r.torqueSum.toNat ++
  bytes6 (r.stroke.toNat + 262144 * r.counter.toNat + 68719476736 * twos 11 r.rate) ++
  bytes2 r.groupPressure.toNat ++ bytes2 r.chamberPressure.toNat ++ bytes2 r.ring.toNat ++
  bytes4 r.outstanding.toNat ++ bytes4 r.postedRing.toNat ++ bytes4 r.deliveredRing.toNat ++
  echoBytes r.echo ++ [r.pendingTag] ++ bytes4 r.alarms.toNat

/-- R183: a STATUS payload: the base part, then the conveyor, erector and diagnostic parts present. -/
def statusBytes (r : StatusRecord) : List Byte :=
  baseBytes r ++ (r.conveyorPart.map conveyorBytes).getD [] ++
    (r.erectorPart.map erectorBytes).getD [] ++ (r.diagnostic.map diagnosticBytes).getD []

/-- R183: a JOIN payload. -/
def joinBytes (r : JoinRecord) : List Byte :=
  [byteOf (r.station + 16 * r.claims.erector.toNat + 32 * r.claims.conveyor.toNat +
      64 * r.warm.toNat + 128 * r.fault.toNat)] ++
    bytes4 r.digest.toNat ++ bytes4 r.fitted.toNat ++ bytes2 r.ring.toNat

/-- R183: an ORDER payload. -/
def orderBytes (tag : Tag) (code : Nat) (params : List Int) : List Byte :=
  [tag, byteOf (code % 32)] ++ params.flatMap fun p => bytes4 (twos 32 p)

/-- R183: a sector item of a RING_REPORT. -/
def itemBytes (i : SectorItem) : List Byte :=
  bytes4 i.posted.toNat ++ bytes4 i.delivered.toNat ++ bytes4 i.outstanding.toNat ++
    [byteOf (i.heard.toNat + 2 * i.substituted.toNat)]

/-- R183: part 0 of a RING_REPORT from byte 3 on; an absent field is sent as zero. -/
def summaryBytes (r : RingSummary) : List Byte :=
  bytes4 (r.buildStart.getD 0).toNat ++
    [byteOf (r.buildStart.isSome.toNat + 2 * r.volumes.isSome.toNat +
      4 * (r.marks.getD (false, false)).1.toNat + 8 * (r.marks.getD (false, false)).2.toNat +
      16 * r.marks.isSome.toNat)] ++
    bytes4 r.close.toNat ++ [byteOf r.placed] ++
    bytes4 (twos 32 (r.volumes.getD (0, 0, 0)).1) ++ bytes4 (twos 32 (r.volumes.getD (0, 0, 0)).2.1) ++
    bytes4 (twos 32 (r.volumes.getD (0, 0, 0)).2.2) ++ bytes3 r.maxTorque.toNat

def ringPartBytes : RingPart → List Byte
  | .summary r => summaryBytes r
  | .residency counts => counts.flatMap bytes4
  | .sectors items => items.flatMap itemBytes

/-- R183: the kind code of a frame. -/
def Body.kindCode : Body → Nat
  | .status _ => 1 | .join _ => 2 | .order _ _ _ => 3 | .request _ _ _ => 4 | .reply _ _ => 5
  | .alarm _ _ _ => 6 | .ringReport _ _ _ _ => 7

/-- R175: the frame class of a kind; an ORDER's is CONTROL (section 9.7, log 15). -/
def Body.frameClass : Body → FrameClass
  | .alarm _ _ _ => .safety
  | .status _ => .control | .order _ _ _ => .control | .request _ _ _ => .control
  | .reply _ _ => .control
  | .join _ => .report | .ringReport _ _ _ _ => .report

/-- R183: the frame class codes. -/
def FrameClass.code : FrameClass → Nat
  | .safety => 1 | .control => 2 | .report => 3

/-- R183: the frame class code a kind code must come with. -/
def classCodeOfKind : Nat → Nat
  | 6 => 1 | 2 => 3 | 7 => 3 | _ => 2

/-- R183: the payload of a frame. -/
def Body.payload : Body → List Byte
  | .status r => statusBytes r
  | .join r => joinBytes r
  | .order tag code params => orderBytes tag code params
  | .request kind ring tag => [byteOf kind.code] ++ bytes2 ring.toNat ++ [0, tag]
  | .reply tag answer => [tag, byteOf answer.code]
  | .alarm kind raised cls => [byteOf kind.number, byteOf (raised.toNat + 2 * classCodeOfAlarm cls)]
  | .ringReport ring index count part =>
    bytes2 ring.toNat ++ [byteOf (index + 16 * count)] ++ ringPartBytes part

/-- R174: header after the start delimiter, and payload. -/
def frameContent (source : Nat) (seq : Tag) (f : TxFrame) : List Byte :=
  [byteOf (source + 16 * f.dest), byteOf (f.body.kindCode + 16 * f.body.frameClass.code), seq,
   byteOf f.body.payload.length] ++ f.body.payload

/-- R174: a whole frame: start delimiter, header and payload, CRC with its high byte first. -/
def frameChars (source : Nat) (seq : Tag) (f : TxFrame) : Chars :=
  [0xA7] ++ frameContent source seq f ++ bytes2 (crc16 (frameContent source seq f)).toNat

/-! ## Payloads as heard -/

/-- The offsets of the optional parts, from the flags of byte 0. -/
def conveyorLength (p : List Byte) : Nat :=
  if bit (byteAt p 0) 0 then (if bit (byteAt p 0) 2 then 4 else 16) else 0

def erectorLength (p : List Byte) : Nat :=
  if bit (byteAt p 0) 1 then 5 else 0

def diagnosticLength (p : List Byte) : Nat :=
  if bit (byteAt p 0) 2 then 12 else 0

/-- The conveyor part, check 7 of R179 with it. The screw reference may be 0 to 3,000, the range R1 gives screw
speed, and not R23's 0 to N_max of the own image (DEDUCED, log 16). -/
def readConveyor (full : Bool) (q : List Byte) : Option ConveyorPart :=
  match conveyorOfCode (bits (read4 q 0) 0 2) with
  | none => none
  | some conveyor =>
    if bits (read4 q 0) 5 12 ≤ 3000 ∧ bits (read4 q 0) 17 13 ≤ 8000 ∧
        (full = true → -2147483647 ≤ signed 32 (read4 q 4) ∧ -2147483647 ≤ signed 32 (read4 q 8) ∧
          -2147483647 ≤ signed 32 (read4 q 12)) then
      some
        { conveyor := conveyor, manual := bit (read4 q 0) 2, balanceValid := bit (read4 q 0) 3
          restarted := bit (read4 q 0) 4, screwRef := bits (read4 q 0) 5 12
          pMean := bits (read4 q 0) 17 13
          account :=
            if full then some (signed 32 (read4 q 4), signed 32 (read4 q 8), signed 32 (read4 q 12))
            else none }
    else none

def readErector (q : List Byte) : Option ErectorPart :=
  match buildStateOfCode (bits (byteAt q 0) 0 4), pendingOfCode (bits (byteAt q 3) 3 2) with
  | some state, some request =>
    if bits (byteAt q 0) 4 4 ≤ 9 then
      some
        { state := state, placement := bits (byteAt q 0) 4 4, ring := BitVec.ofNat 16 (read2 q 1)
          target := bits (byteAt q 3) 0 3, request := request, requestTag := byteOf (byteAt q 4) }
    else none
  | _, _ => none

def readDiagnostic (q : List Byte) : DiagnosticPart :=
  { crcErrors := read2 q 0, formatErrors := read2 q 2, collisions := read2 q 4
    queueDrops := read2 q 6, elapsed := BitVec.ofNat 32 (read4 q 8) }

/-- R186: the echo of bytes 31 and 32: code 0 is none. The codes 24 to 31 are read, since an order of undefined
kind is echoed with its code (DEDUCED, log 16). -/
def readEcho (p : List Byte) : Option (Option Echo) :=
  if bits (byteAt p 32) 0 5 = 0 then
    (if bits (byteAt p 32) 5 3 ≤ 6 then some none else none)
  else
    (resultOfCode (bits (byteAt p 32) 5 3)).map fun result =>
      some { tag := byteOf (byteAt p 31), code := bits (byteAt p 32) 0 5, result := result }

/-- R179 check 7 on the numeric fields of a base part: the ranges of R20 to R22. -/
def baseInRange (p : List Byte) : Bool :=
  decide (bits (byteAt p 1) 6 2 ≤ 2) && decide (read2 p 5 ≤ 12000) &&
    decide (bits (read6 p 7) 0 18 ≤ 250000) && decide (bits (read6 p 7) 18 18 ≤ 250000) &&
    decide (-1000 ≤ signed 11 (bits (read6 p 7) 36 11)) &&
    decide (signed 11 (bits (read6 p 7) 36 11) ≤ 1000) &&
    decide (read2 p 13 ≤ 4000) && decide (read2 p 15 ≤ 8000) &&
    decide (read4 p 19 ≤ 2147483647) && decide (read4 p 23 ≤ 2147483647) &&
    decide (read4 p 27 ≤ 2147483647)

/-- The base part, its coded fields checked; the optional parts are put in by `readStatus`. -/
def readBase (p : List Byte) : Option StatusRecord := do
  let phase ← phaseOfCode (bits (byteAt p 1) 0 3)
  let cutterhead ← cutterheadOfCode (bits (byteAt p 1) 3 3)
  let group ← groupOfCode (bits (byteAt p 2) 0 6)
  let quality ← qualityOfCode (bits (byteAt p 0) 5 2)
  let pendingKind ← pendingOfCode (bits (byteAt p 0) 3 2)
  let line ← lineOfCode (bits (byteAt p 3) 0 3)
  let echo ← readEcho p
  if baseInRange p then
    some
      { phase := phase, cutterhead := cutterhead, proposed := bits (byteAt p 3) 3 3
        applied := bits (byteAt p 4) 0 3, changing := bit (byteAt p 3) 6
        throttle := bit (byteAt p 3) 7, torqueSum := read2 p 5, motorCount := bits (byteAt p 1) 6 2
        group := group, stroke := bits (read6 p 7) 0 18, quality := quality
        rate := signed 11 (bits (read6 p 7) 36 11), counter := bits (read6 p 7) 18 18
        strokeEnd := bit (byteAt p 0) 7, groupPressure := read2 p 13, chamberPressure := read2 p 15
        chamberValid := bit (byteAt p 2) 7, enable := bit (byteAt p 2) 6, pendingKind := pendingKind
        pendingTag := byteOf (byteAt p 33), ring := BitVec.ofNat 16 (read2 p 17), line := line
        outstanding := read4 p 19, postedRing := read4 p 23, deliveredRing := read4 p 27, echo := echo
        alarms := BitVec.ofNat 32 (read4 p 34), flags := flagsOfCode (bits (byteAt p 4) 3 5)
        conveyorPart := none, erectorPart := none, diagnostic := none }
  else none

/-- R179 check 7 for a STATUS payload of the right length. -/
def readStatus (p : List Byte) : Option StatusRecord := do
  let base ← readBase p
  let conveyor ←
    if bit (byteAt p 0) 0 then (readConveyor (!bit (byteAt p 0) 2) (p.drop 38)).map some else some none
  let erector ←
    if bit (byteAt p 0) 1 then (readErector (p.drop (38 + conveyorLength p))).map some else some none
  let diagnostic :=
    if bit (byteAt p 0) 2 then some (readDiagnostic (p.drop (38 + conveyorLength p + erectorLength p)))
    else none
  some { base with conveyorPart := conveyor, erectorPart := erector, diagnostic := diagnostic }

def readJoin (source : Nat) (p : List Byte) : Option JoinRecord :=
  if bits (byteAt p 0) 0 4 = source then
    some
      { station := bits (byteAt p 0) 0 4
        claims := { erector := bit (byteAt p 0) 4, conveyor := bit (byteAt p 0) 5 }
        warm := bit (byteAt p 0) 6, fault := bit (byteAt p 0) 7, digest := BitVec.ofNat 32 (read4 p 1)
        fitted := BitVec.ofNat 32 (read4 p 5), ring := BitVec.ofNat 16 (read2 p 9) }
  else none

/-- R183: the parameters of an ORDER, signed, as the length gives. -/
def readParams (p : List Byte) : List Int :=
  (List.range ((p.length - 2) / 4)).map fun k => signed 32 (read4 p (2 + 4 * k))

/-- R179: an order kind code of 0 fails check 7; every other is left to ORU. -/
def readOrder (p : List Byte) : Option Body :=
  if bits (byteAt p 1) 0 5 = 0 then none
  else some (.order (byteOf (byteAt p 0)) (bits (byteAt p 1) 0 5) (readParams p))

def readRequest (p : List Byte) : Option Body :=
  (requestKindOfCode (byteAt p 0)).map fun kind =>
    .request kind (BitVec.ofNat 16 (read2 p 1)) (byteOf (byteAt p 4))

def readReply (p : List Byte) : Option Body :=
  (answerOfCode (byteAt p 1)).map fun answer => .reply (byteOf (byteAt p 0)) answer

def readAlarm (p : List Byte) : Option Body :=
  match alarmKindOfCode (byteAt p 0), alarmClassOfCode (bits (byteAt p 1) 1 2) with
  | some kind, some cls => some (.alarm kind (bit (byteAt p 1) 0) cls)
  | _, _ => none

/-- R179 check 7 on part 0 of a RING_REPORT. No chapter gives the placements completed a range, and every byte is
read (DEDUCED, log 16). -/
def readSummary (p : List Byte) : Option RingSummary :=
  if -2147483647 ≤ signed 32 (read4 p 13) ∧ -2147483647 ≤ signed 32 (read4 p 17) ∧
      -2147483647 ≤ signed 32 (read4 p 21) ∧ read3 p 25 ≤ 96000 then
    some
      { buildStart := if bit (byteAt p 7) 0 then some (BitVec.ofNat 32 (read4 p 3)) else none
        close := BitVec.ofNat 32 (read4 p 8), placed := byteAt p 12
        volumes :=
          if bit (byteAt p 7) 1 then
            some (signed 32 (read4 p 13), signed 32 (read4 p 17), signed 32 (read4 p 21))
          else none
        marks := if bit (byteAt p 7) 4 then some (bit (byteAt p 7) 2, bit (byteAt p 7) 3) else none
        maxTorque := read3 p 25 }
  else none

/-- One sector item, starting at byte `k`. -/
def readItem (p : List Byte) (k : Nat) : Option SectorItem :=
  if read4 p k ≤ 2147483647 ∧ read4 p (k + 4) ≤ 2147483647 ∧ read4 p (k + 8) ≤ 2147483647 then
    some
      { posted := read4 p k, delivered := read4 p (k + 4), outstanding := read4 p (k + 8)
        heard := bit (byteAt p (k + 12)) 0, substituted := bit (byteAt p (k + 12)) 1 }
  else none

/-- `n` sector items one after another, starting at byte `k`. -/
def readItems (p : List Byte) : Nat → Nat → Option (List SectorItem)
  | 0, _ => some []
  | n + 1, k =>
    match readItem p k, readItems p n (k + 13) with
    | some i, some rest => some (i :: rest)
    | _, _ => none

/-- R183: the sectors a part 2 or 3 of a RING_REPORT carries. -/
def itemsInPart (nS index : Nat) : Nat :=
  if index = 2 then 4 else nS - 4

def readRingPart (nS index : Nat) (p : List Byte) : Option RingPart :=
  if index = 0 then (readSummary p).map .summary
  else if index = 1 then some (.residency ((List.range 8).map fun k => read4 p (3 + 4 * k)))
  else (readItems p (itemsInPart nS index) 3).map .sectors

/-- R183: the part count of a ring report, 3 for N_s of 4 and 4 otherwise. -/
def ringParts (nS : Nat) : Nat :=
  if nS = 4 then 3 else 4

def readRingReport (nS : Nat) (p : List Byte) : Option Body :=
  if bits (byteAt p 2) 4 4 = ringParts nS ∧ bits (byteAt p 2) 0 4 < ringParts nS then
    (readRingPart nS (bits (byteAt p 2) 0 4) p).map fun part =>
      .ringReport (BitVec.ofNat 16 (read2 p 0)) (bits (byteAt p 2) 0 4) (bits (byteAt p 2) 4 4) part
  else none

/-- R179 check 7, by kind code. -/
def readBody (nS source kind : Nat) (p : List Byte) : Option Body :=
  match kind with
  | 1 => (readStatus p).map .status
  | 2 => (readJoin source p).map .join
  | 3 => readOrder p
  | 4 => readRequest p
  | 5 => readReply p
  | 6 => readAlarm p
  | 7 => readRingReport nS p
  | _ => none

/-! ## The checks of R179 -/

/-- Check 1: a reserved bit of the payload is not zero. -/
def payloadReserved (kind : Nat) (p : List Byte) : Bool :=
  match kind with
  | 1 =>
    decide (128 ≤ byteAt p 7) || decide (64 ≤ byteAt p 34) ||
      (bit (byteAt p 0) 0 && decide (64 ≤ byteAt p 38)) ||
      (bit (byteAt p 0) 1 && decide (32 ≤ byteAt p (38 + conveyorLength p + 3)))
  | 2 => decide (4 ≤ byteAt p 5)
  | 3 => decide (32 ≤ byteAt p 1)
  | 4 => byteAt p 3 != 0
  | 6 => decide (8 ≤ byteAt p 1)
  | 7 =>
    if bits (byteAt p 2) 0 4 = 0 then decide (32 ≤ byteAt p 7)
    else if bits (byteAt p 2) 0 4 = 2 || bits (byteAt p 2) 0 4 = 3 then
      (List.range 4).any fun k => decide (4 ≤ byteAt p (15 + 13 * k))
    else false
  | _ => false

/-- Check 5: the kind agrees with the source and the destination. Every destination 0 to 7 is a sector station here,
one at or above the image's N_s among them (DEDUCED, log 38). -/
def addressed (kind source dest : Nat) : Bool :=
  match kind with
  | 3 => source == 8 && (decide (dest < 8) || dest == 15)
  | 4 => decide (source < 8) && decide (dest < 8)
  | 5 => decide (source < 8) && decide (dest < 8)
  | _ => decide (source < 8) && dest == 15

/-- Check 6: the payload lengths section 9.6 allows. -/
def lengthAllowed (nS kind : Nat) (p : List Byte) : Bool :=
  match kind with
  | 1 => p.length == 38 + conveyorLength p + erectorLength p + diagnosticLength p
  | 2 => p.length == 11
  | 3 => p.length == 2 || p.length == 6 || p.length == 10 || p.length == 14
  | 4 => p.length == 5
  | 5 => p.length == 2
  | 6 => p.length == 2
  | 7 =>
    match bits (byteAt p 2) 0 4 with
    | 0 => p.length == 28
    | 1 => p.length == 35
    | 2 => p.length == 55
    | 3 => p.length == 3 + 13 * (nS - 4)
    | _ => false
  | _ => false

/-- What LIF makes of a transmission (R178, R179). -/
inductive Heard
  /-- The first character is not the start delimiter. -/
  | ignored
  /-- The frame is not complete, or its CRC does not give 0. -/
  | crcFailure
  /-- The first check of R179 the frame fails. -/
  | formatError (check : Nat)
  /-- A valid frame. -/
  | valid (h : Header) (b : Body)
  deriving DecidableEq, Repr

/-- R179: the checks in order, over a header (bytes 1 to 4) and a payload. -/
def checkForm (nS : Nat) (chars : Chars) (p : List Byte) : Heard :=
  let source := bits (byteAt chars 1) 0 4
  let dest := bits (byteAt chars 1) 4 4
  let kind := bits (byteAt chars 2) 0 4
  if 64 ≤ byteAt chars 2 ∨ payloadReserved kind p = true then .formatError 1
  else if 9 ≤ source ∨ (source < 8 ∧ nS ≤ source) then .formatError 2
  else if 9 ≤ dest ∧ dest ≤ 14 then .formatError 3
  else if kind = 0 ∨ 7 < kind ∨ bits (byteAt chars 2) 4 2 ≠ classCodeOfKind kind then .formatError 4
  else if addressed kind source dest = false then .formatError 5
  else if lengthAllowed nS kind p = false then .formatError 6
  else
    match readBody nS source kind p with
    | none => .formatError 7
    | some b => .valid { source := source, dest := dest, seq := byteOf (byteAt chars 3) } b

/-- R178: the characters a frame of this header takes in all. -/
def frameLength (chars : Chars) : Nat :=
  7 + byteAt chars 4

/-- R178, R179: a transmission judged by a station whose image holds `nS`. -/
def judge (nS : Nat) (chars : Chars) : Heard :=
  if chars.head? ≠ some 0xA7 then .ignored
  else if chars.length < 5 ∨ chars.length < frameLength chars then .crcFailure
  else if crc16 ((chars.take (frameLength chars)).drop 1) ≠ 0 then .crcFailure
  else checkForm nS chars ((chars.take (5 + byteAt chars 4)).drop 5)

end Sys2Proof.Machine
end

