-- ==== Sys2Proof/Machine/Ops.lean ====
section
/-! DEFINITION. The operations every block shares: the alarm table as the blocks read it, the peer table as
the blocks read it, and the hand of a frame to the transmit queue. -/

namespace Sys2Proof.Machine

open Sys2Proof

/-! ## The alarm table -/

/-- R149: the class of a kind; ARITH's is the escalation class of the image (R152). -/
def alarmClass (img : Image) : AlarmKind → AlarmClass
  | .sectorMissing => .hold | .consoleLost => .hold | .dutyConflict => .hold | .dutyMissing => .hold
  | .configMismatch => .hold | .duplicateStation => .stop | .lineFault => .hold
  | .cutterheadOvertorque => .warning | .cutterheadJam => .stop | .motorOvertemp => .warning
  | .strokeSensorFault => .warning | .substitutionDenied => .hold | .skew => .warning
  | .groupPressureLimit => .warning | .buildTimeout => .warning | .requestUnanswered => .warning
  | .buildOrphaned => .hold | .groutLag => .hold | .groutBlocked => .warning
  | .groutNeedsFlush => .warning | .groutAbsent => .warning | .facePressureLow => .warning
  | .facePressureHigh => .warning | .overextraction => .warning | .underextraction => .warning
  | .balanceBlind => .hold | .pressureBlind => .warning | .screwFault => .hold | .estop => .stop
  | .arith => img.escalationClass

/-- R149: the image's persistence of a kind. The image's list has a pair for each of the thirty kinds, of which
the built-in ones are not used (DESIGN CHOICE, log 32). -/
def imagePersistence (img : Image) (k : AlarmKind) : Persistence :=
  img.persistences.getD k.number { raise := 0, clear := 0 }

/-- R149: the raise persistence of a kind: built in where the table marks it fixed, else the image's. -/
def raisePersistence (img : Image) (k : AlarmKind) : Nat :=
  match k with
  | .duplicateStation => 0 | .cutterheadJam => 50 | .groupPressureLimit => 200
  | .overextraction => 0 | .estop => 0 | .arith => 0
  | k => (imagePersistence img k).raise

/-- R149: the clear persistence of a kind. -/
def clearPersistence (img : Image) (k : AlarmKind) : Nat :=
  match k with
  | .duplicateStation => 0 | .overextraction => 0 | .estop => 0 | .arith => 0
  | k => (imagePersistence img k).clear

/-- R142: the entry of a kind. -/
def entryOf (s : State) (k : AlarmKind) : AlarmEntry :=
  s.alu.entries.getD k.number {}

/-- The entry of a kind put in its place. -/
def setEntry (k : AlarmKind) (e : AlarmEntry) (s : State) : State :=
  s.onAlu fun a => { a with entries := putAt a.entries k.number e }

/-- R142: an entry ACTIVE or PENDING_CLEAR. -/
def entryInForce (e : AlarmEntry) : Bool :=
  match e.state with
  | .active => true | .pendingClear => true | .inactive => false | .pendingRaise => false

/-- R142: the alarm of a kind is in force. -/
def inForce (s : State) (k : AlarmKind) : Bool :=
  entryInForce (entryOf s k)

/-- R146, R147: some alarm of a class is in force. -/
def classInForce (s : State) (c : AlarmClass) : Bool :=
  AlarmKind.all.any fun k => inForce s k && decide (alarmClass s.cfg.image k = c)

/-- R147: an alarm of STOP class is in force. -/
def stopInForce (s : State) : Bool :=
  classInForce s .stop

/-- R155: an alarm of STOP class other than ESTOP is in force. -/
def stopOtherThanEstop (s : State) : Bool :=
  AlarmKind.all.any fun k =>
    decide (k ≠ .estop) && (inForce s k && decide (alarmClass s.cfg.image k = .stop))

/-- R22: the active alarm set, bit k for kind k in force. -/
def activeAlarms (s : State) : BitVec 32 :=
  BitVec.ofNat 32
    ((AlarmKind.all.map fun k => if inForce s k then 2 ^ k.number else 0).foldl (· + ·) 0)

/-- R148: ALU forces the outputs. On a station in LOAD or CONFIG_FAULT ALU is not active (R142). -/
def forcingNow (s : State) : Bool :=
  s.alu.active && (decide (s.phase = .halted) || s.alu.estop || stopInForce s)

/-! ## The peer table -/

/-- R3: the entry of a sector. -/
def peerOf (s : State) (j : Nat) : PeerEntry :=
  s.ptb.peers.getD j {}

def setPeer (j : Nat) (e : PeerEntry) (s : State) : State :=
  s.onPtb fun p => { p with peers := putAt p.peers j e }

/-- Section 4.6 of 00_scope, R11: LIVE or SILENT. -/
def entryPresent (e : PeerEntry) : Bool :=
  match e.liveness with
  | .live => true | .silent => true | .self => false | .absent => false | .joining => false
  | .lost => false | .mismatched => false

def present (s : State) (j : Nat) : Bool :=
  entryPresent (peerOf s j)

/-- R11: the record a present entry serves, none from any other. -/
def served (s : State) (j : Nat) : Option StatusRecord :=
  if present s j then (peerOf s j).record else none

/-- The eight sector numbers. -/
def sectorNumbers : List Nat := [0, 1, 2, 3, 4, 5, 6, 7]

/-- R11: the present sector peers with the records they serve. -/
def presentPeers (s : State) : List (Nat × StatusRecord) :=
  sectorNumbers.filterMap fun j => (served s j).map fun r => (j, r)

/-- Section 2.1 of 00_scope: sector k - 1, counted modulo N_s. -/
def lowerNeighbour (s : State) : Nat :=
  (s.own + s.cfg.image.nS - 1) % s.cfg.image.nS

/-- Section 2.1 of 00_scope: sector k + 1, counted modulo N_s. -/
def upperNeighbour (s : State) : Nat :=
  (s.own + 1) % s.cfg.image.nS

/-- R58, R68: there is an ERECTOR holder, and it is the own station or a present peer. -/
def holderHere (s : State) (holder : Option Nat) : Bool :=
  match holder with
  | none => false
  | some h => h == s.own || present s h

/-- R12: what each sector contributes to a machine advance increment: its ring-advance counter, or none. -/
def contributions (s : State) : MachineSet :=
  sectorNumbers.map fun j =>
    if j = s.own then (if s.thu.quality = .valid then some s.thu.counter else none)
    else
      match served s j with
      | none => none
      | some r => if r.quality = .valid then some r.counter else none

/-- R53: the difference a sector yields, where it contributed at both evaluations. -/
def advanceOf (before now : Option Int) : Option Int :=
  match before, now with
  | some b, some n => some (if n - b < 0 then n else n - b)
  | _, _ => none

/-- R53: the differences of the sectors that contributed at both evaluations. -/
def advances (before now : MachineSet) : List Int :=
  (List.zipWith advanceOf before now).filterMap id

/-- R2: a mean "(div)": the sum of the terms div their count; 0 of no term. -/
def meanDiv (l : List Int) : Int :=
  l.sum / l.length

/-- R12, R57: the strokes of the contributing sectors, the own included. -/
def contributingRecords (s : State) : List StatusRecord :=
  (presentPeers s).filterMap fun p => if p.2.quality = .valid then some p.2 else none

/-! ## LIF: handing a frame to the transmit queue (R175) -/

/-- SAFETY before CONTROL before REPORT. -/
def FrameClass.rank : FrameClass → Nat
  | .safety => 0 | .control => 1 | .report => 2

def TxFrame.rank (f : TxFrame) : Nat :=
  f.body.frameClass.rank

def Body.isStatus : Body → Bool
  | .status _ => true
  | .join _ => false | .order _ _ _ => false | .request _ _ _ => false | .reply _ _ => false
  | .alarm _ _ _ => false | .ringReport _ _ _ _ => false

/-- A frame put at the end of its class. -/
def insertFrame (f : TxFrame) : List TxFrame → List TxFrame
  | [] => [f]
  | g :: rest => if f.rank < g.rank then f :: g :: rest else g :: insertFrame f rest

/-- A STATUS put in the place of the queued one. -/
def replaceStatus (f : TxFrame) : List TxFrame → List TxFrame
  | [] => []
  | g :: rest => if g.body.isStatus then f :: rest else g :: replaceStatus f rest

/-- The queue holds a frame of a class lower than `f`'s. The queue is ordered, so the newest frame of the
lowest class present is its last. -/
def lowerQueued (f : TxFrame) (q : List TxFrame) : Bool :=
  q.any fun g => decide (f.rank < g.rank)

/-- R175: a frame handed to LIF enters the queue. -/
def handFrame (f : TxFrame) (s : State) : State :=
  if f.body.isStatus && s.lif.queue.any (fun g => g.body.isStatus) then
    s.onLif fun l => { l with queue := replaceStatus f l.queue }
  else if s.lif.queue.length < Config.queueSize then
    s.onLif fun l => { l with queue := insertFrame f l.queue }
  else if lowerQueued f s.lif.queue then
    countQueueDrop (s.onLif fun l => { l with queue := insertFrame f l.queue.dropLast })
  else countQueueDrop s

/-- R144: an ALARM frame to all stations. -/
def alarmFrame (img : Image) (k : AlarmKind) (raised : Bool) : TxFrame :=
  { dest := 15, body := .alarm k raised (alarmClass img k) }

end Sys2Proof.Machine
end

