-- ==== Sys2Proof/Machine/Ports.lean ====
section
/-! DEFINITION. FPT's output side (R165, R166): the last value written to each channel, and what its pin
carries: the value written, the safe reference, or the built-in reference. -/

namespace Sys2Proof.Machine

open Sys2Proof

/-- R170: a channel is in the fitted set. -/
def isFitted (s : State) (c : Channel) : Bool :=
  s.fpt.fitted.getD c.number false

/-- R166, R194: in LOAD and CONFIG_FAULT the outputs carry the built-in references. -/
def builtInPhase (s : State) : Bool :=
  decide (s.phase = .load) || decide (s.phase = .configFault)

/-- R169: the grout line trial is in hand. -/
def groutTrial (s : State) : Bool :=
  decide (s.phase = .probe) && decide (s.fpt.probe.trial = 12)

/-- R148, R165, section 8.5: a channel carries its safe reference: forced, unfitted, or not the one output
the trial in hand exercises. -/
def carriesSafe (s : State) (c : Channel) : Bool :=
  s.fpt.forced ||
    (if s.phase = .probe then !(groutTrial s && (decide (c = .groutPump) || decide (c = .flushValve)))
     else !isFitted s c)

/-- R165: a numeric output: the value clamped into the channel's range, scaled, and clamped into the raw
range, with whether either clamp changed it. -/
def driveNumber (sc : OutputScale) (hi v : Int) : Int × Bool :=
  let raw := sc.offset + squot (clamp 0 hi v * sc.gain) 65536
  (clamp 0 65535 raw, outside 0 hi v || outside 0 65535 raw)

/-- R165: the output scale at a place of the image's list. -/
def outputScale (s : State) (k : Nat) : OutputScale :=
  s.cfg.image.outputs.getD k { gain := 0, offset := 0 }

/-- A numeric channel's pin as it is driven now (0 for the built-in reference). -/
def driven (s : State) (c : Channel) (k : Nat) (hi safe v : Int) : Int × Bool :=
  if builtInPhase s then (0, false)
  else driveNumber (outputScale s k) hi (if carriesSafe s c then safe else v)

/-! ## Each channel's pin driven again -/

def refreshMotor0 (s : State) : State :=
  let d := driven s .motorRef0 0 600 s.cfg.image.safeMotor0 s.fpt.written.motor0
  setFlagIf d.2 .clamped (s.onFpt fun f =>
    { f with wires := { f.wires with
        motor0 := d.1, enable0 := !builtInPhase s && f.written.enable0 } })

def refreshMotor1 (s : State) : State :=
  let d := driven s .motorRef1 1 600 s.cfg.image.safeMotor1 s.fpt.written.motor1
  setFlagIf d.2 .clamped (s.onFpt fun f =>
    { f with wires := { f.wires with
        motor1 := d.1, enable1 := !builtInPhase s && f.written.enable1 } })

/-- R166: GROUP_VALVE's safe reference is mode HOLD at P_hold. -/
def refreshValve (s : State) : State :=
  let d := driven s .groupValve 2 4000 s.cfg.image.pHold s.fpt.written.valvePressure
  setFlagIf d.2 .clamped (s.onFpt fun f =>
    { f with wires := { f.wires with
        valveMode := if builtInPhase s || carriesSafe s .groupValve then .hold else f.written.valveMode
        valvePressure := d.1 } })

def refreshPump (s : State) : State :=
  let d := driven s .groutPump 3 60 s.cfg.image.safePump s.fpt.written.pump
  setFlagIf d.2 .clamped (s.onFpt fun f => { f with wires := { f.wires with pump := d.1 } })

/-- R166: FLUSH_VALVE's safe reference is the image's choice. -/
def refreshFlush (s : State) : State :=
  s.onFpt fun f =>
    { f with wires := { f.wires with
        flushOpen :=
          if builtInPhase s then false
          else if carriesSafe s .flushValve then s.cfg.image.safeFlushOpen else f.written.flushOpen } }

def refreshScrew (s : State) : State :=
  let d := driven s .screwRef 4 3000 s.cfg.image.safeScrew s.fpt.written.screw
  setFlagIf d.2 .clamped (s.onFpt fun f => { f with wires := { f.wires with screw := d.1 } })

def refreshGate (s : State) : State :=
  s.onFpt fun f =>
    { f with wires := { f.wires with
        gateOpen := !(builtInPhase s || carriesSafe s .gateCmd) && f.written.gateOpen } }

def refreshErector (s : State) : State :=
  s.onFpt fun f =>
    { f with wires := { f.wires with
        erector := if builtInPhase s || carriesSafe s .erectorCmd then .hold else f.written.erector } }

/-- Every pin driven again: at the ends and beginnings of the forcing, of a trial and of a phase whose
references differ. -/
def refreshAll (s : State) : State :=
  refreshErector (refreshGate (refreshScrew (refreshFlush (refreshPump (refreshValve
    (refreshMotor1 (refreshMotor0 s)))))))

/-! ## Each channel written by its block -/

def writeMotor0 (v : Int) (s : State) : State :=
  refreshMotor0 (s.onFpt fun f => { f with written := { f.written with motor0 := v } })

def writeMotor1 (v : Int) (s : State) : State :=
  refreshMotor1 (s.onFpt fun f => { f with written := { f.written with motor1 := v } })

def writeEnable0 (b : Bool) (s : State) : State :=
  refreshMotor0 (s.onFpt fun f => { f with written := { f.written with enable0 := b } })

def writeEnable1 (b : Bool) (s : State) : State :=
  refreshMotor1 (s.onFpt fun f => { f with written := { f.written with enable1 := b } })

def writeValve (m : ValveMode) (p : Int) (s : State) : State :=
  refreshValve (s.onFpt fun f => { f with written := { f.written with valveMode := m, valvePressure := p } })

def writePump (v : Int) (s : State) : State :=
  refreshPump (s.onFpt fun f => { f with written := { f.written with pump := v } })

def writeFlush (isOpen : Bool) (s : State) : State :=
  refreshFlush (s.onFpt fun f => { f with written := { f.written with flushOpen := isOpen } })

def writeScrew (v : Int) (s : State) : State :=
  refreshScrew (s.onFpt fun f => { f with written := { f.written with screw := v } })

def writeGate (isOpen : Bool) (s : State) : State :=
  refreshGate (s.onFpt fun f => { f with written := { f.written with gateOpen := isOpen } })

def writeErector (c : ErectorCmd) (s : State) : State :=
  refreshErector (s.onFpt fun f => { f with written := { f.written with erector := c } })

/-! ## The input side as the blocks read it (R158, R160, R161) -/

def inputOf (s : State) (c : Channel) : InputState :=
  s.fpt.inputs.getD c.number {}

/-- An unfitted channel is served as not valid. -/
def inputValid (s : State) (c : Channel) : Bool :=
  isFitted s c && (inputOf s c).valid

/-- R158: an unfitted analog channel is served with value 0. -/
def inputValue (s : State) (c : Channel) : Int :=
  if isFitted s c then (inputOf s c).served else 0

/-- R161: a discrete channel that is not VALID, or is unfitted, serves false. -/
def inputTrue (s : State) (c : Channel) : Bool :=
  inputValid s c && decide ((inputOf s c).served = 1)

end Sys2Proof.Machine
end

