-- ==== Sys2Proof/Machine/Drive.lean ====
section
/-! DEFINITION. DSU: the cutterhead and the duty levels (02_cutterhead_drive_and_duty_levels). -/

namespace Sys2Proof.Machine

open Sys2Proof

/-! ## The duty-level table (R27, R28) -/

/-- A row the image does not hold: an invalid level. -/
def noLevel : DutyLevel :=
  { valid := false, speed := 0, torqueLimit := 1, loadHigh := 0, loadLow := 0, hDown := 1, hUp := 1
    advanceCap := 0 }

def levelAt (img : Image) (l : Nat) : DutyLevel :=
  img.levels.getD l noLevel

/-- R28: the highest valid level below `l`. -/
def nextLower (img : Image) : Nat → Option Nat
  | 0 => none
  | l + 1 => if (levelAt img l).valid then some l else nextLower img l

/-- R28: the lowest valid level above `l`. -/
def nextHigher (img : Image) (l : Nat) : Option Nat :=
  [1, 2, 3, 4, 5, 6, 7].find? fun k => decide (l < k) && (levelAt img k).valid

/-- R28: the highest valid level at or below `l`; level 0 is always valid. -/
def validAtOrBelow (img : Image) (l : Nat) : Nat :=
  if (levelAt img l).valid then l else (nextLower img l).getD 0

/-- The speed of the applied level, the ramp's target. -/
def appliedSpeed (s : State) : Int :=
  (levelAt s.cfg.image s.dsu.applied).speed

/-- R42: the advance cap in force. -/
def advanceCap (s : State) : Int :=
  if s.dsu.changing then s.dsu.rampCap else (levelAt s.cfg.image s.dsu.applied).advanceCap

/-! ## Torques and motor references (R20, R43, R45) -/

/-- R20: motor 0 is counted: fitted, DRIVE_READY asserted, torque channel VALID. -/
def motor0Counted (s : State) : Bool :=
  isFitted s .motorRef0 && inputTrue s .driveReady0 && inputValid s .motorTorque0

def motor1Counted (s : State) : Bool :=
  isFitted s .motorRef1 && inputTrue s .driveReady1 && inputValid s .motorTorque1

/-- R20: the own torque sum. -/
def torqueSum (s : State) : Int :=
  (if motor0Counted s then inputValue s .motorTorque0 else 0) +
    (if motor1Counted s then inputValue s .motorTorque1 else 0)

/-- R20: the own motor count. -/
def motorCount (s : State) : Nat :=
  (motor0Counted s).toNat + (motor1Counted s).toNat

/-- R43: the torque sums and the motor counts over the own station and every present sector peer whose
record shows motor count 1 or 2. -/
def sharedTorque (s : State) : Int × Nat :=
  ((presentPeers s).filter fun p => decide (1 ≤ p.2.motorCount)).foldl
    (fun acc p => (acc.1 + p.2.torqueSum, acc.2 + p.2.motorCount)) (torqueSum s, motorCount s)

/-- R43: the reference of a motor with torque `t`, and whether the droop term exceeded n_r. -/
def motorReference (s : State) (fitted counted : Bool) (t : Int) : Int × Bool :=
  let shared := sharedTorque s
  let mean := shared.1 / shared.2
  let droop := s.cfg.image.dDroop * (t - mean) / 1000
  if fitted = false then (0, false)
  else if counted = false ∨ shared.2 = 0 ∨ t ≤ mean then (s.dsu.nr, false)
  else if s.dsu.nr < droop then (0, true)
  else (s.dsu.nr - droop, false)

/-- R43: DSU computes and writes both motor references. -/
def writeMotors (s : State) : State :=
  let m0 := motorReference s (isFitted s .motorRef0) (motor0Counted s) (inputValue s .motorTorque0)
  let m1 := motorReference s (isFitted s .motorRef1) (motor1Counted s) (inputValue s .motorTorque1)
  writeMotor1 m1.1 (writeMotor0 m0.1 (setFlagIf (m0.2 || m1.2) .clamped s))

/-- R45: the total torque of the machine as this station sees it. -/
def totalTorque (s : State) : Int :=
  torqueSum s + ((presentPeers s).map fun p => p.2.torqueSum).sum

/-- R45, R46: the total torque formed, its two conditions and the ring maximum. -/
def formTotalTorque (s : State) : State :=
  s.onDsu fun d =>
    { d with
      overtorque := decide (s.cfg.image.tAlarm < totalTorque s)
      jam := decide (s.cfg.image.tTrip < totalTorque s)
      ringMax := max d.ringMax (totalTorque s) }

/-- R43, R45: the arrival of a sample of one of the station's own motor torque channels. -/
def torqueArrival (s : State) : State :=
  writeMotors (formTotalTorque s)

/-! ## Leaving RUNNING, stopping and tripping (R32 to R34, R36) -/

/-- R32, R36: the cutterhead in a state other than RUNNING: no level change, both counts 0. -/
def leaveRunning (c : Cutterhead) (s : State) : State :=
  s.onDsu fun d => { d with cutterhead := c, changing := false, downCount := 0, upCount := 0 }

/-- R33, R34: n_r set to 0 at once and both motor references written 0. Where n_r changes by it, R43 computes
the references, which are 0, and a droop term above 0 then sets CLAMPED. -/
def zeroMotors (s : State) : State :=
  if s.dsu.nr = 0 then writeMotor1 0 (writeMotor0 0 s)
  else writeMotors (s.onDsu fun d => { d with nr := 0 })

/-- R33: entry of the drive phase into BUILDING or HALTED. -/
def driveStandstill (s : State) : State :=
  match s.dsu.cutterhead with
  | .stopped => s
  | .tripped => s
  | .starting => zeroMotors (leaveRunning .stopping s)
  | .running => zeroMotors (leaveRunning .stopping s)
  | .stopping => zeroMotors (leaveRunning .stopping s)

/-- R34: CUTTERHEAD_JAM has become ACTIVE. -/
def tripCutterhead (s : State) : State :=
  zeroMotors (leaveRunning .tripped s)

/-- R34, R156: the departure from HALTED by RESUME. -/
def untrip (s : State) : State :=
  if s.dsu.cutterhead = .tripped then s.onDsu fun d => { d with cutterhead := .stopped } else s

/-! ## Agreement of the applied level (R39 to R42) -/

/-- R42: the applied level changes to `l`. -/
def setApplied (l : Nat) (s : State) : State :=
  let newCap := (levelAt s.cfg.image l).advanceCap
  if s.dsu.cutterhead = .running then
    if s.dsu.nr = (levelAt s.cfg.image l).speed then
      s.onDsu fun d => { d with applied := l, changing := false }
    else
      s.onDsu fun d => { d with applied := l, changing := true, rampCap := min (advanceCap s) newCap }
  else s.onDsu fun d => { d with applied := l, changing := false }

/-- R40: the lowest of the own proposal and the last-heard proposals of all present sector peers. -/
def lowestProposal (s : State) : Nat :=
  (presentPeers s).foldl (fun acc p => min acc p.2.proposed) s.dsu.proposed

/-- R40: the candidate the proposals give. -/
def candidateNow (s : State) : Option Nat :=
  if s.dsu.applied < lowestProposal s then some (lowestProposal s) else none

/-- R40: every agreement counter 0. -/
def clearAgreement (s : State) : State :=
  s.onPtb fun p => { p with peers := p.peers.map fun e => { e with agreement := 0 } }

/-- R40: DSU recomputes the candidate; a candidate that differs from the one before clears the counters. -/
def recomputeCandidate (s : State) : State :=
  if candidateNow s = s.dsu.candidate then s
  else clearAgreement (s.onDsu fun d => { d with candidate := candidateNow s })

/-- R41: every present sector peer has sent two frames or more proposing at least the candidate. -/
def allAgree (s : State) : Bool :=
  (presentPeers s).all fun p => decide (2 ≤ (peerOf s p.1).agreement)

/-- R41: the rise of the applied level to the candidate, which recomputes the candidate again. -/
def riseCheck (s : State) : State :=
  match s.dsu.candidate with
  | none => s
  | some c => if allAgree s then recomputeCandidate (setApplied c s) else s

/-- R39: one proposal compared with the applied level. -/
def fallCheck (proposal : Nat) (s : State) : State :=
  if proposal < s.dsu.applied then recomputeCandidate (setApplied proposal s) else s

/-- R38: the proposed level. -/
def proposalNow (s : State) : Nat :=
  let limited := min s.dsu.choice (validAtOrBelow s.cfg.image s.dsu.consoleMax)
  if s.dsu.throttle then min limited (validAtOrBelow s.cfg.image s.cfg.image.lTherm) else limited

/-- R38: the proposal recomputed; a change is an own-proposal event of R39 to R41. -/
def repropose (s : State) : State :=
  if proposalNow s = s.dsu.proposed then s
  else
    riseCheck (recomputeCandidate (fallCheck (proposalNow s)
      (s.onDsu fun d => { d with proposed := proposalNow s })))

/-- R40: a present peer's agreement counter rises by one, saturating at 255, while a candidate stands. -/
def countAgreement (j : Nat) (s : State) : State :=
  match s.dsu.candidate with
  | none => s
  | some _ =>
    setPeer j { peerOf s j with agreement := min 255 ((peerOf s j).agreement + 1) } s

/-- R31: a stopped-since time after one more counted STATUS that reports cutterhead state `c`. -/
def stoppedSinceAfter (now : Time) (old : Timer) (c : Cutterhead) : Timer :=
  if c = .stopped ∨ c = .tripped then some (old.getD now) else none

/-- R31: a peer's stopped-since time after a counted STATUS. -/
def watchPeer (j : Nat) (c : Cutterhead) (s : State) : State :=
  s.onDsu fun d =>
    { d with stoppedSince :=
        putAt d.stoppedSince j (stoppedSinceAfter s.elapsed (d.stoppedSince.getD j none) c) }

/-- R31, R39 to R41: the notice of a counted STATUS from a sector peer. -/
def driveCountedStatus (j : Nat) (r : StatusRecord) (s : State) : State :=
  riseCheck (countAgreement j (recomputeCandidate (fallCheck r.proposed (watchPeer j r.cutterhead s))))

/-- R31, R39 to R41: the notice that a sector peer has become present or has ceased to be. -/
def drivePresence (j : Nat) (s : State) : State :=
  match served s j with
  | some r => riseCheck (recomputeCandidate (fallCheck r.proposed s))
  | none =>
    riseCheck (recomputeCandidate
      (s.onDsu fun d => { d with stoppedSince := putAt d.stoppedSince j none }))

/-! ## The duty evaluation (R30, R35, R36) -/

/-- R30: n_r moved toward a target by R_ramp, or by less where the target is nearer. -/
def rampToward (rate target n : Int) : Int :=
  if n < target then min target (n + rate) else max target (n - rate)

/-- R30: n_r after the ramp step. -/
def rampedSpeed (s : State) : Int :=
  match s.dsu.cutterhead with
  | .starting => rampToward s.cfg.image.rRamp (appliedSpeed s) s.dsu.nr
  | .running =>
    if s.dsu.changing then rampToward s.cfg.image.rRamp (appliedSpeed s) s.dsu.nr else s.dsu.nr
  | .stopping => rampToward s.cfg.image.rRamp 0 s.dsu.nr
  | .stopped => s.dsu.nr
  | .tripped => s.dsu.nr

/-- R30: what the ramp step's end makes of the cutterhead. -/
def rampEnd (s : State) : State :=
  match s.dsu.cutterhead with
  | .starting =>
    if s.dsu.nr = appliedSpeed s then s.onDsu fun d => { d with cutterhead := .running } else s
  | .running =>
    if s.dsu.nr = appliedSpeed s then s.onDsu fun d => { d with changing := false } else s
  | .stopping =>
    if s.dsu.nr = 0 then s.onDsu fun d => { d with cutterhead := .stopped } else s
  | .stopped => s
  | .tripped => s

/-- R30: one ramp step; a change of n_r writes the motor references at once. -/
def rampStep (s : State) : State :=
  rampEnd
    (if rampedSpeed s = s.dsu.nr then s
     else writeMotors (s.onDsu fun d => { d with nr := rampedSpeed s }))

/-- R36: both counts 0. -/
def clearCounts (s : State) : State :=
  s.onDsu fun d => { d with downCount := 0, upCount := 0 }

/-- R36: the own choice steps to a level, or stays where there is none, and both counts become 0. -/
def stepChoice (l : Option Nat) (s : State) : State :=
  match l with
  | none => clearCounts s
  | some l => repropose (clearCounts (s.onDsu fun d => { d with choice := l }))

/-- R35: the load, before the clamp. -/
def rawLoad (s : State) : Int :=
  torqueSum s * 1000 / ((levelAt s.cfg.image s.dsu.applied).torqueLimit * motorCount s)

/-- R36: the load compared with the thresholds of the proposed level. -/
def compareLoad (load : Int) (s : State) : State :=
  let row := levelAt s.cfg.image s.dsu.proposed
  if row.loadHigh ≤ load then
    if row.hDown ≤ s.dsu.downCount + 1 then stepChoice (nextLower s.cfg.image s.dsu.proposed) s
    else s.onDsu fun d => { d with upCount := 0, downCount := d.downCount + 1 }
  else if load ≤ row.loadLow then
    if row.hUp ≤ s.dsu.upCount + 1 then stepChoice (nextHigher s.cfg.image s.dsu.proposed) s
    else s.onDsu fun d => { d with downCount := 0, upCount := d.upCount + 1 }
  else clearCounts s

/-- R35, R36: the level evaluation of a RUNNING cutterhead. -/
def evaluateLoad (s : State) : State :=
  if motorCount s = 0 then clearCounts s
  else
    compareLoad (clamp 0 2000 (rawLoad s)) (setFlagIf (outside 0 2000 (rawLoad s)) .clamped s)

/-- R30: the ramp step and, with the cutterhead RUNNING after it, the level evaluation. -/
def dutyEvaluation (s : State) : State :=
  if (rampStep s).dsu.cutterhead = .running then evaluateLoad (rampStep s) else rampStep s

/-! ## Thermal throttle (R37) -/

/-- R37: the winding temperatures of the fitted motors whose channel is VALID. -/
def motorTemps (s : State) : List Int :=
  (if isFitted s .motorRef0 && inputValid s .motorTemp0 then [inputValue s .motorTemp0] else []) ++
    (if isFitted s .motorRef1 && inputValid s .motorTemp1 then [inputValue s .motorTemp1] else [])

/-- R37: the throttle after a temperature sample. -/
def throttleNow (s : State) : Bool :=
  match motorTemps s with
  | [] => s.dsu.throttle
  | t :: rest =>
    if s.cfg.image.tHigh ≤ rest.foldl max t then true
    else if rest.foldl max t ≤ s.cfg.image.tLow then false
    else s.dsu.throttle

/-- R37: the arrival of a motor temperature sample. -/
def tempArrival (s : State) : State :=
  repropose (s.onDsu fun d => { d with throttle := throttleNow s })

/-! ## Ring close, warm restart -/

/-- R46, R47: residency and ring maximum at a ring close. -/
def driveRingClose (s : State) : State :=
  s.onDsu fun d => { d with residency := List.replicate 8 0, ringMax := 0 }

/-- Section 2.10: DSU after a warm restart; the conditions of R45 stand until the next torque sample. -/
def driveRestart (s : State) : State :=
  writeMotors
    (s.onDsu fun d => { DsuState.cold with overtorque := d.overtorque, jam := d.jam })

end Sys2Proof.Machine
end

