-- ==== Sys2Proof/Machine/Grout.lean ====
section
/-! DEFINITION. GRU: the grout line, the demand queue and the totals (05_grout_injection). -/

namespace Sys2Proof.Machine

open Sys2Proof

/-! ## The line and its outputs (R98, R105) -/

/-- R105: the volume outstanding, the sum over all parcels. -/
def volumeOf (q : List Parcel) : Int :=
  (q.map fun p => p.volume).sum

def outstanding (s : State) : Int :=
  volumeOf s.gru.queue

/-- R98, R105: the pump reference of the line state. -/
def pumpChoice (s : State) : Int :=
  match s.gru.line with
  | .pumping => if s.cfg.image.lBoost ≤ outstanding s then s.cfg.image.rateHigh else s.cfg.image.rateLow
  | .flushing => if s.gru.flushStop then 0 else s.cfg.image.rateLow
  | .absent => 0 | .idle => 0 | .pressureHold => 0 | .blocked => 0 | .needsFlush => 0

/-- R98: in the event that changes the line state, the pump and the flush valve are written from it. -/
def setLine (l : GroutLine) (s : State) : State :=
  let s' := s.onGru fun g => { g with line := l }
  writeFlush (decide (l = .flushing)) (writePump (pumpChoice s') s')

/-- R98, R105: the pump is written when the reference chosen for the state changes. -/
def choosePump (s : State) : State :=
  if pumpChoice s = s.fpt.written.pump then s else writePump (pumpChoice s) s

/-- R116: the lag condition for a volume outstanding. -/
def lagAfter (img : Image) (lag : Bool) (v : Int) : Bool :=
  if img.lLag < v then true else if v ≤ img.lLagClear then false else lag

/-- R105, R116: what every change of the volume outstanding brings. -/
def volumeChanged (s : State) : State :=
  choosePump (s.onGru fun g => { g with lag := lagAfter s.cfg.image g.lag (volumeOf g.queue) })

/-- R105: an IDLE line with V_start or more outstanding becomes PUMPING. -/
def startTest (s : State) : State :=
  if s.gru.line = .idle ∧ s.cfg.image.vStart ≤ outstanding s then setLine .pumping s else s

/-! ## Demand (R100 to R102) -/

/-- R101: the posting ring: the own ring number, or the tail's where that is higher. -/
def postingRing (s : State) : RingNumber :=
  match s.gru.queue.getLast? with
  | none => s.ring
  | some t => if s.ring.toNat < t.ring.toNat then t.ring else s.ring

/-- R101: the four conditions of a merge into the tail. -/
def mergesIntoTail (s : State) : Bool :=
  match s.gru.queue.getLast? with
  | none => false
  | some t =>
    !t.started && t.current && decide (t.ring = postingRing s) && decide (t.volume < s.cfg.image.vParcel)

/-- R101: a demand added to the tail. -/
def addToTail (d : Int) : List Parcel → List Parcel
  | [] => []
  | [p] => [{ p with volume := p.volume + d }]
  | p :: q :: rest => p :: addToTail d (q :: rest)

/-- R101: the parcel of a demand appended now. -/
def newParcel (d : Int) (s : State) : Parcel :=
  { ring := postingRing s, volume := d, posted := s.elapsed, started := false, current := true }

/-- R101, R102: the queue after a demand is posted. -/
def queueAfterPosting (d : Int) (s : State) : List Parcel :=
  if Config.parcelLimit ≤ s.gru.queue.length || mergesIntoTail s then addToTail d s.gru.queue
  else s.gru.queue ++ [newParcel d s]

/-- R101 to R104: a demand above 0 posted, with the total and the tally it raises. -/
def postDemand (d : Int) (s : State) : State :=
  startTest (volumeChanged
    ((setFlagIf (decide (Config.parcelLimit ≤ s.gru.queue.length)) .fifoMergedFull s).onGru fun g =>
      { g with
        queue := queueAfterPosting d s, posted := g.posted + d, postedRing := g.postedRing + d }))

/-- R100: g, the grout owed in millionths of a ml. -/
def groutOwed (ds : Int) (s : State) : Int :=
  s.cfg.image.aSector * ds * s.cfg.image.fFill + s.gru.remG

/-- R100, R118: the arrival of an own advance increment. -/
def groutIncrement (ds : Int) (s : State) : State :=
  if s.gru.active = false ∨ s.gru.line = .absent then s
  else
    let demand := groutOwed ds s / 1000000
    let s' := s.onGru fun g => { g with remG := groutOwed ds s % 1000000 }
    if 0 < demand then postDemand demand s' else s'

/-! ## The meter (R106, R107) -/

/-- R106: a part of a pulse credited from the head on: the queue after it, what was delivered, and what of
that went to parcels with the current-ring mark. -/
def creditQueue : List Parcel → Int → List Parcel × Int × Int
  | [], _ => ([], 0, 0)
  | p :: rest, part =>
    if part ≤ 0 then (p :: rest, 0, 0)
    else if part < p.volume then
      ({ p with volume := p.volume - part, started := true } :: rest, part, if p.current then part else 0)
    else
      let r := creditQueue rest (part - p.volume)
      (r.1, p.volume + r.2.1, (if p.current then p.volume else 0) + r.2.2)

/-- R106: 10 ml credited; the part no parcel takes is overrun. -/
def creditPulse (s : State) : State :=
  let r := creditQueue s.gru.queue 10
  volumeChanged (s.onGru fun g =>
    { g with
      queue := r.1, delivered := g.delivered + r.2.1, deliveredRing := g.deliveredRing + r.2.2
      overrun := g.overrun + (10 - r.2.1) })

/-- R111: the setting timer started from 0. -/
def restartSetting (s : State) : State :=
  s.onGru fun g => { g with settingTimer := some s.elapsed }

/-- R107: a PUMPING line whose queue has become empty becomes IDLE. -/
def emptiedTest (s : State) : State :=
  if s.gru.line = .pumping ∧ s.gru.queue = [] then startTest (setLine .idle s) else s

/-- R106, R113: one meter pulse. -/
def groutPulse (s : State) : State :=
  match s.gru.line with
  | .absent => s
  | .flushing => s.onGru fun g => { g with flushed := g.flushed + 10 }
  | .idle => emptiedTest (restartSetting (creditPulse s))
  | .pumping => emptiedTest (restartSetting (creditPulse s))
  | .pressureHold =>
    (restartSetting (creditPulse s)).onGru fun g => { g with blockTimer := some s.elapsed }
  | .blocked => creditPulse s
  | .needsFlush => creditPulse s

/-- R163: so many meter pulse arrivals, one after another. -/
def groutPulses : Nat → State → State
  | 0, s => s
  | n + 1, s => groutPulses n (groutPulse s)

/-! ## Pressure (R108, R109, R113) -/

/-- R108: entry into PRESSURE_HOLD. -/
def enterPressureHold (s : State) : State :=
  setLine .pressureHold (s.onGru fun g => { g with blockTimer := some s.elapsed })

/-- R109: the line leaves PRESSURE_HOLD. -/
def resumeLine (s : State) : State :=
  let s' := s.onGru fun g => { g with blockTimer := none }
  if 0 < outstanding s then setLine .pumping s' else startTest (setLine .idle s')

/-- R113: the flush pressure stop after a sample. -/
def flushStopAfter (s : State) : Bool :=
  let p := inputValue s .groutPressure
  if inputValid s .groutPressure = false then true
  else if s.cfg.image.pMax ≤ p ∧ p ≤ s.cfg.image.pResume then
    Config.flushStopTie s.gru.flushStop p s.elapsed
  else if s.cfg.image.pMax ≤ p then true
  else if p ≤ s.cfg.image.pResume then false
  else s.gru.flushStop

/-- R108: the sample that stops an IDLE or PUMPING line. -/
def pressureStops (s : State) : Bool :=
  !inputValid s .groutPressure || decide (s.cfg.image.pMax ≤ inputValue s .groutPressure)

/-- R109: the sample that lets a line leave PRESSURE_HOLD. -/
def pressureResumes (s : State) : Bool :=
  inputValid s .groutPressure && decide (inputValue s .groutPressure ≤ s.cfg.image.pResume)

/-- R108, R109, R113: a grout pressure sample. -/
def groutPressureArrival (s : State) : State :=
  match s.gru.line with
  | .idle => if pressureStops s then enterPressureHold s else s
  | .pumping => if pressureStops s then enterPressureHold s else s
  | .pressureHold => if pressureResumes s then resumeLine s else s
  | .flushing => choosePump (s.onGru fun g => { g with flushStop := flushStopAfter s })
  | .absent => s
  | .blocked => s
  | .needsFlush => s

/-! ## Timers (R110, R111, R113, R114) -/

/-- R110: the block timer has reached T_block. -/
def groutBlocks (s : State) : State :=
  setLine .blocked (s.onGru fun g => { g with blockTimer := none, settingTimer := none })

/-- R111: the setting timer has reached T_set. -/
def groutSets (s : State) : State :=
  setLine .needsFlush (s.onGru fun g => { g with blockTimer := none, settingTimer := none })

/-- R112: the flush begins. -/
def beginFlush (s : State) : State :=
  setLine .flushing (s.onGru fun g =>
    { g with
      flushTimer := some s.elapsed, flushRun := 0, flushStop := false, settingTimer := none
      blockTimer := none })

/-- R113: what the flush timer shows: the time run before its last stop and since its last start. -/
def flushTime (s : State) : Nat :=
  match s.gru.flushTimer with
  | none => s.gru.flushRun
  | some start => s.gru.flushRun + elapsedSince start s.elapsed

/-- R113: the flush ends. -/
def endFlush (s : State) : State :=
  startTest (setLine .idle (s.onGru fun g =>
    { g with flushTimer := none, flushRun := 0, flushStop := false, settingTimer := some s.elapsed }))

/-- R114: the flush timer stops where it stands while the outputs are forced, and goes on after. -/
def flushForcing (forced : Bool) (s : State) : State :=
  if s.gru.line = .flushing then
    (if forced then s.onGru fun g => { g with flushRun := flushTime s, flushTimer := none }
     else s.onGru fun g => { g with flushTimer := some s.elapsed })
  else s

/-! ## Write-off, ring close, start -/

/-- R115: the parcels of a ring removed. -/
def groutWriteOff (ring : RingNumber) (s : State) : State :=
  startTest (volumeChanged (s.onGru fun g =>
    { g with
      queue := g.queue.filter fun p => decide (p.ring ≠ ring)
      writtenOff := g.writtenOff + volumeOf (g.queue.filter fun p => decide (p.ring = ring)) }))

/-- R104: the ring close. -/
def groutRingClose (s : State) : State :=
  s.onGru fun g =>
    { g with
      postedRing := 0, deliveredRing := 0, queue := g.queue.map fun p => { p with current := false } }

/-- R99: GRU becomes active at the end of PROBE. -/
def groutActivate (s : State) : State :=
  if isFitted s .groutPump then
    setLine .idle (s.onGru fun _ => { GruState.cold with active := true, settingTimer := some s.elapsed })
  else setLine .absent (s.onGru fun _ => { GruState.cold with active := true })

/-! ## Publication (R119) -/

/-- R119: a volume as published. -/
def publishedVolume (v : Int) : Int :=
  min 2147483647 v

/-- R119: a clamp of one of the three published volumes. -/
def volumesClamp (s : State) : Bool :=
  decide (2147483647 < outstanding s) || decide (2147483647 < s.gru.postedRing) ||
    decide (2147483647 < s.gru.deliveredRing)

end Sys2Proof.Machine
end

