-- ==== Sys2Proof/Machine/Thrust.lean ====
section
/-! DEFINITION. THU: the thrust group, the stroke, the advance and the request responder
(03_thrust_stroke_and_advance). -/

namespace Sys2Proof.Machine

open Sys2Proof

/-! ## The group and its valve (R48) -/

/-- R48: mode and pressure written for a group state, `p` being the pressure reference. -/
def valveOf (img : Image) (p : Int) : Group → ValveMode × Int
  | .moving .holding => (.hold, img.pHold)
  | .moving .advancing => (.advance, p)
  | .moving .retracting => (.retract, img.pRetract)
  | .moving .retracted => (.hold, 0)
  | .moving .extending => (.extend, img.pHold)
  | .frozen _ => (.hold, img.pHold)

/-- R48: GROUP_VALVE written from the group state. -/
def writeGroupValve (s : State) : State :=
  let v := valveOf s.cfg.image s.thu.pRef s.thu.group
  writeValve v.1 v.2 s

/-- R48, R56: the pressure reference after a change of group state: P_hold on entering and on leaving
ADVANCING. -/
def pRefAfter (img : Image) (old new : Group) (p : Int) : Int :=
  if old = .moving .advancing ∨ new = .moving .advancing then img.pHold else p

/-- R48: a change of the group state. -/
def setGroup (g : Group) (s : State) : State :=
  writeGroupValve (s.onThu fun t =>
    { t with group := g, pRef := pRefAfter s.cfg.image t.group g t.pRef })

def emptySlot (s : State) : State :=
  s.onThu fun t => { t with slot := none }

/-! ## Stroke quality, stroke and rate (R49 to R51) -/

/-- R50: the records of the two neighbours, where both are present and VALID. -/
def substitutes (s : State) : Option (StatusRecord × StatusRecord) :=
  match served s (lowerNeighbour s), served s (upperNeighbour s) with
  | some a, some b => if a.quality = .valid ∧ b.quality = .valid then some (a, b) else none
  | _, _ => none

/-- R49: the stroke history before the new stroke enters. -/
def historyFor (s : State) (v : Int) : List Int :=
  if s.thu.fresh ∨ s.thu.quality ≠ .valid then List.replicate 10 v else s.thu.history

/-- R49: the change over the last 100 ms, before the clamp. -/
def rawRate (s : State) (v : Int) : Int :=
  (v - (historyFor s v).headD v) * 10

/-- R49: a sample with the channel VALID. -/
def strokeMeasured (v : Int) (s : State) : State :=
  setFlagIf (outside (-1000) 1000 (rawRate s v)) .clamped (s.onThu fun t =>
    { t with
      quality := .valid, stroke := v, rate := clamp (-1000) 1000 (rawRate s v)
      history := (historyFor s v).drop 1 ++ [v], fresh := false, strokeFault := false, denied := false })

/-- R50: a sample with the channel not VALID and both neighbours usable. -/
def strokeSubstituted (a b : StatusRecord) (s : State) : State :=
  s.onThu fun t =>
    { t with
      quality := .substituted, stroke := (a.stroke + b.stroke) / 2, rate := squot (a.rate + b.rate) 2
      strokeFault := true, denied := false }

/-- R51: a sample with the channel not VALID and no substitution. -/
def strokeInvalid (s : State) : State :=
  s.onThu fun t => { t with quality := .invalid, rate := 0, strokeFault := true, denied := true }

/-- R49 to R51: the stroke quality judged and the stroke and its rate taken. -/
def takeStroke (s : State) : State :=
  if inputValid s .stroke then strokeMeasured (inputValue s .stroke) s
  else
    match substitutes s with
    | some (a, b) => strokeSubstituted a b s
    | none => strokeInvalid s

/-! ## Advance increments (R52, R53) -/

/-- R53: a machine advance increment over two evaluations, 0 where no sector contributed at both. -/
def machineAdvance (before now : MachineSet) : Int :=
  meanDiv (advances before now)

/-- R53: no sector contributed at both evaluations. -/
def machineBlind (before now : MachineSet) : Bool :=
  (advances before now).isEmpty

/-- R52: the difference of a neighbour's counter; a negative one has seen a ring close. -/
def neighbourStep (last now : Int) : Int :=
  if now - last < 0 then now else now - last

def groupAdvancing (s : State) : Bool :=
  decide (s.thu.group = .moving .advancing)

/-- R52: the neighbours' counters now. -/
def neighbourCounters (s : State) : Option (Int × Int) :=
  (substitutes s).map fun p => (p.1.counter, p.2.counter)

/-- R52: the own advance increment of a SUBSTITUTED sample, `last` the last-used counters. -/
def substitutedIncrement (last now : Option (Int × Int)) : Int :=
  match last, now with
  | some l, some n => (neighbourStep l.1 n.1 + neighbourStep l.2 n.2) / 2
  | _, _ => 0

/-- R52: the own advance increment, from the state before the sample and the state with the stroke taken. -/
def ownIncrement (before s : State) : Int :=
  if groupAdvancing s then
    match s.thu.quality with
    | .valid =>
      if before.thu.quality = .valid then max 0 (s.thu.stroke - before.thu.stroke) else 0
    | .substituted =>
      if before.thu.quality = .substituted then
        substitutedIncrement s.thu.neighbours (neighbourCounters s)
      else 0
    | .invalid => machineAdvance s.thu.set (contributions s)
  else 0

/-- R52, R53: the counters remembered for the next sample. -/
def rememberCounters (s : State) : State :=
  s.onThu fun t =>
    { t with
      set := contributions s, blind := machineBlind t.set (contributions s)
      neighbours := if t.quality = .substituted then neighbourCounters s else t.neighbours }

/-- R52: an increment added to the ring-advance counter and, where positive, handed to GRU. -/
def addIncrement (ds : Int) (s : State) : State :=
  let s' := setFlagIf (outside 0 250000 (s.thu.counter + ds)) .clamped
    (s.onThu fun t => { t with counter := clamp 0 250000 (t.counter + ds) })
  if 0 < ds then groutIncrement ds s' else s'

/-! ## The control law (R54 to R57) -/

/-- R57: the mean stroke over all contributing sectors, the own included. -/
def meanStroke (s : State) : Int :=
  meanDiv (s.thu.stroke :: (contributingRecords s).map fun r => r.stroke)

/-- R57: the skew hold applies at this sample. -/
def skewHold (s : State) : Bool :=
  decide (s.thu.quality = .valid) && decide (s.cfg.image.lSkew < s.thu.stroke - meanStroke s)

/-- R57: the condition SKEW. Outside ADVANCING no mean is formed and it is false (log 7). -/
def skewNow (s : State) : Bool :=
  groupAdvancing s && decide (s.thu.quality = .valid) &&
    decide (s.cfg.image.lSkewAlarm < |s.thu.stroke - meanStroke s|)

/-- R56: the effective rate target. -/
def effectiveTarget (s : State) : Int :=
  let capped := min s.thu.rateTarget (advanceCap s)
  if skewHold s then 0
  else if inForce s .cutterheadOvertorque then capped / 2
  else capped

/-- R56: the pressure reference before the clamp. -/
def rawPressure (s : State) : Int :=
  match s.thu.quality with
  | .valid =>
    s.thu.pRef + s.thu.bias + squot (s.cfg.image.kA * (effectiveTarget s - s.thu.rate)) 100
  | .substituted =>
    match substitutes s with
    | some (a, b) => (a.groupPressure + b.groupPressure) / 2
    | none => s.thu.pRef
  | .invalid => s.thu.pRef

/-- R56: the pressure reference of an ADVANCING group. A clamp of the neighbours' mean sets CLAMPED as the
clamp of a VALID sample does (log 11). -/
def pressureUpdate (s : State) : State :=
  if groupAdvancing s = false ∨ s.thu.quality = .invalid then s
  else
    writeGroupValve (setFlagIf (outside 0 s.cfg.image.pGroupMax (rawPressure s)) .clamped
      (s.onThu fun t => { t with pRef := clamp 0 s.cfg.image.pGroupMax (rawPressure s) }))

/-- R57: the condition SKEW taken at the sample. -/
def skewUpdate (s : State) : State :=
  s.onThu fun t => { t with skew := skewNow s }

/-! ## Stroke end and movements (R62, R67) -/

/-- R62. -/
def strokeEndTest (s : State) : State :=
  if groupAdvancing s ∧ s.thu.quality ≠ .invalid ∧ s.cfg.image.sEnd ≤ s.thu.stroke then
    setGroup (.moving .holding) (s.onThu fun t => { t with strokeEnd := true })
  else s

/-- R67: a RETRACTING group becomes RETRACTED and the slot empty. -/
def completeRetraction (s : State) : State :=
  if s.thu.group = .moving .retracting then emptySlot (setGroup (.moving .retracted) s) else s

/-- R67: a VALID stroke at or below S_retract. -/
def retractionTest (s : State) : State :=
  if s.thu.quality = .valid ∧ s.thu.stroke ≤ s.cfg.image.sRetract then completeRetraction s else s

/-- Section 3.2: everything THU does at the arrival of a stroke sample, in its order. -/
def strokeArrival (s : State) : State :=
  let taken := takeStroke s
  retractionTest (strokeEndTest (pressureUpdate (skewUpdate
    (addIncrement (ownIncrement s taken) (rememberCounters taken)))))

/-- R67: a group pressure sample. -/
def groupPressureArrival (s : State) : State :=
  if s.thu.group = .moving .extending ∧ inputValid s .groupPressure = true ∧
      s.cfg.image.pHold ≤ inputValue s .groupPressure then
    emptySlot (setGroup (.moving .holding) s)
  else s

/-! ## Advance enable (R58, R59) -/

/-- R138: balance valid, BAL's own value. -/
def balanceValid (s : State) : Bool :=
  s.bal.active && !s.bal.blind && decide (s.bal.conveyor ≠ .fault)

/-- R58: there is a CONVEYOR holder and it shows balance valid yes. -/
def holderBalanceValid (s : State) : Bool :=
  match s.ptb.conveyor.holder with
  | none => false
  | some h =>
    if h = s.own then balanceValid s
    else
      match served s h with
      | none => false
      | some r => match r.conveyorPart with | none => false | some c => c.balanceValid

/-- R58: the three conditions of the own advance enable. -/
def enableNow (s : State) : Bool :=
  decide (s.dsu.cutterhead = .running) && !classInForce s .hold && !classInForce s .stop &&
    holderBalanceValid s

/-- R59: the enables are up. -/
def enablesUp (s : State) : Bool :=
  s.thu.enable && (presentPeers s).all fun p => p.2.enable

/-- R63: the own stroke-end flag and that of every present sector peer are set. -/
def excavationEnded (s : State) : Bool :=
  s.thu.strokeEnd && (presentPeers s).all fun p => p.2.strokeEnd

/-! ## The request responder (R64 to R66) -/

/-- R64: the result a repeat was given the first time, none for a request that is no repeat. -/
def repeatAnswer (s : State) (source : Nat) (kind : RequestKind) (tag : Tag) : Option Answer :=
  if s.thu.slot = some { kind := kind, tag := tag, source := source } then some .accepted
  else
    match s.thu.lastAnswer with
    | none => none
    | some l => if l.source = source ∧ l.kind = kind ∧ l.tag = tag then some l.answer else none

/-- R65: the answer to a RETRACT_GROUP that is no repeat. -/
def retractAnswer (s : State) (source : Nat) (ring : RingNumber) : Answer :=
  if s.thu.slot.isSome then .busy
  else if s.phase = .building ∧ s.thu.group = .moving .holding ∧
      s.ptb.erector.holder = some source ∧ ring = s.ring then .accepted
  else .refused

/-- R66: the answer to an EXTEND_GROUP that is no repeat. -/
def extendAnswer (s : State) (source : Nat) (ring : RingNumber) : Answer :=
  if (s.thu.slot.map fun k => k.kind) = some .extend then .busy
  else if (s.thu.group = .moving .retracting ∨ s.thu.group = .moving .retracted) ∧
      s.ptb.erector.holder = some source ∧ ring = s.ring then .accepted
  else .refused

/-- R65, R66: the answer to a request that is no repeat. -/
def freshAnswer (s : State) (source : Nat) (kind : RequestKind) (ring : RingNumber) : Answer :=
  match kind with
  | .retract => retractAnswer s source ring
  | .extend => extendAnswer s source ring

/-- R65, R66: the movement an accepted request sets going. -/
def requestMotion : RequestKind → GroupMotion
  | .retract => .retracting
  | .extend => .extending

/-- R64 to R66: what a request that is no repeat does with its answer. -/
def takeAnswer (source : Nat) (kind : RequestKind) (tag : Tag) (a : Answer) (s : State) : State :=
  let s' := s.onThu fun t =>
    { t with lastAnswer := some { source := source, kind := kind, tag := tag, answer := a } }
  if a = .accepted then
    setGroup (.moving (requestMotion kind)) (s'.onThu fun t =>
      { t with slot := some { kind := kind, tag := tag, source := source } })
  else s'

/-- R64: a request, answered. -/
def answerRequest (source : Nat) (kind : RequestKind) (ring : RingNumber) (tag : Tag) (s : State) :
    State × Answer :=
  match repeatAnswer s source kind tag with
  | some a => (s, a)
  | none =>
    (takeAnswer source kind tag (freshAnswer s source kind ring) s, freshAnswer s source kind ring)

/-- R64: the answer to a frame goes out as a REPLY. -/
def replyRequest (source : Nat) (kind : RequestKind) (ring : RingNumber) (tag : Tag) (s : State) : State :=
  let r := answerRequest source kind ring tag s
  handFrame { dest := source, body := .reply tag r.2 } r.1

/-! ## Auto-close, phase changes, ring close, restart (R68 to R70) -/

/-- R68: the auto-close. -/
def autoClose (s : State) : State :=
  if s.thu.group = .moving .retracting ∨ s.thu.group = .moving .retracted then
    setGroup (.moving .extending) ((emptySlot s).onThu fun t => { t with orphaned := true })
  else s

/-- R68: BUILD_ORPHANED ends once the group is HOLDING and there is a present ERECTOR holder. -/
def orphanTest (s : State) : State :=
  if s.thu.group = .moving .holding ∧ holderHere s s.ptb.erector.holder = true then
    s.onThu fun t => { t with orphaned := false }
  else s

/-- R69: entry into HALTED. -/
def groupFreeze (s : State) : State :=
  match s.thu.group with
  | .moving m => setGroup (.frozen m) s
  | .frozen _ => s

/-- R69: departure from HALTED. -/
def groupThaw (s : State) : State :=
  (emptySlot (setGroup (.moving .holding) s)).onThu fun t => { t with pRef := s.cfg.image.pHold }

/-- R69: departure from BUILDING into a phase other than HALTED. -/
def groupLeaveBuilding (s : State) : State :=
  if s.thu.group = .moving .retracting ∨ s.thu.group = .moving .retracted ∨
      s.thu.group = .moving .extending then
    emptySlot (setGroup (.moving .holding) s)
  else emptySlot s

/-- R70. -/
def thrustRingClose (s : State) : State :=
  s.onThu fun t => { t with counter := 0, strokeEnd := false }

/-- Section 3.7's table: THU after a warm restart. What the table does not name, the stroke with its quality
and the four conditions, SKEW among them, stands until its rule forms it again (DEDUCED, log 29). -/
def thrustRestart (s : State) : State :=
  writeGroupValve (s.onThu fun t =>
    { ThuState.cold s.cfg.image.pHold with
      counter := t.counter, strokeEnd := t.strokeEnd, quality := t.quality, stroke := t.stroke
      rate := t.rate, history := t.history, strokeFault := t.strokeFault, denied := t.denied
      skew := t.skew, orphaned := t.orphaned })

end Sys2Proof.Machine
end

