-- ==== Sys2Proof/Machine/Build.lean ====
section
/-! DEFINITION. BSQ: ring building on the ERECTOR holder (04_ring_building), the ring close apart. -/

namespace Sys2Proof.Machine

open Sys2Proof

/-! ## The plan (R71) -/

def noPlacement : Placement :=
  { segment := 1, key := false, position := 0 }

def placementAt (img : Image) (k : Nat) : Placement :=
  img.plan.getD k noPlacement

/-- R71: the sector of a position. -/
def sectorOf (img : Image) (position : Nat) : Nat :=
  position * img.nS / 360

/-- The placement at the cursor. -/
def placementInHand (s : State) : Placement :=
  placementAt s.cfg.image s.bsq.cursor

/-- R82: the target of the placement at the cursor. -/
def cursorTarget (s : State) : Nat :=
  sectorOf s.cfg.image (placementInHand s).position

/-- R75: BSQ is active while the own station exercises the ERECTOR duty. -/
def bsqActive (s : State) : Bool :=
  s.ptb.exErector

/-- The target is the own station or a peer whose entry is present. -/
def targetHere (s : State) (target : Nat) : Bool :=
  target == s.own || present s target

/-! ## Build states (R76, R81) -/

/-- R76: ERECTOR_CMD on entry into a build state. -/
def erectorCmdOf (p : Placement) : BuildState → ErectorCmd
  | .travel => .travel p.position
  | .place => .place
  | .release => .release
  | .idle => .hold | .buildWait => .hold | .pick => .hold | .awaitRetract => .hold
  | .awaitExtend => .hold | .suspended => .hold

/-- R81, R89: an active build state other than IDLE and SUSPENDED: one with a step timer. -/
def BuildState.stepping : BuildState → Bool
  | .idle => false | .suspended => false | .buildWait => true | .pick => true | .travel => true
  | .awaitRetract => true | .place => true | .awaitExtend => true | .release => true

/-- R84: the outstanding retraction where the outstanding request is dropped or replaced: one whose
RETRACT_GROUP is still awaited keeps that one's issue time, from which its answer deadline is judged (log 9). -/
def keepDeadline (q : BsqState) : Option Retraction :=
  match q.request with
  | none => q.retraction
  | some r =>
    if r.kind = .retract ∧ r.accepted = false then
      q.retraction.map fun t => { t with deadline := q.answerWait }
    else q.retraction

/-- R81, R83, R89: the timers and conditions of BSQ at a change of build state. The conditions end when the
state leaves SUSPENDED, REQUEST_UNANSWERED also at IDLE, where the outstanding request goes too (R82). -/
def enterBuild (b : BuildState) (now : Time) (q : BsqState) : BsqState :=
  { q with
    state := b
    issued := false
    stepTimer := if b.stepping then some now else none
    gripTimer := none
    retractTimer := none
    extendTimer := none
    releaseTimer := if b = .release then some now else none
    answerWait := if b = .idle then none else q.answerWait
    request := if b = .idle then none else q.request
    retraction := if b = .idle then keepDeadline q else q.retraction
    timedOut := if q.state = .suspended then false else q.timedOut
    unanswered := if q.state = .suspended ∨ b = .idle then false else q.unanswered }

/-- R76, R81: a change of the build state. -/
def setBuild (b : BuildState) (s : State) : State :=
  writeErector (erectorCmdOf (placementInHand s) b) (s.onBsq (enterBuild b s.elapsed))

/-! ## Requests (R82 to R84) -/

/-- R84: the outstanding retraction once a request of this kind is issued. -/
def retractionAfterIssue (kind : RequestKind) (target : Nat) (q : BsqState) : Option Retraction :=
  match kind with
  | .retract => some { placement := q.cursor, target := target, proven := false, deadline := none }
  | .extend => keepDeadline q

/-- R82: the outstanding request set, awaited, and the next tag raised. -/
def issueRequest (kind : RequestKind) (target : Nat) (wait : Timer) (q : BsqState) : BsqState :=
  { q with
    request := some
      { kind := kind, tag := q.nextTag, target := target, ring := q.cursorRing, accepted := false }
    nextTag := q.nextTag + 1
    retraction := retractionAfterIssue kind target q
    answerWait := wait }

/-- R82: the REQUEST frame. -/
def requestFrame (kind : RequestKind) (target : Nat) (q : BsqState) : TxFrame :=
  { dest := target, body := .request kind q.cursorRing q.nextTag }

/-- R83: ACCEPTED: the answer wait stops and the movement wait of the step starts. -/
def markAccepted (s : State) : State :=
  s.onBsq fun q =>
    match q.request with
    | none => q
    | some r =>
      { q with
        request := some { r with accepted := true }
        answerWait := none
        unanswered := false
        retraction := q.retraction.map fun t =>
          { t with proven := t.proven || decide (r.kind = .retract) }
        retractTimer :=
          if r.kind = .retract ∧ q.state = .awaitRetract then some s.elapsed else q.retractTimer
        extendTimer :=
          if r.kind = .extend ∧ q.state = .awaitExtend then some s.elapsed else q.extendTimer }

/-- R84: the outstanding retraction becomes none; its placement, at the cursor with progress PLACED, is
COMPLETE. -/
def dropRetraction (q : BsqState) : BsqState :=
  match q.retraction with
  | none => q
  | some t =>
    { q with
      retraction := none
      progress := if t.placement = q.cursor ∧ q.progress = .placed then .complete else q.progress }

/-- R83, R84: BUSY or REFUSED settles the request; a RETRACT_GROUP so answered started no retraction. -/
def settleRefused (s : State) : State :=
  s.onBsq fun q =>
    match q.request with
    | none => q
    | some r =>
      let q' := { q with request := none, answerWait := none, unanswered := false }
      if r.kind = .retract then dropRetraction q' else q'

/-- R83: an answer of any result to the outstanding request. -/
def markAnswer (a : Answer) (s : State) : State :=
  match a with
  | .accepted => markAccepted s
  | .busy => settleRefused s
  | .refused => settleRefused s

/-- R82: a request issued to the own station, answered by THU in the same event, and its answer. -/
def issueLocal (kind : RequestKind) (s : State) : State × Answer :=
  let r := answerRequest s.own kind s.bsq.cursorRing s.bsq.nextTag
    (s.onBsq (issueRequest kind s.own none))
  (markAnswer r.2 r.1, r.2)

/-- R82: a request issued to a present peer. -/
def issueFrame (kind : RequestKind) (target : Nat) (s : State) : State :=
  (handFrame (requestFrame kind target s.bsq) s).onBsq (issueRequest kind target (some s.elapsed))

/-- R90: the target's group, as its record or the own THU shows it, is EXTENDING or HOLDING. -/
def groupComingBack (s : State) (target : Nat) : Bool :=
  let back (g : Group) : Bool := decide (g = .moving .extending) || decide (g = .moving .holding)
  if target = s.own then back s.thu.group
  else match served s target with
    | none => false
    | some r => back r.group

/-- R90: EXTEND_GROUP to the target of the outstanding retraction, where one may be sent. -/
def sendBack (s : State) : State :=
  match s.bsq.retraction with
  | none => s
  | some t =>
    if s.bsq.state ≠ .suspended ∨ s.phase = .halted ∨ targetHere s t.target = false ∨
        groupComingBack s t.target = true then s
    else if t.target = s.own then (issueLocal .extend s).1
    else issueFrame .extend t.target s

/-- R89, R90: an active build state other than IDLE and SUSPENDED becomes SUSPENDED. -/
def suspend (s : State) : State :=
  if s.bsq.state.stepping then sendBack (setBuild .suspended s) else s

/-- R81, R85, R87: suspension with cause BUILD_TIMEOUT. -/
def suspendTimedOut (s : State) : State :=
  suspend (s.onBsq fun q => { q with timedOut := true })

/-- R85, R87: how a waiting step takes an answer: any but ACCEPTED suspends the build. -/
def stepAnswer (a : Answer) (s : State) : State :=
  match a with
  | .accepted => s
  | .busy =>
    if s.bsq.state = .awaitRetract ∨ s.bsq.state = .awaitExtend then suspend s else s
  | .refused =>
    if s.bsq.state = .awaitRetract ∨ s.bsq.state = .awaitExtend then suspend s else s

/-! ## The steps (R78 to R80, R85 to R88) -/

/-- R79: FEEDER_READY read in PICK. -/
def pickTest (s : State) : State :=
  if s.bsq.state = .pick ∧ s.bsq.gripTimer = none ∧ inputTrue s .feederReady = true then
    writeErector (.grip (placementInHand s).segment) (s.onBsq fun q =>
      { q with progress := .gripped, gripTimer := some s.elapsed })
  else s

/-- R79: PICK entered. -/
def enterPick (s : State) : State :=
  pickTest (setBuild .pick s)

/-- R78: every present sector peer's record shows drive phase BUILDING. -/
def allBuilding (s : State) : Bool :=
  (presentPeers s).all fun p => decide (p.2.phase = .building)

/-- R78: the test of BUILD_WAIT. -/
def buildWaitTest (s : State) : State :=
  if s.bsq.state = .buildWait ∧ allBuilding s = true then
    match s.bsq.progress with
    | .new => enterPick s
    | .gripped => setBuild .travel s
    | .placed => setBuild .travel s
    | .complete => setBuild .release s
  else s

/-- R78: BUILD_WAIT entered. -/
def enterBuildWait (s : State) : State :=
  buildWaitTest (setBuild .buildWait s)

/-- R80: ERECTOR_AT_POSITION read in TRAVEL. -/
def travelTest (s : State) : State :=
  if s.bsq.state = .travel ∧ inputTrue s .atPosition = true then setBuild .awaitRetract s else s

/-- R85: the request of AWAIT_RETRACT issued. -/
def issueRetract (s : State) : State :=
  if cursorTarget s = s.own then
    let r := issueLocal .retract (s.onBsq fun q => { q with issued := true })
    stepAnswer r.2 r.1
  else issueFrame .retract (cursorTarget s) (s.onBsq fun q => { q with issued := true })

/-- R85: the permission test of AWAIT_RETRACT. -/
def retractTest (s : State) : State :=
  if bsqActive s = false ∨ s.bsq.state ≠ .awaitRetract ∨ s.bsq.issued = true then s
  else if targetHere s (cursorTarget s) = false then suspend s
  else if inForce s .sectorMissing = true ∨ s.bsq.retraction.isSome = true then s
  else issueRetract s

/-- R87: AWAIT_EXTEND entered: EXTEND_GROUP issued, NO_STATION being a refusal. So it is too where the outstanding
retraction is already none, a counted STATUS having shown HOLDING in PLACE (DESIGN CHOICE, log 40). -/
def enterAwaitExtend (s : State) : State :=
  let s' := setBuild .awaitExtend s
  if cursorTarget s = s.own then
    let r := issueLocal .extend s'
    stepAnswer r.2 r.1
  else if present s (cursorTarget s) then issueFrame .extend (cursorTarget s) s'
  else suspend s'

/-- R86: PLACEMENT_DONE read in PLACE. -/
def placeTest (s : State) : State :=
  if s.bsq.state = .place ∧ inputTrue s .placementDone = true then
    enterAwaitExtend (s.onBsq fun q => { q with progress := .placed })
  else s

/-- R84, R87: the outstanding retraction becomes none, which ends AWAIT_EXTEND. R87 has the state end when it becomes
none, and has the group seen HOLDING complete the step; where it was none at the entry to AWAIT_EXTEND the two differ.
It cannot become none then, so the model ends the state by no HOLDING: T_extend, the step timer or a refusal suspends
it (DESIGN CHOICE, log 40). -/
def clearRetraction (s : State) : State :=
  let s' := s.onBsq dropRetraction
  if s.bsq.retraction.isSome ∧ s.bsq.state = .awaitExtend then setBuild .release s' else s'

/-! ## The target's group seen (R83 to R85, R87) -/

/-- R83: the group state a request sets going. -/
def movementShown (kind : RequestKind) (g : Group) : Bool :=
  match kind with
  | .retract =>
    decide (g = .moving .retracting) || decide (g = .moving .retracted) ||
      decide (g = .frozen .retracting) || decide (g = .frozen .retracted)
  | .extend => decide (g = .moving .extending) || decide (g = .moving .holding)

/-- R83: a counted STATUS from the target counts as acceptance. -/
def statusAccepts (q : BsqState) (j : Nat) (r : StatusRecord) : Bool :=
  match q.request with
  | none => false
  | some o =>
    o.target == j && !o.accepted &&
      ((decide (r.pendingKind = some o.kind) && decide (r.pendingTag = o.tag)) ||
        movementShown o.kind r.group)

/-- R82, R85: the target group seen RETRACTED settles an accepted RETRACT_GROUP and ends AWAIT_RETRACT. -/
def retractedSeen (j : Nat) (g : Group) (s : State) : State :=
  match s.bsq.request with
  | none => s
  | some o =>
    if o.kind = .retract ∧ o.target = j ∧ o.accepted = true ∧ g = .moving .retracted then
      let settled := s.onBsq fun q => { q with request := none }
      if s.bsq.state = .awaitRetract then setBuild .place settled else settled
    else s

/-- R84: a HOLDING counts, after acceptance or after the answer deadline. -/
def retractionProven (now : Time) (t : Retraction) : Bool :=
  t.proven || due t.deadline Config.answerSpan now

/-- R82, R84, R87: the target group seen HOLDING: an accepted EXTEND_GROUP is settled and the outstanding
retraction becomes none. With none outstanding nothing else follows (log 40). -/
def holdingSeen (j : Nat) (g : Group) (s : State) : State :=
  if g = .moving .holding then
    let s' := s.onBsq fun q =>
      { q with request := q.request.filter fun o =>
          !(decide (o.kind = .extend) && o.target == j && o.accepted) }
    match s.bsq.retraction with
    | none => s'
    | some t =>
      if t.target = j ∧ retractionProven s.elapsed t = true then clearRetraction s' else s'
  else s

/-- R83 to R87: a counted STATUS from a sector peer, as BSQ takes it. -/
def targetSeen (j : Nat) (r : StatusRecord) (s : State) : State :=
  let s' := if statusAccepts s.bsq j r then markAccepted s else s
  holdingSeen j r.group (retractedSeen j r.group s')

/-- R84, R85: the own group's state, where the target is the own sector, read wherever an event ends with BSQ
active. R84 has a CHANGE to HOLDING clear the outstanding retraction. Where that change fell while BSQ was
inactive the state HOLDING clears it once BSQ is active again (DESIGN CHOICE, log 34). -/
def ownGroupSeen (s : State) : State :=
  if bsqActive s then
    holdingSeen s.own s.thu.group (retractedSeen s.own s.thu.group s)
  else s

/-! ## Notices and events -/

/-- R96: a sector's substitution mark. -/
def markSubstituted (j : Nat) (s : State) : State :=
  s.onBsq fun q => { q with substituted := putAt q.substituted j true }

/-- R78, R83 to R87, R96: the notice of a counted STATUS. -/
def buildCountedStatus (j : Nat) (r : StatusRecord) (s : State) : State :=
  if bsqActive s then
    buildWaitTest (targetSeen j r (if r.quality = .substituted then markSubstituted j s else s))
  else s

/-- R85 to R87: the step depends on the target's entry staying present. -/
def needsTarget (s : State) : Bool :=
  decide (s.bsq.state = .place) || decide (s.bsq.state = .awaitExtend) ||
    (decide (s.bsq.state = .awaitRetract) && s.bsq.issued)

/-- R90: the outstanding retraction's target is this sector. -/
def retractionTarget (s : State) (j : Nat) : Bool :=
  match s.bsq.retraction with
  | none => false
  | some t => t.target == j

/-- R78, R85 to R87, R90: the notice of a presence change. -/
def buildPresence (j : Nat) (s : State) : State :=
  if bsqActive s then
    if present s j then buildWaitTest (if retractionTarget s j then sendBack s else s)
    else buildWaitTest (if needsTarget s ∧ cursorTarget s = j then suspend s else s)
  else s

/-- R83: a REPLY, where it answers the outstanding request. -/
def replyArrival (source : Nat) (tag : Tag) (a : Answer) (s : State) : State :=
  match s.bsq.request with
  | none => s
  | some o =>
    if bsqActive s = true ∧ o.accepted = false ∧ o.target = source ∧ o.tag = tag then
      stepAnswer a (markAnswer a s)
    else s

/-- R83: the request is settled unanswered: a RETRACT_GROUP has reached its answer deadline. -/
def unansweredMark (q : BsqState) : BsqState :=
  match q.request with
  | none => { q with answerWait := none }
  | some r =>
    { q with
      request := none
      answerWait := none
      unanswered := true
      retraction := q.retraction.map fun t =>
        { t with proven := t.proven || decide (r.kind = .retract) } }

/-- R83, R89, R90: the answer wait expires, which suspends every active build state other than IDLE and SUSPENDED; the
expiry of an EXTEND_GROUP sent in SUSPENDED sends the next. -/
def answerExpires (s : State) : State :=
  let extendSent := (s.bsq.request.map fun r => r.kind) = some .extend
  let s' := s.onBsq unansweredMark
  if s.bsq.state.stepping then suspend s'
  else if extendSent then sendBack s'
  else s'

/-- R77: the cursor check of BUILD, which starts the plan afresh in another ring. -/
def cursorCheck (s : State) : State :=
  if s.bsq.cursorRing = s.ring then s
  else s.onBsq fun q =>
    { q with
      cursor := 0, progress := .new, cursorRing := s.ring, buildStart := none, placed := 0
      substituted := List.replicate 8 false }

/-- R77: BUILD taken on the holder. -/
def beginBuild (s : State) : State :=
  if s.bsq.state = .idle then
    enterBuildWait ((cursorCheck s).onBsq fun q =>
      { q with buildStart := some (q.buildStart.getD s.elapsed) })
  else s

/-! ## Activity and restart (R75) -/

/-- R75: BSQ becomes active in build state IDLE with what it kept. -/
def buildActivate (s : State) : State :=
  setBuild .idle s

/-- R75, R81, R83: BSQ becomes inactive. -/
def buildDeactivate (s : State) : State :=
  (setBuild .idle s).onBsq fun q => { q with timedOut := false, unanswered := false }

/-- R75's table: BSQ after a warm restart. -/
def buildRestart (s : State) : State :=
  writeErector .hold (s.onBsq fun q =>
    { BsqState.cold with
      cursor := q.cursor, progress := q.progress, cursorRing := q.cursorRing
      retraction := keepDeadline q, nextTag := q.nextTag, buildStart := q.buildStart, placed := q.placed
      substituted := q.substituted })

end Sys2Proof.Machine
end

