-- ==== Sys2Proof/Machine/Balance.lean ====
section
/-! DEFINITION. BAL: the face balance and the screw conveyor (06_face_balance_and_muck_removal). -/

namespace Sys2Proof.Machine

open Sys2Proof

/-! ## The conveyor (R121, R123, R125) -/

/-- R121: GATE_CLOSED_FB reads true in RUNNING: the screw waits for its gate. -/
def gateWait (s : State) : Bool :=
  inputTrue s .gateClosed

/-- R121: SCREW_REF and GATE_CMD written from the conveyor state. -/
def writeConveyor (s : State) : State :=
  writeGate (decide (s.bal.conveyor = .running))
    (writeScrew (if s.bal.conveyor = .running ∧ gateWait s = false then s.bal.nCmd else 0) s)

/-- R121: a change of the conveyor state; n_cmd becomes 0 at once on entry into STOPPED, HOLDING or FAULT. -/
def setConveyor (c : Conveyor) (s : State) : State :=
  writeConveyor (s.onBal fun b => { b with conveyor := c, nCmd := if c = .running then b.nCmd else 0 })

/-- R123: a hold cause is present. -/
def holdCause (b : BalState) : Bool :=
  b.overdrawn || b.pLow || !b.gateOpen || b.stopHold

/-- R123: the causes tested. -/
def holdTest (s : State) : State :=
  if s.bal.conveyor = .running ∧ holdCause s.bal = true then setConveyor .holding s
  else if s.bal.conveyor = .holding ∧ holdCause s.bal = false then setConveyor .running s
  else s

/-- R125: an encoder that is not VALID sends the conveyor to FAULT. -/
def encoderTest (s : State) : State :=
  if s.bal.active = true ∧ inputValid s .screwEncoder = false ∧ s.bal.conveyor ≠ .fault then
    setConveyor .fault s
  else s

/-- R125: while the channel is not VALID the accumulator is 0. -/
def clearUnread (s : State) : State :=
  if inputValid s .screwEncoder then s else s.onBal fun b => { b with acc := 0 }

/-- R125: the report of a change of the encoder's validity. -/
def encoderReport (s : State) : State :=
  if s.bal.active then clearUnread (encoderTest s) else s

/-- R125, R128: a signed count arrival; BAL discards it while inactive or the channel not VALID. -/
def encoderArrival (count : Int) (s : State) : State :=
  if s.bal.active = true ∧ inputValid s .screwEncoder = true then
    s.onBal fun b => { b with acc := b.acc + count }
  else s

/-! ## Activity (R120) -/

/-- R120: BAL becomes active. The timer runs only with the end-of-listen mark set. The rule is silent on the
encoder accumulator, which starts at 0 (DESIGN CHOICE, log 35). -/
def balanceActivate (s : State) : State :=
  setConveyor (if inputValid s .screwEncoder then .stopped else .fault) (s.onBal fun b =>
    { b with
      active := true
      timer := if s.ptb.endOfListen then some s.elapsed else none
      stopHold := decide (s.phase = .halted) || s.alu.estop
      acc := 0
      set := List.replicate 8 none
      blind := true })

/-- R120: BAL becomes inactive. The encoder accumulator, the stop hold, the machine-advance set and the blind
flag are neither in the rule's list of what is reset nor in its list of what is kept: the accumulator becomes 0
and the other three stand (DESIGN CHOICE, log 35). -/
def balanceDeactivate (s : State) : State :=
  setConveyor .stopped (s.onBal fun b =>
    { b with
      active := false, timer := none, acc := 0, overCount := 0, recoverCount := 0, pMean := 0, nP := 0
      overdrawn := false, owed := false, pLow := false, pHigh := false, pressureBlind := false })

/-! ## The evaluation (R128 to R138) -/

/-- R128: the two measured inputs, clamped: ΔA and Δc. -/
def evalAdvance (s : State) : Int :=
  machineAdvance s.bal.set (contributions s)

/-- R128: ΔA formed, the set replaced, the blind flag set or cleared, the accumulator emptied. -/
def evalInputs (s : State) : State :=
  setFlagIf (outside 0 100000 (evalAdvance s) || outside (-65536) 65536 s.bal.acc) .clamped
    (s.onBal fun b =>
      { b with
        set := contributions s, blind := machineBlind b.set (contributions s), acc := 0 })

/-- R129: e, the spoil excavated in millionths of a ml. -/
def spoilCut (img : Image) (dA remE : Int) : Int :=
  img.aFace * dA * img.bulking + remE

/-- R130: x, the spoil extracted in 4,096ths of a ml. -/
def spoilDrawn (img : Image) (dc remX : Int) : Int :=
  img.vS * dc + remX

/-- R131: the range of the account and the ring totals. -/
def accountClamp (v : Int) : Int :=
  clamp (-2147483647) 2147483647 v

def accountOutside (v : Int) : Bool :=
  outside (-2147483647) 2147483647 v

/-- R129 to R131: stages 1 to 3, with the clamped ΔA and Δc. -/
def postAccount (dA dc : Int) (s : State) : State :=
  let e := spoilCut s.cfg.image dA s.bal.remE
  let x := spoilDrawn s.cfg.image dc s.bal.remX
  setFlagIf
    (accountOutside (s.bal.account + e / 1000000 - x / 4096) ||
      accountOutside (s.bal.eRing + e / 1000000) || accountOutside (s.bal.xRing + x / 4096)) .saturated
    (s.onBal fun b =>
      { b with
        remE := e % 1000000
        remX := x % 4096
        account := accountClamp (b.account + e / 1000000 - x / 4096)
        eRing := accountClamp (b.eRing + e / 1000000)
        xRing := accountClamp (b.xRing + x / 4096) })

/-- R132: the test for over-extraction. -/
def overTest (img : Image) (b : BalState) : BalState :=
  if b.overdrawn then
    if -img.lOver + img.lHyst ≤ b.account then
      if 2 ≤ b.recoverCount + 1 then { b with overdrawn := false, overCount := 0, recoverCount := 0 }
      else { b with recoverCount := b.recoverCount + 1 }
    else { b with recoverCount := 0 }
  else if b.account < -img.lOver then
    if 2 ≤ b.overCount + 1 then { b with overdrawn := true, overCount := 0, recoverCount := 0 }
    else { b with overCount := b.overCount + 1 }
  else { b with overCount := 0 }

/-- R133: the test for under-extraction. -/
def underTest (img : Image) (b : BalState) : BalState :=
  { b with
    owed :=
      if img.lUnder < b.account then true
      else if b.account ≤ img.lUnder - img.lHyst then false
      else b.owed }

/-- R134: the pressures of the cells taken. -/
def chamberCells (s : State) : List Int :=
  (if inputValid s .chamberPressure then [inputValue s .chamberPressure] else []) ++
    (presentPeers s).filterMap fun p => if p.2.chamberValid then some p.2.chamberPressure else none

/-- R136: the pressure term. -/
def pressureTerm (img : Image) (pMean pTarget : Int) : Int :=
  squot (img.kP * (pMean - pTarget)) 100

/-- R135: the face pressure conditions at a mean pressure. -/
def faceTest (b : BalState) : BalState :=
  { b with
    pLow :=
      if b.pMean < b.pTarget - b.band then true
      else if b.pTarget - b.band / 2 ≤ b.pMean then false
      else b.pLow
    pHigh :=
      if b.pTarget + b.band < b.pMean then true
      else if b.pMean ≤ b.pTarget + b.band / 2 then false
      else b.pHigh }

/-- R134, R135: stage 5. The pressure term is formed at every evaluation that is not pressure-blind, so the
held value is that of the last such evaluation (log 8). -/
def pressureStage (s : State) : State :=
  if (chamberCells s).length < 2 then s.onBal fun b => { b with pressureBlind := true }
  else
    s.onBal fun b =>
      faceTest
        { b with
          pressureBlind := false
          pMean := meanDiv (chamberCells s)
          nP := pressureTerm s.cfg.image (meanDiv (chamberCells s)) b.pTarget }

/-- R136: the stroke rates of the contributing sectors, the own included. -/
def contributingRates (s : State) : List Int :=
  (if s.thu.quality = .valid then [s.thu.rate] else []) ++ (contributingRecords s).map fun r => r.rate

/-- R136: the mean advance rate; 0 with no contributing sector. -/
def advanceRate (s : State) : Int :=
  (max 0 (contributingRates s).sum) / (contributingRates s).length

/-- R136: the feed-forward term. -/
def feedForward (s : State) : Int :=
  advanceRate s * s.cfg.image.aFace * s.cfg.image.bulking * 6 / (1000 * s.cfg.image.vS)

/-- R136: the balance term. -/
def balanceTerm (s : State) : Int :=
  squot (s.cfg.image.kB * s.bal.account) 1000000

/-- R136, R137: the aim before its clamp. -/
def rawAim (s : State) : Int :=
  if s.bal.manual then s.bal.manualRef else feedForward s + s.bal.nP + balanceTerm s

/-- R137: n_cmd moved toward the aim by at most the slew limit. -/
def slewed (img : Image) (aim n : Int) : Int :=
  n + clamp (-img.slew) img.slew (aim - n)

/-- R121, R136, R137: the new n_cmd: 0 while the screw waits for its gate. -/
def nextNcmd (s : State) : Int :=
  if gateWait s then 0 else slewed s.cfg.image (clamp 0 s.cfg.image.nMax (rawAim s)) s.bal.nCmd

/-- R121, R137: SCREW_REF written in RUNNING: 0 at each evaluation while the screw waits for its gate, and
otherwise n_cmd when it changes. -/
def writeChangedScrew (s : State) : State :=
  if gateWait s = false ∧ s.fpt.written.screw = s.bal.nCmd then s else writeScrew s.bal.nCmd s

/-- R136, R137: stage 6, in RUNNING only. -/
def screwStage (s : State) : State :=
  if s.bal.conveyor = .running then
    writeChangedScrew (setFlagIf (outside 0 s.cfg.image.nMax (rawAim s)) .clamped
      (s.onBal fun b => { b with nCmd := nextNcmd s }))
  else s

/-- R128 to R138: the seven stages. Stage 7's balance valid is `balanceValid`, formed from the blind flag and
the conveyor as they stand. -/
def balanceEvaluation (s : State) : State :=
  let dA := clamp 0 100000 (evalAdvance s)
  let read := clearUnread (encoderTest s)
  let dc := clamp (-65536) 65536 read.bal.acc
  let posted := postAccount dA dc (evalInputs read)
  let tested := posted.onBal fun b => underTest posted.cfg.image (overTest posted.cfg.image b)
  screwStage (holdTest (pressureStage tested))

/-! ## Ring close, stop hold, restart -/

/-- R123: the stop hold set. -/
def setStopHold (s : State) : State :=
  if s.bal.active then holdTest (s.onBal fun b => { b with stopHold := true }) else s

/-- R123: the stop hold cleared at the RESUME. -/
def clearStopHold (s : State) : State :=
  if s.bal.active then holdTest (s.onBal fun b => { b with stopHold := false }) else s

/-- R139. -/
def balanceRingClose (s : State) : State :=
  s.onBal fun b => { b with eRing := 0, xRing := 0, restarted := false }

/-- R140: BAL after a warm restart, before the duty evaluation of the LISTEN that follows. -/
def balanceRestart (s : State) : State :=
  setConveyor (if inputValid s .screwEncoder then .stopped else .fault)
    (s.onBal fun b =>
      { BalState.cold s.cfg.image.pTargetInit s.cfg.image.bandInit with
        active := b.active, eRing := b.eRing, xRing := b.xRing, restarted := true })

end Sys2Proof.Machine
end

