-- ==== Sys2Proof/Machine/Phases.lean ====
section
/-! DEFINITION. The drive phase and what the blocks do when it changes (R33, R61, R69, R73, R94, R147, R156),
and the duty evaluation (R13 to R15). -/

namespace Sys2Proof.Machine

open Sys2Proof

/-! ## Changes of phase -/

/-- R73: the holder-seen mark is clear whenever the phase enters or leaves BUILDING. -/
def clearHolderSeen (s : State) : State :=
  s.onBsq fun q => { q with holderSeen := false }

/-- R61: a phase other than ADVANCING and PAUSED, with pause cause none. -/
def plainPhase (p : Phase) (s : State) : State :=
  (s.setPhase p).setPauseCause .none

/-- R69, R73: the phase leaves BUILDING for IDLE. -/
def endBuilding (s : State) : State :=
  groupLeaveBuilding (clearHolderSeen (plainPhase .idle s))

/-- R72, R33: the phase enters BUILDING. -/
def enterBuilding (s : State) : State :=
  driveStandstill (clearHolderSeen (plainPhase .building s))

/-- R147: the phase becomes HALTED, and the blocks act on it. -/
def enterHalted (s : State) : State :=
  let halted := clearHolderSeen (plainPhase .halted s)
  setStopHold (suspend (groupFreeze (driveStandstill halted)))

/-- R60, R59: the phase becomes ADVANCING and, with the stroke-end flag clear, the group too. -/
def enterAdvancing (s : State) : State :=
  let s' := (s.setPhase .advancing).setPauseCause .none
  if s.thu.strokeEnd then s' else setGroup (.moving .advancing) s'

/-- A group that is ADVANCING goes to HOLDING. -/
def groupStop (s : State) : State :=
  if groupAdvancing s then setGroup (.moving .holding) s else s

/-- R59, R61: the phase becomes PAUSED. -/
def enterPaused (c : PauseCause) (s : State) : State :=
  groupStop ((s.setPhase .paused).setPauseCause c)

/-- R156: the departure from HALTED. -/
def leaveHalted (s : State) : State :=
  let idle := plainPhase .idle (s.onAlu fun a => { a with estop := false })
  clearStopHold (sendBack (groupThaw (untrip idle)))

/-- R94: the ring close of a station whose ring number has just risen. -/
def closeRing (s : State) : State :=
  let closed := driveRingClose (groutRingClose (thrustRingClose s))
  let balanced := if s.bal.active then balanceRingClose closed else closed
  if s.phase = .building then endBuilding balanced else balanced

/-! ## The duty evaluation (R13 to R15) -/

/-- R14: a liveness whose claims count. -/
def claiming (e : PeerEntry) : Bool :=
  match e.liveness with
  | .joining => true | .live => true | .silent => true | .self => false | .absent => false
  | .lost => false | .mismatched => false

/-- R14: the claimant set of a duty. -/
def claimants (s : State) (strap : Bool) (claim : Claims → Bool) : List Nat :=
  sectorNumbers.filter fun j =>
    if j = s.own then strap else claiming (peerOf s j) && claim (peerOf s j).claims

/-- R14, R16: the outcome of the evaluation for one duty. -/
def dutyOutcome (s : State) (claimed : List Nat) : DutyOutcome :=
  match claimed with
  | [] => { holder := none, conflict := false, missing := true }
  | [k] =>
    { holder := some k, conflict := false
      missing := decide (k ≠ s.own) && decide ((peerOf s k).liveness = .joining) }
  | _ => { holder := none, conflict := true, missing := false }

def erectorOutcome (s : State) : DutyOutcome :=
  dutyOutcome s (claimants s s.cfg.straps.erector fun c => c.erector)

def conveyorOutcome (s : State) : DutyOutcome :=
  dutyOutcome s (claimants s s.cfg.straps.conveyor fun c => c.conveyor)

/-- R14: the outcomes recorded. -/
def recordDuties (s : State) : State :=
  s.onPtb fun p =>
    { p with
      erector := erectorOutcome s
      conveyor := conveyorOutcome s
      exErector := decide ((erectorOutcome s).holder = some s.own)
      exConveyor := decide ((conveyorOutcome s).holder = some s.own) }

/-- R15: BSQ follows a change of the ERECTOR duty. -/
def followErector (was : Bool) (s : State) : State :=
  if s.ptb.exErector = was then s
  else if s.ptb.exErector then buildActivate s
  else buildDeactivate s

/-- R15: BAL follows a change of the CONVEYOR duty. -/
def followConveyor (was : Bool) (s : State) : State :=
  if s.ptb.exConveyor = was then s
  else if s.ptb.exConveyor then balanceActivate s
  else balanceDeactivate s

/-- R68: the ERECTOR holder record has changed. -/
def followHolder (was : Option Nat) (s : State) : State :=
  if s.ptb.erector.holder = was then s else autoClose s

/-- R14: the duty evaluation, for both duties together, and what follows it. -/
def evalDuties (s : State) : State :=
  followConveyor s.ptb.exConveyor (followErector s.ptb.exErector
    (followHolder s.ptb.erector.holder (recordDuties s)))

end Sys2Proof.Machine
end

