-- ==== Sys2Proof/Machine/Alarms.lean ====
section
/-! DEFINITION. ALU: the conditions the blocks hand it, the moves of the entries, the classes, the E-stop
condition (07_alarms_holds_and_emergency_stop); and `settle`, which closes every event. -/

namespace Sys2Proof.Machine

open Sys2Proof

/-! ## Conditions -/

/-- R17: some sector below N_s other than the own has an entry that is not present. -/
def sectorMissing (s : State) : Bool :=
  sectorNumbers.any fun j => decide (j < s.cfg.image.nS) && decide (j ≠ s.own) && !present s j

/-- R18: some sector entry is MISMATCHED. -/
def anyMismatched (s : State) : Bool :=
  s.ptb.peers.any fun e => decide (e.liveness = .mismatched)

/-- The condition of a kind as its owning block holds it (the rules of R149's table). PTB's are false until
the end-of-listen mark is set (R4); BAL's are false while it is inactive (R120). -/
def conditionNow (s : State) : AlarmKind → Bool
  | .sectorMissing => s.ptb.endOfListen && sectorMissing s
  | .consoleLost => s.ptb.endOfListen && decide (s.ptb.console.liveness = .lost)
  | .dutyConflict => s.ptb.endOfListen && (s.ptb.erector.conflict || s.ptb.conveyor.conflict)
  | .dutyMissing => s.ptb.endOfListen && (s.ptb.erector.missing || s.ptb.conveyor.missing)
  | .configMismatch => s.ptb.endOfListen && anyMismatched s
  | .duplicateStation => s.alu.duplicate.isSome
  | .lineFault => s.lif.lineFault
  | .cutterheadOvertorque => s.dsu.overtorque
  | .cutterheadJam => s.dsu.jam
  | .motorOvertemp => s.dsu.throttle
  | .strokeSensorFault => s.thu.strokeFault
  | .substitutionDenied => s.thu.denied
  | .skew => s.thu.skew
  | .groupPressureLimit => groupAdvancing s && decide (s.thu.pRef = s.cfg.image.pGroupMax)
  | .buildTimeout => s.bsq.timedOut
  | .requestUnanswered => s.bsq.unanswered
  | .buildOrphaned => s.thu.orphaned
  | .groutLag => s.gru.lag
  | .groutBlocked => decide (s.gru.line = .blocked)
  | .groutNeedsFlush => decide (s.gru.line = .needsFlush)
  | .groutAbsent => decide (s.gru.line = .absent)
  | .facePressureLow => s.bal.active && s.bal.pLow
  | .facePressureHigh => s.bal.active && s.bal.pHigh
  | .overextraction => s.bal.active && s.bal.overdrawn
  | .underextraction => s.bal.active && s.bal.owed
  | .balanceBlind => s.bal.active && s.bal.blind
  | .pressureBlind => s.bal.active && s.bal.pressureBlind
  | .screwFault => s.bal.active && decide (s.bal.conveyor = .fault)
  | .estop => s.alu.estop
  | .arith => escalated s.cfg.image.escalation s.alu.flags

/-! ## Moves of an entry (R143 to R145) -/

/-- R143: an entry after a change of its condition, with the persistences of its kind. -/
def entryChanged (p : Persistence) (now : Time) (cond : Bool) (e : AlarmEntry) : AlarmEntry :=
  match e.state, cond with
  | .inactive, true =>
    if p.raise = 0 then { state := .active, cond := true, timer := none, latch := true }
    else { e with state := .pendingRaise, cond := true, timer := some now }
  | .pendingRaise, false => { e with state := .inactive, cond := false, timer := none }
  | .active, false =>
    if p.clear = 0 then { e with state := .inactive, cond := false, timer := none }
    else { e with state := .pendingClear, cond := false, timer := some now }
  | .pendingClear, true => { state := .active, cond := true, timer := none, latch := true }
  | .inactive, false => { e with cond := false }
  | .pendingRaise, true => { e with cond := true }
  | .active, true => { e with cond := true }
  | .pendingClear, false => { e with cond := false }

/-- R143: an entry whose persistence timer has expired. -/
def entryExpired (e : AlarmEntry) : AlarmEntry :=
  match e.state with
  | .pendingRaise => { e with state := .active, timer := none, latch := true }
  | .pendingClear => { e with state := .inactive, timer := none }
  | .inactive => e
  | .active => e

/-- R149: the persistences a kind's entry runs with. -/
def persistenceOf (img : Image) (k : AlarmKind) : Persistence :=
  { raise := raisePersistence img k, clear := clearPersistence img k }

/-- R144: what a move of an entry hands LIF, and R34: the trip when CUTTERHEAD_JAM becomes ACTIVE. -/
def moveEntry (k : AlarmKind) (e : AlarmEntry) (s : State) : State :=
  let s' := setEntry k e s
  if inForce s k = false ∧ entryInForce e = true then
    let framed := handFrame (alarmFrame s.cfg.image k true) s'
    if k = .cutterheadJam then tripCutterhead framed else framed
  else if inForce s k = true ∧ entryInForce e = false then
    handFrame (alarmFrame s.cfg.image k false) s'
  else s'

/-- R143: the entry of a kind moves where its condition has changed. ALU holds no entries while inactive. -/
def syncKind (k : AlarmKind) (s : State) : State :=
  if s.alu.active = false ∨ conditionNow s k = (entryOf s k).cond then s
  else
    moveEntry k
      (entryChanged (persistenceOf s.cfg.image k) s.elapsed (conditionNow s k) (entryOf s k)) s

/-- Every kind, in the order of the numbers. -/
def syncKinds : List AlarmKind → State → State
  | [], s => s
  | k :: rest, s => syncKinds rest (syncKind k s)

/-! ## Classes and forcing (R146 to R148) -/

/-- R147: a phase an alarm of STOP class or the E-stop condition makes HALTED. -/
def Phase.halts : Phase → Bool
  | .idle => true | .advancing => true | .paused => true | .building => true
  | .load => false | .probe => false | .listen => false | .halted => false | .configFault => false

/-- R147, R154. -/
def haltTest (s : State) : State :=
  if s.phase.halts = true ∧ (stopInForce s = true ∨ s.alu.estop = true) then enterHalted s else s

/-- R148: the forcing as it stands now, applied by the ports and by the flush timer (R114). -/
def forcingSync (s : State) : State :=
  if s.fpt.forced = forcingNow s then s
  else
    refreshAll (flushForcing (forcingNow s) (s.onFpt fun f => { f with forced := forcingNow s }))

/-! ## The advance gate as events end (R58, R59, R63) -/

/-- R58: the own advance enable re-evaluated. -/
def enableSync (s : State) : State :=
  s.onThu fun t => { t with enable := enableNow s }

/-- R59: the enables tested. -/
def gateTest (s : State) : State :=
  if s.phase = .advancing ∧ enablesUp s = false then enterPaused .automatic s
  else if s.phase = .paused ∧ s.pauseCause = .automatic ∧ enablesUp s = true then enterAdvancing s
  else s

/-- R63: the end of excavation. -/
def excavationTest (s : State) : State :=
  if (s.phase = .advancing ∨ s.phase = .paused) ∧ excavationEnded s = true then plainPhase .idle s else s

/-! ## Settling -/

/-- One pass over everything the rules re-evaluate at each change, in the order of log 5. -/
def settleOnce (s : State) : State :=
  retractTest (ownGroupSeen (excavationTest (gateTest (enableSync (forcingSync (haltTest
    (syncKinds AlarmKind.all (orphanTest s))))))))

/-- What closes an event: passes enough for every consequence of a consequence (log 5). -/
def settle (s : State) : State :=
  settleOnce (settleOnce (settleOnce s))

/-! ## The E-stop condition (R153, R154) -/

/-- R153, R154: the E-stop condition becomes active; BAL sets its stop hold. -/
def activateEstop (s : State) : State :=
  if s.alu.estop then s else setStopHold (s.onAlu fun a => { a with estop := true })

/-- R150: a duplicate-station notice. -/
def duplicateNotice (s : State) : State :=
  s.onAlu fun a => { a with duplicate := some s.elapsed }

/-! ## Restart (R142, R151) -/

/-- R142, R151, section 7.7: ALU after a warm restart. -/
def alarmsRestart (s : State) : State :=
  s.onAlu fun a => { AluState.cold with active := a.active, estop := a.estop }

/-- R145: a latch ACK_ALARMS clears. -/
def acknowledged (e : AlarmEntry) : AlarmEntry :=
  if entryInForce e then e else { e with latch := false }

end Sys2Proof.Machine
end

