-- ==== Sys2Proof/Machine/Peers.lean ====
section
/-! DEFINITION. PTB: what a frame, a silence and a restart make of an entry, and the notices
(01_stations_sectors_and_the_peer_table); the ring number heard from the holder (R95). -/

namespace Sys2Proof.Machine

open Sys2Proof

/-! ## An entry and a frame (R6 to R9) -/

/-- R6, R8, R9: last sequence and last frame time, stored for every valid frame. -/
def noteFrame (now : Time) (seq : Tag) (e : PeerEntry) : PeerEntry :=
  { e with lastSeq := some seq, lastFrame := some now }

/-- R7: the consecutive test, on the values before the frame. -/
def consecutive (now : Time) (seq : Tag) (e : PeerEntry) : Bool :=
  decide (1 ≤ e.good) && decide (e.lastSeq = some (seq - 1)) &&
    match e.lastStatus with
    | none => false
    | some t => decide (elapsedSince t now ≤ Config.liveSpan)

/-- R7: the consecutive-good count after a STATUS in JOINING. -/
def goodAfter (now : Time) (seq : Tag) (e : PeerEntry) : Nat :=
  if consecutive now seq e then e.good + 1 else 1

/-- R6: a STATUS stored whole, with its time and its ring number. -/
def storeStatus (now : Time) (seq : Tag) (r : StatusRecord) (e : PeerEntry) : PeerEntry :=
  { noteFrame now seq e with record := some r, lastStatus := some now, ringHeard := some r.ring }

/-- R13: a counted STATUS adds the claims its parts show. -/
def addClaims (r : StatusRecord) (e : PeerEntry) : PeerEntry :=
  { e with
    claims :=
      { erector := e.claims.erector || r.erectorPart.isSome
        conveyor := e.claims.conveyor || r.conveyorPart.isSome } }

/-- R6: an entry after a valid STATUS. Only an entry LIVE after it has counted it. -/
def statusEntry (now : Time) (seq : Tag) (r : StatusRecord) (e : PeerEntry) : PeerEntry :=
  match e.liveness with
  | .absent => { storeStatus now seq r e with liveness := .joining, good := 1, agreement := 0 }
  | .lost => { storeStatus now seq r e with liveness := .joining, good := 1, agreement := 0 }
  | .joining =>
    if 5 ≤ goodAfter now seq e then
      addClaims r { storeStatus now seq r e with liveness := .live, good := 5 }
    else { storeStatus now seq r e with good := goodAfter now seq e }
  | .live => addClaims r (storeStatus now seq r e)
  | .silent => addClaims r { storeStatus now seq r e with liveness := .live }
  | .mismatched => noteFrame now seq e
  | .self => e

/-- R8: an entry after a valid JOIN. -/
def joinEntry (own : Digest) (now : Time) (seq : Tag) (j : JoinRecord) (e : PeerEntry) : PeerEntry :=
  if e.liveness = .self then e
  else if j.digest = own then
    { noteFrame now seq e with
      liveness := .joining, good := 0, record := none, agreement := 0, ringHeard := some j.ring
      claims := j.claims }
  else
    { noteFrame now seq e with
      liveness := .mismatched, good := 0, record := none, agreement := 0, claims := {} }

/-- R9: an entry after a valid frame of another kind. -/
def otherEntry (now : Time) (seq : Tag) (e : PeerEntry) : PeerEntry :=
  match e.liveness with
  | .absent => { noteFrame now seq e with liveness := .joining, good := 0, agreement := 0 }
  | .lost => { noteFrame now seq e with liveness := .joining, good := 0, agreement := 0 }
  | .joining => noteFrame now seq e
  | .live => noteFrame now seq e
  | .silent => noteFrame now seq e
  | .mismatched => noteFrame now seq e
  | .self => e

/-- R10: an entry that becomes LOST. -/
def lostEntry (e : PeerEntry) : PeerEntry :=
  { e with
    liveness := .lost, record := none, good := 0, agreement := 0, claims := {}, ringHeard := none }

/-! ## Notices (R11) -/

/-- R68: the recorded ERECTOR holder's entry has ceased to be present. -/
def holderLeaves (j : Nat) (s : State) : State :=
  if s.ptb.erector.holder = some j ∧ present s j = false then autoClose s else s

/-- R11: the notice of a presence change, and the duty evaluation it brings. -/
def presenceNotice (j : Nat) (s : State) : State :=
  evalDuties (buildPresence j (holderLeaves j (drivePresence j s)))

/-- R14: a change other than of presence that may change the duty evaluation: of the claims, into or out of
JOINING, or a JOIN. -/
def dutyEvent (before after : PeerEntry) : Bool :=
  decide (before.claims ≠ after.claims) ||
    (decide (before.liveness = .joining) != decide (after.liveness = .joining))

/-- An entry takes its new value, and the notices that this brings are given. -/
def changePeer (j : Nat) (e : PeerEntry) (s : State) : State :=
  let before := peerOf s j
  let s' := setPeer j e s
  if entryPresent before ≠ entryPresent e then presenceNotice j s'
  else if dutyEvent before e then evalDuties s'
  else s'

/-! ## The holder's ring number (R73, R95) -/

/-- R95: the ring number of the holder compared with the own. -/
def compareRings (h : RingNumber) (s : State) : State :=
  if h = s.ring + 1 then closeRing (s.setRing h)
  else if h = s.ring then s
  else setFlag .ringResync (s.setRing h)

/-- The build state the erector part of a record shows, none without the part. -/
def buildStateShown (r : StatusRecord) : Option BuildState :=
  r.erectorPart.map fun e => e.state

/-- R73: the holder-seen mark. -/
def markHolderSeen (r : StatusRecord) (s : State) : State :=
  match buildStateShown r with
  | none => s
  | some b =>
    if s.phase = .building ∧ b ≠ .idle then s.onBsq fun q => { q with holderSeen := true } else s

/-- R95: the end of the build heard. -/
def buildEndHeard (r : StatusRecord) (s : State) : State :=
  if s.phase = .building ∧ s.bsq.holderSeen = true ∧ buildStateShown r = some .idle then endBuilding s
  else s

/-- R73, R95: a counted STATUS from the recorded ERECTOR holder, on a station without the duty. -/
def holderHeard (j : Nat) (r : StatusRecord) (s : State) : State :=
  if s.ptb.exErector = false ∧ s.ptb.erector.holder = some j then
    let marked := markHolderSeen r s
    buildEndHeard r (if s.ptb.endOfListen then compareRings r.ring marked else marked)
  else s

/-- R11: the notice of a counted STATUS. -/
def countedNotice (j : Nat) (r : StatusRecord) (s : State) : State :=
  holderHeard j r (buildCountedStatus j r (driveCountedStatus j r s))

/-! ## Frames and silences as PTB takes them -/

/-- R6: a valid STATUS from sector source `j`. -/
def peerStatus (j : Nat) (seq : Tag) (r : StatusRecord) (s : State) : State :=
  let e := statusEntry s.elapsed seq r (peerOf s j)
  let s' := changePeer j e s
  if e.liveness = .live then countedNotice j r s' else s'

/-- R8: a valid JOIN; the duty evaluation runs at every one of them (R14). -/
def peerJoin (j : Nat) (seq : Tag) (r : JoinRecord) (s : State) : State :=
  evalDuties (changePeer j (joinEntry s.cfg.digest s.elapsed seq r (peerOf s j)) s)

/-- R9: a valid frame of another kind. -/
def peerOther (j : Nat) (seq : Tag) (s : State) : State :=
  changePeer j (otherEntry s.elapsed seq (peerOf s j)) s

/-- R19: a valid ORDER from the console. -/
def consoleHeard (s : State) : State :=
  s.onPtb fun p => { p with console := { liveness := .live, lastOrder := some s.elapsed } }

/-- R89: the console entry becomes LOST, which suspends a build. -/
def consoleLost (s : State) : State :=
  let s' := s.onPtb fun p => { p with console := { p.console with liveness := .lost } }
  if bsqActive s then suspend s' else s'

/-- R4: PTB after a warm restart; own claims and digest stand in CFG. The duty evaluation at the start of
LISTEN records the holders afresh. -/
def peersRestart (s : State) : State :=
  s.onPtb fun p =>
    { p with peers := freshPeers s.own, console := {}, endOfListen := false }

/-- R26: the highest ring number heard among the present sector entries, none when none is present. -/
def ringHeardHighest (s : State) : Option RingNumber :=
  (sectorNumbers.filterMap fun j => if present s j then (peerOf s j).ringHeard else none).foldl
    (fun best r =>
      match best with
      | none => some r
      | some b => if b.toNat < r.toNat then some r else some b) none

end Sys2Proof.Machine
end

