-- ==== Sys2Proof/Machine/Lines.lean ====
section
/-! DEFINITION. LIF: the STATUS it composes (R20 to R25, R176, R177), the line slot and its attempts (R172,
R173), and reception (R178 to R180). -/

namespace Sys2Proof.Machine

open Sys2Proof

/-! ## Composition of a STATUS -/

/-- R177, R141: the conveyor part; its short form goes with the diagnostic part. -/
def conveyorPartOf (short : Bool) (s : State) : ConveyorPart :=
  { conveyor := s.bal.conveyor, manual := s.bal.manual, balanceValid := balanceValid s
    restarted := s.bal.restarted, screwRef := s.bal.nCmd, pMean := s.bal.pMean
    account := if short then none else some (s.bal.account, s.bal.eRing, s.bal.xRing) }

/-- R24: the erector part. With no outstanding request its tag is sent as 0 (DESIGN CHOICE, log 30). -/
def erectorPartOf (s : State) : ErectorPart :=
  { state := s.bsq.state, placement := s.bsq.cursor, ring := s.bsq.cursorRing, target := cursorTarget s
    request := s.bsq.request.map fun r => r.kind
    requestTag := match s.bsq.request with | none => 0 | some r => r.tag }

/-- R25: the diagnostic part. -/
def diagnosticPartOf (s : State) : DiagnosticPart :=
  { crcErrors := s.lif.crcErrors, formatErrors := s.lif.formatErrors, collisions := s.lif.collisions
    queueDrops := s.lif.queueDrops, elapsed := s.elapsed }

/-- R20 to R25: the record composed from the values the blocks hold. With no pending request its tag is sent
as 0 (DESIGN CHOICE, log 30). -/
def composeStatus (diagnostic : Bool) (s : State) : StatusRecord :=
  { phase := s.phase, cutterhead := s.dsu.cutterhead, proposed := s.dsu.proposed
    applied := s.dsu.applied, changing := s.dsu.changing, throttle := s.dsu.throttle
    torqueSum := torqueSum s, motorCount := motorCount s, group := s.thu.group, stroke := s.thu.stroke
    quality := s.thu.quality, rate := s.thu.rate, counter := s.thu.counter, strokeEnd := s.thu.strokeEnd
    groupPressure := inputValue s .groupPressure, chamberPressure := inputValue s .chamberPressure
    chamberValid := inputValid s .chamberPressure, enable := s.thu.enable
    pendingKind := s.thu.slot.map fun k => k.kind
    pendingTag := match s.thu.slot with | none => 0 | some k => k.tag
    ring := s.ring, line := s.gru.line, outstanding := publishedVolume (outstanding s)
    postedRing := publishedVolume s.gru.postedRing, deliveredRing := publishedVolume s.gru.deliveredRing
    echo := s.oru.echo, alarms := activeAlarms s, flags := s.alu.flags
    conveyorPart := if s.ptb.exConveyor then some (conveyorPartOf diagnostic s) else none
    erectorPart := if s.ptb.exErector then some (erectorPartOf s) else none
    diagnostic := if diagnostic then some (diagnosticPartOf s) else none }

/-- R176: a queued frame is a diagnostic STATUS. -/
def isDiagnostic (f : TxFrame) : Bool :=
  match f.body with
  | .status r => r.diagnostic.isSome
  | .join _ => false | .order _ _ _ => false | .request _ _ _ => false | .reply _ _ => false
  | .alarm _ _ _ => false | .ringReport _ _ _ _ => false

/-- R176: this composition is a diagnostic STATUS. -/
def diagnosticDue (s : State) : Bool :=
  decide (s.lif.diagCount = 0) || s.lif.queue.any isDiagnostic

/-- R176: the diagnostic count after a composition. -/
def diagNext (n : Nat) : Nat :=
  if n + 1 < Config.diagnosticEvery then n + 1 else 0

/-- R176, R119: one STATUS composed and handed to the queue. A clamp of the volumes it publishes sets
SATURATED before the flags are read (log 22). -/
def sendStatus (s : State) : State :=
  let flagged := setFlagIf (volumesClamp s) .saturated s
  (handFrame { dest := 15, body := .status (composeStatus (diagnosticDue s) flagged) } flagged).onLif
    fun l => { l with diagCount := diagNext l.diagCount }

/-! ## The line slot (R172, R173) -/

/-- R182, R194: LIF sends from the start of LISTEN, and in CONFIG_FAULT. -/
def mayTransmit (s : State) : Bool :=
  match s.phase with
  | .load => false | .probe => false | .listen => true | .idle => true | .advancing => true
  | .paused => true | .building => true | .halted => true | .configFault => true

/-- R172: the class bases. -/
def FrameClass.base : FrameClass → Nat
  | .safety => 2 | .control => 12 | .report => 22

/-- R172: the gap of a frame that has collided `n` times running. -/
def gapOf (own : Nat) (f : TxFrame) (n : Nat) : Nat :=
  f.body.frameClass.base + own + 10 * n

/-- R172: an idle count at which a frame of gap `g` starts. -/
def startsAt (g idle : Nat) : Bool :=
  decide (g ≤ idle) && decide ((idle - g) % 30 = 0)

/-- R172: a queued frame moved into the line slot as it starts. -/
def takeFromQueue (f : TxFrame) (rest : List TxFrame) (s : State) : State :=
  s.onLif fun l =>
    { l with
      queue := rest
      slot := some
        { frame := f, seq := l.seq, chars := frameChars s.own l.seq f, collisions := 0, sending := true
          leaves := false }
      seq := l.seq + 1 }

/-- R172: an instant of the idle line, at an idle count. The transmission in which the station abandoned a frame is
over once the line is idle (R171, R173, log 39). -/
def tryTransmit (idle : Nat) (s : State) : State :=
  let s' := s.onLif fun l => { l with idle := idle, abandoned := false }
  match s.lif.slot with
  | some k =>
    if k.sending = false ∧ startsAt (gapOf s.own k.frame k.collisions) idle = true then
      s'.onLif fun l => { l with slot := some { k with sending := true } }
    else s'
  | none =>
    match s.lif.queue with
    | [] => s'
    | f :: rest => if startsAt (gapOf s.own f 0) idle then takeFromQueue f rest s' else s'

/-- The frame being sent, if any. -/
def sendingSlot (s : State) : Option LineSlot :=
  match s.lif.slot with
  | none => none
  | some k => if k.sending then some k else none

/-- R173: a frame sent whole leaves the slot and ends LINE_FAULT. -/
def frameGone (s : State) : State :=
  s.onLif fun l => { l with slot := none, lineFault := false, idle := 0 }

/-- R173, R182: what a collision leaves in the slot. -/
def slotAfterCollision (k : LineSlot) : Option LineSlot :=
  if Config.collisionLimit ≤ k.collisions + 1 ∨ k.leaves = true then none
  else some { k with collisions := k.collisions + 1, sending := false }

/-- R173: a readback mismatch in the frame being sent; the sixteenth running drops it. The station takes no part in
the rest of the transmission. -/
def frameCollides (k : LineSlot) (s : State) : State :=
  countCollision (s.onLif fun l =>
    { l with
      slot := slotAfterCollision k
      lineFault := l.lineFault || decide (Config.collisionLimit ≤ k.collisions + 1)
      idle := 0
      abandoned := true })

/-! ## Reception (R178 to R180, R182) -/

/-- R182, R173: LIF receives from the start of LISTEN, not in CONFIG_FAULT, and neither while it sends nor in the
rest of a transmission during which it abandoned its frame. -/
def receives (s : State) : Bool :=
  (match s.phase with
    | .load => false | .probe => false | .configFault => false | .listen => true | .idle => true
    | .advancing => true | .paused => true | .building => true | .halted => true) &&
    (sendingSlot s).isNone && !s.lif.abandoned

/-- R171: the idle count restarts at 0 when the line becomes idle after a transmission, received or not
(log 12). The transmission in which the station abandoned a frame ends with it (R173, log 39). -/
def lineUsed (s : State) : State :=
  s.onLif fun l => { l with idle := 0, abandoned := false }

/-- What a station makes of a transmission on the line, `act` being what the row's own frame does, the event
closed; none where the frame is a valid frame of another row (log 6). A station that does not receive still
has its idle count restarted by it (R171). A frame whose source is the own number goes to no block (R180), an
ESTOP RAISED too (DEDUCED, log 31). -/
def hearClosed (chars : Chars) (act : Header → Body → State → Option State) (s : State) :
    Host.Outcome State Fault Refusal :=
  if receives s = false then .next (lineUsed s)
  else
    match judge s.cfg.image.nS chars with
    | .ignored => .next (lineUsed s)
    | .crcFailure => .next (settle (countCrcError (lineUsed s)))
    | .formatError _ => .next (settle (countFormatError (lineUsed s)))
    | .valid h b =>
      if h.source = s.own then .next (settle (duplicateNotice (lineUsed s)))
      else
        match act h b (lineUsed s) with
        | none => .refused .otherRow
        | some s' => .next s'

/-- As `hearClosed`, for a row whose event closes by settling. -/
def hear (chars : Chars) (act : Header → Body → State → Option State) (s : State) :
    Host.Outcome State Fault Refusal :=
  hearClosed chars (fun h b s => (act h b s).map settle) s

/-! ## Restart (R182) -/

/-- R182: a frame waiting for its gap is discarded; one on the line leaves after its attempt. -/
def slotAtRestart (s : State) : Option LineSlot :=
  (sendingSlot s).map fun k => { k with leaves := true }

/-- R181, R182: LIF after a warm restart. -/
def lineRestart (s : State) : State :=
  s.onLif fun l =>
    { LifState.cold with
      seq := l.seq, idle := l.idle, slot := slotAtRestart s, abandoned := l.abandoned }

/-- R195, R194: a JOIN handed to LIF. -/
def handJoin (r : JoinRecord) (s : State) : State :=
  handFrame { dest := 15, body := .join r } s

end Sys2Proof.Machine
end

