-- ==== Sys2Proof/Machine/Sampling.lean ====
section
/-! DEFINITION. FPT's input side: scaling, judging and handing the samples (R158 to R164), the E-stop input
(R162) and the trials of PROBE (R167 to R170). -/

namespace Sys2Proof.Machine

open Sys2Proof

/-! ## Readings (R159, R161, R163, R164) -/

/-- R159: a raw value scaled. -/
def scaled (sc : AnalogScale) (raw : BitVec 16) : Int :=
  sc.offset + squot ((raw.toNat : Int) * sc.gain) 65536

/-- R159: the gain, offset and window of an analog channel. -/
def analogScale (s : State) (c : Channel) : AnalogScale :=
  s.cfg.image.analog.getD c.number { gain := 0, offset := 0, low := 0, high := -1 }

/-- R1, section 4.3 of the opening file: the range of an analog channel's quantity. -/
def quantityRange : Channel → Int × Int
  | .stroke => (0, 250000)
  | .groupPressure => (0, 4000)
  | .chamberPressure => (0, 8000)
  | .groutPressure => (0, 1000)
  | .motorTemp0 => (-200, 2000)
  | .motorTemp1 => (-200, 2000)
  | .motorTorque0 => (0, 6000)
  | .motorTorque1 => (0, 6000)
  | .estopIn => (0, 1) | .driveReady0 => (0, 1) | .driveReady1 => (0, 1) | .retractedLimit => (0, 1)
  | .feederReady => (0, 1) | .atPosition => (0, 1) | .placementDone => (0, 1) | .gateClosed => (0, 1)
  | .groutMeter => (0, 0) | .screwEncoder => (0, 0) | .motorRef0 => (0, 0) | .motorRef1 => (0, 0)
  | .groupValve => (0, 0) | .groutPump => (0, 0) | .flushValve => (0, 0) | .screwRef => (0, 0)
  | .gateCmd => (0, 0) | .erectorCmd => (0, 0)

/-- R159: an analog sample: in window, its value clamped to the quantity's range and whether the clamp
changed it; out of window, none. -/
def analogSample (s : State) (c : Channel) (raw : BitVec 16) : Option (Int × Bool) :=
  let v := scaled (analogScale s c) raw
  let r := quantityRange c
  if (analogScale s c).low ≤ v ∧ v ≤ (analogScale s c).high then some (clamp r.1 r.2 v, outside r.1 r.2 v)
  else none

/-- R161: a discrete sample: 1 for ON, 0 for OFF, none for FAULT. -/
def loopSample : Loop → Option (Int × Bool)
  | .on => some (1, false)
  | .off => some (0, false)
  | .fault => none

/-- R163: a meter sample: the count, where the loop and the count are good. -/
def meterSample (s : State) (x : FieldInputs) : Option (Int × Bool) :=
  if x.meterFault = false ∧ x.meterPulses ≤ s.cfg.image.cMeterMax then some (x.meterPulses, false) else none

/-- R164: one step of the tracks as a count. -/
def stepCount : EncoderStep → Int
  | .forward => 1
  | .backward => -1
  | .bothChanged => 0

/-- R164: the sum of the counts. -/
def encoderSum (x : FieldInputs) : Int :=
  (x.encoderSteps.map stepCount).sum

/-- R164: an encoder sample: the sum, where loops, tracks and magnitude are good. -/
def encoderSample (s : State) (x : FieldInputs) : Option (Int × Bool) :=
  if x.encoderFault = false ∧ x.encoderSteps.all (fun e => decide (e ≠ .bothChanged)) = true ∧
      (encoderSum x).natAbs ≤ s.cfg.image.cEncMax then some (encoderSum x, false)
  else none

/-- The sample of a channel at one expiry: its value and whether a clamp changed it, or none for a bad one. -/
def sampleOf (s : State) (x : FieldInputs) : Channel → Option (Int × Bool)
  | .stroke => analogSample s .stroke x.stroke
  | .groupPressure => analogSample s .groupPressure x.groupPressure
  | .chamberPressure => analogSample s .chamberPressure x.chamberPressure
  | .groutPressure => analogSample s .groutPressure x.groutPressure
  | .motorTemp0 => analogSample s .motorTemp0 x.motorTemp0
  | .motorTemp1 => analogSample s .motorTemp1 x.motorTemp1
  | .motorTorque0 => analogSample s .motorTorque0 x.motorTorque0
  | .motorTorque1 => analogSample s .motorTorque1 x.motorTorque1
  | .estopIn => loopSample x.estopIn
  | .driveReady0 => loopSample x.driveReady0
  | .driveReady1 => loopSample x.driveReady1
  | .retractedLimit => loopSample x.retractedLimit
  | .feederReady => loopSample x.feederReady
  | .atPosition => loopSample x.atPosition
  | .placementDone => loopSample x.placementDone
  | .gateClosed => loopSample x.gateClosed
  | .groutMeter => meterSample s x
  | .screwEncoder => encoderSample s x
  | .motorRef0 => none | .motorRef1 => none | .groupValve => none | .groutPump => none
  | .flushValve => none | .screwRef => none | .gateCmd => none | .erectorCmd => none

/-! ## Validity (R160) -/

/-- R160: an input channel after a sample. -/
def inputAfter (sample : Option Int) (i : InputState) : InputState :=
  match i.valid, sample with
  | true, some v => { i with bad := 0, served := v }
  | true, none => if 3 ≤ i.bad + 1 then { i with valid := false, bad := 3, good := 0 }
    else { i with bad := i.bad + 1 }
  | false, some v => if 10 ≤ i.good + 1 then { valid := true, bad := 0, good := 10, served := v }
    else { i with good := i.good + 1 }
  | false, none => { i with good := 0 }

def setInput (c : Channel) (i : InputState) (s : State) : State :=
  s.onFpt fun f => { f with inputs := putAt f.inputs c.number i }

/-- R160: the sample of a fitted channel judged; an unfitted channel keeps nothing. -/
def judgeInput (c : Channel) (x : FieldInputs) (s : State) : State :=
  if isFitted s c then
    match sampleOf s x c with
    | some (v, clamped) => setFlagIf clamped .clamped (setInput c (inputAfter (some v) (inputOf s c)) s)
    | none => setInput c (inputAfter none (inputOf s c)) s
  else s

/-! ## Arrivals at the blocks (R158) -/

/-- R96: the own sector's substitution mark, when the quality becomes SUBSTITUTED. -/
def ownMark (before s : State) : State :=
  if bsqActive s = true ∧ before.thu.quality ≠ .substituted ∧ s.thu.quality = .substituted then
    markSubstituted s.own s
  else s

/-- R163: a good sample's pulses handed while the channel is VALID. -/
def meterArrival (x : FieldInputs) (s : State) : State :=
  if inputValid s .groutMeter = true ∧ (sampleOf s x .groutMeter).isSome = true then
    groutPulses x.meterPulses s
  else s

/-- R164, R125: a good sample's sum handed while the channel is VALID; a change of validity reported. -/
def screwArrival (wasValid : Bool) (x : FieldInputs) (s : State) : State :=
  let s' := if inputValid s .screwEncoder = wasValid then s else encoderReport s
  if inputValid s .screwEncoder = true ∧ (sampleOf s x .screwEncoder).isSome = true then
    encoderArrival (encoderSum x) s'
  else s'

/-- R161: GROUP_RETRACTED_LIMIT asserts: its served value has become true. -/
def limitArrival (wasTrue : Bool) (s : State) : State :=
  if wasTrue = false ∧ inputTrue s .retractedLimit = true then completeRetraction s else s

/-- R158: what a channel's arrival does at the blocks it is handed to; `before` is the state before the
sample was judged. -/
def arrival (before : State) (x : FieldInputs) (c : Channel) (s : State) : State :=
  match c with
  | .stroke => ownMark s (strokeArrival s)
  | .groupPressure => groupPressureArrival s
  | .groutPressure => groutPressureArrival s
  | .motorTemp0 => tempArrival s
  | .motorTemp1 => tempArrival s
  | .motorTorque0 => torqueArrival s
  | .motorTorque1 => torqueArrival s
  | .retractedLimit => limitArrival (inputTrue before .retractedLimit) s
  | .feederReady => if bsqActive s then pickTest s else s
  | .atPosition => if bsqActive s then travelTest s else s
  | .placementDone => if bsqActive s then placeTest s else s
  | .groutMeter => meterArrival x s
  | .screwEncoder => screwArrival (inputValid before .screwEncoder) x s
  | .chamberPressure => s | .driveReady0 => s | .driveReady1 => s | .gateClosed => s | .estopIn => s
  | .motorRef0 => s | .motorRef1 => s | .groupValve => s | .groutPump => s | .flushValve => s
  | .screwRef => s | .gateCmd => s | .erectorCmd => s

/-! ## ESTOP_IN (R162) -/

/-- R162: ESTOP_IN after a sample. -/
def estopAfter (r : Loop) (e : EstopInput) : EstopInput :=
  if r = .on then
    (if 10 ≤ e.run + 1 then { asserted := false, start := false, run := 10 }
     else { e with run := e.run + 1 })
  else { asserted := true, start := false, run := 0 }

/-- R162: the sample asserts the channel: OFF or FAULT while it is not asserted, or in its start state. -/
def estopAsserts (r : Loop) (e : EstopInput) : Bool :=
  decide (r ≠ .on) && (!e.asserted || e.start)

/-- R162, R153: one sample of ESTOP_IN. -/
def estopSample (r : Loop) (s : State) : State :=
  let s' := s.onFpt fun f => { f with estopIn := estopAfter r f.estopIn }
  if estopAsserts r s.fpt.estopIn then activateEstop s' else s'

/-! ## A sample in running -/

/-- One channel's sample: judged, handed, and what it brings settled before the next channel's. -/
def sampleChannel (x : FieldInputs) (c : Channel) (s : State) : State :=
  settle (arrival s x c (judgeInput c x s))

/-- The input channels before ESTOP_IN in the order of R183's numbers, and those after it. -/
def channelsBefore : List Channel :=
  [.stroke, .groupPressure, .chamberPressure, .groutPressure, .motorTemp0, .motorTemp1, .motorTorque0,
   .motorTorque1]

def channelsAfter : List Channel :=
  [.driveReady0, .driveReady1, .retractedLimit, .feederReady, .atPosition, .placementDone, .gateClosed,
   .groutMeter, .screwEncoder]

/-- The channels of a list, one after another. -/
def sampleChannels (x : FieldInputs) : List Channel → State → State
  | [], s => s
  | c :: rest, s => sampleChannels x rest (sampleChannel x c s)

/-- R158: one field sample from the end of PROBE on, channel by channel in the order of their numbers
(log 5). -/
def runSample (x : FieldInputs) (s : State) : State :=
  sampleChannels x channelsAfter (settle (estopSample x.estopIn (sampleChannels x channelsBefore s)))

/-! ## The trials (R167 to R170) -/

/-- R167: a trial is run, or skipped for want of its duty's strap. -/
def trialRuns (p : Straps) (n : Nat) : Bool :=
  if n = 13 ∨ n = 14 then p.conveyor else if 15 ≤ n then p.erector else true

/-- R167: the trial after a trial, 0 after the last. -/
def trialAfter (p : Straps) (n : Nat) : Nat :=
  (((List.range 18).filter fun k => decide (n < k) && trialRuns p k)).headD 0

/-- R167: the channel of an input-window trial. -/
def trialChannel : Nat → Channel
  | 1 => .stroke | 2 => .groupPressure | 3 => .chamberPressure | 4 => .groutPressure
  | 5 => .motorTemp0 | 6 => .motorTemp1 | 7 => .motorTorque0 | 8 => .motorTorque1
  | 9 => .retractedLimit | 13 => .screwEncoder | 14 => .gateClosed | 15 => .feederReady
  | 16 => .atPosition | _ => .placementDone

/-- A channel put into the fitted set. -/
def fit (c : Channel) (s : State) : State :=
  s.onFpt fun f => { f with fitted := putAt f.fitted c.number true }

/-- R160: a fitted input channel is VALID with both counts 0 and serves its last probe sample. -/
def fitInput (c : Channel) (v : Int) (s : State) : State :=
  setInput c { valid := true, bad := 0, good := 0, served := v } (fit c s)

/-- R168, R169: what a trial exercises as it begins: a drive's enable, or the grout pump with the flush valve
closed. It begins in the event that ends the trial before it (log 10). -/
def beginTrial (n : Nat) (s : State) : State :=
  let s' := s.onFpt fun f =>
    { f with
      probe := { trial := n, samples := 0, run := 0, startPressure := none, forcingSeen := false } }
  if n = 10 then writeEnable0 true s'
  else if n = 11 then writeEnable1 true s'
  else if n = 12 then writeFlush false (writePump s.cfg.image.rateLow s')
  else s'

/-- The next trial begins; after the last there is none. -/
def nextTrial (s : State) : State :=
  beginTrial (trialAfter s.cfg.straps s.fpt.probe.trial) s

/-- One more sample of the trial in hand. -/
def countSample (run : Nat) (s : State) : State :=
  s.onFpt fun f => { f with probe := { f.probe with samples := f.probe.samples + 1, run := run } }

/-- R167: the sample an input-window trial judges: of the encoder, only a FAULT on either track is bad; of any
other channel, the channel's own sample. -/
def trialSample (s : State) (x : FieldInputs) (c : Channel) : Option (Int × Bool) :=
  if c = .screwEncoder then (if x.encoderFault then none else some (0, false)) else sampleOf s x c

/-- R167: one sample of an input-window trial. A channel found fitted serves its last probe sample, which for
the pulse channel is 0 (R160). -/
def windowTrial (c : Channel) (x : FieldInputs) (s : State) : State :=
  match trialSample s x c with
  | some (v, clamped) =>
    let s' := setFlagIf clamped .clamped (countSample (s.fpt.probe.run + 1) s)
    if 5 ≤ s.fpt.probe.run + 1 then nextTrial (fitInput c v s')
    else if 20 ≤ s.fpt.probe.samples + 1 then nextTrial s'
    else s'
  | none =>
    let s' := countSample 0 s
    if 20 ≤ s.fpt.probe.samples + 1 then nextTrial s' else s'

/-- R168: one sample of a drive trial. -/
def driveTrial (ready : Loop) (motor readyChannel : Channel) (release : State → State) (s : State) :
    State :=
  let s' := countSample 0 s
  if ready = .on then nextTrial (fit motor (fitInput readyChannel 1 s'))
  else if 50 ≤ s.fpt.probe.samples + 1 then nextTrial (release s')
  else s'

/-- R170: a fitted grout line. -/
def fitGrout (s : State) : State :=
  fit .groutPump (fit .flushValve (fitInput .groutMeter 0 s))

/-- R169: the trial ends with the pump at 0. -/
def endGroutTrial (s : State) : State :=
  refreshFlush (writePump 0 (nextTrial s))

/-- R169: the grout pressure sample of the trial, where GROUT_PRESSURE was found fitted. -/
def trialPressure (x : FieldInputs) (s : State) : Option Int :=
  if isFitted s .groutPressure then (sampleOf s x .groutPressure).map fun v => v.1 else none

/-- R169: a pass event: a pulse, or a pressure 50 above the starting pressure. -/
def groutPasses (x : FieldInputs) (s : State) : Bool :=
  (match sampleOf s x .groutMeter with
    | none => false
    | some v => decide (1 ≤ v.1)) ||
  (match s.fpt.probe.startPressure, trialPressure x s with
    | some start, some v => decide (start + 50 ≤ v)
    | _, _ => false)

/-- R160: GROUT_PRESSURE, found fitted, serves its last probe sample, a good one of the grout line trial too
(log 33). -/
def serveTrial (x : FieldInputs) (s : State) : State :=
  match trialPressure x s with
  | none => s
  | some v => setInput .groutPressure { inputOf s .groutPressure with served := v } s

/-- R169: the starting pressure, the first good sample's (log 19), and whether the forcing was seen. -/
def noteGrout (x : FieldInputs) (s : State) : State :=
  (serveTrial x s).onFpt fun f =>
    { f with
      probe :=
        { f.probe with
          startPressure :=
            match f.probe.startPressure with
            | none => trialPressure x s
            | some p => some p
          forcingSeen := f.probe.forcingSeen || forcingNow s } }

/-- R159: a clamp of the grout pressure sample the trial reads. -/
def trialClamp (x : FieldInputs) (s : State) : Bool :=
  isFitted s .groutPressure &&
    match sampleOf s x .groutPressure with
    | none => false
    | some v => v.2

/-- R169: one sample of the grout line trial: 2 s of pump, 3 s in all. -/
def groutTrialStep (x : FieldInputs) (s : State) : State :=
  let s' := setFlagIf (trialClamp x s) .clamped (noteGrout x (countSample 0 s))
  if groutPasses x s then endGroutTrial (fitGrout s')
  else if 300 ≤ s.fpt.probe.samples + 1 then
    endGroutTrial (if s'.fpt.probe.forcingSeen then fitGrout s' else s')
  else if s.fpt.probe.samples + 1 = 200 then writePump 0 s'
  else s'

/-- R167: one sample of the trial in hand. -/
def trialStep (x : FieldInputs) (s : State) : State :=
  if s.fpt.probe.trial = 10 then
    driveTrial x.driveReady0 .motorRef0 .driveReady0 (writeEnable0 false) s
  else if s.fpt.probe.trial = 11 then
    driveTrial x.driveReady1 .motorRef1 .driveReady1 (writeEnable1 false) s
  else if s.fpt.probe.trial = 12 then groutTrialStep x s
  else windowTrial (trialChannel s.fpt.probe.trial) x s

/-- R170: a channel fitted without a trial, by a strap where it is a duty's. -/
def fitIf (b : Bool) (c : Channel) (s : State) : State :=
  if b then fit c s else s

/-- R170: the channels that are fitted without a trial. -/
def fixFitted (s : State) : State :=
  fitIf s.cfg.straps.erector .erectorCmd (fitIf s.cfg.straps.conveyor .gateCmd
    (fitIf s.cfg.straps.conveyor .screwRef (fit .groupValve (fit .estopIn s))))

/-- R183: the fitted set, bit k for channel number k. -/
def fittedBits (l : List Bool) : BitVec 32 :=
  BitVec.ofNat 32 ((l.zipIdx.map fun p => if p.1 then 2 ^ p.2 else 0).foldl (· + ·) 0)

end Sys2Proof.Machine
end

