-- ==== Sys2Proof/Machine/Starting.lean ====
section
/-! DEFINITION. CFG: the image and its checks (R193), CONFIG_FAULT (R194), the start phases (R195, R196) and
the warm restart (R197). -/

namespace Sys2Proof.Machine

open Sys2Proof

/-! ## The checks of R193 -/

/-- A whole number within a range. -/
def within (lo hi v : Int) : Bool :=
  decide (lo ≤ v) && decide (v ≤ hi)

/-- Check 5, R27. -/
def levelInRange (d : DutyLevel) : Bool :=
  within 0 600 d.speed && within 1 6000 d.torqueLimit && within 0 2000 d.loadHigh &&
    within 0 2000 d.loadLow && within 1 50 d.hDown && within 1 255 d.hUp && within 0 1000 d.advanceCap

/-- Check 5, R71. -/
def placementInRange (p : Placement) : Bool :=
  within 1 10 p.segment && within 0 359 p.position

/-- Check 5, R159. -/
def analogInRange (a : AnalogScale) : Bool :=
  within (-10000000) 10000000 a.gain && within (-1000000) 1000000 a.offset &&
    within (-20000000) 20000000 a.low && within (-20000000) 20000000 a.high

/-- Check 5, R165. -/
def outputInRange (o : OutputScale) : Bool :=
  within (-10000000) 10000000 o.gain && within (-1000000) 1000000 o.offset

/-- Check 5, R149. -/
def persistenceInRange (p : Persistence) : Bool :=
  within 0 60000 p.raise && within 0 60000 p.clear

/-- Check 5, geometry and stroke groups. -/
def strokeFieldsInRange (i : Image) : Bool :=
  within 10000 1000000 i.aFace && within 1000 100000 i.aSector && within 1000 2000 i.bulking &&
    within 1000 1500 i.fFill && within 1000 2000000 i.vS && within 0 250000 i.sEnd &&
    within 0 250000 i.sBuildMin && within 0 250000 i.sRetract && within 0 4000 i.pHold &&
    within 0 4000 i.pRetract && within 0 4000 i.pGroupMax && within 0 10000 i.kA &&
    within 0 250000 i.lSkew && within 0 250000 i.lSkewAlarm

/-- Check 5, cutterhead and build groups. -/
def driveFieldsInRange (i : Image) : Bool :=
  decide (i.levels.length = 8) && i.levels.all levelInRange && within 1 600 i.rRamp &&
    within (-200) 2000 i.tHigh && within (-200) 2000 i.tLow && within 0 7 i.lTherm &&
    within 0 1000 i.dDroop && within 0 96000 i.tAlarm && within 0 96000 i.tTrip &&
    i.plan.all placementInRange && within 100 60000 i.tStep && within 1 1000 i.tGrip &&
    within 100 60000 i.tRetract && within 100 60000 i.tExtend && within 1 1000 i.tRelease

/-- Check 5, grout group. -/
def groutFieldsInRange (i : Image) : Bool :=
  within 1000 1000000 i.vParcel && within 10 100000 i.vStart && within 0 9223372036854775807 i.lBoost &&
    within 0 60 i.rateLow && within 0 60 i.rateHigh && within 0 1000 i.pMax && within 0 1000 i.pResume &&
    within 100 60000 i.tBlock && within 6000 720000 i.tSet && within 100 60000 i.tFlush &&
    within 0 (14 * i.vParcel) i.lLag && within 0 (14 * i.vParcel) i.lLagClear

/-- Check 5, balance, alarm and port groups. -/
def portFieldsInRange (i : Image) : Bool :=
  within 0 10000 i.kP && within 0 1000000 i.kB && within 1 3000 i.slew && within 0 3000 i.nMax &&
    within 0 1000000000 i.lOver && within 0 1000000000 i.lUnder && within 0 1000000000 i.lHyst &&
    within 0 8000 i.pTargetInit && within 0 1000 i.bandInit && decide (i.persistences.length = 30) &&
    i.persistences.all persistenceInRange && decide (i.analog.length = 8) &&
    i.analog.all analogInRange && decide (i.outputs.length = 5) && i.outputs.all outputInRange &&
    within 1 100 i.cMeterMax && within 1 65536 i.cEncMax

/-- Check 5: every field within the range its chapter gives. -/
def fieldsInRange (i : Image) : Bool :=
  strokeFieldsInRange i && driveFieldsInRange i && groutFieldsInRange i && portFieldsInRange i

/-- Check 7. -/
def planPasses (plan : List Placement) : Bool :=
  within 3 10 plan.length && decide ((plan.filter fun p => p.key).length = 1) &&
    match plan.getLast? with
    | none => false
    | some p => p.key

/-- Check 8. -/
def safeReferencesZero (i : Image) : Bool :=
  decide (i.safeMotor0 = 0) && decide (i.safeMotor1 = 0) && decide (i.safePump = 0) &&
    decide (i.safeScrew = 0)

/-- Checks 4 to 9, on the fields. -/
def fieldsPass (station : Nat) (i : Image) : Bool :=
  within 4 8 i.nS && decide (station < i.nS) && fieldsInRange i &&
    (levelAt i 0).valid && planPasses i.plan && safeReferencesZero i &&
    decide (i.lLag + i.vParcel ≤ 15 * i.vParcel)

/-- The length n an image carries. -/
def imageLength (bytes : List Byte) : Nat :=
  read2 bytes 0

/-- Check 1: the whole image is there: the length, n bytes and the check value. -/
def imageWhole (bytes : List Byte) : Bool :=
  decide (imageLength bytes ≤ 65530) && decide (bytes.length = imageLength bytes + 6)

/-- The check value an image carries, most significant byte first (log 4). -/
def checkValue (bytes : List Byte) : Digest :=
  BitVec.ofNat 32 (read4 bytes (2 + imageLength bytes))

/-- Checks 2 and 3. -/
def checkValuePasses (bytes : List Byte) : Bool :=
  decide (crc32 (bytes.take (2 + imageLength bytes)) = checkValue bytes) && decide (checkValue bytes ≠ 0)

/-- R193: every check passes, the read having taken `spent` units of time. -/
def imagePasses (station spent : Nat) (r : ImageRead) : Bool :=
  decide (spent ≤ Config.loadLimit) && imageWhole r.bytes && checkValuePasses r.bytes &&
    fieldsPass station r.fields

/-! ## CONFIG_FAULT (R194) -/

/-- R194: the JOIN of a station in CONFIG_FAULT. -/
def faultJoin (s : State) : JoinRecord :=
  { station := s.own
    claims := { erector := s.cfg.straps.erector, conveyor := s.cfg.straps.conveyor }
    warm := false, fault := true, digest := 0, fitted := 0, ring := 0 }

/-- R194: entry into CONFIG_FAULT. -/
def enterConfigFault (s : State) : State :=
  refreshAll (handJoin (faultJoin s)
    ((s.setPhase .configFault).onCfg fun c => { c with faultTimer := some s.elapsed }))

/-! ## PROBE (R195) -/

/-- Section 8.5's table, R166: the safe references of the image. -/
def safeOutputs (i : Image) : Outputs :=
  { builtInReferences with
    valveMode := .hold, valvePressure := i.pHold, motor0 := i.safeMotor0, motor1 := i.safeMotor1
    pump := i.safePump, screw := i.safeScrew, flushOpen := i.safeFlushOpen }

/-- R195: LOAD passes into PROBE: the blocks are set up from the image, ALU becomes active, the field sample
timer starts, the first trial begins. -/
def beginProbe (r : ImageRead) (s : State) : State :=
  let loaded := (s.setPhase .probe).onCfg fun c =>
    { c with image := r.fields, digest := checkValue r.bytes }
  let set := (loaded.onThu fun _ => ThuState.cold r.fields.pHold).onBal fun _ =>
    BalState.cold r.fields.pTargetInit r.fields.bandInit
  let live := (set.onAlu fun _ => { AluState.cold with active := true }).onFpt fun f =>
    { f with timer := some s.elapsed, written := safeOutputs r.fields }
  beginTrial 1 (refreshAll live)

/-! ## LISTEN (R195, R196) -/

/-- R195: the JOIN of LISTEN. -/
def listenJoin (s : State) : JoinRecord :=
  { station := s.own
    claims := { erector := s.cfg.straps.erector, conveyor := s.cfg.straps.conveyor }
    warm := s.cfg.warm, fault := false, digest := s.cfg.digest, fitted := fittedBits s.fpt.fitted
    ring := s.ring }

/-- R195, R14: LISTEN begins: the duty evaluation, the first JOIN, the timers. -/
def startListen (warm : Bool) (s : State) : State :=
  let listening := (plainPhase .listen s).onCfg fun c =>
    { c with
      warm := warm, listenTimer := some s.elapsed, joinTimer := some s.elapsed, joinCount := 1 }
  let evaluated := evalDuties listening
  handJoin (listenJoin evaluated) evaluated

/-- R170, R99: the end of PROBE: the fitted set fixed, every pin driven again, GRU active, LISTEN begun. -/
def endProbe (s : State) : State :=
  startListen false (groutActivate (refreshAll ((fixFitted s).setPhase .listen)))

/-- R195: one more JOIN of LISTEN, at the old start plus its period; after the sixth the timer stops. -/
def nextListenJoin (start : Time) (s : State) : State :=
  handJoin (listenJoin s) (s.onCfg fun c =>
    { c with
      joinTimer :=
        if c.joinCount + 1 < Config.joinsPerListen then some (start + BitVec.ofNat 32 Config.joinPeriod)
        else none
      joinCount := c.joinCount + 1 })

/-- R26, R196: the ring number at the end of LISTEN. -/
def adoptedRing (s : State) : RingNumber :=
  match ringHeardHighest s with
  | some r => r
  | none => if s.cfg.warm then s.ring else 0

/-- R75, R196: on the ERECTOR holder at cold start the cursor ring follows the ring number adopted. On a station
that does not exercise the duty at that moment it stays at 0 (DESIGN CHOICE, log 37). -/
def adoptCursorRing (s : State) : State :=
  if s.ptb.exErector = true ∧ s.cfg.warm = false then
    s.onBsq fun q => { q with cursorRing := s.ring }
  else s

/-- R120: BAL's timer begins from the end of LISTEN where BAL is active. -/
def startBalanceTimer (s : State) : State :=
  s.onBal fun b => { b with timer := if b.active then some s.elapsed else b.timer }

/-- R196: the phase after LISTEN. -/
def leaveListen (s : State) : State :=
  if stopInForce s ∨ s.alu.estop = true then enterHalted s else plainPhase .idle s

/-- R196: the end of LISTEN. -/
def endListen (s : State) : State :=
  let adopted := adoptCursorRing (s.setRing (adoptedRing s))
  let marked := (adopted.onPtb fun p => { p with endOfListen := true, listenEnd := s.elapsed }).onCfg
    fun c => { c with listenTimer := none, joinTimer := none }
  let timed := ((startBalanceTimer (evalDuties marked)).onLif fun l => { l with timer := some s.elapsed }).onDsu
    fun d => { d with timer := some s.elapsed }
  leaveListen timed

/-! ## Warm restart (R197) -/

/-- R197: every block restarted, and LISTEN begun with start kind WARM. FPT and GRU keep everything; the
forcing is judged afresh, the phase being LISTEN and the table clear. The flags are cleared before the outputs
are driven again, so a clamp of that driving stands (DEDUCED, log 25). -/
def warmRestart (s : State) : State :=
  let quiet := lineRestart (s.onOru fun _ => OruState.cold)
  let blocks := alarmsRestart
    (balanceRestart (buildRestart (thrustRestart (driveRestart (peersRestart quiet)))))
  startListen true (forcingSync ((plainPhase .listen blocks).onCfg fun c => { c with listenTimer := none }))

end Sys2Proof.Machine
end

