-- ==== Sys2Proof/WellFormed.lean ====
section
/-! DEFINITION. Which commands are well formed: a peer number names a sector entry, and the characters of a
frame command do not spell the frame of another row of the table. Ill-formed frames (a bad CRC, a bad form,
an unknown kind code) are well-formed COMMANDS: judging them is the station's work (R178, R179). -/

namespace Sys2Proof

/-- R183: the kind code in a frame's third header byte. -/
def frameKindCode (chars : Chars) : Nat :=
  (chars.getD 2 0).toNat % 16

/-- R183: the request kind, the first payload byte of a REQUEST. -/
def requestKindCode (chars : Chars) : Nat :=
  (chars.getD 5 0).toNat

/-- R183: the order kind code, bits 0 to 4 of the second payload byte of an ORDER. -/
def orderKindCode (chars : Chars) : Nat :=
  (chars.getD 6 0).toNat % 32

/-- The characters spell no frame of a kind other than the row's: their kind code is the row's or none of
the seven. -/
def fitsKind (code : Nat) (chars : Chars) : Bool :=
  frameKindCode chars == code || frameKindCode chars == 0 || decide (7 < frameKindCode chars)

/-- As `fitsKind` for a REQUEST, whose two request kinds are two rows. -/
def fitsRequest (kind : Nat) (chars : Chars) : Bool :=
  fitsKind 4 chars &&
    (frameKindCode chars != 4 || requestKindCode chars == kind || requestKindCode chars == 0 ||
      decide (2 < requestKindCode chars))

/-- As `fitsKind` for an ORDER, whose 23 order kinds are 23 rows. -/
def fitsOrder (code : Nat) (chars : Chars) : Bool :=
  fitsKind 3 chars && (frameKindCode chars != 3 || orderKindCode chars == code)

/-- R184: the payload lengths of the parameters an order kind carries (10_orders table of section 10.4). -/
def orderParams : Nat → Nat
  | 2 => 2 | 7 => 1 | 11 => 2 | 14 => 2 | 15 => 1 | 17 => 1 | 23 => 1 | _ => 0

/-- R187 check 1: an order kind code outside the 23, or a parameter count that is not the kind's. -/
def undefinedOrder (code params : Nat) : Bool :=
  code == 0 || decide (23 < code) || params != orderParams code

/-- As `fitsOrder` for the row of orders with no defined kind or a wrong parameter count (R187). -/
def fitsUndefinedOrder (chars : Chars) : Bool :=
  fitsKind 3 chars &&
    (frameKindCode chars != 3 || undefinedOrder (orderKindCode chars) (((chars.getD 4 0).toNat - 2) / 4))

/-- R178: reception has begun and the frame is not complete: fewer characters than the header and then the
payload length and two CRC bytes require. -/
def incomplete (chars : Chars) : Bool :=
  !chars.isEmpty && (decide (chars.length < 5) || decide (chars.length < 7 + (chars.getD 4 0).toNat))

/-- A peer number names one of the eight sector entries (R3). -/
def peerNumber (peer : Nat) : Bool :=
  decide (peer < 8)

/-- The well-formed commands. -/
def Instr.wellFormed : Instr → Bool
  | .powerUp _ => true
  | .loadEnd _ => true
  | .faultJoinTimerExpiry => true
  | .listenJoinTimerExpiry => true
  | .listenEnd => true
  | .fieldSampleExpiry _ => true
  | .alarmPersistenceExpiry _ => true
  | .duplicateStationExpiry => true
  | .dutyEvaluationExpiry => true
  | .startWatchExpiry peer => peerNumber peer
  | .residencyTick => true
  | .balanceEvaluationExpiry => true
  | .statusTimerExpiry => true
  | .transmitStart _ => true
  | .frameSent => true
  | .collision => true
  | .receptionEarlyEnd chars => incomplete chars
  | .status chars => fitsKind 1 chars
  | .join chars => fitsKind 2 chars
  | .retractGroup chars => fitsRequest 1 chars
  | .extendGroup chars => fitsRequest 2 chars
  | .reply chars => fitsKind 5 chars
  | .alarm chars => fitsKind 6 chars
  | .ringReport chars => fitsKind 7 chars
  | .peerLiveTimeout peer => peerNumber peer
  | .peerSilentTimeout peer => peerNumber peer
  | .peerJoiningTimeout peer => peerNumber peer
  | .consoleSilentExpiry => true
  | .consoleLostExpiry => true
  | .stepTimerExpiry => true
  | .gripTimerExpiry => true
  | .retractTimerExpiry => true
  | .extendTimerExpiry => true
  | .answerWaitExpiry => true
  | .releaseTimerExpiry => true
  | .blockTimerExpiry => true
  | .settingTimerExpiry => true
  | .flushTimerExpiry => true
  | .keepalive chars => fitsOrder 1 chars
  | .setAdvance chars => fitsOrder 2 chars
  | .startAdvance chars => fitsOrder 3 chars
  | .pause chars => fitsOrder 4 chars
  | .startCutterhead chars => fitsOrder 5 chars
  | .stopCutterhead chars => fitsOrder 6 chars
  | .setMaxLevel chars => fitsOrder 7 chars
  | .build chars => fitsOrder 8 chars
  | .abortBuild chars => fitsOrder 9 chars
  | .resumeBuild chars => fitsOrder 10 chars
  | .setFacePressure chars => fitsOrder 11 chars
  | .screwStart chars => fitsOrder 12 chars
  | .screwStop chars => fitsOrder 13 chars
  | .screwMode chars => fitsOrder 14 chars
  | .gate chars => fitsOrder 15 chars
  | .groutFlush chars => fitsOrder 16 chars
  | .groutWriteOff chars => fitsOrder 17 chars
  | .ackAlarms chars => fitsOrder 18 chars
  | .clearFlags chars => fitsOrder 19 chars
  | .clearCounters chars => fitsOrder 20 chars
  | .resume chars => fitsOrder 21 chars
  | .restartStation chars => fitsOrder 22 chars
  | .setRing chars => fitsOrder 23 chars
  | .orderUndefinedKind chars => fitsUndefinedOrder chars

end Sys2Proof
end

