-- ==== Sys2Proof/Machine/Orders.lean ====
section
/-! DEFINITION. ORU: taking an order, its checks, its echo (10_orders_from_the_console), and the owning rules
of the orders, each giving a result and the state it leaves. -/

namespace Sys2Proof.Machine

open Sys2Proof

/-! ## Taking (R184 to R187) -/

/-- R184, R185: ORU takes an ORDER. -/
def takes (dest : Nat) (tag : Tag) (code : Nat) (s : State) : Bool :=
  decide (code ≠ 1) && (dest == s.own || dest == 15) && decide (s.oru.lastTag ≠ some tag)

/-- The parameter at a place, 0 where there is none. -/
def param (l : List Int) (k : Nat) : Int :=
  l.getD k 0

/-- R187 check 3, R189: a duty order at a station that does not exercise the duty; ABORT_BUILD is left to
R74. -/
def dutyRefuses (code : Nat) (s : State) : Bool :=
  (code == 10 && !s.ptb.exErector) ||
    ((code == 11 || code == 12 || code == 13 || code == 14 || code == 15) && !s.ptb.exConveyor)

/-- R187 check 4: a mode, gate or ring-number parameter outside the values its kind defines. -/
def codedRefuses (code : Nat) (params : List Int) : Bool :=
  ((code == 14 || code == 15) && outside 0 1 (param params 0)) ||
    ((code == 17 || code == 23) && outside 0 65535 (param params 0))

/-- What an order comes to: its result and the state after it. -/
abbrev Judged := OrderResult × State

/-- R187: the checks in order; the last is the owning rule. -/
def judgeOrder (code : Nat) (params : List Int) (rule : List Int → State → Judged) (s : State) : Judged :=
  if undefinedOrder code params.length then (.refusedRange, s)
  else if s.phase = .listen then (.refusedState, s)
  else if dutyRefuses code s then (.notApplicable, s)
  else if codedRefuses code params then (.refusedRange, s)
  else rule params s

/-- R184, R186: the last taken tag and the echo, written after the owning block has acted. -/
def writeEcho (tag : Tag) (code : Nat) (j : Judged) : State :=
  j.2.onOru fun _ => { lastTag := some tag, echo := some { tag := tag, code := code, result := j.1 } }

/-- R184 to R187: an ORDER as ORU handles it. -/
def handleOrder (dest : Nat) (tag : Tag) (code : Nat) (params : List Int)
    (rule : List Int → State → Judged) (s : State) : State :=
  if takes dest tag code s then writeEcho tag code (judgeOrder code params rule s) else s

/-- A heard ORDER of one row: `fits` says which orders are the row's; PTB has it first (R19; the
order of the two is a DESIGN CHOICE, log 5). -/
def orderHeard (fits : Nat → List Int → Bool) (rule : List Int → State → Judged) (h : Header) (b : Body)
    (s : State) : Option State :=
  match b with
  | .order tag code params =>
    if fits code params then some (handleOrder h.dest tag code params rule (consoleHeard s)) else none
  | .status _ => none | .join _ => none | .request _ _ _ => none | .reply _ _ => none
  | .alarm _ _ _ => none | .ringReport _ _ _ _ => none

/-- The row of one order kind code. -/
def ofCode (code : Nat) (c : Nat) (_ : List Int) : Bool :=
  c == code

/-- R188: CLAMPED or the other result, and the flag. -/
def clampResult (b : Bool) (r : OrderResult) : OrderResult :=
  if b then .clamped else r

/-! ## Owning rules -/

/-- R187: an order of no defined kind meets no owning rule. -/
def ruleNone (_ : List Int) (s : State) : Judged :=
  (.refusedRange, s)

/-- R55: SET_ADVANCE. -/
def ruleSetAdvance (p : List Int) (s : State) : Judged :=
  let out := outside 0 1000 (param p 0) || outside (-200) 200 (param p 1)
  (clampResult out .done, setFlagIf out .clamped (s.onThu fun t =>
    { t with rateTarget := clamp 0 1000 (param p 0), bias := clamp (-200) 200 (param p 1) }))

/-- R60: START_ADVANCE. -/
def ruleStartAdvance (_ : List Int) (s : State) : Judged :=
  if (s.phase = .idle ∨ s.phase = .paused) ∧ s.dsu.cutterhead = .running ∧ s.thu.strokeEnd = false then
    (.accepted, if enablesUp s then enterAdvancing s else (s.setPhase .paused).setPauseCause .automatic)
  else (.refusedState, s)

/-- R61: PAUSE. -/
def rulePause (_ : List Int) (s : State) : Judged :=
  if s.phase = .advancing then (.accepted, enterPaused .ordered s)
  else if s.phase = .paused then
    (if s.pauseCause = .ordered then (.done, s) else (.accepted, s.setPauseCause .ordered))
  else (.refusedState, s)

/-- R29: the phases in which the cutterhead may be started. -/
def startPhase (p : Phase) : Bool :=
  decide (p = .idle) || decide (p = .advancing) || decide (p = .paused)

/-- R29, R31: the cutterhead enters STARTING. -/
def startCutterhead (s : State) : State :=
  s.onDsu fun d => { d with cutterhead := .starting, startedAt := s.elapsed }

/-- R29: START_CUTTERHEAD. -/
def ruleStartCutterhead (_ : List Int) (s : State) : Judged :=
  match s.dsu.cutterhead with
  | .starting => (.done, s)
  | .running => (.done, s)
  | .tripped => (.refusedState, s)
  | .stopped =>
    if startPhase s.phase = true ∧ stopInForce s = false then (.accepted, startCutterhead s)
    else (.refusedState, s)
  | .stopping =>
    if startPhase s.phase = true ∧ stopInForce s = false then (.accepted, startCutterhead s)
    else (.refusedState, s)

/-- R32: STOP_CUTTERHEAD. -/
def ruleStopCutterhead (_ : List Int) (s : State) : Judged :=
  match s.dsu.cutterhead with
  | .starting => (.accepted, leaveRunning .stopping s)
  | .running => (.accepted, leaveRunning .stopping s)
  | .stopping => (.done, s)
  | .stopped => (.done, s)
  | .tripped => (.done, s)

/-- R38: SET_MAX_LEVEL. -/
def ruleSetMaxLevel (p : List Int) (s : State) : Judged :=
  let out := outside 0 7 (param p 0)
  (clampResult out .done, repropose (setFlagIf out .clamped (s.onDsu fun d =>
    { d with consoleMax := (clamp 0 7 (param p 0)).toNat })))

/-- R72: BUILD is taken. -/
def buildTaken (s : State) : Bool :=
  decide (s.phase = .idle) && decide (s.dsu.cutterhead = .stopped) &&
    (s.thu.strokeEnd || decide (s.cfg.image.sBuildMin ≤ s.thu.stroke)) && !stopInForce s

/-- R72, R77: BUILD. -/
def ruleBuild (_ : List Int) (s : State) : Judged :=
  if buildTaken s then
    (.accepted, if bsqActive s then beginBuild (enterBuilding s) else enterBuilding s)
  else (.refusedState, s)

/-- R74: no build is being led for this station. -/
def noBuildLed (s : State) : Bool :=
  match s.ptb.erector.holder with
  | none => true
  | some h =>
    match served s h with
    | none => true
    | some r => decide (buildStateShown r = some .idle) && !s.bsq.holderSeen

/-- R74: ABORT_BUILD at a station that does not exercise the ERECTOR duty. -/
def abortElsewhere (s : State) : Judged :=
  if s.phase = .building ∧ noBuildLed s = true then
    (if s.thu.group = .moving .holding then (.accepted, endBuilding s) else (.refusedState, s))
  else (.notApplicable, s)

/-- R92: ABORT_BUILD on the holder. -/
def abortHere (s : State) : Judged :=
  if s.bsq.state.stepping then (.accepted, suspend s)
  else if s.bsq.state = .suspended then
    (if s.bsq.retraction.isSome then (.refusedState, s)
     else
       (.accepted,
         if s.phase = .building then endBuilding (setBuild .idle s) else setBuild .idle s))
  else if s.phase = .building ∧ s.thu.group = .moving .holding then (.accepted, endBuilding s)
  else (.done, s)

/-- R74, R92: ABORT_BUILD. -/
def ruleAbortBuild (_ : List Int) (s : State) : Judged :=
  if s.ptb.exErector then abortHere s else abortElsewhere s

/-- R91: RESUME_BUILD. -/
def ruleResumeBuild (_ : List Int) (s : State) : Judged :=
  if s.bsq.state = .suspended ∧ s.phase = .building ∧ s.bsq.retraction = none then
    (.accepted, enterBuildWait s)
  else (.refusedState, s)

/-- R127: SET_FACE_PRESSURE. -/
def ruleSetFacePressure (p : List Int) (s : State) : Judged :=
  let out := outside 0 8000 (param p 0) || outside 0 1000 (param p 1)
  (clampResult out .done, setFlagIf out .clamped (s.onBal fun b =>
    { b with pTarget := clamp 0 8000 (param p 0), band := clamp 0 1000 (param p 1) }))

/-- R122: SCREW_START. -/
def ruleScrewStart (_ : List Int) (s : State) : Judged :=
  if s.phase = .halted then (.refusedState, s)
  else
    match s.bal.conveyor with
    | .fault => (.refusedState, s)
    | .stopped => (.accepted, setConveyor (if holdCause s.bal then .holding else .running) s)
    | .running => (.done, s)
    | .holding => (.done, s)

/-- R122: SCREW_STOP. -/
def ruleScrewStop (_ : List Int) (s : State) : Judged :=
  match s.bal.conveyor with
  | .running => (.accepted, setConveyor .stopped s)
  | .holding => (.accepted, setConveyor .stopped s)
  | .stopped => (.done, s)
  | .fault =>
    if inputValid s .screwEncoder then (.accepted, setConveyor .stopped s) else (.refusedState, s)

/-- R126: SCREW_MODE; mode 0 is AUTO, which leaves the manual reference as it is. -/
def ruleScrewMode (p : List Int) (s : State) : Judged :=
  if param p 0 = 0 then (.done, s.onBal fun b => { b with manual := false })
  else
    let out := outside 0 s.cfg.image.nMax (param p 1)
    (clampResult out .done, setFlagIf out .clamped (s.onBal fun b =>
      { b with manual := true, manualRef := clamp 0 s.cfg.image.nMax (param p 1) }))

/-- R124: GATE; value 0 is OPEN. -/
def ruleGate (p : List Int) (s : State) : Judged :=
  let opens := decide (param p 0 = 0)
  if s.bal.gateOpen = opens then (.done, s)
  else (.accepted, holdTest (s.onBal fun b => { b with gateOpen := opens }))

/-- R112: GROUT_FLUSH. -/
def ruleGroutFlush (_ : List Int) (s : State) : Judged :=
  if forcingNow s then (.refusedState, s)
  else
    match s.gru.line with
    | .idle => (.accepted, beginFlush s)
    | .blocked => (.accepted, beginFlush s)
    | .needsFlush => (.accepted, beginFlush s)
    | .flushing => (.done, s)
    | .pumping => (.refusedState, s)
    | .pressureHold => (.refusedState, s)
    | .absent => (.refusedState, s)

/-- R190, R115: a ring number parameter. -/
def ringParam (p : List Int) : RingNumber :=
  BitVec.ofInt 16 (param p 0)

/-- R115: GROUT_WRITE_OFF. -/
def ruleGroutWriteOff (p : List Int) (s : State) : Judged :=
  if s.gru.line = .pumping then (.refusedBusy, s)
  else if s.gru.line = .absent then (.refusedState, s)
  else (.done, groutWriteOff (ringParam p) s)

/-- R145: ACK_ALARMS. -/
def ruleAckAlarms (_ : List Int) (s : State) : Judged :=
  (if s.alu.entries.any fun e => e.latch && !entryInForce e then .accepted else .done,
    s.onAlu fun a => { a with entries := a.entries.map acknowledged })

/-- R151: CLEAR_FLAGS. -/
def ruleClearFlags (_ : List Int) (s : State) : Judged :=
  (.done, clearAllFlags s)

/-- R181: CLEAR_COUNTERS. -/
def ruleClearCounters (_ : List Int) (s : State) : Judged :=
  (.done, s.onLif fun l =>
    { l with crcErrors := 0, formatErrors := 0, collisions := 0, queueDrops := 0 })

/-- R155, R156: RESUME. -/
def ruleResume (_ : List Int) (s : State) : Judged :=
  if s.phase = .halted then
    (if s.fpt.estopIn.asserted = true ∨ stopOtherThanEstop s = true then (.refusedState, s)
     else (.accepted, leaveHalted s))
  else (.done, s)

/-- R191: RESTART_STATION is taken in IDLE and HALTED. -/
def restartTaken (s : State) : Bool :=
  decide (s.phase = .idle) || decide (s.phase = .halted)

/-- R190: SET_RING. -/
def ruleSetRing (p : List Int) (s : State) : Judged :=
  if s.phase = .idle ∧ (s.ptb.exErector = false ∨ s.bsq.state = .idle) then
    (.done, s.setRing (ringParam p))
  else (.refusedState, s)

/-- R191: RESTART_STATION's result; the restart itself follows the writing of the echo. -/
def ruleRestart (_ : List Int) (s : State) : Judged :=
  (if restartTaken s then .accepted else .refusedState, s)

/-- R184, R191: RESTART_STATION as ORU handles it: a station that takes it with result ACCEPTED restarts,
which returns the tag and the echo to none. -/
def handleRestart (dest : Nat) (tag : Tag) (params : List Int) (s : State) : State :=
  let echoed := handleOrder dest tag 22 params ruleRestart s
  if takes dest tag 22 s = true ∧ (judgeOrder 22 params ruleRestart s).1 = .accepted then
    warmRestart echoed
  else settle echoed

/-- A heard RESTART_STATION. PTB and ORU act on the frame independently (R180), and no order between them is given.
The model has PTB act first, so the frame makes the console entry LIVE (R19) and the restart then returns it to
ABSENT; with ORU first the entry would end LIVE (DESIGN CHOICE, log 5). -/
def restartHeard (h : Header) (b : Body) (s : State) : Option State :=
  match b with
  | .order tag code params =>
    if code = 22 then some (handleRestart h.dest tag params (consoleHeard s)) else none
  | .status _ => none | .join _ => none | .request _ _ _ => none | .reply _ _ => none
  | .alarm _ _ _ => none | .ringReport _ _ _ _ => none

end Sys2Proof.Machine
end

