-- ==== Sys2Proof/Machine/Rings.lean ====
section
/-! DEFINITION. The ring record and the ring close on the ERECTOR holder (R88, R93, R96, R97). -/

namespace Sys2Proof.Machine

open Sys2Proof

/-- R96: E_ring, X_ring and the balance at close, from BAL on the CONVEYOR holder, else from that holder's
record; none where they are absent. -/
def closeVolumes (s : State) : Option (Int × Int × Int) :=
  match s.ptb.conveyor.holder with
  | none => none
  | some h =>
    if h = s.own then some (s.bal.eRing, s.bal.xRing, s.bal.account)
    else
      match served s h with
      | none => none
      | some r =>
        match r.conveyorPart with
        | none => none
        | some c => c.account.map fun a => (a.2.1, a.2.2, a.1)

/-- R96, R177: the marks BALANCE_RESTARTED and SATURATED, from the same source. -/
def closeMarks (s : State) : Option (Bool × Bool) :=
  match s.ptb.conveyor.holder with
  | none => none
  | some h =>
    if h = s.own then some (s.bal.restarted, s.alu.flags.saturated)
    else
      match served s h with
      | none => none
      | some r => r.conveyorPart.map fun c => (c.restarted, r.flags.saturated)

/-- R96: part 0. -/
def closeSummary (s : State) : RingSummary :=
  { buildStart := s.bsq.buildStart, close := s.elapsed, placed := s.bsq.placed
    volumes := closeVolumes s, marks := closeMarks s, maxTorque := s.dsu.ringMax }

/-- R96, R119: one sector's item: from GRU for the own sector, from the record served for a peer whose ring
number is the ring closed, else not heard. -/
def closeItem (s : State) (j : Nat) : SectorItem :=
  let mark := s.bsq.substituted.getD j false
  if j = s.own then
    { posted := publishedVolume s.gru.postedRing, delivered := publishedVolume s.gru.deliveredRing
      outstanding := publishedVolume (outstanding s), heard := true, substituted := mark }
  else
    match served s j with
    | none => { posted := 0, delivered := 0, outstanding := 0, heard := false, substituted := mark }
    | some r =>
      if r.ring = s.ring then
        { posted := r.postedRing, delivered := r.deliveredRing, outstanding := r.outstanding
          heard := true, substituted := mark }
      else { posted := 0, delivered := 0, outstanding := 0, heard := false, substituted := mark }

/-- R97: one part as a frame. -/
def reportFrame (s : State) (index : Nat) (part : RingPart) : TxFrame :=
  { dest := 15, body := .ringReport s.ring index (ringParts s.cfg.image.nS) part }

/-- R97: the frames of the ring record, in order. -/
def reportFrames (s : State) : List TxFrame :=
  let items (lo : Nat) : List SectorItem :=
    ((sectorNumbers.filter fun j => decide (lo ≤ j) && decide (j < lo + 4) &&
      decide (j < s.cfg.image.nS))).map (closeItem s)
  [reportFrame s 0 (.summary (closeSummary s)), reportFrame s 1 (.residency s.dsu.residency),
    reportFrame s 2 (.sectors (items 0))] ++
    if s.cfg.image.nS = 4 then [] else [reportFrame s 3 (.sectors (items 4))]

/-- Frames handed in one event, in order (R175). -/
def handFrames : List TxFrame → State → State
  | [], s => s
  | f :: rest, s => handFrames rest (handFrame f s)

/-- R93 step 3: ring number, cursor, progress and cursor ring, and the record emptied. -/
def advanceRing (s : State) : State :=
  (s.setRing (s.ring + 1)).onBsq fun q =>
    { q with
      cursor := 0, progress := .new, cursorRing := s.ring + 1, buildStart := none, placed := 0
      substituted := List.replicate 8 false }

/-- R93: the ring close of the holder. -/
def holderRingClose (s : State) : State :=
  let flagged := setFlagIf (volumesClamp s) .saturated s
  setBuild .idle (closeRing (advanceRing (handFrames (reportFrames flagged) flagged)))

/-- R88: the release timer has run out. -/
def releaseExpires (s : State) : State :=
  let counted := s.onBsq fun q => { q with placed := q.placed + 1 }
  if (placementInHand s).key then holderRingClose counted
  else enterPick (counted.onBsq fun q => { q with cursor := q.cursor + 1, progress := .new })

end Sys2Proof.Machine
end

