-- ==== Sys2Proof/Machine/Starts.lean ====
section
/-! DEFINITION. The meanings of the start commands and of the timers of the station. -/

namespace Sys2Proof.Machine

open Sys2Proof

/-- R5 (log 3): an expiry takes effect only while its timer runs and its span has passed. -/
def onExpiry (t : Timer) (span : Nat) (act : Time → State → State) (s : State) :
    Host.Outcome State Fault Refusal :=
  match t with
  | none => .next s
  | some start => if span ≤ elapsedSince start s.elapsed then .next (act start s) else .next s

/-- The next start of a periodic timer that started at `start`. -/
def nextStart (start : Time) (span : Nat) : Timer :=
  some (start + BitVec.ofNat 32 span)

/-- POWER_UP (R195, R192). -/
def execPowerUp (straps : Straps) (s : State) : Host.Outcome State Fault Refusal :=
  .next (coldStart straps s.pending)

/-- LOAD_END (R193, R194). Check 1 gives the memory 200 ms and the rule gives the checks after it no time: the
elapsed count standing at this command is judged, as if the delivery and the checks ended together (DESIGN CHOICE,
log 36). -/
def execLoadEnd (read : Option ImageRead) (s : State) : Host.Outcome State Fault Refusal :=
  if s.phase = .load then
    match read with
    | none => .next (enterConfigFault s)
    | some r =>
      if imagePasses s.own s.elapsed.toNat r then .next (settle (beginProbe r s))
      else .next (enterConfigFault s)
  else .next s

/-- FAULT_JOIN_TIMER_EXPIRY (R194). -/
def execFaultJoinTimerExpiry (s : State) : Host.Outcome State Fault Refusal :=
  onExpiry s.cfg.faultTimer Config.joinPeriod
    (fun start s => handJoin (faultJoin s)
      (s.onCfg fun c => { c with faultTimer := nextStart start Config.joinPeriod })) s

/-- LISTEN_JOIN_TIMER_EXPIRY (R195). -/
def execListenJoinTimerExpiry (s : State) : Host.Outcome State Fault Refusal :=
  onExpiry s.cfg.joinTimer Config.joinPeriod (fun start s => settle (nextListenJoin start s)) s

/-- LISTEN_END (R196). -/
def execListenEnd (s : State) : Host.Outcome State Fault Refusal :=
  onExpiry s.cfg.listenTimer Config.listenSpan (fun _ s => settle (endListen s)) s

/-- R158, R167: the sample goes to the trial in hand in PROBE, and to the blocks after.
In PROBE only the channels of the trial in hand are read (DEDUCED, log 33), and ESTOP_IN before them
(DESIGN CHOICE, log 5). -/
def fieldSample (x : FieldInputs) (s : State) : State :=
  if s.phase = .probe then
    let tried := trialStep x (settle (estopSample x.estopIn s))
    settle (if tried.fpt.probe.trial = 0 then endProbe tried else tried)
  else runSample x s

/-- FIELD_SAMPLE_EXPIRY (R158, R167). -/
def execFieldSampleExpiry (inputs : FieldInputs) (s : State) : Host.Outcome State Fault Refusal :=
  onExpiry s.fpt.timer Config.samplePeriod
    (fun start s => fieldSample inputs
      (s.onFpt fun f => { f with timer := nextStart start Config.samplePeriod })) s

/-- R143: the span of an entry's persistence timer. -/
def persistenceSpan (img : Image) (k : AlarmKind) (e : AlarmEntry) : Nat :=
  if e.state = .pendingClear then clearPersistence img k else raisePersistence img k

/-- ALARM_PERSISTENCE_EXPIRY (R143). -/
def execAlarmPersistenceExpiry (kind : AlarmKind) (s : State) : Host.Outcome State Fault Refusal :=
  onExpiry (entryOf s kind).timer (persistenceSpan s.cfg.image kind (entryOf s kind))
    (fun _ s => settle (moveEntry kind (entryExpired (entryOf s kind)) s)) s

/-- DUPLICATE_STATION_EXPIRY (R150). -/
def execDuplicateStationExpiry (s : State) : Host.Outcome State Fault Refusal :=
  onExpiry s.alu.duplicate Config.duplicateSpan
    (fun _ s => settle (s.onAlu fun a => { a with duplicate := none })) s

/-- DUTY_EVALUATION_EXPIRY (R30, R35, R36). -/
def execDutyEvaluationExpiry (s : State) : Host.Outcome State Fault Refusal :=
  onExpiry s.dsu.timer Config.evaluationPeriod
    (fun start s => settle (dutyEvaluation
      (s.onDsu fun d => { d with timer := nextStart start Config.evaluationPeriod }))) s

/-- R31: the watch for a peer has run out: the cutterhead STARTING, the peer present and its run unbroken for
300 ms, and 300 ms since the own entry into STARTING. -/
def watchExpired (peer : Nat) (s : State) : Bool :=
  decide (s.dsu.cutterhead = .starting) && present s peer &&
    due (s.dsu.stoppedSince.getD peer none) Config.startWatchSpan s.elapsed &&
    decide (Config.startWatchSpan ≤ elapsedSince s.dsu.startedAt s.elapsed)

/-- START_WATCH_EXPIRY (R31). -/
def execStartWatchExpiry (peer : Nat) (s : State) : Host.Outcome State Fault Refusal :=
  if watchExpired peer s then .next (settle (leaveRunning .stopping s)) else .next s

/-- R47: the residency of the applied level after one more step of the count. -/
def residencyStep (s : State) : State :=
  let n := s.dsu.residency.getD s.dsu.applied 0
  setFlagIf (decide (4294967295 ≤ n + 1)) .counterWrap
    (s.onDsu fun d => { d with residency := putAt d.residency d.applied (min 4294967295 (n + 1)) })

/-- RESIDENCY_TICK (R47, section 4.5 of the opening file): one step of the elapsed-time count, which from the
end of LISTEN is one step of the residency (log 1). -/
def execResidencyTick (s : State) : Host.Outcome State Fault Refusal :=
  let s' := s.setElapsed (s.elapsed + 1)
  .next (settle (if s.ptb.endOfListen then residencyStep s' else s'))

/-- BALANCE_EVALUATION_EXPIRY (R128 to R138). -/
def execBalanceEvaluationExpiry (s : State) : Host.Outcome State Fault Refusal :=
  onExpiry s.bal.timer Config.evaluationPeriod
    (fun start s => settle (balanceEvaluation
      (s.onBal fun b => { b with timer := nextStart start Config.evaluationPeriod }))) s

end Sys2Proof.Machine
end

