-- ==== Sys2Proof/Machine/Expiries.lean ====
section
/-! DEFINITION. The meanings of the timers of the peer table, of ring building and of the grout line. -/

namespace Sys2Proof.Machine

open Sys2Proof

/-! ## Peer table (R10, R19) -/

/-- R10: LIVE becomes SILENT, the record kept and still served. -/
def silentEntry (e : PeerEntry) : PeerEntry :=
  { e with liveness := .silent }

/-- PEER_LIVE_TIMEOUT (R10). -/
def execPeerLiveTimeout (peer : Nat) (s : State) : Host.Outcome State Fault Refusal :=
  if (peerOf s peer).liveness = .live then
    onExpiry (peerOf s peer).lastStatus Config.liveSpan
      (fun _ s => settle (changePeer peer (silentEntry (peerOf s peer)) s)) s
  else .next s

/-- PEER_SILENT_TIMEOUT (R10). -/
def execPeerSilentTimeout (peer : Nat) (s : State) : Host.Outcome State Fault Refusal :=
  if (peerOf s peer).liveness = .silent then
    onExpiry (peerOf s peer).lastStatus Config.lostSpan
      (fun _ s => settle (changePeer peer (lostEntry (peerOf s peer)) s)) s
  else .next s

/-- PEER_JOINING_TIMEOUT (R10). -/
def execPeerJoiningTimeout (peer : Nat) (s : State) : Host.Outcome State Fault Refusal :=
  if (peerOf s peer).liveness = .joining then
    onExpiry (peerOf s peer).lastFrame Config.lostSpan
      (fun _ s => settle (changePeer peer (lostEntry (peerOf s peer)) s)) s
  else .next s

/-- R19: the console entry SILENT. -/
def consoleSilent (s : State) : State :=
  s.onPtb fun p => { p with console := { p.console with liveness := .silent } }

/-- CONSOLE_SILENT_EXPIRY (R19). -/
def execConsoleSilentExpiry (s : State) : Host.Outcome State Fault Refusal :=
  if s.ptb.console.liveness = .live then
    onExpiry s.ptb.console.lastOrder Config.consoleSilentSpan (fun _ s => settle (consoleSilent s)) s
  else .next s

/-- R19: what the console entry's way to LOST is timed from: the last ORDER while SILENT, and while ABSENT the
end of LISTEN. -/
def consoleLostTimer (s : State) : Timer :=
  match s.ptb.console.liveness with
  | .silent => s.ptb.console.lastOrder
  | .absent => if s.ptb.endOfListen then some s.ptb.listenEnd else none
  | .live => none
  | .lost => none

/-- CONSOLE_LOST_EXPIRY (R19, R89). -/
def execConsoleLostExpiry (s : State) : Host.Outcome State Fault Refusal :=
  onExpiry (consoleLostTimer s) Config.consoleLostSpan (fun _ s => settle (consoleLost s)) s

/-! ## Ring building -/

/-- STEP_TIMER_EXPIRY (R81). -/
def execStepTimerExpiry (s : State) : Host.Outcome State Fault Refusal :=
  onExpiry s.bsq.stepTimer s.cfg.image.tStep (fun _ s => settle (suspendTimedOut s)) s

/-- GRIP_TIMER_EXPIRY (R79). -/
def execGripTimerExpiry (s : State) : Host.Outcome State Fault Refusal :=
  onExpiry s.bsq.gripTimer s.cfg.image.tGrip (fun _ s => settle (setBuild .travel s)) s

/-- RETRACT_TIMER_EXPIRY (R85). -/
def execRetractTimerExpiry (s : State) : Host.Outcome State Fault Refusal :=
  onExpiry s.bsq.retractTimer s.cfg.image.tRetract (fun _ s => settle (suspendTimedOut s)) s

/-- EXTEND_TIMER_EXPIRY (R87). -/
def execExtendTimerExpiry (s : State) : Host.Outcome State Fault Refusal :=
  onExpiry s.bsq.extendTimer s.cfg.image.tExtend (fun _ s => settle (suspendTimedOut s)) s

/-- ANSWER_WAIT_EXPIRY (R83). -/
def execAnswerWaitExpiry (s : State) : Host.Outcome State Fault Refusal :=
  onExpiry s.bsq.answerWait Config.answerSpan (fun _ s => settle (answerExpires s)) s

/-- RELEASE_TIMER_EXPIRY (R88, R93). -/
def execReleaseTimerExpiry (s : State) : Host.Outcome State Fault Refusal :=
  onExpiry s.bsq.releaseTimer s.cfg.image.tRelease (fun _ s => settle (releaseExpires s)) s

/-! ## Grout line -/

/-- BLOCK_TIMER_EXPIRY (R110). -/
def execBlockTimerExpiry (s : State) : Host.Outcome State Fault Refusal :=
  onExpiry s.gru.blockTimer s.cfg.image.tBlock (fun _ s => settle (groutBlocks s)) s

/-- SETTING_TIMER_EXPIRY (R111). -/
def execSettingTimerExpiry (s : State) : Host.Outcome State Fault Refusal :=
  onExpiry s.gru.settingTimer s.cfg.image.tSet (fun _ s => settle (groutSets s)) s

/-- FLUSH_TIMER_EXPIRY (R113): only a running flush timer expires. -/
def execFlushTimerExpiry (s : State) : Host.Outcome State Fault Refusal :=
  if s.gru.flushTimer.isSome = true ∧ s.cfg.image.tFlush ≤ flushTime s then .next (settle (endFlush s))
  else .next s

end Sys2Proof.Machine
end

