-- ==== Sys2Proof/Machine/Frames.lean ====
section
/-! DEFINITION. The meanings of the commands of the shield line. -/

namespace Sys2Proof.Machine

open Sys2Proof

/-- STATUS_TIMER_EXPIRY (R176). -/
def execStatusTimerExpiry (s : State) : Host.Outcome State Fault Refusal :=
  onExpiry s.lif.timer Config.statusPeriod
    (fun start s => settle (sendStatus
      (s.onLif fun l => { l with timer := nextStart start Config.statusPeriod }))) s

/-- TRANSMIT_START (R172). It re-evaluates no condition, so it is no event in which a table cleared by a warm
restart raises an alarm again (DEDUCED, log 13). -/
def execTransmitStart (idle : Nat) (s : State) : Host.Outcome State Fault Refusal :=
  if mayTransmit s = true ∧ (sendingSlot s).isNone = true then .next (tryTransmit idle s) else .next s

/-- FRAME_SENT (R173). -/
def execFrameSent (s : State) : Host.Outcome State Fault Refusal :=
  if (sendingSlot s).isSome then .next (settle (frameGone s)) else .next s

/-- COLLISION (R173). -/
def execCollision (s : State) : Host.Outcome State Fault Refusal :=
  match sendingSlot s with
  | none => .next s
  | some k => .next (settle (frameCollides k s))

/-- RECEPTION_EARLY_END (R178): a frame begun and not complete is a CRC failure. Characters of a complete
frame are another row's (log 6). -/
def execReceptionEarlyEnd (chars : Chars) (s : State) : Host.Outcome State Fault Refusal :=
  if receives s = false then .next (lineUsed s)
  else if incomplete chars = false then .refused .otherRow
  else if chars.head? = some 0xA7 then .next (settle (countCrcError (lineUsed s)))
  else .next (lineUsed s)

/-- R6: a heard STATUS. -/
def statusHeard (h : Header) (b : Body) (s : State) : Option State :=
  match b with
  | .status r => some (peerStatus h.source h.seq r s)
  | .join _ => none | .order _ _ _ => none | .request _ _ _ => none | .reply _ _ => none
  | .alarm _ _ _ => none | .ringReport _ _ _ _ => none

/-- STATUS (R6, R7, R11). -/
def execStatus (chars : Chars) (s : State) : Host.Outcome State Fault Refusal :=
  hear chars statusHeard s

/-- R8: a heard JOIN. -/
def joinHeard (h : Header) (b : Body) (s : State) : Option State :=
  match b with
  | .join r => some (peerJoin h.source h.seq r s)
  | .status _ => none | .order _ _ _ => none | .request _ _ _ => none | .reply _ _ => none
  | .alarm _ _ _ => none | .ringReport _ _ _ _ => none

/-- JOIN (R8). -/
def execJoin (chars : Chars) (s : State) : Host.Outcome State Fault Refusal :=
  hear chars joinHeard s

/-- R64: a heard REQUEST of a kind: PTB has it, and THU answers it when the own station is its destination. -/
def requestHeard (kind : RequestKind) (h : Header) (b : Body) (s : State) : Option State :=
  match b with
  | .request k ring tag =>
    if k = kind then
      some (if h.dest = s.own then replyRequest h.source k ring tag (peerOther h.source h.seq s)
        else peerOther h.source h.seq s)
    else none
  | .status _ => none | .join _ => none | .order _ _ _ => none | .reply _ _ => none
  | .alarm _ _ _ => none | .ringReport _ _ _ _ => none

/-- RETRACT_GROUP (R64, R65). -/
def execRetractGroup (chars : Chars) (s : State) : Host.Outcome State Fault Refusal :=
  hear chars (requestHeard .retract) s

/-- EXTEND_GROUP (R64, R66). -/
def execExtendGroup (chars : Chars) (s : State) : Host.Outcome State Fault Refusal :=
  hear chars (requestHeard .extend) s

/-- R83: a heard REPLY. -/
def replyHeard (h : Header) (b : Body) (s : State) : Option State :=
  match b with
  | .reply tag answer =>
    some (if h.dest = s.own then replyArrival h.source tag answer (peerOther h.source h.seq s)
      else peerOther h.source h.seq s)
  | .status _ => none | .join _ => none | .order _ _ _ => none | .request _ _ _ => none
  | .alarm _ _ _ => none | .ringReport _ _ _ _ => none

/-- REPLY (R83). -/
def execReply (chars : Chars) (s : State) : Host.Outcome State Fault Refusal :=
  hear chars replyHeard s

/-- R153: a heard ALARM; one of kind ESTOP with state RAISED brings the E-stop condition. -/
def alarmHeard (h : Header) (b : Body) (s : State) : Option State :=
  match b with
  | .alarm kind raised _ =>
    some (if kind = .estop ∧ raised = true then activateEstop (peerOther h.source h.seq s)
      else peerOther h.source h.seq s)
  | .status _ => none | .join _ => none | .order _ _ _ => none | .request _ _ _ => none
  | .reply _ _ => none | .ringReport _ _ _ _ => none

/-- ALARM (R144, R153). -/
def execAlarm (chars : Chars) (s : State) : Host.Outcome State Fault Refusal :=
  hear chars alarmHeard s

/-- R9: a heard RING_REPORT. -/
def ringReportHeard (h : Header) (b : Body) (s : State) : Option State :=
  match b with
  | .ringReport _ _ _ _ => some (peerOther h.source h.seq s)
  | .status _ => none | .join _ => none | .order _ _ _ => none | .request _ _ _ => none
  | .reply _ _ => none | .alarm _ _ _ => none

/-- RING_REPORT (R9). -/
def execRingReport (chars : Chars) (s : State) : Host.Outcome State Fault Refusal :=
  hear chars ringReportHeard s

end Sys2Proof.Machine
end

