-- ==== Sys2Proof/Machine/OrderRows.lean ====
section
/-! DEFINITION. The meanings of the order commands, each an ORDER frame as heard. -/

namespace Sys2Proof.Machine

open Sys2Proof

/-- KEEPALIVE (R185: never taken; its one effect is the console liveness of R19). -/
def execKeepalive (chars : Chars) (s : State) : Host.Outcome State Fault Refusal :=
  hear chars (orderHeard (ofCode 1) ruleNone) s

/-- SET_ADVANCE (R55). -/
def execSetAdvance (chars : Chars) (s : State) : Host.Outcome State Fault Refusal :=
  hear chars (orderHeard (ofCode 2) ruleSetAdvance) s

/-- START_ADVANCE (R60). -/
def execStartAdvance (chars : Chars) (s : State) : Host.Outcome State Fault Refusal :=
  hear chars (orderHeard (ofCode 3) ruleStartAdvance) s

/-- PAUSE (R61). -/
def execPause (chars : Chars) (s : State) : Host.Outcome State Fault Refusal :=
  hear chars (orderHeard (ofCode 4) rulePause) s

/-- START_CUTTERHEAD (R29). -/
def execStartCutterhead (chars : Chars) (s : State) : Host.Outcome State Fault Refusal :=
  hear chars (orderHeard (ofCode 5) ruleStartCutterhead) s

/-- STOP_CUTTERHEAD (R32). -/
def execStopCutterhead (chars : Chars) (s : State) : Host.Outcome State Fault Refusal :=
  hear chars (orderHeard (ofCode 6) ruleStopCutterhead) s

/-- SET_MAX_LEVEL (R38). -/
def execSetMaxLevel (chars : Chars) (s : State) : Host.Outcome State Fault Refusal :=
  hear chars (orderHeard (ofCode 7) ruleSetMaxLevel) s

/-- BUILD (R72, R77). -/
def execBuild (chars : Chars) (s : State) : Host.Outcome State Fault Refusal :=
  hear chars (orderHeard (ofCode 8) ruleBuild) s

/-- ABORT_BUILD (R74, R92). -/
def execAbortBuild (chars : Chars) (s : State) : Host.Outcome State Fault Refusal :=
  hear chars (orderHeard (ofCode 9) ruleAbortBuild) s

/-- RESUME_BUILD (R91). -/
def execResumeBuild (chars : Chars) (s : State) : Host.Outcome State Fault Refusal :=
  hear chars (orderHeard (ofCode 10) ruleResumeBuild) s

/-- SET_FACE_PRESSURE (R127). -/
def execSetFacePressure (chars : Chars) (s : State) : Host.Outcome State Fault Refusal :=
  hear chars (orderHeard (ofCode 11) ruleSetFacePressure) s

/-- SCREW_START (R122). -/
def execScrewStart (chars : Chars) (s : State) : Host.Outcome State Fault Refusal :=
  hear chars (orderHeard (ofCode 12) ruleScrewStart) s

/-- SCREW_STOP (R122). -/
def execScrewStop (chars : Chars) (s : State) : Host.Outcome State Fault Refusal :=
  hear chars (orderHeard (ofCode 13) ruleScrewStop) s

/-- SCREW_MODE (R126). -/
def execScrewMode (chars : Chars) (s : State) : Host.Outcome State Fault Refusal :=
  hear chars (orderHeard (ofCode 14) ruleScrewMode) s

/-- GATE (R124). -/
def execGate (chars : Chars) (s : State) : Host.Outcome State Fault Refusal :=
  hear chars (orderHeard (ofCode 15) ruleGate) s

/-- GROUT_FLUSH (R112). -/
def execGroutFlush (chars : Chars) (s : State) : Host.Outcome State Fault Refusal :=
  hear chars (orderHeard (ofCode 16) ruleGroutFlush) s

/-- GROUT_WRITE_OFF (R115). -/
def execGroutWriteOff (chars : Chars) (s : State) : Host.Outcome State Fault Refusal :=
  hear chars (orderHeard (ofCode 17) ruleGroutWriteOff) s

/-- ACK_ALARMS (R145). -/
def execAckAlarms (chars : Chars) (s : State) : Host.Outcome State Fault Refusal :=
  hear chars (orderHeard (ofCode 18) ruleAckAlarms) s

/-- CLEAR_FLAGS (R151). -/
def execClearFlags (chars : Chars) (s : State) : Host.Outcome State Fault Refusal :=
  hear chars (orderHeard (ofCode 19) ruleClearFlags) s

/-- CLEAR_COUNTERS (R181). -/
def execClearCounters (chars : Chars) (s : State) : Host.Outcome State Fault Refusal :=
  hear chars (orderHeard (ofCode 20) ruleClearCounters) s

/-- RESUME (R155, R156). -/
def execResume (chars : Chars) (s : State) : Host.Outcome State Fault Refusal :=
  hear chars (orderHeard (ofCode 21) ruleResume) s

/-- RESTART_STATION (R191, R197): the restart event closes without settling (log 13). -/
def execRestartStation (chars : Chars) (s : State) : Host.Outcome State Fault Refusal :=
  hearClosed chars restartHeard s

/-- SET_RING (R190). -/
def execSetRing (chars : Chars) (s : State) : Host.Outcome State Fault Refusal :=
  hear chars (orderHeard (ofCode 23) ruleSetRing) s

/-- ORDER_UNDEFINED_KIND (R187 check 1): a kind code outside the 23, or a wrong parameter count. -/
def execOrderUndefinedKind (chars : Chars) (s : State) : Host.Outcome State Fault Refusal :=
  hear chars (orderHeard (fun code params => undefinedOrder code params.length) ruleNone) s

end Sys2Proof.Machine
end

