-- ==== Sys2Proof/Machine/Dispatch.lean ====
section
/-! DEFINITION. One arm per command. -/

namespace Sys2Proof.Machine

open Sys2Proof

def exec (i : Instr) (s : State) : Host.Outcome State Fault Refusal :=
  match i with
  | .powerUp straps => Sys2Proof.Machine.execPowerUp straps s
  | .loadEnd read => Sys2Proof.Machine.execLoadEnd read s
  | .faultJoinTimerExpiry => Sys2Proof.Machine.execFaultJoinTimerExpiry s
  | .listenJoinTimerExpiry => Sys2Proof.Machine.execListenJoinTimerExpiry s
  | .listenEnd => Sys2Proof.Machine.execListenEnd s
  | .fieldSampleExpiry inputs => Sys2Proof.Machine.execFieldSampleExpiry inputs s
  | .alarmPersistenceExpiry kind => Sys2Proof.Machine.execAlarmPersistenceExpiry kind s
  | .duplicateStationExpiry => Sys2Proof.Machine.execDuplicateStationExpiry s
  | .dutyEvaluationExpiry => Sys2Proof.Machine.execDutyEvaluationExpiry s
  | .startWatchExpiry peer => Sys2Proof.Machine.execStartWatchExpiry peer s
  | .residencyTick => Sys2Proof.Machine.execResidencyTick s
  | .balanceEvaluationExpiry => Sys2Proof.Machine.execBalanceEvaluationExpiry s
  | .statusTimerExpiry => Sys2Proof.Machine.execStatusTimerExpiry s
  | .transmitStart idle => Sys2Proof.Machine.execTransmitStart idle s
  | .frameSent => Sys2Proof.Machine.execFrameSent s
  | .collision => Sys2Proof.Machine.execCollision s
  | .receptionEarlyEnd chars => Sys2Proof.Machine.execReceptionEarlyEnd chars s
  | .status chars => Sys2Proof.Machine.execStatus chars s
  | .join chars => Sys2Proof.Machine.execJoin chars s
  | .retractGroup chars => Sys2Proof.Machine.execRetractGroup chars s
  | .extendGroup chars => Sys2Proof.Machine.execExtendGroup chars s
  | .reply chars => Sys2Proof.Machine.execReply chars s
  | .alarm chars => Sys2Proof.Machine.execAlarm chars s
  | .ringReport chars => Sys2Proof.Machine.execRingReport chars s
  | .peerLiveTimeout peer => Sys2Proof.Machine.execPeerLiveTimeout peer s
  | .peerSilentTimeout peer => Sys2Proof.Machine.execPeerSilentTimeout peer s
  | .peerJoiningTimeout peer => Sys2Proof.Machine.execPeerJoiningTimeout peer s
  | .consoleSilentExpiry => Sys2Proof.Machine.execConsoleSilentExpiry s
  | .consoleLostExpiry => Sys2Proof.Machine.execConsoleLostExpiry s
  | .stepTimerExpiry => Sys2Proof.Machine.execStepTimerExpiry s
  | .gripTimerExpiry => Sys2Proof.Machine.execGripTimerExpiry s
  | .retractTimerExpiry => Sys2Proof.Machine.execRetractTimerExpiry s
  | .extendTimerExpiry => Sys2Proof.Machine.execExtendTimerExpiry s
  | .answerWaitExpiry => Sys2Proof.Machine.execAnswerWaitExpiry s
  | .releaseTimerExpiry => Sys2Proof.Machine.execReleaseTimerExpiry s
  | .blockTimerExpiry => Sys2Proof.Machine.execBlockTimerExpiry s
  | .settingTimerExpiry => Sys2Proof.Machine.execSettingTimerExpiry s
  | .flushTimerExpiry => Sys2Proof.Machine.execFlushTimerExpiry s
  | .keepalive chars => Sys2Proof.Machine.execKeepalive chars s
  | .setAdvance chars => Sys2Proof.Machine.execSetAdvance chars s
  | .startAdvance chars => Sys2Proof.Machine.execStartAdvance chars s
  | .pause chars => Sys2Proof.Machine.execPause chars s
  | .startCutterhead chars => Sys2Proof.Machine.execStartCutterhead chars s
  | .stopCutterhead chars => Sys2Proof.Machine.execStopCutterhead chars s
  | .setMaxLevel chars => Sys2Proof.Machine.execSetMaxLevel chars s
  | .build chars => Sys2Proof.Machine.execBuild chars s
  | .abortBuild chars => Sys2Proof.Machine.execAbortBuild chars s
  | .resumeBuild chars => Sys2Proof.Machine.execResumeBuild chars s
  | .setFacePressure chars => Sys2Proof.Machine.execSetFacePressure chars s
  | .screwStart chars => Sys2Proof.Machine.execScrewStart chars s
  | .screwStop chars => Sys2Proof.Machine.execScrewStop chars s
  | .screwMode chars => Sys2Proof.Machine.execScrewMode chars s
  | .gate chars => Sys2Proof.Machine.execGate chars s
  | .groutFlush chars => Sys2Proof.Machine.execGroutFlush chars s
  | .groutWriteOff chars => Sys2Proof.Machine.execGroutWriteOff chars s
  | .ackAlarms chars => Sys2Proof.Machine.execAckAlarms chars s
  | .clearFlags chars => Sys2Proof.Machine.execClearFlags chars s
  | .clearCounters chars => Sys2Proof.Machine.execClearCounters chars s
  | .resume chars => Sys2Proof.Machine.execResume chars s
  | .restartStation chars => Sys2Proof.Machine.execRestartStation chars s
  | .setRing chars => Sys2Proof.Machine.execSetRing chars s
  | .orderUndefinedKind chars => Sys2Proof.Machine.execOrderUndefinedKind chars s

end Sys2Proof.Machine
end

