-- ==== Sys2Proof/Machine/Step.lean ====
section
/-! DEFINITION. The step of the queue of commands. -/

namespace Sys2Proof.Machine

open Sys2Proof

/-- The command at the front of the queue, on the station with the queue's rest; on an empty queue the block
idles (log 1). -/
def step (s : State) : Host.Outcome State Fault Refusal :=
  match s.pending with
  | [] => .next s
  | c :: rest => exec c (s.setPending rest)

/-- The command a word spells put at the front of the queue; the table gives no row bits, so no word spells
one (log 2). -/
def State.withFetchWord (s : State) (nbits w : Nat) : State :=
  match decodeTableWord nbits w with
  | none => s
  | some c => s.setPending (c :: s.pending)

end Sys2Proof.Machine
end

