-- ==== Sys2Proof/Safety.lean ====
section
/-! DEFINITION. What claims about the station are stated in: a frame heard, an order taken, what closing an
event leaves alone, and the invariants of its states. -/

namespace Sys2Proof.Machine

open Sys2Proof

/-! ## Frames and orders heard -/

/-- The station hears a valid frame from another station or the console (R178, R179). -/
def hears (s : State) (chars : Chars) (h : Header) (b : Body) : Prop :=
  receives s = true ∧ judge s.cfg.image.nS chars = .valid h b ∧ h.source ≠ s.own

/-- The station hears an ORDER that ORU takes (R184). -/
def takesOrder (s : State) (chars : Chars) (tag : Tag) (code : Nat) (params : List Int) : Prop :=
  ∃ h, hears s chars h (.order tag code params) ∧ takes h.dest tag code s = true

/-- The station takes an ORDER that passes checks 1 to 4 of R187, so that its owning rule decides. -/
def ordered (s : State) (chars : Chars) (tag : Tag) (code : Nat) (params : List Int) : Prop :=
  takesOrder s chars tag code params ∧ undefinedOrder code params.length = false ∧ s.phase ≠ .listen ∧
    dutyRefuses code s = false ∧ codedRefuses code params = false

/-- The state an owning rule meets: the idle count restarted (R171, R173) and the console LIVE (R19). -/
def atOrder (s : State) : State :=
  { s with
    lif := { s.lif with idle := 0, abandoned := false }
    ptb := { s.ptb with console := { liveness := .live, lastOrder := some s.elapsed } } }

/-- R184, R186: the order echoed with its result. -/
def echoed (tag : Tag) (code : Nat) (result : OrderResult) (s : State) : State :=
  { s with
    oru := { lastTag := some tag, echo := some { tag := tag, code := code, result := result } } }

/-- The row of an order kind code: 0 and every code above 23 are of the undefined kind. -/
def orderRow (code : Nat) (chars : Chars) : Instr :=
  match code with
  | 1 => .keepalive chars | 2 => .setAdvance chars | 3 => .startAdvance chars | 4 => .pause chars
  | 5 => .startCutterhead chars | 6 => .stopCutterhead chars | 7 => .setMaxLevel chars
  | 8 => .build chars | 9 => .abortBuild chars | 10 => .resumeBuild chars
  | 11 => .setFacePressure chars | 12 => .screwStart chars | 13 => .screwStop chars
  | 14 => .screwMode chars | 15 => .gate chars | 16 => .groutFlush chars
  | 17 => .groutWriteOff chars | 18 => .ackAlarms chars | 19 => .clearFlags chars
  | 20 => .clearCounters chars | 21 => .resume chars | 22 => .restartStation chars
  | 23 => .setRing chars | _ => .orderUndefinedKind chars

/-- The rows of the kinds other than ORDER. -/
def frameRows (chars : Chars) : List Instr :=
  [.status chars, .join chars, .retractGroup chars, .extendGroup chars, .reply chars, .alarm chars,
   .ringReport chars]

/-! ## Changes of the build state (R76, R81, R89, R90) -/

/-- R76: ERECTOR_CMD on entry into a build state. -/
def commandOf (s : State) : BuildState → ErectorCmd
  | .travel => .travel (placementAt s.cfg.image s.bsq.cursor).position
  | .place => .place
  | .release => .release
  | .idle => .hold | .buildWait => .hold | .pick => .hold | .awaitRetract => .hold
  | .awaitExtend => .hold | .suspended => .hold

/-- R76, R81, R83, R89: from `s` the build state becomes `b`, not IDLE, in `e`: its command is written, its step timer
starts (none runs in SUSPENDED), every other step's timer stops, and the two conditions that last to the end of
SUSPENDED end with it. -/
def EntersBuild (b : BuildState) (s e : State) : Prop :=
  e.bsq =
    { s.bsq with
      state := b, issued := false, stepTimer := if b = .suspended then none else some s.elapsed
      gripTimer := none, retractTimer := none, extendTimer := none
      releaseTimer := if b = .release then some s.elapsed else none
      timedOut := if s.bsq.state = .suspended then false else s.bsq.timedOut
      unanswered := if s.bsq.state = .suspended then false else s.bsq.unanswered } ∧
    e.fpt.written = { s.fpt.written with erector := commandOf s b } ∧
    { e.fpt with written := s.fpt.written, wires := s.fpt.wires } = s.fpt ∧
    { e with bsq := s.bsq, fpt := s.fpt } = s

/-- R84: the outstanding retraction once a new request replaces the outstanding one: a RETRACT_GROUP still awaited
leaves its issue time to judge its answer deadline by (DESIGN CHOICE, log 9). -/
def retractionKept (q : BsqState) : Option Retraction :=
  q.retraction.map fun t =>
    { t with
      deadline :=
        if q.request.any (fun r => decide (r.kind = .retract) && !r.accepted) then q.answerWait
        else t.deadline }

/-- R90: in SUSPENDED an EXTEND_GROUP is due to the target of the retraction `t`: not while the own phase is HALTED,
not where its entry is not present, and not where its group is known to be EXTENDING or HOLDING. -/
abbrev ExtensionDue (s : State) (t : Retraction) : Prop :=
  s.bsq.state = .suspended ∧ s.phase ≠ .halted ∧
    if t.target = s.own then s.thu.group ≠ .moving .extending ∧ s.thu.group ≠ .moving .holding
    else present s t.target = true ∧
      ∀ r ∈ served s t.target, r.group ≠ .moving .extending ∧ r.group ≠ .moving .holding

/-- R90, R82, R83: `u` is `s` with the group of the outstanding retraction asked back where that is due: by a REQUEST
frame to a peer, and at the own station by THU, whose answer comes in the same event. -/
def BringsBack (s u : State) : Prop :=
  (∀ t, s.bsq.retraction = some t → ExtensionDue s t →
    let sent (accepted : Bool) : OutRequest :=
      { kind := .extend, tag := s.bsq.nextTag, target := t.target, ring := s.bsq.cursorRing
        accepted := accepted }
    (t.target ≠ s.own →
      u.bsq =
        { s.bsq with
          request := some (sent false), nextTag := s.bsq.nextTag + 1, answerWait := some s.elapsed
          retraction := retractionKept s.bsq } ∧
      { u with bsq := s.bsq } =
        handFrame
          { dest := t.target, body := .request .extend s.bsq.cursorRing s.bsq.nextTag } s) ∧
    (t.target = s.own →
      let a := answerRequest s.own .extend s.bsq.cursorRing s.bsq.nextTag s
      u.bsq =
        { s.bsq with
          request := if a.2 = .accepted then some (sent true) else none
          nextTag := s.bsq.nextTag + 1, answerWait := none, unanswered := false
          retraction := retractionKept s.bsq } ∧
      { u with bsq := s.bsq } = a.1)) ∧
  ((∀ t, s.bsq.retraction = some t → ¬ExtensionDue s t) → u = s)

/-- R89, R90: an active build state other than IDLE and SUSPENDED becomes SUSPENDED, and the group of the outstanding
retraction is asked back. -/
def EntersSuspended (s u : State) : Prop :=
  ∃ e, EntersBuild .suspended s e ∧ BringsBack e u

/-- R89: an active build state other than IDLE and SUSPENDED. -/
abbrev Underway (s : State) : Prop :=
  s.bsq.state ≠ .idle ∧ s.bsq.state ≠ .suspended

/-! ## What closing an event leaves alone -/

/-- The drive block but for what a halt or a trip changes. -/
def keptDsu (d : DsuState) : DsuState :=
  { d with cutterhead := .stopped, nr := 0, changing := false, downCount := 0, upCount := 0 }

/-- The thrust block but for the group, its reference, the enable, the responder and BUILD_ORPHANED. -/
def keptThu (t : ThuState) : ThuState :=
  { t with
    group := .moving .holding, pRef := 0, enable := false, slot := none, lastAnswer := none
    orphaned := false }

/-- The build block: the cursor's place and the record under compilation. -/
def keptBsq (q : BsqState) : BsqState :=
  { BsqState.cold with
    cursor := q.cursor, cursorRing := q.cursorRing, buildStart := q.buildStart, placed := q.placed
    substituted := q.substituted }

/-- The grout block but for the flush timer. -/
def keptGru (g : GruState) : GruState :=
  { g with flushTimer := none, flushRun := 0 }

/-- The balance block but for the conveyor. -/
def keptBal (b : BalState) : BalState :=
  { b with conveyor := .stopped, nCmd := 0, stopHold := false }

/-- The alarm block but for its entries and the sticky flags. -/
def keptAlu (a : AluState) : AluState :=
  { a with entries := [], flags := {} }

/-- The ports' input side. -/
def keptFpt (f : FptState) : FptState :=
  { f with written := {}, wires := {}, forced := false }

/-- The line block but for the queue and its drops. -/
def keptLif (l : LifState) : LifState :=
  { l with queue := [], queueDrops := 0 }

/-- The part of the state that closing an event (`settle`) leaves alone, everything else blanked. -/
def kept (s : State) : State :=
  { s with
    phase := .idle, pauseCause := .none
    dsu := keptDsu s.dsu, thu := keptThu s.thu, bsq := keptBsq s.bsq, gru := keptGru s.gru
    bal := keptBal s.bal, alu := keptAlu s.alu, fpt := keptFpt s.fpt, lif := keptLif s.lif }

/-! ## Invariants of the states a station can be in -/

/-- Every table of the state has its length. -/
abbrev Shaped (s : State) : Prop :=
  s.ptb.peers.length = 8 ∧ s.dsu.stoppedSince.length = 8 ∧ s.dsu.residency.length = 8 ∧
    s.thu.set.length = 8 ∧ s.bsq.substituted.length = 8 ∧ s.bal.set.length = 8 ∧
    s.alu.entries.length = 30 ∧ s.fpt.fitted.length = 26 ∧ s.fpt.inputs.length = 18

/-- R39: the applied level is at or below the own proposal and that of every present sector peer. -/
abbrev LevelsAgree (s : State) : Prop :=
  s.dsu.applied ≤ s.dsu.proposed ∧ ∀ p ∈ presentPeers s, s.dsu.applied ≤ p.2.proposed

/-- R40, R41: the candidate is the lowest of the own proposal and those of every present sector peer where that
is above the applied level, and none otherwise; and none stands on which every present sector peer agrees. -/
abbrev CandidateHeld (s : State) : Prop :=
  (∀ c, s.dsu.candidate = some c ↔
    s.dsu.applied < c ∧ c ≤ s.dsu.proposed ∧ (∀ p ∈ presentPeers s, c ≤ p.2.proposed) ∧
      (c = s.dsu.proposed ∨ ∃ p ∈ presentPeers s, p.2.proposed = c)) ∧
    (s.dsu.candidate ≠ none → ∃ p ∈ presentPeers s, (peerOf s p.1).agreement < 2)

/-- R48: the group is FROZEN. -/
def isFrozen : Group → Bool
  | .frozen _ => true
  | .moving _ => false

/-- R142: the alarm of a kind stands in force. -/
abbrev standsInForce (s : State) (k : AlarmKind) : Prop :=
  (entryOf s k).state = .active ∨ (entryOf s k).state = .pendingClear

/-- R146, R147: some alarm of a class stands in force. -/
abbrev classStands (s : State) (c : AlarmClass) : Prop :=
  ∃ k ∈ AlarmKind.all, standsInForce s k ∧ alarmClass s.cfg.image k = c

/-- R58, R23, R138: there is a CONVEYOR holder and it shows balance valid: BAL's own value at the own station, and
elsewhere that of the record a present entry serves. -/
abbrev holderShowsBalance (s : State) : Prop :=
  ∃ h ∈ s.ptb.conveyor.holder,
    if h = s.own then s.bal.active = true ∧ s.bal.blind = false ∧ s.bal.conveyor ≠ .fault
    else ∃ r ∈ served s h, ∃ c ∈ r.conveyorPart, c.balanceValid = true

/-- R58: the three conditions of the own advance enable. -/
abbrev enableConditions (s : State) : Prop :=
  s.dsu.cutterhead = .running ∧ ¬classStands s .hold ∧ ¬classStands s .stop ∧ holderShowsBalance s

/-- R59: the own enable is true, and the record served by every present sector peer shows its own so. -/
abbrev allEnabled (s : State) : Prop :=
  s.thu.enable = true ∧ ∀ p ∈ presentPeers s, p.2.enable = true

/-- R58, R59, R61, R69: the advance enable is as its conditions give; an advancing phase has its enables up,
and an automatic pause has not; a pause has a cause and no other phase has; a group advances only in the phase
ADVANCING with the stroke-end flag clear; and a group is FROZEN in the phase HALTED and in no other.
LISTEN's timer runs in LISTEN alone. -/
abbrev AdvanceGated (s : State) : Prop :=
  (s.thu.enable = true ↔ enableConditions s) ∧ (s.phase = .advancing → allEnabled s) ∧
    (s.phase = .paused → s.pauseCause = .automatic → ¬allEnabled s) ∧
    (s.pauseCause ≠ .none ↔ s.phase = .paused) ∧
    (s.thu.group = .moving .advancing → s.phase = .advancing ∧ s.thu.strokeEnd = false) ∧
    (s.phase = .halted ↔ isFrozen s.thu.group = true) ∧
    (s.cfg.listenTimer ≠ none → s.phase = .listen)

/-- R147, R148, R153, R154: no phase that a stop halts stands while an alarm of STOP class is in force or the
E-stop condition is active, and the ports apply the forcing exactly while ALU has it. -/
abbrev StopsHalt (s : State) : Prop :=
  (s.phase = .idle ∨ s.phase = .advancing ∨ s.phase = .paused ∨ s.phase = .building →
    ¬classStands s .stop ∧ s.alu.estop = false) ∧
    (s.fpt.forced = true ↔
      s.alu.active = true ∧ (s.phase = .halted ∨ s.alu.estop = true ∨ classStands s .stop))

/-- R103: posted grout equals delivered grout, the volume outstanding and the volume written off. -/
abbrev GroutBalanced (s : State) : Prop :=
  s.gru.posted = s.gru.delivered + volumeOf s.gru.queue + s.gru.writtenOff

/-- R101: at most 16 parcels, none empty, the ring numbers non-decreasing from head to tail. -/
abbrev ParcelsQueued (s : State) : Prop :=
  s.gru.queue.length ≤ 16 ∧ (∀ p ∈ s.gru.queue, 0 < p.volume) ∧
    s.gru.queue.Pairwise fun p q => p.ring.toNat ≤ q.ring.toNat

/-- R52, R100, R129 to R131: the counter, the remainders and the account lie in their ranges. -/
abbrev WithinRanges (s : State) : Prop :=
  (0 ≤ s.thu.counter ∧ s.thu.counter ≤ 250000) ∧ (0 ≤ s.gru.remG ∧ s.gru.remG < 1000000) ∧
    (0 ≤ s.bal.remE ∧ s.bal.remE < 1000000) ∧ (0 ≤ s.bal.remX ∧ s.bal.remX < 4096) ∧
    |s.bal.account| ≤ 2147483647 ∧ |s.bal.eRing| ≤ 2147483647 ∧ |s.bal.xRing| ≤ 2147483647

/-- R123: one of the four hold causes is present. -/
abbrev heldBack (b : BalState) : Prop :=
  b.overdrawn = true ∨ b.pLow = true ∨ b.gateOpen = false ∨ b.stopHold = true

/-- R121, R123: n_cmd is 0 outside RUNNING, and the conveyor of an active BAL runs without and holds with a
hold cause. -/
abbrev ConveyorHeld (s : State) : Prop :=
  (s.bal.conveyor ≠ .running → s.bal.nCmd = 0) ∧
    (s.bal.active = true → s.bal.conveyor = .running → ¬heldBack s.bal) ∧
    (s.bal.active = true → s.bal.conveyor = .holding → heldBack s.bal)

/-- R142 to R145: an entry's timer runs while it is pending, its condition is true in PENDING_RAISE and ACTIVE
alone, and an alarm in force is latched. -/
abbrev entrySound (e : AlarmEntry) : Prop :=
  (e.timer ≠ none ↔ (e.state = .pendingRaise ∨ e.state = .pendingClear)) ∧
    (e.cond = true ↔ (e.state = .pendingRaise ∨ e.state = .active)) ∧
    (entryInForce e = true → e.latch = true)

/-- Every entry of the alarm table is sound. -/
abbrev AlarmsSound (s : State) : Prop :=
  ∀ e ∈ s.alu.entries, entrySound e

/-- R175: at most eight frames, class by class, at most one of them a STATUS. -/
abbrev FramesQueued (s : State) : Prop :=
  s.lif.queue.length ≤ 8 ∧ (s.lif.queue.Pairwise fun f g => f.rank ≤ g.rank) ∧
    (s.lif.queue.filter fun f => f.body.isStatus).length ≤ 1

end Sys2Proof.Machine
end

