-- ==== Sys2Proof/Certificates/Slice0/Obligations.lean ====
section
/-! DEFINITION. The statements for the provers, chapter by chapter of the spec. -/

open Sys2Proof Sys2Proof.Machine

/-! ## The step (00_scope) -/

/-- A step runs the command at the front of the queue on the station with the queue's rest. -/
def Obligations.StepRunsFrontCommand : Prop :=
  ∀ (s : State) (c : Instr) (rest : List Instr),
    step (s.setPending (c :: rest)) = exec c (s.setPending rest)

/-! ## Start (11_configuration_and_start) -/

/-- POWER_UP completes from every state: the registers the tables of the chapters give a value after cold start
have it. That the queue of commands stands as it is (log 2), and that the built-in references of LOAD (R194) stand
unscaled on the pins (log 21), is the model's reading. -/
def Obligations.PowerUpGivesColdStart : Prop :=
  ∀ (p : Straps) (s : State), ∃ t,
    exec (.powerUp p) s = .next t ∧
    t.pending = s.pending ∧ t.elapsed = 0 ∧ t.phase = .load ∧ t.cfg.straps = p ∧
    t.own = p.stn0.toNat + 2 * p.stn1.toNat + 4 * p.stn2.toNat ∧
    (∀ j < 8, peerOf t j = if j = t.own then { liveness := .self } else {}) ∧
    t.ptb.console = {} ∧ t.ptb.endOfListen = false ∧ t.oru = { lastTag := none, echo := none } ∧
    t.ring = 0 ∧ t.pauseCause = .none ∧ t.cfg.warm = false ∧
    t.dsu.cutterhead = .stopped ∧ t.dsu.nr = 0 ∧ t.dsu.choice = 0 ∧ t.dsu.downCount = 0 ∧
    t.dsu.upCount = 0 ∧ t.dsu.throttle = false ∧ t.dsu.consoleMax = 7 ∧ t.dsu.proposed = 0 ∧
    t.dsu.applied = 0 ∧ t.dsu.candidate = none ∧ t.dsu.changing = false ∧ t.dsu.ringMax = 0 ∧
    t.dsu.residency = [0, 0, 0, 0, 0, 0, 0, 0] ∧ (∀ j, t.dsu.stoppedSince.getD j none = none) ∧
    t.thu.group = .moving .holding ∧ t.thu.fresh = true ∧ t.thu.counter = 0 ∧ t.thu.strokeEnd = false ∧
    t.thu.rateTarget = 0 ∧ t.thu.bias = 0 ∧ (∀ j, t.thu.set.getD j none = none) ∧
    t.thu.neighbours = none ∧ t.thu.slot = none ∧ t.thu.lastAnswer = none ∧ t.thu.enable = false ∧
    t.bsq.state = .idle ∧ t.bsq.cursor = 0 ∧ t.bsq.progress = .new ∧ t.bsq.request = none ∧
    t.bsq.retraction = none ∧ t.bsq.nextTag = 0 ∧ t.bsq.buildStart = none ∧ t.bsq.placed = 0 ∧
    (∀ j, t.bsq.substituted.getD j false = false) ∧ t.bsq.stepTimer = none ∧
    t.bsq.retractTimer = none ∧ t.bsq.extendTimer = none ∧ t.bsq.answerWait = none ∧
    t.bsq.holderSeen = false ∧ t.gru.active = false ∧ t.fpt.written.pump = 0 ∧
    t.fpt.written.flushOpen = false ∧
    t.bal.active = false ∧ t.bal.account = 0 ∧ t.bal.remE = 0 ∧ t.bal.remX = 0 ∧ t.bal.eRing = 0 ∧
    t.bal.xRing = 0 ∧ t.bal.restarted = false ∧ t.bal.nCmd = 0 ∧ t.bal.manual = false ∧
    t.bal.manualRef = 0 ∧ t.bal.gateOpen = false ∧ t.bal.stopHold = false ∧ t.bal.overCount = 0 ∧
    t.bal.recoverCount = 0 ∧
    t.alu.active = false ∧
    (∀ k, entryOf t k = { state := .inactive, cond := false, timer := none, latch := false }) ∧
    t.alu.flags =
      { saturated := false, clamped := false, fifoMergedFull := false, counterWrap := false
        ringResync := false } ∧
    t.alu.estop = false ∧ t.alu.duplicate = none ∧ t.fpt.timer = none ∧
    t.fpt.estopIn = { asserted := true, start := true, run := 0 } ∧ t.fpt.forced = false ∧
    t.fpt.wires = builtInReferences ∧
    t.lif.queue = [] ∧ t.lif.slot = none ∧ t.lif.seq = 0 ∧ t.lif.lineFault = false ∧
    t.lif.abandoned = false ∧ t.lif.diagCount = 0 ∧ t.lif.crcErrors = 0 ∧ t.lif.formatErrors = 0 ∧
    t.lif.collisions = 0 ∧ t.lif.queueDrops = 0

/-- R193: the nine checks, one by one, check 5 by the range that each chapter gives its fields. The order of the
bytes of the length and the check value, and the lists' places, are the model's (logs 4 and 32). -/
def Obligations.ImagePassesExactlyByItsChecks : Prop :=
  ∀ (station spent : Nat) (r : ImageRead),
    let lies (lo hi v : Int) := lo ≤ v ∧ v ≤ hi
    let inRange (i : Image) :=
      (lies 10000 1000000 i.aFace ∧ lies 1000 100000 i.aSector ∧ lies 1000 2000 i.bulking ∧
        lies 1000 1500 i.fFill ∧ lies 1000 2000000 i.vS) ∧
      (lies 0 250000 i.sEnd ∧ lies 0 250000 i.sBuildMin ∧ lies 0 250000 i.sRetract ∧
        lies 0 4000 i.pHold ∧ lies 0 4000 i.pRetract ∧ lies 0 4000 i.pGroupMax ∧ lies 0 10000 i.kA ∧
        lies 0 250000 i.lSkew ∧ lies 0 250000 i.lSkewAlarm) ∧
      (i.levels.length = 8 ∧ (∀ d ∈ i.levels, lies 0 600 d.speed ∧ lies 1 6000 d.torqueLimit ∧
          lies 0 2000 d.loadHigh ∧ lies 0 2000 d.loadLow ∧ lies 1 50 d.hDown ∧ lies 1 255 d.hUp ∧
          lies 0 1000 d.advanceCap) ∧
        lies 1 600 i.rRamp ∧ lies (-200) 2000 i.tHigh ∧ lies (-200) 2000 i.tLow ∧ lies 0 7 i.lTherm ∧
        lies 0 1000 i.dDroop ∧ lies 0 96000 i.tAlarm ∧ lies 0 96000 i.tTrip) ∧
      ((∀ p ∈ i.plan, lies 1 10 p.segment ∧ lies 0 359 p.position) ∧ lies 100 60000 i.tStep ∧
        lies 1 1000 i.tGrip ∧ lies 100 60000 i.tRetract ∧ lies 100 60000 i.tExtend ∧
        lies 1 1000 i.tRelease) ∧
      (lies 1000 1000000 i.vParcel ∧ lies 10 100000 i.vStart ∧ lies 0 (2 ^ 63 - 1) i.lBoost ∧
        lies 0 60 i.rateLow ∧ lies 0 60 i.rateHigh ∧ lies 0 1000 i.pMax ∧ lies 0 1000 i.pResume ∧
        lies 100 60000 i.tBlock ∧ lies 6000 720000 i.tSet ∧ lies 100 60000 i.tFlush ∧
        lies 0 (14 * i.vParcel) i.lLag ∧ lies 0 (14 * i.vParcel) i.lLagClear) ∧
      (lies 0 10000 i.kP ∧ lies 0 1000000 i.kB ∧ lies 1 3000 i.slew ∧ lies 0 3000 i.nMax ∧
        lies 0 1000000000 i.lOver ∧ lies 0 1000000000 i.lUnder ∧ lies 0 1000000000 i.lHyst ∧
        lies 0 8000 i.pTargetInit ∧ lies 0 1000 i.bandInit) ∧
      (i.persistences.length = 30 ∧
        ∀ p ∈ i.persistences, lies 0 60000 p.raise ∧ lies 0 60000 p.clear) ∧
      (i.analog.length = 8 ∧ (∀ a ∈ i.analog, lies (-10000000) 10000000 a.gain ∧
          lies (-1000000) 1000000 a.offset ∧ lies (-20000000) 20000000 a.low ∧
          lies (-20000000) 20000000 a.high) ∧
        i.outputs.length = 5 ∧ (∀ o ∈ i.outputs, lies (-10000000) 10000000 o.gain ∧
          lies (-1000000) 1000000 o.offset) ∧
        lies 1 100 i.cMeterMax ∧ lies 1 65536 i.cEncMax)
    imagePasses station spent r = true ↔
      spent ≤ 20 ∧ imageLength r.bytes ≤ 65530 ∧ r.bytes.length = imageLength r.bytes + 6 ∧
      crc32 (r.bytes.take (2 + imageLength r.bytes)) = checkValue r.bytes ∧ checkValue r.bytes ≠ 0 ∧
      (4 ≤ r.fields.nS ∧ r.fields.nS ≤ 8) ∧ station < r.fields.nS ∧ inRange r.fields ∧
      (levelAt r.fields 0).valid = true ∧
      (3 ≤ r.fields.plan.length ∧ r.fields.plan.length ≤ 10) ∧
      (∃ before last, r.fields.plan = before ++ [last] ∧ last.key = true ∧
        ∀ p ∈ before, p.key = false) ∧
      (r.fields.safeMotor0 = 0 ∧ r.fields.safeMotor1 = 0 ∧ r.fields.safePump = 0 ∧
        r.fields.safeScrew = 0) ∧
      r.fields.lLag + r.fields.vParcel ≤ 15 * r.fields.vParcel

/-- LOAD_END in LOAD completes: an image that passes sends the station to PROBE with the image's values, any
other to CONFIG_FAULT with its JOIN handed and the built-in references on the pins. R170, R99: the end of PROBE
fixes the fitted set, makes GRU active and begins LISTEN with its first JOIN. The model's
readings: check 1 is judged by the elapsed count standing at LOAD_END (log 36), the image's values stand beside its
bytes (log 4), and the built-in references stand unscaled on the pins (log 21). -/
def Obligations.LoadEndGoesToProbeOrConfigFault : Prop :=
  (∀ (read : Option ImageRead) (s : State), s.phase = .load → ∃ t,
    exec (.loadEnd read) s = .next t ∧
    (∀ r, read = some r → imagePasses s.own s.elapsed.toNat r = true →
      t.phase = .probe ∧ t.cfg.image = r.fields ∧ t.cfg.digest = checkValue r.bytes ∧
      t.cfg.straps = s.cfg.straps ∧ t.alu.active = true ∧ t.fpt.timer = some s.elapsed ∧
      t.fpt.probe.trial = 1 ∧ t.bal.pTarget = r.fields.pTargetInit ∧ t.bal.band = r.fields.bandInit ∧
      t.fpt.estopIn = s.fpt.estopIn) ∧
    ((∀ r, read = some r → imagePasses s.own s.elapsed.toNat r = false) →
      t.phase = .configFault ∧ t.cfg = { s.cfg with faultTimer := some s.elapsed } ∧
      t.fpt.wires = builtInReferences ∧ t.fpt.timer = s.fpt.timer ∧ t.ptb = s.ptb ∧ t.gru = s.gru ∧
      t.dsu = s.dsu ∧ t.thu = s.thu ∧ t.bal = s.bal ∧ t.bsq = s.bsq ∧
      t.lif = (handFrame
        { dest := 15
          body := .join
            { station := s.own
              claims := { erector := s.cfg.straps.erector, conveyor := s.cfg.straps.conveyor }
              warm := false, fault := true, digest := 0, fitted := 0, ring := 0 } } s).lif)) ∧
  (∀ s : State, s.fpt.fitted.length = 26 →
    let t := endProbe s
    let unprobed (c : Channel) := c = .estopIn ∨ c = .groupValve ∨
      ((c = .screwRef ∨ c = .gateCmd) ∧ s.cfg.straps.conveyor = true) ∨
      (c = .erectorCmd ∧ s.cfg.straps.erector = true)
    (∀ c, isFitted t c = true ↔ unprobed c ∨ isFitted s c = true) ∧
    t.fpt.inputs = s.fpt.inputs ∧ t.fpt.estopIn = s.fpt.estopIn ∧ t.fpt.timer = s.fpt.timer ∧
    t.gru.active = true ∧
    (t.gru.line = if isFitted s .groutPump = true then .idle else .absent) ∧
    (t.gru.settingTimer = if isFitted s .groutPump = true then some s.elapsed else none) ∧
    t.gru.queue = [] ∧ t.gru.remG = 0 ∧ t.gru.posted = 0 ∧ t.gru.delivered = 0 ∧
    t.gru.writtenOff = 0 ∧ t.gru.overrun = 0 ∧ t.gru.flushed = 0 ∧ t.gru.postedRing = 0 ∧
    t.gru.deliveredRing = 0 ∧ t.gru.lag = false ∧ t.gru.blockTimer = none ∧
    t.gru.flushTimer = none ∧ t.fpt.written.pump = 0 ∧ t.fpt.written.flushOpen = false ∧
    t.phase = .listen ∧ t.pauseCause = .none ∧
    t.cfg =
      { s.cfg with
        warm := false, listenTimer := some s.elapsed, joinTimer := some s.elapsed, joinCount := 1 } ∧
    t.lif = (handFrame
      { dest := 15
        body := .join
          { station := s.own
            claims := { erector := s.cfg.straps.erector, conveyor := s.cfg.straps.conveyor }
            warm := false, fault := false, digest := s.cfg.digest
            fitted := fittedBits t.fpt.fitted, ring := s.ring } } s).lif ∧
    t.alu.entries = s.alu.entries ∧ t.alu.estop = s.alu.estop ∧ t.dsu = s.dsu ∧
    t.ring = s.ring ∧ t.elapsed = s.elapsed)

/-- FAULT_JOIN_TIMER_EXPIRY and LISTEN_JOIN_TIMER_EXPIRY complete: the JOIN of the phase goes to the queue and
the timer runs on from its old start, also where it is taken late (log 3), in LISTEN up to the sixth JOIN. -/
def Obligations.JoinTimersHandTheJoin : Prop :=
  (∀ (s : State) (start : Time), s.cfg.faultTimer = some start → 5 ≤ elapsedSince start s.elapsed →
    exec .faultJoinTimerExpiry s = .next
      (handFrame
        { dest := 15
          body := .join
            { station := s.own
              claims := { erector := s.cfg.straps.erector, conveyor := s.cfg.straps.conveyor }
              warm := false, fault := true, digest := 0, fitted := 0, ring := 0 } }
        { s with cfg := { s.cfg with faultTimer := some (start + 5) } })) ∧
  (∀ (s : State) (start : Time), s.cfg.joinTimer = some start → 5 ≤ elapsedSince start s.elapsed →
    exec .listenJoinTimerExpiry s = .next (settle
      (handFrame
        { dest := 15
          body := .join
            { station := s.own
              claims := { erector := s.cfg.straps.erector, conveyor := s.cfg.straps.conveyor }
              warm := s.cfg.warm, fault := false, digest := s.cfg.digest
              fitted := fittedBits s.fpt.fitted, ring := s.ring } }
        { s with
          cfg :=
            { s.cfg with
              joinTimer := if s.cfg.joinCount + 1 < 6 then some (start + 5) else none
              joinCount := s.cfg.joinCount + 1 } })))

/-- LISTEN_END completes: the ring number adopted, the end-of-listen mark, the duties evaluated, the timers
begun, and the phase HALTED exactly where a stop is in force or the E-stop condition active, and IDLE
otherwise. -/
def Obligations.ListenEndAdoptsTheRingAndStartsTheTimers : Prop :=
  ∀ (s : State) (start : Time), s.cfg.listenTimer = some start → 30 ≤ elapsedSince start s.elapsed →
    ∃ u, exec .listenEnd s = .next (settle u) ∧
      let t := settle u
      (∀ j r, j < 8 → present s j = true → (peerOf s j).ringHeard = some r → r.toNat ≤ t.ring.toNat) ∧
      ((∃ j, j < 8 ∧ present s j = true ∧ (peerOf s j).ringHeard = some t.ring) ∨
        ((∀ j, j < 8 → present s j = true → (peerOf s j).ringHeard = none) ∧
          t.ring = if s.cfg.warm then s.ring else 0)) ∧
      (s.ptb.exErector = true → s.cfg.warm = false → t.bsq.cursorRing = t.ring) ∧
      t.cfg = { s.cfg with listenTimer := none, joinTimer := none } ∧
      t.ptb.endOfListen = true ∧ t.ptb.listenEnd = s.elapsed ∧ t.ptb.peers = s.ptb.peers ∧
      t.ptb.erector = erectorOutcome t ∧ t.ptb.conveyor = conveyorOutcome t ∧
      t.lif.timer = some s.elapsed ∧ t.dsu.timer = some s.elapsed ∧
      (t.bal.active = true → t.bal.timer = some s.elapsed) ∧
      (u.phase = if stopInForce s = true ∨ s.alu.estop = true then .halted else .idle) ∧
      (t.phase = .idle ∨ t.phase = .halted) ∧
      (stopInForce s = true ∨ s.alu.estop = true ∨ stopInForce t = true → t.phase = .halted) ∧
      (stopInForce s = false → s.alu.estop = false → stopInForce t = false → t.phase = .idle)

/-! ## The peer table (01_stations_sectors_and_the_peer_table) -/

/-- R7: what a STATUS makes of the consecutive-good count of a JOINING entry; every valid frame moves the last
sequence the test reads, and a frame that fails its CRC leaves the peer table as it is. -/
def Obligations.ConsecutiveTestCountsToFive : Prop :=
  (∀ (now : Time) (seq : Tag) (r : StatusRecord) (e : PeerEntry), e.liveness = .joining →
    e.good ≤ 4 →
    let passes := 1 ≤ e.good ∧ e.lastSeq = some (seq - 1) ∧
      ∃ t, e.lastStatus = some t ∧ elapsedSince t now ≤ 3
    (passes → (statusEntry now seq r e).good = e.good + 1) ∧
    (¬passes → (statusEntry now seq r e).good = 1) ∧
    ((statusEntry now seq r e).liveness = .live ↔ passes ∧ e.good = 4)) ∧
  (∀ (now : Time) (seq : Tag) (r : StatusRecord) (d : Digest) (j : JoinRecord) (e : PeerEntry),
    e.liveness ≠ .self →
    (statusEntry now seq r e).lastSeq = some seq ∧ (joinEntry d now seq j e).lastSeq = some seq ∧
    (otherEntry now seq e).lastSeq = some seq) ∧
  (∀ (s t : State) (chars : Chars) (i : Instr), i ∈ frameRows chars → receives s = true →
    judge s.cfg.image.nS chars = .crcFailure → exec i s = .next t → t.ptb = s.ptb)

/-- A STATUS heard completes, and the entry of its source takes it as R6 gives for its liveness (the
agreement counter apart, which R40 moves). R11: which entries are present, and the record a present one serves. -/
def Obligations.StatusHeardMovesItsEntry : Prop :=
  (∀ (s : State) (j : Nat),
    (present s j = true ↔ (peerOf s j).liveness = .live ∨ (peerOf s j).liveness = .silent) ∧
    served s j = (if present s j then (peerOf s j).record else none) ∧
    ∀ r, (j, r) ∈ presentPeers s ↔ j < 8 ∧ served s j = some r) ∧
  ∀ (s : State) (chars : Chars) (h : Header) (r : StatusRecord), hears s chars h (.status r) →
    s.ptb.peers.length = 8 → ∃ t, exec (.status chars) s = .next t ∧
      let e := peerOf s h.source
      let e' := peerOf t h.source
      (e.liveness ≠ .self → e'.lastSeq = some h.seq ∧ e'.lastFrame = some s.elapsed) ∧
      (e.liveness ≠ .self → e.liveness ≠ .mismatched →
        e'.record = some r ∧ e'.lastStatus = some s.elapsed ∧ e'.ringHeard = some r.ring) ∧
      (e.liveness = .absent ∨ e.liveness = .lost → e'.liveness = .joining ∧ e'.good = 1) ∧
      (e.liveness = .joining →
        e'.good = (statusEntry s.elapsed h.seq r e).good ∧
        e'.liveness = if 5 ≤ e'.good then .live else .joining) ∧
      (e.liveness = .live ∨ e.liveness = .silent → e'.liveness = .live) ∧
      (e'.liveness = .live →
        e'.claims.erector = (e.claims.erector || r.erectorPart.isSome) ∧
        e'.claims.conveyor = (e.claims.conveyor || r.conveyorPart.isSome)) ∧
      (e.liveness = .mismatched →
        e'.liveness = .mismatched ∧ e'.record = e.record ∧ e'.lastStatus = e.lastStatus ∧
        e'.ringHeard = e.ringHeard) ∧
      (∀ j, j ≠ h.source → { peerOf t j with agreement := 0 } = { peerOf s j with agreement := 0 }) ∧
      t.ptb.console = s.ptb.console ∧ t.cfg = s.cfg ∧ t.oru = s.oru ∧ t.elapsed = s.elapsed

/-- A JOIN heard completes: the entry of its source becomes JOINING or MISMATCHED, and the duties are
evaluated. -/
def Obligations.JoinHeardMovesItsEntry : Prop :=
  ∀ (s : State) (chars : Chars) (h : Header) (r : JoinRecord), hears s chars h (.join r) →
    s.ptb.peers.length = 8 → (peerOf s h.source).liveness ≠ .self →
    ∃ t, exec (.join chars) s = .next t ∧
      peerOf t h.source =
        (if r.digest = s.cfg.digest then
          { peerOf s h.source with
            lastSeq := some h.seq, lastFrame := some s.elapsed, liveness := .joining, good := 0
            record := none, agreement := 0, ringHeard := some r.ring, claims := r.claims }
        else
          { peerOf s h.source with
            lastSeq := some h.seq, lastFrame := some s.elapsed, liveness := .mismatched, good := 0
            record := none, agreement := 0, claims := {} }) ∧
      (∀ j, j ≠ h.source → { peerOf t j with agreement := 0 } = { peerOf s j with agreement := 0 }) ∧
      t.ptb.erector = erectorOutcome t ∧ t.ptb.conveyor = conveyorOutcome t ∧
      t.ptb.console = s.ptb.console ∧ t.cfg = s.cfg ∧ t.oru = s.oru ∧ t.elapsed = s.elapsed ∧
      t.ring = s.ring ∧ t.gru = { s.gru with flushTimer := t.gru.flushTimer, flushRun := t.gru.flushRun }

/-- The frames of the other five kinds complete and reach the entry of their source alike: its sequence and
time, and JOINING where it was ABSENT or LOST. -/
def Obligations.OtherFramesMoveTheirEntry : Prop :=
  ∀ (s : State) (chars : Chars) (h : Header) (b : Body) (i : Instr), hears s chars h b →
    s.ptb.peers.length = 8 → (peerOf s h.source).liveness ≠ .self →
    ((∃ ring tag, b = .request .retract ring tag ∧ i = .retractGroup chars) ∨
      (∃ ring tag, b = .request .extend ring tag ∧ i = .extendGroup chars) ∨
      (∃ tag a, b = .reply tag a ∧ i = .reply chars) ∨
      (∃ kind raised cls, b = .alarm kind raised cls ∧ i = .alarm chars) ∨
      (∃ ring k n part, b = .ringReport ring k n part ∧ i = .ringReport chars)) →
    ∃ t, exec i s = .next t ∧
      peerOf t h.source =
        (if (peerOf s h.source).liveness = .absent ∨ (peerOf s h.source).liveness = .lost then
          { peerOf s h.source with
            lastSeq := some h.seq, lastFrame := some s.elapsed, liveness := .joining, good := 0
            agreement := 0 }
        else { peerOf s h.source with lastSeq := some h.seq, lastFrame := some s.elapsed }) ∧
      (∀ j, j ≠ h.source → peerOf t j = peerOf s j) ∧
      t.ptb.console = s.ptb.console ∧ t.cfg = s.cfg ∧ t.oru = s.oru ∧ t.elapsed = s.elapsed ∧
      t.ring = s.ring

/-- R185: KEEPALIVE completes whatever its destination, its tag and its parameters: it is not taken, and the
console entry is LIVE from it. -/
def Obligations.KeepaliveOnlyMarksTheConsole : Prop :=
  ∀ (s : State) (chars : Chars) (h : Header) (tag : Tag) (params : List Int),
    hears s chars h (.order tag 1 params) →
    exec (.keepalive chars) s = .next (settle (atOrder s)) ∧
    (settle (atOrder s)).oru = s.oru ∧
    (settle (atOrder s)).ptb =
      { s.ptb with console := { liveness := .live, lastOrder := some s.elapsed } }

/-- The three silences of R10 complete: LIVE to SILENT with the record kept, SILENT and JOINING to LOST with
it discarded; and of R19 the two expiries of the console entry, LOST suspending a build underway (R89, R90). The
order of the notices of a presence change (R11) is the model's (log 5). -/
def Obligations.SilencesMoveTheirEntries : Prop :=
  ((∀ (s : State) (j : Nat) (t0 : Time), (peerOf s j).liveness = .live →
    (peerOf s j).lastStatus = some t0 → 3 ≤ elapsedSince t0 s.elapsed →
    exec (.peerLiveTimeout j) s =
      .next (settle (setPeer j { peerOf s j with liveness := .silent } s))) ∧
  (∀ (s : State) (j : Nat) (t0 : Time) (i : Instr), j < 8 → s.ptb.peers.length = 8 →
    (((peerOf s j).liveness = .silent ∧ (peerOf s j).lastStatus = some t0 ∧ i = .peerSilentTimeout j) ∨
      ((peerOf s j).liveness = .joining ∧ (peerOf s j).lastFrame = some t0 ∧
        i = .peerJoiningTimeout j)) →
    10 ≤ elapsedSince t0 s.elapsed →
    let lost : State :=
      setPeer j
        { peerOf s j with
          liveness := .lost, record := none, good := 0, agreement := 0, claims := {}, ringHeard := none } s
    ((peerOf s j).liveness = .silent →
      exec i s = .next (settle
        (evalDuties (buildPresence j (holderLeaves j (drivePresence j lost)))))) ∧
    ∃ t, exec i s = .next t ∧
      peerOf t j =
        { peerOf s j with
          liveness := .lost, record := none, good := 0, agreement := 0, claims := {}, ringHeard := none } ∧
      (∀ k, k ≠ j → { peerOf t k with agreement := 0 } = { peerOf s k with agreement := 0 }) ∧
      t.ptb.erector = erectorOutcome t ∧ t.ptb.conveyor = conveyorOutcome t ∧
      t.ptb.console = s.ptb.console ∧ t.cfg = s.cfg ∧ t.oru = s.oru ∧ t.ring = s.ring)) ∧
  ((∀ (s : State) (t0 : Time), s.ptb.console = { liveness := .live, lastOrder := some t0 } →
    30 ≤ elapsedSince t0 s.elapsed →
    exec .consoleSilentExpiry s = .next (settle
      { s with ptb := { s.ptb with console := { liveness := .silent, lastOrder := some t0 } } })) ∧
  (∀ (s : State) (t0 : Time),
    ((s.ptb.console.liveness = .silent ∧ s.ptb.console.lastOrder = some t0) ∨
      (s.ptb.console.liveness = .absent ∧ s.ptb.endOfListen = true ∧ t0 = s.ptb.listenEnd)) →
    100 ≤ elapsedSince t0 s.elapsed →
    ∃ t, exec .consoleLostExpiry s = .next t ∧
      t.ptb = { s.ptb with console := { s.ptb.console with liveness := .lost } } ∧
      (let lost : State := { s with ptb := t.ptb };
        (s.ptb.exErector = true → Underway s → t.bsq.state = .suspended ∧
          ∃ u, exec .consoleLostExpiry s = .next (settle u) ∧ EntersSuspended lost u) ∧
        (s.ptb.exErector = false ∨ ¬Underway s →
          exec .consoleLostExpiry s = .next (settle lost))) ∧
      t.oru = s.oru ∧ t.cfg = s.cfg ∧ t.ring = s.ring ∧ t.bsq.cursor = s.bsq.cursor ∧
      t.thu.counter = s.thu.counter ∧ t.gru.queue = s.gru.queue ∧ t.bal.account = s.bal.account))

/-- R14, R16: the table of the duty evaluation, for both duties together, with what is missing or in conflict; R15,
R75, R120: BSQ and BAL follow a change of the own duty at once; R68: a change of the ERECTOR holder closes a
retracted group. That the outstanding retraction keeps its answer deadline is the model's choice (log 9), left out
here. What becomes of the encoder accumulator where BAL becomes active or inactive, and that the stop hold, the
machine-advance set and the blind flag of a BAL becoming inactive stand, is the model's choice (log 35): R120 lists
none of the four. -/
def Obligations.DutyEvaluationFollowsItsTable : Prop :=
  ∀ s : State,
    let claims (duty : Claims → Bool) (strap : Bool) (j : Nat) : Prop :=
      j < 8 ∧ if j = s.own then strap = true
        else ((peerOf s j).liveness = .joining ∨ (peerOf s j).liveness = .live ∨
            (peerOf s j).liveness = .silent) ∧ duty (peerOf s j).claims = true
    let E := claims (fun c => c.erector) s.cfg.straps.erector
    let C := claims (fun c => c.conveyor) s.cfg.straps.conveyor
    let t := evalDuties s
    let joins (k : Nat) := k ≠ s.own ∧ (peerOf s k).liveness = .joining
    ((∀ j, ¬E j) →
      t.ptb.erector.holder = none ∧ t.ptb.erector.conflict = false ∧ t.ptb.erector.missing = true) ∧
    (∀ k, E k → (∀ j, E j → j = k) →
      t.ptb.erector.holder = some k ∧ t.ptb.erector.conflict = false ∧
      (t.ptb.erector.missing = true ↔ joins k)) ∧
    (∀ j k, E j → E k → j ≠ k →
      t.ptb.erector.holder = none ∧ t.ptb.erector.conflict = true ∧ t.ptb.erector.missing = false) ∧
    (t.ptb.exErector = true ↔ t.ptb.erector.holder = some s.own) ∧
    ((∀ j, ¬C j) →
      t.ptb.conveyor.holder = none ∧ t.ptb.conveyor.conflict = false ∧ t.ptb.conveyor.missing = true) ∧
    (∀ k, C k → (∀ j, C j → j = k) →
      t.ptb.conveyor.holder = some k ∧ t.ptb.conveyor.conflict = false ∧
      (t.ptb.conveyor.missing = true ↔ joins k)) ∧
    (∀ j k, C j → C k → j ≠ k →
      t.ptb.conveyor.holder = none ∧ t.ptb.conveyor.conflict = true ∧ t.ptb.conveyor.missing = false) ∧
    (t.ptb.exConveyor = true ↔ t.ptb.conveyor.holder = some s.own) ∧
    (t.ptb.exErector = s.ptb.exErector →
      t.bsq = s.bsq ∧ t.fpt.written.erector = s.fpt.written.erector) ∧
    (t.ptb.exErector ≠ s.ptb.exErector →
      t.bsq.state = .idle ∧ t.bsq.request = none ∧ t.bsq.stepTimer = none ∧ t.bsq.gripTimer = none ∧
      t.bsq.retractTimer = none ∧ t.bsq.extendTimer = none ∧ t.bsq.releaseTimer = none ∧
      t.bsq.answerWait = none ∧ t.bsq.unanswered = false ∧ t.fpt.written.erector = .hold ∧
      (t.ptb.exErector = false → t.bsq.timedOut = false) ∧
      t.bsq.cursor = s.bsq.cursor ∧ t.bsq.cursorRing = s.bsq.cursorRing ∧
      t.bsq.progress = s.bsq.progress ∧ t.bsq.nextTag = s.bsq.nextTag ∧
      t.bsq.retraction.map (fun r => (r.placement, r.target, r.proven)) =
        s.bsq.retraction.map (fun r => (r.placement, r.target, r.proven)) ∧
      t.bsq.buildStart = s.bsq.buildStart ∧ t.bsq.placed = s.bsq.placed ∧
      t.bsq.substituted = s.bsq.substituted) ∧
    (t.ptb.exConveyor = s.ptb.exConveyor → t.bal = s.bal ∧
      t.fpt.written.screw = s.fpt.written.screw ∧
      t.fpt.written.gateOpen = s.fpt.written.gateOpen) ∧
    (t.ptb.exConveyor ≠ s.ptb.exConveyor →
      t.fpt.written.screw = 0 ∧ t.fpt.written.gateOpen = false) ∧
    (t.ptb.exConveyor = true → s.ptb.exConveyor = false →
      t.bal =
        { s.bal with
          active := true, timer := if s.ptb.endOfListen then some s.elapsed else none
          conveyor := if inputValid s .screwEncoder then .stopped else .fault, nCmd := 0
          stopHold := decide (s.phase = .halted ∨ s.alu.estop = true), acc := 0
          set := [none, none, none, none, none, none, none, none], blind := true }) ∧
    (t.ptb.exConveyor = false → s.ptb.exConveyor = true →
      t.bal =
        { s.bal with
          active := false, timer := none, conveyor := .stopped, nCmd := 0, acc := 0, overCount := 0
          recoverCount := 0, pMean := 0, nP := 0, overdrawn := false, owed := false, pLow := false
          pHigh := false, pressureBlind := false }) ∧
    (t.ptb.erector.holder ≠ s.ptb.erector.holder →
      s.thu.group = .moving .retracting ∨ s.thu.group = .moving .retracted →
      t.thu = { s.thu with group := .moving .extending, slot := none, orphaned := true } ∧
      t.fpt.written.valveMode = .extend ∧ t.fpt.written.valvePressure = s.cfg.image.pHold) ∧
    (t.ptb.erector.holder = s.ptb.erector.holder ∨
        (s.thu.group ≠ .moving .retracting ∧ s.thu.group ≠ .moving .retracted) →
      t.thu = s.thu ∧ t.fpt.written.valveMode = s.fpt.written.valveMode ∧
      t.fpt.written.valvePressure = s.fpt.written.valvePressure) ∧
    t.dsu = s.dsu ∧ t.gru = s.gru ∧ t.lif = s.lif ∧ t.phase = s.phase ∧ t.ring = s.ring ∧
    t.ptb.peers = s.ptb.peers

/-! ## The cutterhead and the duty levels (02_cutterhead_drive_and_duty_levels) -/

/-- R29, R32: START_CUTTERHEAD and STOP_CUTTERHEAD complete from every cutterhead state, each with its
result. -/
def Obligations.CutterheadOrdersStartAndStop : Prop :=
  ∀ (s : State) (chars : Chars) (tag : Tag) (params : List Int),
    (ordered s chars tag 5 params →
      ((s.dsu.cutterhead = .stopped ∨ s.dsu.cutterhead = .stopping) →
        (s.phase = .idle ∨ s.phase = .advancing ∨ s.phase = .paused) → stopInForce s = false →
        exec (.startCutterhead chars) s = .next (settle (echoed tag 5 .accepted
          { atOrder s with dsu := { s.dsu with cutterhead := .starting, startedAt := s.elapsed } }))) ∧
      ((s.dsu.cutterhead = .starting ∨ s.dsu.cutterhead = .running) →
        exec (.startCutterhead chars) s = .next (settle (echoed tag 5 .done (atOrder s)))) ∧
      (s.dsu.cutterhead = .tripped ∨
          ((s.dsu.cutterhead = .stopped ∨ s.dsu.cutterhead = .stopping) ∧
            (s.phase = .building ∨ s.phase = .halted ∨ stopInForce s = true)) →
        exec (.startCutterhead chars) s = .next (settle (echoed tag 5 .refusedState (atOrder s))))) ∧
    (ordered s chars tag 6 params →
      ((s.dsu.cutterhead = .starting ∨ s.dsu.cutterhead = .running) →
        exec (.stopCutterhead chars) s = .next (settle (echoed tag 6 .accepted
          { atOrder s with
            dsu :=
              { s.dsu with cutterhead := .stopping, changing := false, downCount := 0, upCount := 0 } }))) ∧
      ((s.dsu.cutterhead = .stopping ∨ s.dsu.cutterhead = .stopped ∨ s.dsu.cutterhead = .tripped) →
        exec (.stopCutterhead chars) s = .next (settle (echoed tag 6 .done (atOrder s)))))

/-- R38: SET_MAX_LEVEL completes: the console maximum is set, clamped into 0 to 7, and the proposal is the
lowest of the own choice, the thermal cap and that maximum. R37: a temperature sample moves the throttle by the
hottest winding. R31, R39 to R41: a counted STATUS lowers the applied level, or counts toward its rise. R42: a
change of the applied level. -/
def Obligations.SetMaxLevelLimitsTheProposal : Prop :=
  (∀ (s : State) (chars : Chars) (tag : Tag) (level : Int), ordered s chars tag 7 [level] →
    s.dsu.applied ≤ s.dsu.proposed → ∃ t, exec (.setMaxLevel chars) s = .next t ∧
      (t.dsu.consoleMax : Int) = (if level < 0 then 0 else if 7 < level then 7 else level) ∧
      t.oru.lastTag = some tag ∧
      t.oru.echo =
        some { tag := tag, code := 7, result := if level < 0 ∨ 7 < level then .clamped else .done } ∧
      t.dsu.proposed =
        (if s.dsu.throttle then
          min (min s.dsu.choice (validAtOrBelow s.cfg.image t.dsu.consoleMax))
            (validAtOrBelow s.cfg.image s.cfg.image.lTherm)
        else min s.dsu.choice (validAtOrBelow s.cfg.image t.dsu.consoleMax)) ∧
      t.dsu.applied ≤ t.dsu.proposed ∧ t.dsu.choice = s.dsu.choice ∧
      t.dsu.residency = s.dsu.residency ∧ t.dsu.ringMax = s.dsu.ringMax ∧
      t.cfg = s.cfg ∧ t.ring = s.ring ∧ keptThu t.thu = keptThu s.thu ∧ keptBsq t.bsq = keptBsq s.bsq ∧
      keptGru t.gru = keptGru s.gru ∧ keptBal t.bal = keptBal s.bal) ∧
  (∀ s : State,
    let t := tempArrival s
    let temps :=
      (if isFitted s .motorRef0 = true ∧ inputValid s .motorTemp0 = true then
        [inputValue s .motorTemp0] else []) ++
      (if isFitted s .motorRef1 = true ∧ inputValid s .motorTemp1 = true then
        [inputValue s .motorTemp1] else [])
    ((∃ v ∈ temps, s.cfg.image.tHigh ≤ v) → t.dsu.throttle = true) ∧
    (temps ≠ [] → (∀ v ∈ temps, v < s.cfg.image.tHigh ∧ v ≤ s.cfg.image.tLow) →
      t.dsu.throttle = false) ∧
    ((∀ v ∈ temps, v < s.cfg.image.tHigh) → (∃ v ∈ temps, s.cfg.image.tLow < v) →
      t.dsu.throttle = s.dsu.throttle) ∧
    (temps = [] → t.dsu.throttle = s.dsu.throttle) ∧
    t.dsu.proposed =
      (if t.dsu.throttle then
        min (min s.dsu.choice (validAtOrBelow s.cfg.image s.dsu.consoleMax))
          (validAtOrBelow s.cfg.image s.cfg.image.lTherm)
      else min s.dsu.choice (validAtOrBelow s.cfg.image s.dsu.consoleMax)) ∧
    (s.dsu.applied ≤ s.dsu.proposed → t.dsu.applied ≤ t.dsu.proposed) ∧
    t.dsu.choice = s.dsu.choice ∧ t.dsu.consoleMax = s.dsu.consoleMax ∧
    t.dsu.cutterhead = s.dsu.cutterhead ∧ t.dsu.nr = s.dsu.nr ∧ t.thu = s.thu ∧ t.fpt = s.fpt ∧
    t.lif = s.lif ∧ t.phase = s.phase) ∧
  (∀ (s : State) (j : Nat) (r : StatusRecord), j < 8 → Shaped s → served s j = some r →
    let t := driveCountedStatus j r s
    let lowest (c : Nat) := s.dsu.applied < c ∧ c ≤ s.dsu.proposed ∧
      (∀ p ∈ presentPeers s, c ≤ p.2.proposed) ∧
      (c = s.dsu.proposed ∨ ∃ p ∈ presentPeers s, p.2.proposed = c)
    let stands (c : Nat) := s.dsu.candidate = some c ∧ lowest c
    let counted := min 255 ((peerOf s j).agreement + 1)
    let agreed := 2 ≤ counted ∧
      ∀ p ∈ presentPeers s, p.1 ≠ j → 2 ≤ (peerOf s p.1).agreement
    (r.proposed < s.dsu.applied → t.dsu.applied = r.proposed ∧ t.dsu.candidate = none) ∧
    (s.dsu.applied ≤ r.proposed →
      ((∀ c, ¬lowest c) → t.dsu.applied = s.dsu.applied ∧ t.dsu.candidate = none) ∧
      (∀ c, lowest c → s.dsu.candidate ≠ some c →
        t.dsu.applied = s.dsu.applied ∧ t.dsu.candidate = some c ∧ (peerOf t j).agreement = 1 ∧
        ∀ k, k ≠ j → (peerOf t k).agreement = 0) ∧
      (∀ c, stands c → ¬agreed →
        t.dsu.applied = s.dsu.applied ∧ t.dsu.candidate = some c ∧
        (peerOf t j).agreement = counted ∧
        ∀ k, k ≠ j → (peerOf t k).agreement = (peerOf s k).agreement) ∧
      (∀ c, stands c → agreed →
        t.dsu.applied = c ∧ t.dsu.candidate = none ∧ ∀ k, (peerOf t k).agreement = 0)) ∧
    t.dsu.stoppedSince.getD j none =
      (if r.cutterhead = .stopped ∨ r.cutterhead = .tripped then
        some ((s.dsu.stoppedSince.getD j none).getD s.elapsed)
      else none) ∧
    (∀ k, k ≠ j → t.dsu.stoppedSince.getD k none = s.dsu.stoppedSince.getD k none) ∧
    (∀ k, { peerOf t k with agreement := 0 } = { peerOf s k with agreement := 0 }) ∧
    t.dsu.proposed = s.dsu.proposed ∧ t.dsu.choice = s.dsu.choice ∧
    t.dsu.cutterhead = s.dsu.cutterhead ∧ t.dsu.nr = s.dsu.nr ∧
    { t with dsu := s.dsu, ptb := s.ptb } = s) ∧
  (∀ (s : State) (l : Nat),
    let row := levelAt s.cfg.image l
    (s.dsu.cutterhead = .running → s.dsu.nr = row.speed →
      setApplied l s = { s with dsu := { s.dsu with applied := l, changing := false } }) ∧
    (s.dsu.cutterhead = .running → s.dsu.nr ≠ row.speed →
      setApplied l s =
        { s with
          dsu :=
            { s.dsu with
              applied := l, changing := true
              rampCap :=
                min (if s.dsu.changing then s.dsu.rampCap
                  else (levelAt s.cfg.image s.dsu.applied).advanceCap) row.advanceCap } }) ∧
    (s.dsu.cutterhead ≠ .running →
      setApplied l s = { s with dsu := { s.dsu with applied := l, changing := false } }))

/-- R30, R35, R36: DUTY_EVALUATION_EXPIRY completes: one ramp step, and for a cutterhead RUNNING after it one
comparison of the load with the thresholds of the proposed level. R42: a level change ends where n_r arrives at the
speed of the applied level. R28, R38, R39: a step of the own choice goes to the next valid level and recomputes the
proposal, below which the applied level falls. The timer runs on from its old start (log 3). -/
def Obligations.DutyEvaluationRampsAndComparesTheLoad : Prop :=
  (∀ (img : Image) (l : Nat),
    let valid (k : Nat) := (levelAt img k).valid = true
    (∀ k, nextLower img l = some k ↔ k < l ∧ valid k ∧ ∀ m, k < m → m < l → ¬valid m) ∧
    (∀ k, nextHigher img l = some k ↔ l < k ∧ k ≤ 7 ∧ valid k ∧ ∀ m, l < m → m < k → ¬valid m) ∧
    (valid l → validAtOrBelow img l = l) ∧
    (¬valid l → validAtOrBelow img l = (nextLower img l).getD 0)) ∧
  ∀ (s : State) (start : Time), s.dsu.timer = some start → 10 ≤ elapsedSince start s.elapsed →
    ∃ u, exec .dutyEvaluationExpiry s = .next (settle u) ∧ u.dsu.timer = some (start + 10) ∧
      let target := (levelAt s.cfg.image s.dsu.applied).speed
      let toward (goal : Int) : Int :=
        if s.dsu.nr < goal then min goal (s.dsu.nr + s.cfg.image.rRamp)
        else max goal (s.dsu.nr - s.cfg.image.rRamp)
      let m := motorCount s
      let load :=
        clamp 0 2000 (torqueSum s * 1000 / ((levelAt s.cfg.image s.dsu.applied).torqueLimit * m))
      let row := levelAt s.cfg.image s.dsu.proposed
      (s.dsu.cutterhead = .starting →
        u.dsu.nr = toward target ∧
        u.dsu.cutterhead = if toward target = target then .running else .starting) ∧
      (s.dsu.cutterhead = .running →
        u.dsu.nr = (if s.dsu.changing then toward target else s.dsu.nr) ∧ u.dsu.cutterhead = .running) ∧
      (s.dsu.cutterhead = .stopping →
        u.dsu.nr = toward 0 ∧ u.dsu.cutterhead = if toward 0 = 0 then .stopped else .stopping) ∧
      (s.dsu.cutterhead = .stopped ∨ s.dsu.cutterhead = .tripped →
        u.dsu.nr = s.dsu.nr ∧ u.dsu.cutterhead = s.dsu.cutterhead) ∧
      (u.dsu.cutterhead ≠ .running →
        u.dsu.choice = s.dsu.choice ∧ u.dsu.downCount = s.dsu.downCount ∧
        u.dsu.upCount = s.dsu.upCount) ∧
      (u.dsu.cutterhead = .running → m = 0 →
        u.dsu.choice = s.dsu.choice ∧ u.dsu.downCount = 0 ∧ u.dsu.upCount = 0) ∧
      (u.dsu.cutterhead = .running → m ≠ 0 → row.loadHigh ≤ load →
        (row.hDown ≤ s.dsu.downCount + 1 →
          u.dsu.choice = (nextLower s.cfg.image s.dsu.proposed).getD s.dsu.choice ∧
          u.dsu.downCount = 0 ∧ u.dsu.upCount = 0) ∧
        (s.dsu.downCount + 1 < row.hDown →
          u.dsu.choice = s.dsu.choice ∧ u.dsu.downCount = s.dsu.downCount + 1 ∧ u.dsu.upCount = 0)) ∧
      (u.dsu.cutterhead = .running → m ≠ 0 → load < row.loadHigh → load ≤ row.loadLow →
        (row.hUp ≤ s.dsu.upCount + 1 →
          u.dsu.choice = (nextHigher s.cfg.image s.dsu.proposed).getD s.dsu.choice ∧
          u.dsu.downCount = 0 ∧ u.dsu.upCount = 0) ∧
        (s.dsu.upCount + 1 < row.hUp →
          u.dsu.choice = s.dsu.choice ∧ u.dsu.upCount = s.dsu.upCount + 1 ∧ u.dsu.downCount = 0)) ∧
      (u.dsu.cutterhead = .running → m ≠ 0 → load < row.loadHigh → row.loadLow < load →
        u.dsu.choice = s.dsu.choice ∧ u.dsu.downCount = 0 ∧ u.dsu.upCount = 0) ∧
      (let limited := min u.dsu.choice (validAtOrBelow s.cfg.image s.dsu.consoleMax)
        let proposal :=
          if s.dsu.throttle then min limited (validAtOrBelow s.cfg.image s.cfg.image.lTherm) else limited
        let evaluates := u.dsu.cutterhead = .running ∧ m ≠ 0
        let steps := evaluates ∧
          ((row.loadHigh ≤ load ∧ row.hDown ≤ s.dsu.downCount + 1 ∧
              nextLower s.cfg.image s.dsu.proposed ≠ none) ∨
            (load < row.loadHigh ∧ load ≤ row.loadLow ∧ row.hUp ≤ s.dsu.upCount + 1 ∧
              nextHigher s.cfg.image s.dsu.proposed ≠ none))
        (steps → u.dsu.proposed = proposal ∧
          (s.dsu.applied ≤ s.dsu.proposed → proposal < s.dsu.applied → u.dsu.applied = proposal)) ∧
        (¬steps → u.dsu.proposed = s.dsu.proposed ∧ u.dsu.applied = s.dsu.applied)) ∧
      (u.dsu.applied = s.dsu.applied →
        u.dsu.changing =
          if s.dsu.cutterhead = .running ∧ u.dsu.nr = target then false else s.dsu.changing) ∧
      (u.dsu.applied ≠ s.dsu.applied →
        u.dsu.changing = decide (u.dsu.nr ≠ (levelAt s.cfg.image u.dsu.applied).speed)) ∧
      (u.dsu.nr = s.dsu.nr → u.fpt = s.fpt) ∧
      u.dsu.residency = s.dsu.residency ∧ u.dsu.ringMax = s.dsu.ringMax ∧
      u.dsu.consoleMax = s.dsu.consoleMax ∧ u.dsu.throttle = s.dsu.throttle ∧ u.cfg = s.cfg ∧
      u.phase = s.phase ∧ u.oru = s.oru ∧ u.ring = s.ring ∧ u.thu = s.thu ∧ u.bsq = s.bsq ∧
      u.gru = s.gru ∧ u.bal = s.bal ∧ u.lif = s.lif

/-- R43, R45, R46: what the arrival of an own motor torque sample gives: the two conditions, the ring maximum
and the two motor references. R20: the own torque sum and motor count. -/
def Obligations.TorqueSampleFormsTotalAndReferences : Prop :=
  ∀ s : State,
    let counted (ref ready torque : Channel) :=
      isFitted s ref && inputTrue s ready && inputValid s torque
    let counted0 := counted .motorRef0 .driveReady0 .motorTorque0
    let counted1 := counted .motorRef1 .driveReady1 .motorTorque1
    torqueSum s =
      (if counted0 then inputValue s .motorTorque0 else 0) +
        (if counted1 then inputValue s .motorTorque1 else 0) ∧
    motorCount s = (if counted0 then 1 else 0) + (if counted1 then 1 else 0) ∧
    let t := torqueArrival s
    let total := torqueSum s + ((presentPeers s).map fun p => p.2.torqueSum).sum
    let counting := (presentPeers s).filter fun p => decide (1 ≤ p.2.motorCount)
    let sum := torqueSum s + (counting.map fun p => p.2.torqueSum).sum
    let count := motorCount s + (counting.map fun p => p.2.motorCount).sum
    let reference (fitted counted : Bool) (torque : Int) : Int :=
      if fitted = false then 0
      else if counted = true ∧ count ≠ 0 ∧ sum / count < torque then
        max 0 (s.dsu.nr - s.cfg.image.dDroop * (torque - sum / count) / 1000)
      else s.dsu.nr
    (t.dsu.overtorque = true ↔ s.cfg.image.tAlarm < total) ∧
    (t.dsu.jam = true ↔ s.cfg.image.tTrip < total) ∧
    t.dsu.ringMax = max s.dsu.ringMax total ∧
    t.fpt.written.motor0 =
      reference (isFitted s .motorRef0) counted0 (inputValue s .motorTorque0) ∧
    t.fpt.written.motor1 =
      reference (isFitted s .motorRef1) counted1 (inputValue s .motorTorque1) ∧
    { t.dsu with overtorque := false, jam := false, ringMax := 0 } =
      { s.dsu with overtorque := false, jam := false, ringMax := 0 } ∧
    t.thu = s.thu ∧ t.bal = s.bal ∧ t.gru = s.gru ∧ t.bsq = s.bsq ∧ t.ptb = s.ptb ∧ t.lif = s.lif

/-- R31, R47: START_WATCH_EXPIRY completes, stopping the start when its watch has run out; and RESIDENCY_TICK
completes: one step of the elapsed-time count, and from the end of LISTEN one step of the residency of the
applied level, which stays at its highest value and sets COUNTER_WRAP. -/
def Obligations.StartWatchAndResidencyTick : Prop :=
  (∀ (s : State) (peer : Nat),
    let expired := s.dsu.cutterhead = .starting ∧ present s peer = true ∧
      30 ≤ elapsedSince s.dsu.startedAt s.elapsed ∧
      ∃ t0, s.dsu.stoppedSince.getD peer none = some t0 ∧ 30 ≤ elapsedSince t0 s.elapsed
    (expired → exec (.startWatchExpiry peer) s = .next (settle
      { s with
        dsu := { s.dsu with cutterhead := .stopping, changing := false, downCount := 0, upCount := 0 } })) ∧
    (¬expired → exec (.startWatchExpiry peer) s = .next s)) ∧
  (∀ s : State,
    (s.ptb.endOfListen = false →
      exec .residencyTick s = .next (settle { s with elapsed := s.elapsed + 1 })) ∧
    (s.ptb.endOfListen = true → s.dsu.residency.length = 8 → s.dsu.applied < 8 →
      ∃ u, exec .residencyTick s = .next (settle u) ∧ u.elapsed = s.elapsed + 1 ∧
        u.dsu.residency.length = 8 ∧
        u.dsu.residency.getD s.dsu.applied 0 =
          min 4294967295 (s.dsu.residency.getD s.dsu.applied 0 + 1) ∧
        (∀ l, l ≠ s.dsu.applied → u.dsu.residency.getD l 0 = s.dsu.residency.getD l 0) ∧
        u.alu.flags.counterWrap =
          (s.alu.flags.counterWrap ||
            decide (4294967295 ≤ s.dsu.residency.getD s.dsu.applied 0 + 1)) ∧
        { u with
            elapsed := s.elapsed, dsu := { u.dsu with residency := s.dsu.residency }
            alu := { u.alu with flags := { u.alu.flags with counterWrap := s.alu.flags.counterWrap } } } = s))


/-! ## Thrust, stroke and advance (03_thrust_stroke_and_advance) -/

/-- R49, R50, R51: what a stroke sample makes of the stroke, its quality, its rate and the history. -/
def Obligations.StrokeSampleJudgesTheQuality : Prop :=
  ∀ s : State,
    let t := takeStroke s
    let v := inputValue s .stroke
    let filled := s.thu.fresh = true ∨ s.thu.quality ≠ .valid
    let rate := if filled then 0 else (v - s.thu.history.headD v) * 10
    (inputValid s .stroke = true →
      t.thu =
        { s.thu with
          quality := .valid, stroke := v, rate := clamp (-1000) 1000 rate
          history := if filled then List.replicate 10 v else s.thu.history.drop 1 ++ [v]
          fresh := false, strokeFault := false, denied := false } ∧
      t.alu.flags.clamped = (s.alu.flags.clamped || outside (-1000) 1000 rate)) ∧
    (∀ a b, inputValid s .stroke = false → served s (lowerNeighbour s) = some a →
      served s (upperNeighbour s) = some b → a.quality = .valid → b.quality = .valid →
      t.thu =
        { s.thu with
          quality := .substituted, stroke := (a.stroke + b.stroke) / 2
          rate :=
            if 0 ≤ a.rate + b.rate then (a.rate + b.rate) / 2 else -(-(a.rate + b.rate) / 2)
          strokeFault := true, denied := false } ∧ t.alu = s.alu) ∧
    (inputValid s .stroke = false →
      (¬∃ a b, served s (lowerNeighbour s) = some a ∧ served s (upperNeighbour s) = some b ∧
        a.quality = .valid ∧ b.quality = .valid) →
      t.thu = { s.thu with quality := .invalid, rate := 0, strokeFault := true, denied := true } ∧
      t.alu = s.alu) ∧
    { t with thu := s.thu, alu := s.alu } = s

/-- R52, R100: the own advance increment of a stroke sample, what it does to the ring-advance counter, and the
demand GRU posts for it. R12, R53: what each sector contributes, and the machine advance increment over two
evaluations, THU's and BAL's alike. That the own counter enters the set before the addition is the model's choice
(log 28). -/
def Obligations.StrokeSampleFormsTheIncrement : Prop :=
  (∀ s : State,
    let taken := takeStroke s
    let t := strokeArrival s
    ∃ ds : Int,
      (s.thu.group ≠ .moving .advancing → ds = 0) ∧
      (s.thu.group = .moving .advancing → taken.thu.quality = .valid →
        ds = if s.thu.quality = .valid then max 0 (taken.thu.stroke - s.thu.stroke) else 0) ∧
      (s.thu.group = .moving .advancing → taken.thu.quality = .substituted →
        (s.thu.quality ≠ .substituted → ds = 0) ∧
        (∀ la lb a b, s.thu.quality = .substituted → s.thu.neighbours = some (la, lb) →
          served s (lowerNeighbour s) = some a → served s (upperNeighbour s) = some b →
          ds = ((if a.counter - la < 0 then a.counter else a.counter - la) +
            (if b.counter - lb < 0 then b.counter else b.counter - lb)) / 2)) ∧
      (s.thu.group = .moving .advancing → taken.thu.quality = .invalid →
        ds = machineAdvance s.thu.set (contributions taken)) ∧
      t.thu.counter = clamp 0 250000 (s.thu.counter + ds) ∧
      t.thu.set = contributions taken ∧
      t.thu.blind = (advances s.thu.set (contributions taken)).isEmpty ∧
      (∀ a b, taken.thu.quality = .substituted → served s (lowerNeighbour s) = some a →
        served s (upperNeighbour s) = some b → t.thu.neighbours = some (a.counter, b.counter)) ∧
      (taken.thu.quality ≠ .substituted → t.thu.neighbours = s.thu.neighbours) ∧
      (let owed := s.cfg.image.aSector * ds * s.cfg.image.fFill + s.gru.remG
        if 0 < ds ∧ s.gru.active = true ∧ s.gru.line ≠ .absent then
          t.gru.remG = owed % 1000000 ∧ t.gru.posted = s.gru.posted + max 0 (owed / 1000000) ∧
          t.gru.postedRing = s.gru.postedRing + max 0 (owed / 1000000)
        else t.gru = s.gru) ∧
      t.phase = s.phase ∧ t.ring = s.ring ∧ t.cfg = s.cfg ∧ t.ptb = s.ptb ∧ t.dsu = s.dsu ∧
      t.bsq = s.bsq ∧ t.bal = s.bal ∧ t.lif = s.lif ∧ t.oru = s.oru) ∧
  (∀ s : State, (contributions s).length = 8 ∧
    (contributions s).getD s.own none =
      (if s.thu.quality = .valid then some s.thu.counter else none) ∧
    (∀ j r, j < 8 → j ≠ s.own → served s j = some r →
      (contributions s).getD j none = if r.quality = .valid then some r.counter else none) ∧
    (∀ j, j < 8 → j ≠ s.own → served s j = none → (contributions s).getD j none = none)) ∧
  (∀ before now : MachineSet, before.length = 8 → now.length = 8 →
    let difference (j : Nat) : Option Int :=
      match before.getD j none, now.getD j none with
      | some b, some n => some (if n - b < 0 then n else n - b)
      | _, _ => none
    let differences := [0, 1, 2, 3, 4, 5, 6, 7].filterMap difference
    advances before now = differences ∧
    (differences = [] → machineAdvance before now = 0) ∧
    (differences ≠ [] → machineAdvance before now = differences.sum / differences.length))

/-- R56, R57: the pressure reference of an ADVANCING group at a stroke sample, from the state with the stroke
taken: by the rate error at a VALID sample, the neighbours' mean at a SUBSTITUTED one, held at an INVALID one; and
SKEW at a sample. That the clamp of the neighbours' mean sets CLAMPED is the model's reading (log 11), and so is
SKEW false at a sample at which no mean is formed (log 7). -/
def Obligations.ControlLawMovesThePressure : Prop :=
  let moved (s : State) (p : Int) : Prop :=
    let reference := clamp 0 s.cfg.image.pGroupMax p
    let t := pressureUpdate s
    t.thu = { s.thu with pRef := reference } ∧
    t.fpt.written = { s.fpt.written with valveMode := .advance, valvePressure := reference } ∧
    (outside 0 s.cfg.image.pGroupMax p = true → t.alu.flags.clamped = true) ∧
    t.alu = { s.alu with flags := { s.alu.flags with clamped := t.alu.flags.clamped } } ∧
    { t with thu := s.thu, fpt := s.fpt, alu := s.alu } = s
  let lead (s : State) : Int :=
    let strokes := s.thu.stroke :: (contributingRecords s).map fun r => r.stroke
    s.thu.stroke - strokes.sum / strokes.length
  (∀ s : State, s.thu.group = .moving .advancing → s.thu.quality = .valid →
    let cap := if s.dsu.changing then s.dsu.rampCap else (levelAt s.cfg.image s.dsu.applied).advanceCap
    let target :=
      if s.cfg.image.lSkew < lead s then 0
      else if inForce s .cutterheadOvertorque = true then min s.thu.rateTarget cap / 2
      else min s.thu.rateTarget cap
    let gain := s.cfg.image.kA * (target - s.thu.rate)
    moved s (s.thu.pRef + s.thu.bias + if 0 ≤ gain then gain / 100 else -(-gain / 100))) ∧
  (∀ (s : State) (a b : StatusRecord), s.thu.group = .moving .advancing →
    s.thu.quality = .substituted → served s (lowerNeighbour s) = some a →
    served s (upperNeighbour s) = some b → a.quality = .valid → b.quality = .valid →
    moved s ((a.groupPressure + b.groupPressure) / 2)) ∧
  (∀ s : State, s.thu.group ≠ .moving .advancing ∨ s.thu.quality = .invalid →
    pressureUpdate s = s) ∧
  (∀ s : State, skewUpdate s = { s with thu := { s.thu with skew := (skewUpdate s).thu.skew } } ∧
    ((skewUpdate s).thu.skew = true ↔
      s.thu.group = .moving .advancing ∧ s.thu.quality = .valid ∧
        s.cfg.image.lSkewAlarm < |lead s|)) ∧
  (∀ s : State,
    let taken := takeStroke s
    (strokeArrival s).thu.skew = true ↔
      s.thu.group = .moving .advancing ∧ taken.thu.quality = .valid ∧
        s.cfg.image.lSkewAlarm < |lead taken|)

/-- R55, R60, R61: SET_ADVANCE, START_ADVANCE and PAUSE complete, each with its result. -/
def Obligations.AdvanceOrdersTakeTheirEffect : Prop :=
  ∀ (s : State) (chars : Chars) (tag : Tag),
    (∀ rate bias, ordered s chars tag 2 [rate, bias] → ∃ t, exec (.setAdvance chars) s = .next t ∧
      t.thu.rateTarget = clamp 0 1000 rate ∧ t.thu.bias = clamp (-200) 200 bias ∧
      (t.oru.echo = some
        { tag := tag, code := 2
          result :=
            if rate < 0 ∨ 1000 < rate ∨ bias < -200 ∨ 200 < bias then .clamped else .done }) ∧
      keptThu t.thu = keptThu { s.thu with rateTarget := t.thu.rateTarget, bias := t.thu.bias } ∧
      keptDsu t.dsu = keptDsu s.dsu ∧ keptBsq t.bsq = keptBsq s.bsq ∧ keptGru t.gru = keptGru s.gru ∧
      keptBal t.bal = keptBal s.bal ∧ t.cfg = s.cfg ∧ t.ring = s.ring ∧ t.ptb = (atOrder s).ptb) ∧
    (∀ params, ordered s chars tag 3 params →
      let taken := (s.phase = .idle ∨ s.phase = .paused) ∧ s.dsu.cutterhead = .running ∧
        s.thu.strokeEnd = false
      (taken → allEnabled s → ∃ u,
        exec (.startAdvance chars) s = .next (settle (echoed tag 3 .accepted u)) ∧
        u.phase = .advancing ∧ u.pauseCause = .none ∧
        u.thu = { s.thu with group := .moving .advancing, pRef := s.cfg.image.pHold } ∧
        u.fpt.written =
          { s.fpt.written with valveMode := .advance, valvePressure := s.cfg.image.pHold } ∧
        u.dsu = s.dsu ∧ u.bsq = s.bsq ∧ u.gru = s.gru ∧ u.bal = s.bal ∧ u.ptb = (atOrder s).ptb) ∧
      (taken → ¬allEnabled s →
        exec (.startAdvance chars) s = .next (settle (echoed tag 3 .accepted
          { atOrder s with phase := .paused, pauseCause := .automatic }))) ∧
      (¬taken →
        exec (.startAdvance chars) s = .next (settle (echoed tag 3 .refusedState (atOrder s))))) ∧
    (∀ params, ordered s chars tag 4 params →
      (s.phase = .advancing → s.thu.group = .moving .advancing → ∃ u,
        exec (.pause chars) s = .next (settle (echoed tag 4 .accepted u)) ∧
        u.phase = .paused ∧ u.pauseCause = .ordered ∧
        u.thu = { s.thu with group := .moving .holding, pRef := s.cfg.image.pHold } ∧
        u.fpt.written =
          { s.fpt.written with valveMode := .hold, valvePressure := s.cfg.image.pHold } ∧
        u.dsu = s.dsu ∧ u.bsq = s.bsq ∧ u.gru = s.gru ∧ u.bal = s.bal ∧ u.ptb = (atOrder s).ptb) ∧
      (s.phase = .advancing → s.thu.group ≠ .moving .advancing →
        exec (.pause chars) s = .next (settle (echoed tag 4 .accepted
          { atOrder s with phase := .paused, pauseCause := .ordered }))) ∧
      (s.phase = .paused → s.pauseCause ≠ .ordered →
        exec (.pause chars) s = .next (settle (echoed tag 4 .accepted
          { atOrder s with pauseCause := .ordered }))) ∧
      (s.phase = .paused → s.pauseCause = .ordered →
        exec (.pause chars) s = .next (settle (echoed tag 4 .done (atOrder s)))) ∧
      (s.phase ≠ .advancing → s.phase ≠ .paused →
        exec (.pause chars) s = .next (settle (echoed tag 4 .refusedState (atOrder s)))))

/-- R62, R67: the end of a stroke, and the ends of the two movements of ring building. R68: the auto-close where
the ERECTOR holder's entry ceases to be present, and the end of BUILD_ORPHANED. -/
def Obligations.StrokeEndAndMovementsEnd : Prop :=
  (∀ s : State,
    (s.thu.group = .moving .advancing → s.thu.quality ≠ .invalid → s.cfg.image.sEnd ≤ s.thu.stroke →
      (strokeEndTest s).thu =
        { s.thu with
          strokeEnd := true, group := .moving .holding, pRef := s.cfg.image.pHold } ∧
      (strokeEndTest s).phase = s.phase) ∧
    (s.thu.group ≠ .moving .advancing ∨ s.thu.quality = .invalid ∨ s.thu.stroke < s.cfg.image.sEnd →
      strokeEndTest s = s) ∧
    (s.thu.group = .moving .retracting →
      (s.thu.quality = .valid → s.thu.stroke ≤ s.cfg.image.sRetract →
        (retractionTest s).thu = { s.thu with group := .moving .retracted, slot := none } ∧
        (retractionTest s).fpt.written =
          { s.fpt.written with valveMode := .hold, valvePressure := 0 }) ∧
      (s.thu.quality ≠ .valid ∨ s.cfg.image.sRetract < s.thu.stroke → retractionTest s = s) ∧
      (inputTrue s .retractedLimit = true →
        (limitArrival false s).thu = { s.thu with group := .moving .retracted, slot := none })) ∧
    (s.thu.group = .moving .extending → inputValid s .groupPressure = true →
      s.cfg.image.pHold ≤ inputValue s .groupPressure →
      (groupPressureArrival s).thu = { s.thu with group := .moving .holding, slot := none }) ∧
    (s.thu.group ≠ .moving .extending ∨ inputValid s .groupPressure = false ∨
        inputValue s .groupPressure < s.cfg.image.pHold → groupPressureArrival s = s)) ∧
  (∀ (s : State) (j : Nat),
    let out := s.thu.group = .moving .retracting ∨ s.thu.group = .moving .retracted
    (s.ptb.erector.holder = some j → present s j = false → out →
      (holderLeaves j s).thu =
        { s.thu with group := .moving .extending, slot := none, orphaned := true } ∧
      (holderLeaves j s).fpt.written =
        { s.fpt.written with valveMode := .extend, valvePressure := s.cfg.image.pHold } ∧
      (presenceNotice j s).thu.group = .moving .extending ∧
      (presenceNotice j s).thu.orphaned = true) ∧
    (s.ptb.erector.holder ≠ some j ∨ present s j = true ∨ ¬out → holderLeaves j s = s)) ∧
  (∀ s : State,
    let holderHere := ∃ h, s.ptb.erector.holder = some h ∧ (h = s.own ∨ present s h = true)
    (s.thu.group = .moving .holding → holderHere →
      orphanTest s = { s with thu := { s.thu with orphaned := false } }) ∧
    (s.thu.group ≠ .moving .holding ∨ ¬holderHere → orphanTest s = s))

/-- R64, R65, R66: a REQUEST heard completes: answered by a REPLY where the own station is its destination,
after PTB has had the frame (R9), and otherwise left to PTB. R82: a request of the own BSQ is answered alike, with no
frame. -/
def Obligations.RequestsAreAnswered : Prop :=
  let answered (source : Nat) (kind : RequestKind) (ring : RingNumber) (tag : Tag) (s1 : State)
      (a : Answer) (u : State) : Prop :=
    let inSlot := s1.thu.slot = some { kind := kind, tag := tag, source := source }
    let asLast (a : Answer) := s1.thu.lastAnswer =
      some { source := source, kind := kind, tag := tag, answer := a }
    let fromHolder := s1.ptb.erector.holder = some source ∧ ring = s1.ring
    let mayRetract := s1.thu.slot = none ∧ s1.phase = .building ∧ s1.thu.group = .moving .holding ∧
      fromHolder
    let slotExtends := ∃ k, s1.thu.slot = some k ∧ k.kind = .extend
    let mayExtend := ¬slotExtends ∧ fromHolder ∧
      (s1.thu.group = .moving .retracting ∨ s1.thu.group = .moving .retracted)
    (inSlot → a = .accepted ∧ u = s1) ∧
    (∀ b, ¬inSlot → asLast b → a = b ∧ u = s1) ∧
    (¬inSlot → (∀ b, ¬asLast b) →
      (kind = .retract →
        (s1.thu.slot ≠ none → a = .busy) ∧ (mayRetract → a = .accepted) ∧
        (s1.thu.slot = none → ¬mayRetract → a = .refused)) ∧
      (kind = .extend →
        (slotExtends → a = .busy) ∧ (mayExtend → a = .accepted) ∧
        (¬slotExtends → ¬mayExtend → a = .refused)) ∧
      (a = .accepted →
        u.thu.slot = some { kind := kind, tag := tag, source := source } ∧
        u.thu.group = .moving (match kind with | .retract => .retracting | .extend => .extending) ∧
        u.fpt.written =
          { s1.fpt.written with
            valveMode := match kind with | .retract => .retract | .extend => .extend
            valvePressure :=
              match kind with
              | .retract => s1.cfg.image.pRetract
              | .extend => s1.cfg.image.pHold }) ∧
      u.thu.lastAnswer = some { source := source, kind := kind, tag := tag, answer := a } ∧
      (a ≠ .accepted → u = { s1 with thu := { s1.thu with lastAnswer := u.thu.lastAnswer } }) ∧
      u.ptb = s1.ptb ∧ u.dsu = s1.dsu ∧ u.bsq = s1.bsq ∧ u.gru = s1.gru ∧ u.bal = s1.bal ∧
      u.phase = s1.phase ∧ u.lif = s1.lif ∧ u.thu.counter = s1.thu.counter)
  (∀ (s : State) (kind : RequestKind) (ring : RingNumber) (tag : Tag),
    answered s.own kind ring tag s (answerRequest s.own kind ring tag s).2
      (answerRequest s.own kind ring tag s).1) ∧
  ∀ (s : State) (chars : Chars) (h : Header) (kind : RequestKind) (ring : RingNumber) (tag : Tag),
    hears s chars h (.request kind ring tag) →
    let row : Instr := match kind with | .retract => .retractGroup chars | .extend => .extendGroup chars
    let s1 := peerOther h.source h.seq (lineUsed s)
    (h.dest ≠ s.own → exec row s = .next (settle s1)) ∧
    (h.dest = s.own → ∃ a u,
      exec row s = .next (settle (handFrame { dest := h.source, body := .reply tag a } u)) ∧
      answered h.source kind ring tag s1 a u)

/-! ## Ring building (04_ring_building) -/

/-- R72, R77: BUILD completes: refused outside its four conditions; taken, the phase is BUILDING, and on the
ERECTOR holder BSQ starts or goes on with the plan. -/
def Obligations.BuildOrderStartsTheBuild : Prop :=
  ∀ (s : State) (chars : Chars) (tag : Tag), ordered s chars tag 8 [] →
    let taken := s.phase = .idle ∧ s.dsu.cutterhead = .stopped ∧
      (s.thu.strokeEnd = true ∨ s.cfg.image.sBuildMin ≤ s.thu.stroke) ∧ stopInForce s = false
    let progress := if s.bsq.cursorRing = s.ring then s.bsq.progress else .new
    let peersBuild := ∀ p ∈ presentPeers s, p.2.phase = .building
    (¬taken → exec (.build chars) s = .next (settle (echoed tag 8 .refusedState (atOrder s)))) ∧
    (taken → s.ptb.exErector = false ∨ s.bsq.state ≠ .idle →
      exec (.build chars) s = .next (settle (echoed tag 8 .accepted
        { atOrder s with
          phase := .building, pauseCause := .none, bsq := { s.bsq with holderSeen := false } }))) ∧
    (taken → s.ptb.exErector = true → s.bsq.state = .idle → ∃ u,
      exec (.build chars) s = .next (settle (echoed tag 8 .accepted u)) ∧
      u.phase = .building ∧ u.pauseCause = .none ∧ u.bsq.cursorRing = s.ring ∧
      (u.bsq.cursor = if s.bsq.cursorRing = s.ring then s.bsq.cursor else 0) ∧
      (s.bsq.cursorRing = s.ring → u.bsq.placed = s.bsq.placed ∧
        u.bsq.substituted = s.bsq.substituted ∧
        u.bsq.buildStart = some (s.bsq.buildStart.getD s.elapsed)) ∧
      (s.bsq.cursorRing ≠ s.ring → u.bsq.placed = 0 ∧ u.bsq.substituted = List.replicate 8 false ∧
        u.bsq.buildStart = some s.elapsed) ∧
      (¬peersBuild → u.bsq.state = .buildWait ∧ u.bsq.progress = progress) ∧
      (peersBuild → progress = .new → u.bsq.state = .pick ∧
        u.bsq.progress = if inputTrue s .feederReady then .gripped else .new) ∧
      (peersBuild → progress = .gripped ∨ progress = .placed →
        u.bsq.state = .travel ∧ u.bsq.progress = progress) ∧
      (peersBuild → progress = .complete → u.bsq.state = .release ∧ u.bsq.progress = .complete) ∧
      u.bsq.stepTimer = some s.elapsed ∧ u.bsq.nextTag = s.bsq.nextTag ∧
      { u with phase := s.phase, pauseCause := s.pauseCause, bsq := s.bsq, fpt := s.fpt } = atOrder s)

/-- R91: RESUME_BUILD on the holder completes: a suspended build with every group back goes on through
BUILD_WAIT. R74, R92: ABORT_BUILD completes, on the holder by its build state and elsewhere only where no build
is led; R89, R90: one that suspends the build asks the group of an outstanding retraction back (log 9). -/
def Obligations.ResumeAndAbortFollowTheBuildState : Prop :=
  (∀ (s : State) (chars : Chars) (tag : Tag), ordered s chars tag 10 [] →
    let taken := s.bsq.state = .suspended ∧ s.phase = .building ∧ s.bsq.retraction = none
    let peersBuild := ∀ p ∈ presentPeers s, p.2.phase = .building
    (¬taken →
      exec (.resumeBuild chars) s = .next (settle (echoed tag 10 .refusedState (atOrder s)))) ∧
    (taken → ∃ u, exec (.resumeBuild chars) s = .next (settle (echoed tag 10 .accepted u)) ∧
      (u.bsq.state =
        if ∀ p ∈ presentPeers s, p.2.phase = .building then
          (match s.bsq.progress with
            | .new => .pick | .gripped => .travel | .placed => .travel | .complete => .release)
        else .buildWait) ∧
      (¬(peersBuild ∧ s.bsq.progress = .new) → u.bsq.progress = s.bsq.progress) ∧
      u.bsq.timedOut = false ∧ u.bsq.unanswered = false ∧ u.bsq.stepTimer = some s.elapsed ∧
      u.bsq.cursor = s.bsq.cursor ∧ u.bsq.cursorRing = s.bsq.cursorRing ∧
      u.bsq.nextTag = s.bsq.nextTag ∧ u.bsq.placed = s.bsq.placed ∧
      u.bsq.buildStart = s.bsq.buildStart ∧ u.bsq.substituted = s.bsq.substituted ∧
      { u with bsq := s.bsq, fpt := s.fpt } = atOrder s)) ∧
  (∀ (s : State) (chars : Chars) (tag : Tag), ordered s chars tag 9 [] →
    let answers (result : OrderResult) (u : State) :=
      exec (.abortBuild chars) s = .next (settle (echoed tag 9 result u))
    let ended : State :=
      { atOrder s with
        phase := .idle, pauseCause := .none, bsq := { s.bsq with holderSeen := false }
        thu := { s.thu with slot := none } }
    (s.ptb.exErector = true →
      (Underway s → ∃ u, answers .accepted u ∧ EntersSuspended (atOrder s) u ∧ u.bsq.state = .suspended ∧
        u.bsq.cursor = s.bsq.cursor ∧ u.bsq.cursorRing = s.bsq.cursorRing ∧
        u.bsq.progress = s.bsq.progress ∧ u.bsq.placed = s.bsq.placed ∧
        u.bsq.buildStart = s.bsq.buildStart ∧ u.bsq.substituted = s.bsq.substituted ∧
        u.bsq.stepTimer = none ∧ u.bsq.gripTimer = none ∧ u.bsq.retractTimer = none ∧
        u.bsq.extendTimer = none ∧ u.bsq.releaseTimer = none ∧ u.fpt.written.erector = .hold ∧
        u.phase = s.phase ∧ u.ring = s.ring ∧ u.dsu = s.dsu ∧ u.gru = s.gru ∧ u.bal = s.bal ∧
        u.ptb = (atOrder s).ptb ∧ u.cfg = s.cfg) ∧
      (s.bsq.state = .suspended → s.bsq.retraction = none → ∃ u, answers .accepted u ∧
        u.bsq.state = .idle ∧ u.bsq.request = none ∧ u.bsq.cursor = s.bsq.cursor ∧
        u.bsq.cursorRing = s.bsq.cursorRing ∧ u.bsq.progress = s.bsq.progress ∧
        u.bsq.placed = s.bsq.placed ∧ u.bsq.buildStart = s.bsq.buildStart ∧
        u.bsq.substituted = s.bsq.substituted ∧
        (u.phase = if s.phase = .building then .idle else s.phase) ∧ u.ring = s.ring ∧
        u.dsu = s.dsu ∧ u.gru = s.gru ∧ u.bal = s.bal ∧ u.thu.counter = s.thu.counter ∧
        u.thu.strokeEnd = s.thu.strokeEnd ∧ u.ptb = (atOrder s).ptb ∧ u.cfg = s.cfg) ∧
      (∀ r, s.bsq.state = .suspended → s.bsq.retraction = some r →
        answers .refusedState (atOrder s)) ∧
      (s.bsq.state = .idle → s.phase = .building → s.thu.group = .moving .holding →
        answers .accepted ended) ∧
      (s.bsq.state = .idle → ¬(s.phase = .building ∧ s.thu.group = .moving .holding) →
        answers .done (atOrder s))) ∧
    (s.ptb.exErector = false →
      let led := ∃ h r, s.ptb.erector.holder = some h ∧ served s h = some r ∧
        (buildStateShown r ≠ some .idle ∨ s.bsq.holderSeen = true)
      (s.phase = .building → ¬led → s.thu.group = .moving .holding →
        answers .accepted ended) ∧
      (s.phase = .building → ¬led → s.thu.group ≠ .moving .holding →
        answers .refusedState (atOrder s)) ∧
      (s.phase ≠ .building ∨ led → answers .notApplicable (atOrder s))))

/-- R81, R85, R87, R79: the step, T_retract, T_extend and grip timers complete at their expiry: SUSPENDED with
cause BUILD_TIMEOUT, and after the grip TRAVEL. R76, R81, R89: what every change of the build state writes, starts and
stops. R90: the EXTEND_GROUP of a build SUSPENDED with a retraction outstanding, as a frame to a peer and to THU at the
own station; that a RETRACT_GROUP it replaces keeps its issue time is the model's choice (log 9). -/
def Obligations.BuildTimersSuspendOrMoveOn : Prop :=
  (∀ (s : State) (b : BuildState), b ≠ .idle → EntersBuild b s (setBuild b s)) ∧
  (∀ (s : State) (i : Instr) (start : Time),
    ((i = .stepTimerExpiry ∧ s.bsq.stepTimer = some start ∧
        s.cfg.image.tStep ≤ elapsedSince start s.elapsed) ∨
      (i = .retractTimerExpiry ∧ s.bsq.retractTimer = some start ∧
        s.cfg.image.tRetract ≤ elapsedSince start s.elapsed) ∨
      (i = .extendTimerExpiry ∧ s.bsq.extendTimer = some start ∧
        s.cfg.image.tExtend ≤ elapsedSince start s.elapsed)) →
    Underway s →
    ∃ u, exec i s = .next (settle u) ∧
      EntersSuspended { s with bsq := { s.bsq with timedOut := true } } u ∧
      u.bsq.state = .suspended ∧ u.bsq.timedOut = true ∧
      u.bsq.stepTimer = none ∧ u.bsq.retractTimer = none ∧ u.bsq.extendTimer = none ∧
      u.bsq.gripTimer = none ∧ u.bsq.releaseTimer = none ∧ u.bsq.cursor = s.bsq.cursor ∧
      u.bsq.progress = s.bsq.progress ∧ u.bsq.cursorRing = s.bsq.cursorRing ∧
      u.bsq.placed = s.bsq.placed ∧ u.fpt.written.erector = .hold ∧
      (s.bsq.retraction = none → u.thu = s.thu ∧ u.lif = s.lif ∧ u.bsq.request = s.bsq.request) ∧
      u.phase = s.phase ∧ u.ring = s.ring ∧ u.dsu = s.dsu ∧ u.gru = s.gru ∧ u.bal = s.bal ∧
      u.ptb = s.ptb ∧ u.cfg = s.cfg ∧ u.oru = s.oru) ∧
  (∀ (s : State) (start : Time), s.bsq.gripTimer = some start →
    s.cfg.image.tGrip ≤ elapsedSince start s.elapsed →
    ∃ u, exec .gripTimerExpiry s = .next (settle u) ∧ u.bsq.state = .travel ∧
      u.bsq.stepTimer = some s.elapsed ∧ u.bsq.gripTimer = none ∧
      u.fpt.written =
        { s.fpt.written with erector := .travel (placementAt s.cfg.image s.bsq.cursor).position } ∧
      u.bsq.cursor = s.bsq.cursor ∧ u.bsq.progress = s.bsq.progress ∧
      { u with bsq := s.bsq, fpt := s.fpt } = s)

/-- R83, R89: the expiry of the answer wait completes: the request is settled unanswered, and a build underway is
suspended; R90: in SUSPENDED an EXTEND_GROUP so expired is sent again, where one may be sent (log 9). R83, R85, R87: a
REPLY to the own station completes; the one that answers the outstanding request marks it accepted and starts the
movement timer, or settles it and suspends the step that waits.
R83 to R85, R87, at a counted STATUS of the target: what shows the request taken is its acceptance, RETRACTED ends
AWAIT_RETRACT in PLACE, and HOLDING clears the outstanding retraction, ends AWAIT_EXTEND in RELEASE and completes a
PLACED placement; the own group is read alike, wherever an event ends (log 34). R84's HOLDING counts after acceptance
or past the answer deadline, that of a RETRACT_GROUP replaced while awaited included (log 9); with no retraction
outstanding a HOLDING ends no AWAIT_EXTEND (log 40). R78, R85 to R87, R90: the notice of a presence change. R87: the
entry into AWAIT_EXTEND. R78: what BUILD_WAIT
makes of the counted STATUS, and R96: the substitution mark. R85: the permission test of AWAIT_RETRACT. -/
def Obligations.AnswersSettleTheRequest : Prop :=
  let sent (kind : RequestKind) (target : Nat) (s : State) : OutRequest :=
    { kind := kind, tag := s.bsq.nextTag, target := target, ring := s.bsq.cursorRing, accepted := false }
  let frame (kind : RequestKind) (target : Nat) (s : State) : TxFrame :=
    { dest := target, body := .request kind s.bsq.cursorRing s.bsq.nextTag }
  let shows (o : OutRequest) (j : Nat) (r : StatusRecord) : Prop :=
    o.target = j ∧ ((r.pendingKind = some o.kind ∧ r.pendingTag = o.tag) ∨
      (o.kind = .retract ∧ (r.group = .moving .retracting ∨ r.group = .moving .retracted ∨
        r.group = .frozen .retracting ∨ r.group = .frozen .retracted)) ∨
      (o.kind = .extend ∧ (r.group = .moving .extending ∨ r.group = .moving .holding)))
  let proves (s : State) (t : Retraction) : Prop :=
    t.proven = true ∨ ∃ issue, t.deadline = some issue ∧ 10 ≤ elapsedSince issue s.elapsed
  let goesOn (waiting step : BuildState) (cmd : ErectorCmd) (s u : State) : Prop :=
    u.bsq.cursor = s.bsq.cursor ∧ u.bsq.cursorRing = s.bsq.cursorRing ∧
    u.bsq.nextTag = s.bsq.nextTag ∧ u.bsq.placed = s.bsq.placed ∧
    (s.bsq.state = waiting → u.bsq.state = step ∧ u.bsq.stepTimer = some s.elapsed ∧
      u.bsq.retractTimer = none ∧ u.bsq.extendTimer = none ∧
      u.fpt.written = { s.fpt.written with erector := cmd }) ∧
    (s.bsq.state ≠ waiting → u.bsq.state = s.bsq.state ∧ u.bsq.stepTimer = s.bsq.stepTimer ∧
      u.fpt = s.fpt) ∧
    { u with bsq := s.bsq, fpt := s.fpt } = s
  let retractedEnds (s u : State) : Prop :=
    goesOn .awaitRetract .place .place s u ∧ u.bsq.request = none ∧
    u.bsq.progress = s.bsq.progress ∧
    u.bsq.retraction.map (fun t => (t.placement, t.target)) =
      s.bsq.retraction.map (fun t => (t.placement, t.target))
  let holdingEnds (t : Retraction) (s u : State) : Prop :=
    goesOn .awaitExtend .release .release s u ∧ u.bsq.retraction = none ∧
    (s.bsq.state = .awaitExtend → u.bsq.releaseTimer = some s.elapsed) ∧
    (u.bsq.progress =
      if t.placement = s.bsq.cursor ∧ s.bsq.progress = .placed then .complete else s.bsq.progress)
  (∀ (s : State) (start : Time) (r : OutRequest), s.bsq.answerWait = some start →
    10 ≤ elapsedSince start s.elapsed → s.bsq.request = some r →
    let settled : State :=
      { s with
        bsq :=
          { s.bsq with
            request := none, answerWait := none, unanswered := true
            retraction := s.bsq.retraction.map fun t =>
              { t with proven := t.proven || decide (r.kind = .retract) } } }
    (Underway s → ∃ u, exec .answerWaitExpiry s = .next (settle u) ∧ EntersSuspended settled u) ∧
    (¬Underway s → r.kind = .retract → exec .answerWaitExpiry s = .next (settle settled)) ∧
    (¬Underway s → r.kind = .extend →
      ∃ u, exec .answerWaitExpiry s = .next (settle u) ∧ BringsBack settled u)) ∧
  (∀ (s : State) (chars : Chars) (h : Header) (tag : Tag) (a : Answer),
    hears s chars h (.reply tag a) →
    let s1 := peerOther h.source h.seq (lineUsed s)
    let answers (o : OutRequest) := s1.bsq.request = some o ∧ s1.ptb.exErector = true ∧
      o.accepted = false ∧ o.target = h.source ∧ o.tag = tag
    let waiting := s1.bsq.state = .awaitRetract ∨ s1.bsq.state = .awaitExtend
    (h.dest ≠ s.own ∨ (∀ o, ¬answers o) → exec (.reply chars) s = .next (settle s1)) ∧
    (∀ o, h.dest = s.own → answers o → ∃ u, exec (.reply chars) s = .next (settle u) ∧
      (a = .accepted →
        u.bsq.request = some { o with accepted := true } ∧ u.bsq.answerWait = none ∧
        u.bsq.unanswered = false ∧ u.bsq.state = s1.bsq.state ∧
        (o.kind = .retract → s1.bsq.state = .awaitRetract →
          u.bsq.retractTimer = some s.elapsed) ∧
        (o.kind = .extend → s1.bsq.state = .awaitExtend → u.bsq.extendTimer = some s.elapsed) ∧
        { u with bsq := s1.bsq } = s1) ∧
      (let completes := o.kind = .retract ∧ s1.bsq.progress = .placed ∧
          ∃ t ∈ s1.bsq.retraction, t.placement = s1.bsq.cursor
        let turned : State :=
          { s1 with
            bsq :=
              { s1.bsq with
                request := none, answerWait := none, unanswered := false
                retraction := if o.kind = .retract then none else s1.bsq.retraction
                progress := if completes then .complete else s1.bsq.progress } }
        (a ≠ .accepted → ¬waiting → u = turned) ∧
        (a ≠ .accepted → waiting → EntersSuspended turned u)) ∧
      u.phase = s1.phase ∧ u.ring = s1.ring ∧ u.dsu = s1.dsu ∧ u.gru = s1.gru ∧ u.bal = s1.bal ∧
      u.ptb = s1.ptb ∧ u.cfg = s1.cfg)) ∧
  (∀ (s : State) (chars : Chars) (h : Header) (r : StatusRecord), hears s chars h (.status r) →
    s.ptb.peers.length = 8 →
    let e := peerOf s h.source
    e.liveness = .live ∨ e.liveness = .silent →
    (r.erectorPart.isSome = true → e.claims.erector = true) →
    (r.conveyorPart.isSome = true → e.claims.conveyor = true) →
    ∃ v, exec (.status chars) s =
        .next (settle (holderHeard h.source r (buildCountedStatus h.source r v))) ∧
      v.bsq = s.bsq ∧ v.thu = s.thu ∧ v.elapsed = s.elapsed ∧ v.phase = s.phase ∧ v.cfg = s.cfg ∧
      v.ptb.exErector = s.ptb.exErector ∧ served v h.source = some r) ∧
  (∀ (j : Nat) (r : StatusRecord) (s : State),
    let marked : State :=
      if r.quality = .substituted then
        { s with bsq := { s.bsq with substituted := putAt s.bsq.substituted j true } }
      else s
    let u := targetSeen j r marked
    let t := buildCountedStatus j r s
    let peersBuild := ∀ p ∈ presentPeers s, p.2.phase = .building
    (s.ptb.exErector = false → t = s) ∧
    (s.ptb.exErector = true → s.bsq.state ≠ .buildWait ∨ ¬peersBuild → t = u) ∧
    (s.ptb.exErector = true → s.bsq.state = .buildWait → peersBuild →
      (t.bsq.state =
        match u.bsq.progress with
        | .new => .pick | .gripped => .travel | .placed => .travel | .complete => .release) ∧
      t.bsq.stepTimer = some s.elapsed ∧ t.bsq.retraction = u.bsq.retraction ∧
      t.bsq.request = u.bsq.request ∧ t.bsq.cursor = s.bsq.cursor ∧
      { t with bsq := s.bsq, fpt := s.fpt } = s)) ∧
  (∀ (j : Nat) (r : StatusRecord) (s : State),
    let u := targetSeen j r s
    (∀ o, s.bsq.request = some o → o.accepted = false → shows o j r →
      r.group ≠ .moving .holding → ¬(o.kind = .retract ∧ r.group = .moving .retracted) →
      u =
        { s with
          bsq :=
            { s.bsq with
              request := some { o with accepted := true }, answerWait := none, unanswered := false
              retraction := s.bsq.retraction.map fun t =>
                { t with proven := t.proven || decide (o.kind = .retract) }
              retractTimer :=
                if o.kind = .retract ∧ s.bsq.state = .awaitRetract then some s.elapsed
                else s.bsq.retractTimer
              extendTimer :=
                if o.kind = .extend ∧ s.bsq.state = .awaitExtend then some s.elapsed
                else s.bsq.extendTimer } }) ∧
    (∀ o, s.bsq.request = some o → o.kind = .retract → o.target = j → r.group = .moving .retracted →
      retractedEnds s u ∧ (o.accepted = false → u.bsq.answerWait = none ∧ u.bsq.unanswered = false)) ∧
    (∀ t, s.bsq.retraction = some t → t.target = j → r.group = .moving .holding →
      let clears := proves s t ∨
        ∃ o, s.bsq.request = some o ∧ o.kind = .retract ∧ o.accepted = false ∧ shows o j r
      (clears → holdingEnds t s u) ∧
      (¬clears → u.bsq.retraction = some t ∧ u.bsq.state = s.bsq.state ∧
        u.bsq.progress = s.bsq.progress ∧ { u with bsq := s.bsq } = s)) ∧
    (∀ o, s.bsq.request = some o → o.kind = .extend → o.target = j → r.group = .moving .holding →
      u.bsq.request = none) ∧
    ((∀ o, s.bsq.request = some o → (o.accepted = false → ¬shows o j r) ∧
        (o.accepted = true → o.target = j →
          ¬(o.kind = .retract ∧ r.group = .moving .retracted) ∧
          ¬(o.kind = .extend ∧ r.group = .moving .holding))) →
      (∀ t, s.bsq.retraction = some t → t.target = j → r.group ≠ .moving .holding) → u = s)) ∧
  (∀ s : State,
    let u := ownGroupSeen s
    (s.ptb.exErector = false → u = s) ∧
    (∀ o, s.ptb.exErector = true → s.bsq.request = some o → o.kind = .retract →
      o.target = s.own → o.accepted = true → s.thu.group = .moving .retracted → retractedEnds s u) ∧
    (∀ t, s.ptb.exErector = true → s.bsq.retraction = some t → t.target = s.own →
      s.thu.group = .moving .holding →
      (proves s t → holdingEnds t s u) ∧
      (¬proves s t → u.bsq.retraction = some t ∧ u.bsq.state = s.bsq.state ∧ u.fpt = s.fpt)) ∧
    (∀ o, s.ptb.exErector = true → s.bsq.request = some o → o.kind = .extend → o.target = s.own →
      o.accepted = true → s.thu.group = .moving .holding → u.bsq.request = none) ∧
    (s.thu.group ≠ .moving .retracted → s.thu.group ≠ .moving .holding → u = s)) ∧
  (∀ s : State,
    let u := retractTest s
    let target := (placementAt s.cfg.image s.bsq.cursor).position * s.cfg.image.nS / 360
    let tests := s.ptb.exErector = true ∧ s.bsq.state = .awaitRetract ∧ s.bsq.issued = false
    let waits := inForce s .sectorMissing = true ∨ s.bsq.retraction ≠ none
    let out : Retraction :=
      { placement := s.bsq.cursor, target := target, proven := false, deadline := none }
    (¬tests → u = s) ∧
    (tests → target ≠ s.own → present s target = false → EntersSuspended s u) ∧
    (tests → target = s.own ∨ present s target = true → waits → u = s) ∧
    (tests → target ≠ s.own → present s target = true → ¬waits →
      u.bsq =
        { s.bsq with
          issued := true, request := some (sent .retract target s), nextTag := s.bsq.nextTag + 1
          retraction := some out, answerWait := some s.elapsed } ∧
      { u with bsq := s.bsq } = handFrame (frame .retract target s) s) ∧
    (tests → target = s.own → ¬waits →
      let a := answerRequest s.own .retract s.bsq.cursorRing s.bsq.nextTag s
      u.thu = a.1.thu ∧ u.bsq.nextTag = s.bsq.nextTag + 1 ∧ u.bsq.answerWait = none ∧ u.lif = s.lif ∧
      (a.2 = .accepted →
        u.bsq.request = some { sent .retract target s with accepted := true } ∧
        u.bsq.retraction = some { out with proven := true } ∧ u.bsq.state = .awaitRetract ∧
        u.bsq.retractTimer = some s.elapsed ∧ u.bsq.unanswered = false) ∧
      (a.2 ≠ .accepted →
        u.bsq.request = none ∧ u.bsq.retraction = none ∧ u.bsq.state = .suspended))) ∧
  (∀ (s : State) (j : Nat),
    let u := buildPresence j s
    let peersBuild := ∀ p ∈ presentPeers s, p.2.phase = .building
    let here := present s j = true
    let back := here ∧ s.bsq.state = .suspended ∧ ∃ t ∈ s.bsq.retraction, t.target = j
    let lost := ¬here ∧
      (placementAt s.cfg.image s.bsq.cursor).position * s.cfg.image.nS / 360 = j ∧
      (s.bsq.state = .place ∨ s.bsq.state = .awaitExtend ∨
        (s.bsq.state = .awaitRetract ∧ s.bsq.issued = true))
    (s.ptb.exErector = false → u = s) ∧
    (s.ptb.exErector = true →
      (back → BringsBack s u) ∧ (lost → EntersSuspended s u) ∧
      (¬back → ¬lost → s.bsq.state ≠ .buildWait ∨ ¬peersBuild → u = s) ∧
      (s.bsq.state = .buildWait → peersBuild →
        (u.bsq.state =
          match s.bsq.progress with
          | .new => .pick | .gripped => .travel | .placed => .travel | .complete => .release) ∧
        u.bsq.stepTimer = some s.elapsed ∧ u.bsq.retraction = s.bsq.retraction ∧
        u.bsq.request = s.bsq.request ∧ u.bsq.cursor = s.bsq.cursor ∧
        { u with bsq := s.bsq, fpt := s.fpt } = s))) ∧
  (∀ s : State,
    let u := enterAwaitExtend s
    let target := (placementAt s.cfg.image s.bsq.cursor).position * s.cfg.image.nS / 360
    ∃ e, EntersBuild .awaitExtend s e ∧
      (target ≠ s.own → present s target = false → EntersSuspended e u) ∧
      (target ≠ s.own → present s target = true →
        u.bsq =
          { e.bsq with
            request := some (sent .extend target s), nextTag := s.bsq.nextTag + 1
            answerWait := some s.elapsed, retraction := retractionKept s.bsq } ∧
        { u with bsq := e.bsq } = handFrame (frame .extend target s) e) ∧
      (target = s.own →
        let a := answerRequest s.own .extend s.bsq.cursorRing s.bsq.nextTag e
        let asked (q : BsqState) : State :=
          { a.1 with
            bsq :=
              { q with
                nextTag := s.bsq.nextTag + 1, answerWait := none, unanswered := false
                retraction := retractionKept s.bsq } }
        (a.2 = .accepted →
          u = asked
            { e.bsq with
              request := some { sent .extend target s with accepted := true }
              extendTimer := some s.elapsed }) ∧
        (a.2 ≠ .accepted → EntersSuspended (asked { e.bsq with request := none }) u)))

/-- R88, R93, R94: the release timer's expiry completes: the next placement, or after the key the ring close,
with every block's part in it. That a clamped volume sets SATURATED before the record reads the flags is the
model's reading (log 22). -/
def Obligations.ReleaseGoesOnOrClosesTheRing : Prop :=
  ∀ (s : State) (start : Time), s.bsq.releaseTimer = some start →
    s.cfg.image.tRelease ≤ elapsedSince start s.elapsed →
    ((placementAt s.cfg.image s.bsq.cursor).key = false →
      ∃ u, exec .releaseTimerExpiry s = .next (settle u) ∧ u.bsq.state = .pick ∧
        u.bsq.placed = s.bsq.placed + 1 ∧ u.bsq.cursor = s.bsq.cursor + 1 ∧
        (u.bsq.progress = if inputTrue s .feederReady then .gripped else .new) ∧
        (u.fpt.written.erector =
          if inputTrue s .feederReady then
            .grip (placementAt s.cfg.image (s.bsq.cursor + 1)).segment
          else .hold) ∧
        u.bsq.stepTimer = some s.elapsed ∧ u.bsq.cursorRing = s.bsq.cursorRing ∧
        u.bsq.buildStart = s.bsq.buildStart ∧ { u with bsq := s.bsq, fpt := s.fpt } = s) ∧
    ((placementAt s.cfg.image s.bsq.cursor).key = true →
      let record : State := { s with bsq := { s.bsq with placed := s.bsq.placed + 1 } }
      let flagged := setFlagIf (volumesClamp record) .saturated record
      ∃ u, exec .releaseTimerExpiry s = .next (settle u) ∧
        u.lif = (handFrames (reportFrames flagged) flagged).lif ∧
        u.ring = s.ring + 1 ∧ u.bsq.state = .idle ∧ u.bsq.cursor = 0 ∧ u.bsq.progress = .new ∧
        u.bsq.cursorRing = s.ring + 1 ∧ u.bsq.placed = 0 ∧ u.bsq.buildStart = none ∧
        u.bsq.substituted = List.replicate 8 false ∧ u.bsq.request = none ∧
        u.thu.counter = 0 ∧ u.thu.strokeEnd = false ∧ u.gru.postedRing = 0 ∧
        u.gru.deliveredRing = 0 ∧
        u.gru.queue = s.gru.queue.map (fun p => { p with current := false }) ∧
        u.gru.posted = s.gru.posted ∧ u.gru.delivered = s.gru.delivered ∧
        u.dsu = { s.dsu with residency := List.replicate 8 0, ringMax := 0 } ∧
        u.bal =
          (if s.bal.active then { s.bal with eRing := 0, xRing := 0, restarted := false }
          else s.bal) ∧
        (u.phase = if s.phase = .building then .idle else s.phase) ∧
        (s.phase = .building → u.thu.slot = none ∧
          (s.thu.group = .moving .retracting ∨ s.thu.group = .moving .retracted ∨
            s.thu.group = .moving .extending → u.thu.group = .moving .holding)) ∧
        u.ptb = s.ptb ∧ u.cfg = s.cfg ∧ u.elapsed = s.elapsed)

/-- R96, R97: the ring record handed at the ring close: its parts in order, part 0's fields and where each
sector's item comes from. -/
def Obligations.RingRecordTakesItsFieldsFromTheirSources : Prop :=
  ∀ s : State, 4 ≤ s.cfg.image.nS → s.cfg.image.nS ≤ 8 →
    let count := if s.cfg.image.nS = 4 then 3 else 4
    let part (k : Nat) (p : RingPart) : TxFrame :=
      { dest := 15, body := .ringReport s.ring k count p }
    let items (from_ upto : Nat) := ((List.range upto).drop from_).map (closeItem s)
    (reportFrames s =
      [part 0 (.summary (closeSummary s)), part 1 (.residency s.dsu.residency),
        part 2 (.sectors (items 0 4))] ++
        if s.cfg.image.nS = 4 then [] else [part 3 (.sectors (items 4 s.cfg.image.nS))]) ∧
    (closeSummary s).buildStart = s.bsq.buildStart ∧ (closeSummary s).close = s.elapsed ∧
    (closeSummary s).placed = s.bsq.placed ∧ (closeSummary s).maxTorque = s.dsu.ringMax ∧
    (s.ptb.conveyor.holder = none →
      (closeSummary s).volumes = none ∧ (closeSummary s).marks = none) ∧
    (s.ptb.conveyor.holder = some s.own →
      (closeSummary s).volumes = some (s.bal.eRing, s.bal.xRing, s.bal.account) ∧
      (closeSummary s).marks = some (s.bal.restarted, s.alu.flags.saturated)) ∧
    (∀ h r c v, s.ptb.conveyor.holder = some h → h ≠ s.own → served s h = some r →
      r.conveyorPart = some c → c.account = some v →
      (closeSummary s).volumes = some (v.2.1, v.2.2, v.1) ∧
      (closeSummary s).marks = some (c.restarted, r.flags.saturated)) ∧
    (∀ h, s.ptb.conveyor.holder = some h → h ≠ s.own → served s h = none →
      (closeSummary s).volumes = none ∧ (closeSummary s).marks = none) ∧
    (∀ j, (closeItem s j).substituted = s.bsq.substituted.getD j false) ∧
    ((closeItem s s.own).heard = true ∧
      (closeItem s s.own).posted = min 2147483647 s.gru.postedRing ∧
      (closeItem s s.own).delivered = min 2147483647 s.gru.deliveredRing ∧
      (closeItem s s.own).outstanding = min 2147483647 (volumeOf s.gru.queue)) ∧
    (∀ j r, j ≠ s.own → served s j = some r → r.ring = s.ring →
      (closeItem s j).heard = true ∧ (closeItem s j).posted = r.postedRing ∧
      (closeItem s j).delivered = r.deliveredRing ∧ (closeItem s j).outstanding = r.outstanding) ∧
    (∀ j, j ≠ s.own → (∀ r, served s j = some r → r.ring ≠ s.ring) →
      (closeItem s j).heard = false)

/-- R95: a holder's ring number compared with the own: the ring close heard, no change, or the
resynchronisation. R73, R95: what a counted STATUS of the ERECTOR holder does on a station without the duty: the
holder-seen mark, and the end of the phase BUILDING. -/
def Obligations.HolderRingNumberIsFollowed : Prop :=
  (∀ (s : State) (h : RingNumber),
    let t := compareRings h s
    (h = s.ring → t = s) ∧
    (h ≠ s.ring → t.ring = h) ∧
    (h = s.ring + 1 → t.thu.counter = 0 ∧ t.thu.strokeEnd = false ∧ t.gru.postedRing = 0 ∧
      t.gru.deliveredRing = 0 ∧ t.dsu.residency = List.replicate 8 0 ∧ t.dsu.ringMax = 0 ∧
      (s.phase = .building → t.phase = .idle ∧ t.thu.slot = none) ∧
      (s.phase ≠ .building → t.phase = s.phase ∧ t.thu.group = s.thu.group) ∧
      t.alu.flags.ringResync = s.alu.flags.ringResync) ∧
    (h ≠ s.ring → h ≠ s.ring + 1 →
      t =
        { s with
          ring := h, alu := { s.alu with flags := { s.alu.flags with ringResync := true } } })) ∧
  (∀ (s : State) (j : Nat) (r : StatusRecord),
    let t := holderHeard j r s
    let heard := s.ptb.exErector = false ∧ s.ptb.erector.holder = some j
    let compared := s.ptb.endOfListen = true ∧ r.ring ≠ s.ring
    let shows (idle : Bool) := ∃ e, r.erectorPart = some e ∧ (e.state = .idle ↔ idle = true)
    (¬heard → t = s) ∧
    (heard → ¬compared →
      (s.phase = .building → shows false →
        t = { s with bsq := { s.bsq with holderSeen := true } }) ∧
      (s.phase = .building → shows true → s.bsq.holderSeen = true →
        t.phase = .idle ∧ t.pauseCause = .none ∧ t.bsq = { s.bsq with holderSeen := false } ∧
        t.thu.slot = none ∧
        (s.thu.group = .moving .retracting ∨ s.thu.group = .moving .retracted ∨
          s.thu.group = .moving .extending → t.thu.group = .moving .holding) ∧
        t.ring = s.ring ∧ t.thu.counter = s.thu.counter ∧ t.gru = s.gru ∧ t.dsu = s.dsu) ∧
      (s.phase ≠ .building ∨ r.erectorPart = none ∨ (shows true ∧ s.bsq.holderSeen = false) →
        t = s)) ∧
    (heard → compared → t.ring = r.ring ∧
      (s.phase = .building → r.ring = s.ring + 1 → t.phase = .idle ∧ t.bsq.holderSeen = false) ∧
      (s.phase = .building → r.ring ≠ s.ring + 1 →
        (shows true → s.bsq.holderSeen = true → t.phase = .idle ∧ t.thu.slot = none) ∧
        (shows true → s.bsq.holderSeen = false → t.phase = .building) ∧
        (shows false → t.phase = .building ∧ t.bsq.holderSeen = true) ∧
        t.alu.flags.ringResync = true ∧ t.thu.counter = s.thu.counter ∧
        t.gru.postedRing = s.gru.postedRing ∧ t.gru.deliveredRing = s.gru.deliveredRing)))

/-! ## Grout injection (05_grout_injection) -/

/-- R101 to R103, R105: a demand above 0 posted: merged into the tail or appended, its total and tally raised,
and an IDLE line with V_start or more outstanding PUMPING. -/
def Obligations.DemandsMergeOrAppend : Prop :=
  ∀ (d : Int) (s : State), 0 < d →
    let t := postDemand d s
    let tailRing (p : Parcel) := if s.ring.toNat < p.ring.toNat then p.ring else s.ring
    let merges (p : Parcel) := p.started = false ∧ p.current = true ∧ p.ring = tailRing p ∧
      p.volume < s.cfg.image.vParcel
    let stamped (r : RingNumber) : Parcel :=
      { ring := r, volume := d, posted := s.elapsed, started := false, current := true }
    (s.gru.queue = [] → t.gru.queue = [stamped s.ring]) ∧
    (∀ before p, s.gru.queue = before ++ [p] →
      (16 ≤ s.gru.queue.length ∨ merges p →
        t.gru.queue = before ++ [{ p with volume := p.volume + d }]) ∧
      (s.gru.queue.length < 16 → ¬merges p → t.gru.queue = s.gru.queue ++ [stamped (tailRing p)])) ∧
    t.alu.flags.fifoMergedFull =
      (s.alu.flags.fifoMergedFull || decide (16 ≤ s.gru.queue.length)) ∧
    t.gru.posted = s.gru.posted + d ∧ t.gru.postedRing = s.gru.postedRing + d ∧
    t.gru.delivered = s.gru.delivered ∧ t.gru.deliveredRing = s.gru.deliveredRing ∧
    t.gru.writtenOff = s.gru.writtenOff ∧ t.gru.overrun = s.gru.overrun ∧
    t.gru.remG = s.gru.remG ∧ t.gru.settingTimer = s.gru.settingTimer ∧
    (t.gru.line =
      if s.gru.line = .idle ∧ s.cfg.image.vStart ≤ volumeOf t.gru.queue then .pumping
      else s.gru.line) ∧
    (t.gru.lag = lagAfter s.cfg.image s.gru.lag (volumeOf t.gru.queue)) ∧
    (t.gru.line = .pumping → t.fpt.written.pump =
      if s.cfg.image.lBoost ≤ volumeOf t.gru.queue then s.cfg.image.rateHigh
      else s.cfg.image.rateLow) ∧
    t.dsu = s.dsu ∧ t.thu = s.thu ∧ t.bsq = s.bsq ∧ t.bal = s.bal ∧ t.ptb = s.ptb ∧ t.lif = s.lif ∧
    t.phase = s.phase ∧ t.ring = s.ring

/-- R106, R107, R111, R113: one meter pulse, in every line state: 10 ml credited from the head on and the rest
overrun, or 10 ml of flush volume, or nothing. -/
def Obligations.PulseCreditsTenMillilitres : Prop :=
  ∀ s : State, (∀ p ∈ s.gru.queue, 0 < p.volume) →
    let t := groutPulse s
    let credited := min 10 (volumeOf s.gru.queue)
    (s.gru.line = .absent → t = s) ∧
    (s.gru.line = .flushing → t = { s with gru := { s.gru with flushed := s.gru.flushed + 10 } }) ∧
    (s.gru.line ≠ .absent → s.gru.line ≠ .flushing →
      t.gru.delivered = s.gru.delivered + credited ∧ t.gru.overrun = s.gru.overrun + (10 - credited) ∧
      volumeOf t.gru.queue = volumeOf s.gru.queue - credited ∧
      (∀ p rest, s.gru.queue = p :: rest → 10 < p.volume →
        t.gru.queue = { p with volume := p.volume - 10, started := true } :: rest ∧
        t.gru.deliveredRing = s.gru.deliveredRing + if p.current then 10 else 0) ∧
      (∀ p, s.gru.queue = [p] → p.volume ≤ 10 → t.gru.queue = [] ∧
        t.gru.deliveredRing = s.gru.deliveredRing + if p.current then p.volume else 0) ∧
      (s.gru.queue = [] → t.gru.queue = [] ∧ t.gru.deliveredRing = s.gru.deliveredRing) ∧
      t.gru.posted = s.gru.posted ∧ t.gru.writtenOff = s.gru.writtenOff ∧
      t.gru.flushed = s.gru.flushed ∧
      (s.gru.line = .idle ∨ s.gru.line = .pumping ∨ s.gru.line = .pressureHold →
        t.gru.settingTimer = some s.elapsed) ∧
      (s.gru.line = .blocked ∨ s.gru.line = .needsFlush →
        t.gru.settingTimer = s.gru.settingTimer) ∧
      (s.gru.line = .pressureHold → t.gru.blockTimer = some s.elapsed) ∧
      (s.gru.line = .pumping → t.gru.queue = [] → 0 < s.cfg.image.vStart →
        t.gru.line = .idle ∧ t.fpt.written.pump = 0) ∧
      (s.gru.line ≠ .pumping ∨ t.gru.queue ≠ [] → t.gru.line = s.gru.line)) ∧
    t.dsu = s.dsu ∧ t.thu = s.thu ∧ t.bsq = s.bsq ∧ t.bal = s.bal ∧ t.ptb = s.ptb ∧ t.lif = s.lif ∧
    t.phase = s.phase ∧ t.ring = s.ring

/-- R108, R109, R113: what a grout pressure sample makes of the line; a flushing line sampled at or above P_max
and at or below P_resume at once is left out, the flush pressure stop being a free value there (log 20). -/
def Obligations.GroutPressureMovesTheLine : Prop :=
  ∀ s : State,
    let t := groutPressureArrival s
    let valid := inputValid s .groutPressure = true
    let p := inputValue s .groutPressure
    let high := ¬valid ∨ s.cfg.image.pMax ≤ p
    let low := valid ∧ p ≤ s.cfg.image.pResume
    (s.gru.line = .idle ∨ s.gru.line = .pumping →
      (high → t.gru =
          { s.gru with line := .pressureHold, blockTimer := some s.elapsed } ∧
        t.fpt.written = { s.fpt.written with pump := 0, flushOpen := false }) ∧
      (¬high → t = s)) ∧
    (s.gru.line = .pressureHold →
      (low → 0 < volumeOf s.gru.queue →
        t.gru = { s.gru with line := .pumping, blockTimer := none }) ∧
      (low → volumeOf s.gru.queue = 0 → 0 < s.cfg.image.vStart →
        t.gru = { s.gru with line := .idle, blockTimer := none } ∧ t.fpt.written.pump = 0) ∧
      (¬low → t = s)) ∧
    (s.gru.line = .flushing → ¬(valid ∧ s.cfg.image.pMax ≤ p ∧ p ≤ s.cfg.image.pResume) →
      (high → t.gru = { s.gru with flushStop := true } ∧ t.fpt.written.pump = 0) ∧
      (low → t.gru = { s.gru with flushStop := false } ∧
        t.fpt.written.pump = s.cfg.image.rateLow) ∧
      (¬high → ¬low → t.gru = s.gru)) ∧
    (s.gru.line = .absent ∨ s.gru.line = .blocked ∨ s.gru.line = .needsFlush → t = s) ∧
    t.dsu = s.dsu ∧ t.thu = s.thu ∧ t.bsq = s.bsq ∧ t.bal = s.bal ∧ t.ptb = s.ptb ∧ t.lif = s.lif ∧
    t.phase = s.phase ∧ t.ring = s.ring

/-- R110, R111, R113: the block, setting and flush timers complete at their expiry: BLOCKED, NEEDS_FLUSH, and
the end of the flush. -/
def Obligations.GroutTimersMoveTheLine : Prop :=
  (∀ (s : State) (start : Time), s.gru.blockTimer = some start →
    s.cfg.image.tBlock ≤ elapsedSince start s.elapsed →
    ∃ u, exec .blockTimerExpiry s = .next (settle u) ∧
      u.gru = { s.gru with line := .blocked, blockTimer := none, settingTimer := none } ∧
      u.fpt.written = { s.fpt.written with pump := 0, flushOpen := false } ∧
      { u with gru := s.gru, fpt := s.fpt, alu := s.alu } = s ∧ u.alu.entries = s.alu.entries) ∧
  (∀ (s : State) (start : Time), s.gru.settingTimer = some start →
    s.cfg.image.tSet ≤ elapsedSince start s.elapsed →
    ∃ u, exec .settingTimerExpiry s = .next (settle u) ∧
      u.gru = { s.gru with line := .needsFlush, blockTimer := none, settingTimer := none } ∧
      u.fpt.written = { s.fpt.written with pump := 0, flushOpen := false } ∧
      { u with gru := s.gru, fpt := s.fpt, alu := s.alu } = s ∧ u.alu.entries = s.alu.entries) ∧
  (∀ (s : State) (start : Time), s.gru.flushTimer = some start →
    s.cfg.image.tFlush ≤ s.gru.flushRun + elapsedSince start s.elapsed →
    ∃ u, exec .flushTimerExpiry s = .next (settle u) ∧
      u.gru =
        { s.gru with
          line := if s.cfg.image.vStart ≤ volumeOf s.gru.queue then .pumping else .idle
          flushTimer := none, flushRun := 0, flushStop := false
          settingTimer := some s.elapsed } ∧
      u.fpt.written.flushOpen = false ∧
      (volumeOf s.gru.queue < s.cfg.image.vStart → u.fpt.written.pump = 0) ∧
      { u with gru := s.gru, fpt := s.fpt, alu := s.alu } = s ∧ u.alu.entries = s.alu.entries)

/-- R112, R114, R115: GROUT_FLUSH and GROUT_WRITE_OFF complete, each with its result. -/
def Obligations.GroutOrdersTakeTheirEffect : Prop :=
  ∀ (s : State) (chars : Chars) (tag : Tag),
    (ordered s chars tag 16 [] →
      let answers (result : OrderResult) (u : State) :=
        exec (.groutFlush chars) s = .next (settle (echoed tag 16 result u))
      let startable := s.gru.line = .idle ∨ s.gru.line = .blocked ∨ s.gru.line = .needsFlush
      (forcingNow s = false → startable → ∃ u, answers .accepted u ∧
        u.gru =
          { s.gru with
            line := .flushing, flushTimer := some s.elapsed, flushRun := 0, flushStop := false
            settingTimer := none, blockTimer := none } ∧
        u.fpt.written = { s.fpt.written with pump := s.cfg.image.rateLow, flushOpen := true } ∧
        { u with gru := s.gru, fpt := s.fpt, alu := s.alu } = atOrder s) ∧
      (forcingNow s = false → s.gru.line = .flushing → answers .done (atOrder s)) ∧
      (forcingNow s = true ∨ (¬startable ∧ s.gru.line ≠ .flushing) →
        answers .refusedState (atOrder s))) ∧
    (∀ ring, ordered s chars tag 17 [ring] →
      let answers (result : OrderResult) (u : State) :=
        exec (.groutWriteOff chars) s = .next (settle (echoed tag 17 result u))
      (s.gru.line = .pumping → answers .refusedBusy (atOrder s)) ∧
      (s.gru.line = .absent → answers .refusedState (atOrder s)) ∧
      (s.gru.line ≠ .pumping → s.gru.line ≠ .absent → ∃ u, answers .done u ∧
        u.gru.queue = s.gru.queue.filter (fun p => decide ((p.ring.toNat : Int) ≠ ring)) ∧
        u.gru.writtenOff = s.gru.writtenOff + (volumeOf s.gru.queue - volumeOf u.gru.queue) ∧
        u.gru.posted = s.gru.posted ∧ u.gru.delivered = s.gru.delivered ∧
        u.gru.postedRing = s.gru.postedRing ∧ u.gru.deliveredRing = s.gru.deliveredRing ∧
        (u.gru.line =
          if s.gru.line = .idle ∧ s.cfg.image.vStart ≤ volumeOf u.gru.queue then .pumping
          else s.gru.line) ∧
        u.gru.lag = lagAfter s.cfg.image s.gru.lag (volumeOf u.gru.queue) ∧
        u.dsu = s.dsu ∧ u.thu = s.thu ∧ u.bsq = s.bsq ∧ u.bal = s.bal ∧ u.phase = s.phase ∧
        u.ring = s.ring ∧ u.ptb = (atOrder s).ptb ∧ u.lif = (atOrder s).lif))

/-- R103: the balance of the grout totals holds after every step that it holds before. -/
def Obligations.GroutBalanceIsKept : Prop :=
  ∀ s t : State, GroutBalanced s → step s = .next t → GroutBalanced t


/-! ## Face balance and muck removal (06_face_balance_and_muck_removal) -/

/-- R128 to R131, R134, R136, R137: a balance evaluation completes: the two inputs, the volumes and the
account, the mean pressure, and the screw's slew toward its aim. R132, R133, R135: the tests of statement
BalanceConditionsFollowTheirThresholds, of the account and the mean pressure so formed. R121, R123, R125: the conveyor
held and let go by its hold causes, and FAULT. The model's readings: the pressure term is formed at every evaluation
that is not pressure-blind (log 8), and the timer runs on from its old start (log 3). -/
def Obligations.BalanceEvaluationKeepsTheAccount : Prop :=
  ∀ (s : State) (start : Time), s.bal.timer = some start → 10 ≤ elapsedSince start s.elapsed →
    s.bal.active = true → ∃ u,
      exec .balanceEvaluationExpiry s = .next (settle u) ∧
      let img := s.cfg.image
      let valid := inputValid s .screwEncoder = true
      let dA := clamp 0 100000 (machineAdvance s.bal.set (contributions s))
      let dc := if valid then clamp (-65536) 65536 s.bal.acc else 0
      let e := img.aFace * dA * img.bulking + s.bal.remE
      let x := img.vS * dc + s.bal.remX
      let ends (v : Int) := clamp (-2147483647) 2147483647 v
      let cells := (if inputValid s .chamberPressure then [inputValue s .chamberPressure] else []) ++
        ((presentPeers s).filter fun p => p.2.chamberValid).map fun p => p.2.chamberPressure
      let rates := (if s.thu.quality = .valid then [s.thu.rate] else []) ++
        ((presentPeers s).filter fun p => decide (p.2.quality = .valid)).map fun p => p.2.rate
      let nff := (max 0 rates.sum / rates.length) * img.aFace * img.bulking * 6 / (1000 * img.vS)
      let nb := squot (img.kB * u.bal.account) 1000000
      let aim := clamp 0 img.nMax (if s.bal.manual then s.bal.manualRef else nff + u.bal.nP + nb)
      u.bal.timer = some (start + 10) ∧ u.bal.set = contributions s ∧ u.bal.acc = 0 ∧
      u.bal.blind = (advances s.bal.set (contributions s)).isEmpty ∧
      u.bal.remE = e % 1000000 ∧ u.bal.remX = x % 4096 ∧
      u.bal.account = ends (s.bal.account + e / 1000000 - x / 4096) ∧
      u.bal.eRing = ends (s.bal.eRing + e / 1000000) ∧ u.bal.xRing = ends (s.bal.xRing + x / 4096) ∧
      (let beyond (v : Int) := ends v ≠ v;
        u.alu.flags.saturated = (s.alu.flags.saturated ||
          decide (beyond (s.bal.account + e / 1000000 - x / 4096) ∨ beyond (s.bal.eRing + e / 1000000) ∨
            beyond (s.bal.xRing + x / 4096)))) ∧
      (dA ≠ machineAdvance s.bal.set (contributions s) ∨ (valid ∧ dc ≠ s.bal.acc) →
        u.alu.flags.clamped = true) ∧
      { u.alu with
        flags :=
          { u.alu.flags with
            saturated := s.alu.flags.saturated, clamped := s.alu.flags.clamped } } = s.alu ∧
      (let posted : BalState := { s.bal with account := u.bal.account };
        u.bal.overdrawn = (overTest img posted).overdrawn ∧
        u.bal.overCount = (overTest img posted).overCount ∧
        u.bal.recoverCount = (overTest img posted).recoverCount ∧
        u.bal.owed = (underTest img posted).owed) ∧
      (¬valid → u.bal.conveyor = .fault) ∧
      (valid → u.bal.conveyor =
        if s.bal.conveyor = .running ∧ heldBack u.bal then .holding
        else if s.bal.conveyor = .holding ∧ ¬heldBack u.bal then .running
        else s.bal.conveyor) ∧
      (u.bal.conveyor ≠ s.bal.conveyor →
        u.fpt.written.gateOpen = decide (u.bal.conveyor = .running) ∧
        (u.bal.conveyor ≠ .running → u.bal.nCmd = 0 ∧ u.fpt.written.screw = 0)) ∧
      (u.bal.conveyor = s.bal.conveyor →
        u.fpt.written.gateOpen = s.fpt.written.gateOpen ∧
        (u.bal.conveyor ≠ .running → u.bal.nCmd = s.bal.nCmd ∧ u.fpt = s.fpt)) ∧
      u.bal.pressureBlind = decide (cells.length < 2) ∧
      (2 ≤ cells.length → u.bal.pMean = cells.sum / cells.length ∧
        u.bal.nP = squot (img.kP * (u.bal.pMean - s.bal.pTarget)) 100 ∧
        u.bal.pLow = (faceTest { s.bal with pMean := u.bal.pMean }).pLow ∧
        u.bal.pHigh = (faceTest { s.bal with pMean := u.bal.pMean }).pHigh) ∧
      (cells.length < 2 → u.bal.pMean = s.bal.pMean ∧ u.bal.nP = s.bal.nP ∧
        u.bal.pLow = s.bal.pLow ∧ u.bal.pHigh = s.bal.pHigh) ∧
      (u.bal.conveyor = .running →
        u.bal.nCmd =
          (if inputTrue s .gateClosed then 0
          else s.bal.nCmd + clamp (-img.slew) img.slew (aim - s.bal.nCmd)) ∧
        u.fpt.written.screw = u.bal.nCmd) ∧
      u.bal.active = true ∧ u.bal.manual = s.bal.manual ∧ u.bal.manualRef = s.bal.manualRef ∧
      u.bal.gateOpen = s.bal.gateOpen ∧ u.bal.stopHold = s.bal.stopHold ∧
      u.bal.restarted = s.bal.restarted ∧ u.bal.pTarget = s.bal.pTarget ∧ u.bal.band = s.bal.band ∧
      u.dsu = s.dsu ∧ u.thu = s.thu ∧ u.gru = s.gru ∧ u.bsq = s.bsq ∧ u.ptb = s.ptb ∧ u.lif = s.lif ∧
      u.phase = s.phase ∧ u.ring = s.ring

/-- R132, R133, R135: the four conditions of the balance stage against their thresholds, over-extraction by
two evaluations running. -/
def Obligations.BalanceConditionsFollowTheirThresholds : Prop :=
  ∀ (img : Image) (b : BalState),
    let extraction := overTest img b
    let under := underTest img b
    let face := faceTest b
    (b.overdrawn = false → b.account < -img.lOver →
      (b.overCount = 0 → extraction = { b with overCount := 1 }) ∧
      (1 ≤ b.overCount → extraction = { b with overdrawn := true, overCount := 0, recoverCount := 0 })) ∧
    (b.overdrawn = false → -img.lOver ≤ b.account → extraction = { b with overCount := 0 }) ∧
    (b.overdrawn = true → -img.lOver + img.lHyst ≤ b.account →
      (b.recoverCount = 0 → extraction = { b with recoverCount := 1 }) ∧
      (1 ≤ b.recoverCount →
        extraction = { b with overdrawn := false, overCount := 0, recoverCount := 0 })) ∧
    (b.overdrawn = true → b.account < -img.lOver + img.lHyst →
      extraction = { b with recoverCount := 0 }) ∧
    (img.lUnder < b.account → under = { b with owed := true }) ∧
    (b.account ≤ img.lUnder → b.account ≤ img.lUnder - img.lHyst → under = { b with owed := false }) ∧
    (b.account ≤ img.lUnder → img.lUnder - img.lHyst < b.account → under = b) ∧
    (b.pMean < b.pTarget - b.band → face.pLow = true) ∧
    (b.pTarget - b.band ≤ b.pMean → b.pTarget - b.band / 2 ≤ b.pMean → face.pLow = false) ∧
    (b.pTarget - b.band ≤ b.pMean → b.pMean < b.pTarget - b.band / 2 → face.pLow = b.pLow) ∧
    (b.pTarget + b.band < b.pMean → face.pHigh = true) ∧
    (b.pMean ≤ b.pTarget + b.band → b.pMean ≤ b.pTarget + b.band / 2 → face.pHigh = false) ∧
    (b.pMean ≤ b.pTarget + b.band → b.pTarget + b.band / 2 < b.pMean → face.pHigh = b.pHigh) ∧
    { face with pLow := b.pLow, pHigh := b.pHigh } = b

/-- R122, R124: SCREW_START, SCREW_STOP and GATE complete, each with its result. -/
def Obligations.ConveyorOrdersMoveTheConveyor : Prop :=
  ∀ (s : State) (chars : Chars) (tag : Tag),
    let moved (c : Conveyor) (u : State) :=
      u.bal = { s.bal with conveyor := c, nCmd := if c = .running then s.bal.nCmd else 0 } ∧
        u.fpt.written.gateOpen = decide (c = .running) ∧
        (c ≠ .running → u.fpt.written.screw = 0) ∧
        { u with bal := s.bal, fpt := s.fpt, alu := s.alu } = atOrder s ∧
        u.alu.entries = s.alu.entries
    (ordered s chars tag 12 [] →
      let answers (result : OrderResult) (u : State) :=
        exec (.screwStart chars) s = .next (settle (echoed tag 12 result u))
      (s.phase ≠ .halted → s.bal.conveyor = .stopped → ∃ u, answers .accepted u ∧
        moved (if heldBack s.bal then .holding else .running) u) ∧
      (s.phase ≠ .halted → s.bal.conveyor = .running ∨ s.bal.conveyor = .holding →
        answers .done (atOrder s)) ∧
      (s.phase = .halted ∨ s.bal.conveyor = .fault → answers .refusedState (atOrder s))) ∧
    (ordered s chars tag 13 [] →
      let answers (result : OrderResult) (u : State) :=
        exec (.screwStop chars) s = .next (settle (echoed tag 13 result u))
      (s.bal.conveyor = .running ∨ s.bal.conveyor = .holding ∨
          (s.bal.conveyor = .fault ∧ inputValid s .screwEncoder = true) →
        ∃ u, answers .accepted u ∧ moved .stopped u) ∧
      (s.bal.conveyor = .stopped → answers .done (atOrder s)) ∧
      (s.bal.conveyor = .fault → inputValid s .screwEncoder = false →
        answers .refusedState (atOrder s))) ∧
    (∀ value : Int, ordered s chars tag 15 [value] →
      let answers (result : OrderResult) (u : State) :=
        exec (.gate chars) s = .next (settle (echoed tag 15 result u))
      let opens := decide (value = 0)
      (s.bal.gateOpen = opens → answers .done (atOrder s)) ∧
      (s.bal.gateOpen ≠ opens → ∃ u, answers .accepted u ∧ u.bal.gateOpen = opens ∧
        (u.bal.conveyor =
          if s.bal.conveyor = .running ∧ heldBack { s.bal with gateOpen := opens } then .holding
          else if s.bal.conveyor = .holding ∧ ¬heldBack { s.bal with gateOpen := opens } then
            .running
          else s.bal.conveyor) ∧
        { u.bal with
            gateOpen := s.bal.gateOpen, conveyor := s.bal.conveyor, nCmd := s.bal.nCmd } = s.bal ∧
        u.dsu = s.dsu ∧ u.thu = s.thu ∧ u.gru = s.gru ∧ u.bsq = s.bsq ∧ u.phase = s.phase ∧
        u.ring = s.ring))

/-- R126, R127: SCREW_MODE and SET_FACE_PRESSURE complete: what they set, clamped into its range with the
result CLAMPED and the flag. -/
def Obligations.BalanceSettingsAreClamped : Prop :=
  ∀ (s : State) (chars : Chars) (tag : Tag),
    (∀ mode reference, ordered s chars tag 14 [mode, reference] →
      let out := reference < 0 ∨ s.cfg.image.nMax < reference
      (mode = 0 → exec (.screwMode chars) s = .next (settle (echoed tag 14 .done
        { atOrder s with bal := { s.bal with manual := false } }))) ∧
      (mode = 1 → ∃ u,
        (exec (.screwMode chars) s =
          .next (settle (echoed tag 14 (if out then .clamped else .done) u))) ∧
        u.bal = { s.bal with manual := true, manualRef := clamp 0 s.cfg.image.nMax reference } ∧
        u.alu.flags = { s.alu.flags with clamped := s.alu.flags.clamped || decide out } ∧
        { u with bal := s.bal, alu := s.alu } = atOrder s ∧ u.alu.entries = s.alu.entries)) ∧
    (∀ target band, ordered s chars tag 11 [target, band] →
      let out := target < 0 ∨ 8000 < target ∨ band < 0 ∨ 1000 < band
      ∃ u,
        (exec (.setFacePressure chars) s =
          .next (settle (echoed tag 11 (if out then .clamped else .done) u))) ∧
        u.bal = { s.bal with pTarget := clamp 0 8000 target, band := clamp 0 1000 band } ∧
        u.alu.flags = { s.alu.flags with clamped := s.alu.flags.clamped || decide out } ∧
        { u with bal := s.bal, alu := s.alu } = atOrder s ∧ u.alu.entries = s.alu.entries)


/-! ## Alarms, holds and emergency stop (07_alarms_holds_and_emergency_stop) -/

/-- R143 to R145: the entry of a kind whose condition has changed: its move and its frame. R149 and the rules its
table names: the condition each block hands ALU, by the state it reads; the class of each kind; and its
persistences, the fixed ones built in and every other the image's, whose list has a pair for each of the thirty
kinds (log 32). R142, R147: when an alarm is in force, and when one of STOP class is. -/
def Obligations.AlarmEntriesFollowTheirConditions : Prop :=
  (∀ s : State,
    let now (k : AlarmKind) := conditionNow s k = true
    let marked := s.ptb.endOfListen = true
    let active := s.bal.active = true
    (now .sectorMissing ↔ marked ∧ ∃ j, j < s.cfg.image.nS ∧ j < 8 ∧ j ≠ s.own ∧
      (peerOf s j).liveness ≠ .live ∧ (peerOf s j).liveness ≠ .silent) ∧
    (now .consoleLost ↔ marked ∧ s.ptb.console.liveness = .lost) ∧
    (now .dutyConflict ↔ marked ∧ (s.ptb.erector.conflict = true ∨ s.ptb.conveyor.conflict = true)) ∧
    (now .dutyMissing ↔ marked ∧ (s.ptb.erector.missing = true ∨ s.ptb.conveyor.missing = true)) ∧
    (now .configMismatch ↔ marked ∧ ∃ e ∈ s.ptb.peers, e.liveness = .mismatched) ∧
    (now .duplicateStation ↔ s.alu.duplicate ≠ none) ∧ (now .lineFault ↔ s.lif.lineFault = true) ∧
    (now .cutterheadOvertorque ↔ s.dsu.overtorque = true) ∧ (now .cutterheadJam ↔ s.dsu.jam = true) ∧
    (now .motorOvertemp ↔ s.dsu.throttle = true) ∧
    (now .strokeSensorFault ↔ s.thu.strokeFault = true) ∧
    (now .substitutionDenied ↔ s.thu.denied = true) ∧ (now .skew ↔ s.thu.skew = true) ∧
    (now .groupPressureLimit ↔
      s.thu.group = .moving .advancing ∧ s.thu.pRef = s.cfg.image.pGroupMax) ∧
    (now .buildTimeout ↔ s.bsq.timedOut = true) ∧ (now .requestUnanswered ↔ s.bsq.unanswered = true) ∧
    (now .buildOrphaned ↔ s.thu.orphaned = true) ∧ (now .groutLag ↔ s.gru.lag = true) ∧
    (now .groutBlocked ↔ s.gru.line = .blocked) ∧ (now .groutNeedsFlush ↔ s.gru.line = .needsFlush) ∧
    (now .groutAbsent ↔ s.gru.line = .absent) ∧
    (now .facePressureLow ↔ active ∧ s.bal.pLow = true) ∧
    (now .facePressureHigh ↔ active ∧ s.bal.pHigh = true) ∧
    (now .overextraction ↔ active ∧ s.bal.overdrawn = true) ∧
    (now .underextraction ↔ active ∧ s.bal.owed = true) ∧
    (now .balanceBlind ↔ active ∧ s.bal.blind = true) ∧
    (now .pressureBlind ↔ active ∧ s.bal.pressureBlind = true) ∧
    (now .screwFault ↔ active ∧ s.bal.conveyor = .fault) ∧ (now .estop ↔ s.alu.estop = true) ∧
    (now .arith ↔
      (s.cfg.image.escalation.saturated = true ∧ s.alu.flags.saturated = true) ∨
      (s.cfg.image.escalation.clamped = true ∧ s.alu.flags.clamped = true) ∨
      (s.cfg.image.escalation.fifoMergedFull = true ∧ s.alu.flags.fifoMergedFull = true) ∨
      (s.cfg.image.escalation.counterWrap = true ∧ s.alu.flags.counterWrap = true) ∨
      (s.cfg.image.escalation.ringResync = true ∧ s.alu.flags.ringResync = true)) ∧
    (∀ k, inForce s k = true ↔ standsInForce s k) ∧ (stopInForce s = true ↔ classStands s .stop)) ∧
  (∀ (img : Image) (k : AlarmKind),
    let stop := [AlarmKind.duplicateStation, .cutterheadJam, .estop]
    let hold := [AlarmKind.sectorMissing, .consoleLost, .dutyConflict, .dutyMissing, .configMismatch, .lineFault,
      .substitutionDenied, .buildOrphaned, .groutLag, .balanceBlind, .screwFault]
    let ofImage := img.persistences.getD k.number { raise := 0, clear := 0 }
    (alarmClass img k =
      if k ∈ stop then .stop else if k ∈ hold then .hold else if k = .arith then img.escalationClass
      else .warning) ∧
    (raisePersistence img k =
      if k ∈ [AlarmKind.duplicateStation, .overextraction, .estop, .arith] then 0
      else if k = .cutterheadJam then 50 else if k = .groupPressureLimit then 200
      else ofImage.raise) ∧
    (clearPersistence img k =
      if k ∈ [AlarmKind.duplicateStation, .overextraction, .estop, .arith] then 0 else ofImage.clear)) ∧
  ∀ (s : State) (k : AlarmKind), s.alu.active = true → s.alu.entries.length = 30 →
    conditionNow s k ≠ (entryOf s k).cond →
    let t := syncKind k s
    let e := entryOf s k
    let e' := entryOf t k
    let now := conditionNow s k
    let raises := raisePersistence s.cfg.image k
    let clears := clearPersistence s.cfg.image k
    (e.state = .inactive → now = true → raises = 0 →
      e' = { state := .active, cond := true, timer := none, latch := true }) ∧
    (e.state = .inactive → now = true → raises ≠ 0 →
      e' = { state := .pendingRaise, cond := true, timer := some s.elapsed, latch := e.latch }) ∧
    (e.state = .pendingRaise → now = false →
      e' = { state := .inactive, cond := false, timer := none, latch := e.latch }) ∧
    (e.state = .active → now = false → clears = 0 →
      e' = { state := .inactive, cond := false, timer := none, latch := e.latch }) ∧
    (e.state = .active → now = false → clears ≠ 0 →
      e' = { state := .pendingClear, cond := false, timer := some s.elapsed, latch := e.latch }) ∧
    (e.state = .pendingClear → now = true →
      e' = { state := .active, cond := true, timer := none, latch := true }) ∧
    (∀ j, j ≠ k → entryOf t j = entryOf s j) ∧
    (inForce s k = false → inForce t k = true →
      t.lif = (handFrame { dest := 15, body := .alarm k true (alarmClass s.cfg.image k) } s).lif) ∧
    (inForce s k = true → inForce t k = false →
      t.lif = (handFrame { dest := 15, body := .alarm k false (alarmClass s.cfg.image k) } s).lif) ∧
    (inForce t k = inForce s k → t.lif = s.lif) ∧
    t.dsu = s.dsu ∧ t.fpt = s.fpt ∧ t.thu = s.thu ∧ t.bsq = s.bsq ∧ t.gru = s.gru ∧ t.bal = s.bal ∧
    t.ptb = s.ptb ∧ t.phase = s.phase

/-- R143, R144, R150: the expiry of a persistence timer and of the duplicate-station span complete. R34: the one
that makes CUTTERHEAD_JAM ACTIVE trips the cutterhead from any state, with n_r 0, both counts 0 (R36), no level
change and both motor references 0, the references for a droop factor not below 0 (asked of every image by R193). -/
def Obligations.AlarmTimersMoveTheirEntries : Prop :=
  (∀ (s : State) (k : AlarmKind) (start : Time), s.alu.entries.length = 30 →
    (entryOf s k).timer = some start →
    let e := entryOf s k
    (e.state = .pendingRaise → raisePersistence s.cfg.image k ≤ elapsedSince start s.elapsed →
      ∃ u, exec (.alarmPersistenceExpiry k) s = .next (settle u) ∧
        entryOf u k = { e with state := .active, timer := none, latch := true } ∧
        (∀ j, j ≠ k → entryOf u j = entryOf s j) ∧
        u.lif = (handFrame { dest := 15, body := .alarm k true (alarmClass s.cfg.image k) } s).lif ∧
        (k = .cutterheadJam →
          u.dsu =
            { s.dsu with
              cutterhead := .tripped, nr := 0, changing := false, downCount := 0, upCount := 0 } ∧
          (0 ≤ s.cfg.image.dDroop →
            u.fpt.written = { s.fpt.written with motor0 := 0, motor1 := 0 }) ∧
          { u with alu := s.alu, lif := s.lif, dsu := s.dsu, fpt := s.fpt } = s) ∧
        (k ≠ .cutterheadJam → { u with alu := s.alu, lif := s.lif } = s)) ∧
    (e.state = .pendingClear → clearPersistence s.cfg.image k ≤ elapsedSince start s.elapsed →
      ∃ u, exec (.alarmPersistenceExpiry k) s = .next (settle u) ∧
        entryOf u k = { e with state := .inactive, timer := none } ∧
        (∀ j, j ≠ k → entryOf u j = entryOf s j) ∧
        u.lif = (handFrame { dest := 15, body := .alarm k false (alarmClass s.cfg.image k) } s).lif ∧
        { u with alu := s.alu, lif := s.lif } = s)) ∧
  (∀ (s : State) (start : Time), s.alu.duplicate = some start →
    100 ≤ elapsedSince start s.elapsed →
    exec .duplicateStationExpiry s =
      .next (settle { s with alu := { s.alu with duplicate := none } }))

/-- R153, R154, R147, R148, R69: an ALARM heard completes: one of kind ESTOP with state RAISED makes the
E-stop condition active, halts the station, freezes its group and forces its outputs; any other is left to
PTB. R162: the local ESTOP_IN asserting at a field sample does the same, and no other reading of it does. -/
def Obligations.EstopHeardHaltsTheStation : Prop :=
  (∀ (s : State) (chars : Chars) (h : Header) (k : AlarmKind) (raised : Bool) (cls : AlarmClass),
    hears s chars h (.alarm k raised cls) →
    let s1 := peerOther h.source h.seq (lineUsed s)
    (k ≠ .estop ∨ raised = false ∨ s.alu.estop = true →
      exec (.alarm chars) s = .next (settle s1)) ∧
    (k = .estop → raised = true → s.alu.estop = false →
      ∃ t, exec (.alarm chars) s = .next t ∧ t.alu.estop = true ∧
        (s1.bal.active = true → t.bal.stopHold = true) ∧
        (s.alu.active = true → t.fpt.forced = true) ∧
        (s.alu.active = true → s.alu.entries.length = 30 →
          (entryOf s .estop).state = .inactive → (entryOf s .estop).cond = false →
          entryOf t .estop = { state := .active, cond := true, timer := none, latch := true }) ∧
        (s.phase = .idle ∨ s.phase = .advancing ∨ s.phase = .paused ∨ s.phase = .building →
          t.phase = .halted ∧ t.pauseCause = .none ∧
          (∀ m, s1.thu.group = .moving m → t.thu.group = .frozen m) ∧
          ¬Underway t))) ∧
  (∀ (s : State) (x : FieldInputs) (start : Time), s.fpt.timer = some start →
    1 ≤ elapsedSince start s.elapsed →
    let asserts := x.estopIn ≠ .on ∧ (s.fpt.estopIn.asserted = false ∨ s.fpt.estopIn.start = true)
    ∃ t, exec (.fieldSampleExpiry x) s = .next t ∧
      (asserts → t.alu.estop = true ∧ (s.alu.active = true → t.fpt.forced = true) ∧
        (s.phase = .idle ∨ s.phase = .advancing ∨ s.phase = .paused ∨ s.phase = .building →
          t.phase = .halted)) ∧
      (¬asserts → t.alu.estop = s.alu.estop))

/-- R145, R151, R181, R190: ACK_ALARMS, CLEAR_FLAGS, CLEAR_COUNTERS and SET_RING complete, each with its
result. -/
def Obligations.HousekeepingOrdersTakeTheirEffect : Prop :=
  ∀ (s : State) (chars : Chars) (tag : Tag),
    (ordered s chars tag 18 [] →
      let cleared (e : AlarmEntry) := e.latch = true ∧ (e.state = .inactive ∨ e.state = .pendingRaise)
      ∃ u result, exec (.ackAlarms chars) s = .next (settle (echoed tag 18 result u)) ∧
        (result = .accepted ↔ ∃ e ∈ s.alu.entries, cleared e) ∧
        (result = .done ↔ ∀ e ∈ s.alu.entries, ¬cleared e) ∧
        u.alu.entries.length = s.alu.entries.length ∧
        (∀ k, ((entryOf s k).state = .inactive ∨ (entryOf s k).state = .pendingRaise →
            entryOf u k = { entryOf s k with latch := false }) ∧
          ((entryOf s k).state = .active ∨ (entryOf s k).state = .pendingClear →
            entryOf u k = entryOf s k)) ∧
        { u with alu := { u.alu with entries := s.alu.entries } } = atOrder s) ∧
    (ordered s chars tag 19 [] →
      exec (.clearFlags chars) s = .next (settle (echoed tag 19 .done
        { atOrder s with
          alu :=
            { s.alu with
              flags :=
                { saturated := false, clamped := false, fifoMergedFull := false, counterWrap := false
                  ringResync := false } } }))) ∧
    (ordered s chars tag 20 [] →
      exec (.clearCounters chars) s = .next (settle (echoed tag 20 .done
        { atOrder s with
          lif :=
            { (atOrder s).lif with
              crcErrors := 0, formatErrors := 0, collisions := 0, queueDrops := 0 } }))) ∧
    (∀ ring : Int, ordered s chars tag 23 [ring] →
      let taken := s.phase = .idle ∧ (s.ptb.exErector = false ∨ s.bsq.state = .idle)
      (taken → ∃ r : RingNumber, (r.toNat : Int) = ring ∧
        exec (.setRing chars) s =
          .next (settle (echoed tag 23 .done { atOrder s with ring := r }))) ∧
      (¬taken →
        exec (.setRing chars) s = .next (settle (echoed tag 23 .refusedState (atOrder s)))))

/-- R155, R156, R34, R69, R123: RESUME completes in every phase: refused in HALTED while the stop stands,
and otherwise the departure from HALTED with every block's part in it; R90: BSQ asks the group of a suspended build's
outstanding retraction back where that is due (log 9). -/
def Obligations.ResumeLeavesHalted : Prop :=
  ∀ (s : State) (chars : Chars) (tag : Tag), ordered s chars tag 21 [] →
    let answers (result : OrderResult) (u : State) :=
      exec (.resume chars) s = .next (settle (echoed tag 21 result u))
    let stopped := s.fpt.estopIn.asserted = true ∨
      ∃ k, k ≠ .estop ∧ inForce s k = true ∧ alarmClass s.cfg.image k = .stop
    (s.phase ≠ .halted → answers .done (atOrder s)) ∧
    (s.phase = .halted → stopped → answers .refusedState (atOrder s)) ∧
    (s.phase = .halted → ¬stopped → ∃ u, answers .accepted u ∧
      (let left : State := { atOrder s with phase := .idle, pauseCause := .none, thu := u.thu };
        ∃ v, BringsBack left v ∧ u.bsq = v.bsq ∧ u.lif = v.lif) ∧
      u.alu.entries = s.alu.entries ∧
      u.phase = .idle ∧ u.pauseCause = .none ∧ u.alu.estop = false ∧
      (u.dsu = if s.dsu.cutterhead = .tripped then { s.dsu with cutterhead := .stopped } else s.dsu) ∧
      u.thu = { s.thu with group := .moving .holding, slot := none, pRef := s.cfg.image.pHold } ∧
      u.bsq.state = s.bsq.state ∧ u.bsq.cursor = s.bsq.cursor ∧ u.bsq.progress = s.bsq.progress ∧
      (s.bal.active = true → u.bal.stopHold = false ∧
        (s.bal.conveyor = .holding → ¬heldBack { s.bal with stopHold := false } →
          u.bal.conveyor = .running)) ∧
      (s.bal.active = false → u.bal = s.bal) ∧
      u.gru = s.gru ∧ u.ring = s.ring ∧ u.ptb = (atOrder s).ptb ∧ u.cfg = s.cfg)

/-- R147, R33, R69, R89, R123: what the blocks do on the entry into HALTED. -/
def Obligations.HaltStopsEveryBlock : Prop :=
  ∀ s : State,
    let t := enterHalted s
    t.phase = .halted ∧ t.pauseCause = .none ∧ t.bsq.holderSeen = false ∧
    (s.dsu.cutterhead = .starting ∨ s.dsu.cutterhead = .running ∨ s.dsu.cutterhead = .stopping →
      t.dsu =
        { s.dsu with
          cutterhead := .stopping, nr := 0, changing := false, downCount := 0, upCount := 0 } ∧
      (0 ≤ s.cfg.image.dDroop → t.fpt.written.motor0 = 0 ∧ t.fpt.written.motor1 = 0)) ∧
    (s.dsu.cutterhead = .stopped ∨ s.dsu.cutterhead = .tripped → t.dsu = s.dsu) ∧
    (∀ m, s.thu.group = .moving m → t.thu.group = .frozen m) ∧
    (∀ m, s.thu.group = .frozen m → t.thu = s.thu) ∧
    (Underway s → t.bsq.state = .suspended ∧ t.fpt.written.erector = .hold) ∧
    (¬Underway s → t.bsq = { s.bsq with holderSeen := false }) ∧
    (s.bal.active = true → t.bal.stopHold = true ∧ t.bal.conveyor ≠ .running) ∧
    (s.bal.active = false → t.bal = s.bal) ∧
    t.gru = s.gru ∧ t.ring = s.ring ∧ t.ptb = s.ptb ∧ t.lif = s.lif ∧ t.alu.entries = s.alu.entries

/-- R148, R165, R166: while the forcing holds every output carries its safe reference, whatever the blocks
write, and at its end the values written. -/
def Obligations.ForcedOutputsAreSafe : Prop :=
  ∀ s : State, s.phase ≠ .load → s.phase ≠ .configFault →
    let pins (w : Outputs) := (refreshAll { s with fpt := { s.fpt with written := w } }).fpt.wires
    let number (k : Nat) (hi v : Int) :=
      clamp 0 65535 ((outputScale s k).offset + squot (clamp 0 hi v * (outputScale s k).gain) 65536)
    (s.fpt.forced = true → ∀ w,
      (pins w).motor0 = number 0 600 s.cfg.image.safeMotor0 ∧
      (pins w).motor1 = number 1 600 s.cfg.image.safeMotor1 ∧
      (pins w).valveMode = .hold ∧ (pins w).valvePressure = number 2 4000 s.cfg.image.pHold ∧
      (pins w).pump = number 3 60 s.cfg.image.safePump ∧
      (pins w).flushOpen = s.cfg.image.safeFlushOpen ∧
      (pins w).screw = number 4 3000 s.cfg.image.safeScrew ∧
      (pins w).gateOpen = false ∧ (pins w).erector = .hold) ∧
    (s.fpt.forced = false → s.phase ≠ .probe → ∀ w,
      (isFitted s .motorRef0 = true → (pins w).motor0 = number 0 600 w.motor0) ∧
      (isFitted s .motorRef1 = true → (pins w).motor1 = number 1 600 w.motor1) ∧
      (isFitted s .groupValve = true → (pins w).valveMode = w.valveMode ∧
        (pins w).valvePressure = number 2 4000 w.valvePressure) ∧
      (isFitted s .groutPump = true → (pins w).pump = number 3 60 w.pump) ∧
      (isFitted s .flushValve = true → (pins w).flushOpen = w.flushOpen) ∧
      (isFitted s .screwRef = true → (pins w).screw = number 4 3000 w.screw) ∧
      (isFitted s .gateCmd = true → (pins w).gateOpen = w.gateOpen) ∧
      (isFitted s .erectorCmd = true → (pins w).erector = w.erector))


/-! ## Field ports (08_field_ports) -/

/-- R158, R160, R162: a field sample completes. From the end of PROBE on the channels are read in the order of their
numbers (log 5), each judged by its own sample and handed to its blocks; R159, R161, R163, R164: what each sample
is. In PROBE the sample goes to the trial in hand (R167), after ESTOP_IN (log 5) and to no channel besides (log 33):
the input-window trials (R167; of the encoder, FAULT alone is bad, log 26), the drive trials (R168) and the grout
line trial (R169; its starting pressure is the first good sample's, log 19). That a trial begins in the event that
ends the one before it is the model's reading (log 10), and so is that the pulses or counts of the sample that makes
its channel VALID are handed in that event, after the report of the change (log 24).
The timer runs on from its old start (log 3). -/
def Obligations.FieldSampleJudgesEveryChannel : Prop :=
  let after (s : State) (x : FieldInputs) (c : Channel) : InputState :=
    let i := inputOf s c
    if isFitted s c = false then i
    else
      match sampleOf s x c with
      | some v =>
        if i.valid then { i with bad := 0, served := v.1 }
        else if 9 ≤ i.good then { valid := true, bad := 0, good := 10, served := v.1 }
        else { i with good := i.good + 1 }
      | none =>
        if i.valid then
          (if 2 ≤ i.bad then { i with valid := false, bad := 3, good := 0 }
          else { i with bad := i.bad + 1 })
        else { i with good := 0 }
  let inputs : List Channel :=
    [.stroke, .groupPressure, .chamberPressure, .groutPressure, .motorTemp0, .motorTemp1, .motorTorque0,
     .motorTorque1, .estopIn, .driveReady0, .driveReady1, .retractedLimit, .feederReady, .atPosition,
     .placementDone, .gateClosed, .groutMeter, .screwEncoder]
  (∀ (s : State) (x : FieldInputs) (start : Time), s.fpt.timer = some start →
    1 ≤ elapsedSince start s.elapsed →
    let s1 : State := { s with fpt := { s.fpt with timer := some (start + 1) } }
    (s.phase ≠ .probe →
      let t :=
        inputs.foldl
          (fun u c => if c = .estopIn then settle (estopSample x.estopIn u) else sampleChannel x c u) s1
      exec (.fieldSampleExpiry x) s = .next t ∧ t.fpt.timer = some (start + 1) ∧
      (s.fpt.inputs.length = 18 →
        ∀ c, c.number < 18 → c ≠ .estopIn → inputOf t c = after s x c) ∧
      t.fpt.estopIn =
        (if x.estopIn = .on then
          (if 9 ≤ s.fpt.estopIn.run then { asserted := false, start := false, run := 10 }
          else { s.fpt.estopIn with run := s.fpt.estopIn.run + 1 })
        else { asserted := true, start := false, run := 0 }) ∧
      t.fpt.fitted = s.fpt.fitted ∧ t.cfg = s.cfg ∧ t.elapsed = s.elapsed ∧ t.ring = s.ring ∧
      t.oru = s.oru ∧ t.pending = s.pending) ∧
    (s.phase = .probe →
      let u := trialStep x (settle (estopSample x.estopIn s1))
      exec (.fieldSampleExpiry x) s =
        .next (settle (if u.fpt.probe.trial = 0 then endProbe u else u)))) ∧
  (∀ (s : State) (x : FieldInputs) (c : Channel), c.number < 18 → c ≠ .estopIn →
    s.fpt.inputs.length = 18 →
    let good := (sampleOf s x c).isSome = true
    ∃ u : State,
      (∀ d, inputOf u d = if d = c then after s x c else inputOf s d) ∧
      (u.alu.flags.clamped = true ↔ s.alu.flags.clamped = true ∨
        (isFitted s c = true ∧ ∃ v, sampleOf s x c = some (v, true))) ∧
      { u with
          fpt := { u.fpt with inputs := s.fpt.inputs }
          alu := { u.alu with flags := { u.alu.flags with clamped := s.alu.flags.clamped } } } = s ∧
      sampleChannel x c s = settle (match c with
        | .stroke =>
          let v := strokeArrival u
          if s.ptb.exErector = true ∧ s.thu.quality ≠ .substituted ∧ v.thu.quality = .substituted then
            { v with bsq := { v.bsq with substituted := v.bsq.substituted.set s.own true } }
          else v
        | .groupPressure => groupPressureArrival u
        | .groutPressure => groutPressureArrival u
        | .motorTemp0 => tempArrival u
        | .motorTemp1 => tempArrival u
        | .motorTorque0 => torqueArrival u
        | .motorTorque1 => torqueArrival u
        | .retractedLimit =>
          if inputTrue s .retractedLimit = false ∧ inputTrue u .retractedLimit = true then
            completeRetraction u
          else u
        | .feederReady =>
          if s.ptb.exErector = true ∧ s.bsq.state = .pick ∧ s.bsq.gripTimer = none ∧
              inputTrue u .feederReady = true then
            writeErector (.grip (placementAt s.cfg.image s.bsq.cursor).segment)
              { u with bsq := { s.bsq with progress := .gripped, gripTimer := some s.elapsed } }
          else u
        | .atPosition =>
          if s.ptb.exErector = true ∧ s.bsq.state = .travel ∧ inputTrue u .atPosition = true then
            setBuild .awaitRetract u
          else u
        | .placementDone =>
          if s.ptb.exErector = true ∧ s.bsq.state = .place ∧ inputTrue u .placementDone = true then
            enterAwaitExtend { u with bsq := { s.bsq with progress := .placed } }
          else u
        | .groutMeter =>
          if inputValid u .groutMeter = true ∧ good then groutPulse^[x.meterPulses] u else u
        | .screwEncoder =>
          if s.bal.active = false then u
          else if inputValid u .screwEncoder = true then
            (if good then
              { u with
                bal :=
                  { s.bal with
                    acc := s.bal.acc + x.encoderSteps.count .forward - x.encoderSteps.count .backward } }
            else u)
          else if inputValid s .screwEncoder = true then
            let v := if s.bal.conveyor = .fault then u else setConveyor .fault u
            { v with bal := { v.bal with acc := 0 } }
          else u
        | _ => u)) ∧
  (∀ (s : State) (x : FieldInputs),
    let analog (c : Channel) (raw : BitVec 16) (lo hi : Int) : Prop :=
      ∀ a, s.cfg.image.analog[c.number]? = some a →
        let product := (raw.toNat : Int) * a.gain
        let v := a.offset + if 0 ≤ product then product / 65536 else -(-product / 65536)
        sampleOf s x c =
          if a.low ≤ v ∧ v ≤ a.high then
            some (if v < lo then (lo, true) else if hi < v then (hi, true) else (v, false))
          else none
    let discrete (c : Channel) (l : Loop) : Prop :=
      sampleOf s x c = match l with | .on => some (1, false) | .off => some (0, false) | .fault => none
    let counts : Int := x.encoderSteps.count .forward - x.encoderSteps.count .backward
    (analog .stroke x.stroke 0 250000 ∧ analog .groupPressure x.groupPressure 0 4000 ∧
      analog .chamberPressure x.chamberPressure 0 8000 ∧ analog .groutPressure x.groutPressure 0 1000 ∧
      analog .motorTemp0 x.motorTemp0 (-200) 2000 ∧ analog .motorTemp1 x.motorTemp1 (-200) 2000 ∧
      analog .motorTorque0 x.motorTorque0 0 6000 ∧ analog .motorTorque1 x.motorTorque1 0 6000) ∧
    (discrete .estopIn x.estopIn ∧ discrete .driveReady0 x.driveReady0 ∧
      discrete .driveReady1 x.driveReady1 ∧ discrete .retractedLimit x.retractedLimit ∧
      discrete .feederReady x.feederReady ∧ discrete .atPosition x.atPosition ∧
      discrete .placementDone x.placementDone ∧ discrete .gateClosed x.gateClosed) ∧
    (sampleOf s x .groutMeter =
      if x.meterFault = false ∧ x.meterPulses ≤ s.cfg.image.cMeterMax then
        some ((x.meterPulses : Int), false)
      else none) ∧
    (sampleOf s x .screwEncoder =
      if x.encoderFault = false ∧ .bothChanged ∉ x.encoderSteps ∧
          -(s.cfg.image.cEncMax : Int) ≤ counts ∧ counts ≤ s.cfg.image.cEncMax then
        some (counts, false)
      else none)) ∧
  ((∀ (p : Straps) (n : Nat), n ≤ 17 →
    let runs (k : Nat) := n < k ∧ k ≤ 17 ∧ (k = 13 ∨ k = 14 → p.conveyor = true) ∧
      (15 ≤ k → p.erector = true)
    (trialAfter p n = 0 ∧ (∀ k, ¬runs k)) ∨
      (runs (trialAfter p n) ∧ ∀ k, runs k → trialAfter p n ≤ k)) ∧
    ([1, 2, 3, 4, 5, 6, 7, 8, 9, 13, 14, 15, 16, 17].map trialChannel =
      [.stroke, .groupPressure, .chamberPressure, .groutPressure, .motorTemp0, .motorTemp1,
        .motorTorque0, .motorTorque1, .retractedLimit, .screwEncoder, .gateClosed, .feederReady,
        .atPosition, .placementDone])) ∧
  (∀ (s : State) (x : FieldInputs) (c : Channel), s.fpt.probe.trial ≠ 10 → s.fpt.probe.trial ≠ 11 →
    s.fpt.probe.trial ≠ 12 → c = trialChannel s.fpt.probe.trial → s.fpt.inputs.length = 18 →
    s.fpt.fitted.length = 26 → s.fpt.probe.run < 5 → s.fpt.probe.samples < 20 →
    let t := trialStep x s
    let sample :=
      if c = .screwEncoder then (if x.encoderFault then none else some (0, false)) else sampleOf s x c
    let ended := t.fpt.probe.trial = trialAfter s.cfg.straps s.fpt.probe.trial ∧
      t.fpt.probe.samples = 0
    (∀ v, sample = some v → s.fpt.probe.run = 4 → ended ∧
      (∀ d, isFitted t d = true ↔ d = c ∨ isFitted s d = true) ∧
      (∀ d, inputOf t d =
        if d = c then { valid := true, bad := 0, good := 0, served := v.1 } else inputOf s d)) ∧
    (∀ v, sample = some v → s.fpt.probe.run < 4 → s.fpt.probe.samples < 19 →
      t.fpt.probe = { s.fpt.probe with samples := s.fpt.probe.samples + 1
                                       run := s.fpt.probe.run + 1 } ∧
      t.fpt.fitted = s.fpt.fitted ∧ t.fpt.inputs = s.fpt.inputs) ∧
    (sample = none → s.fpt.probe.samples < 19 →
      t.fpt.probe = { s.fpt.probe with samples := s.fpt.probe.samples + 1, run := 0 } ∧
      t.fpt.fitted = s.fpt.fitted ∧ t.fpt.inputs = s.fpt.inputs) ∧
    (s.fpt.probe.samples = 19 → sample = none ∨ s.fpt.probe.run < 4 →
      ended ∧ t.fpt.fitted = s.fpt.fitted ∧ t.fpt.inputs = s.fpt.inputs)) ∧
  (∀ (s : State) (x : FieldInputs), s.fpt.inputs.length = 18 → s.fpt.fitted.length = 26 →
    let t := trialStep x s
    let begun (n : Nat) := t.fpt.probe =
      { trial := n, samples := 0, run := 0, startPressure := none, forcingSeen := false }
    let found (cs : List Channel) := ∀ d, isFitted t d = true ↔ d ∈ cs ∨ isFitted s d = true
    let serves (c : Channel) (v : Int) :=
      inputOf t c = { valid := true, bad := 0, good := 0, served := v }
    let none_ := t.fpt.fitted = s.fpt.fitted ∧ t.fpt.inputs = s.fpt.inputs
    let counted := t.fpt.probe = { s.fpt.probe with samples := s.fpt.probe.samples + 1, run := 0 }
    let w := s.fpt.written
    let pumped (o : Outputs) : Outputs := { o with pump := s.cfg.image.rateLow, flushOpen := false }
    (s.fpt.probe.trial = 10 →
      (x.driveReady0 = .on → begun 11 ∧ found [.motorRef0, .driveReady0] ∧ serves .driveReady0 1 ∧
        t.fpt.written = { w with enable1 := true }) ∧
      (x.driveReady0 ≠ .on → s.fpt.probe.samples < 49 → counted ∧ none_ ∧ t.fpt.written = w) ∧
      (x.driveReady0 ≠ .on → 49 ≤ s.fpt.probe.samples → begun 11 ∧ none_ ∧
        t.fpt.written = { w with enable0 := false, enable1 := true })) ∧
    (s.fpt.probe.trial = 11 →
      (x.driveReady1 = .on → begun 12 ∧ found [.motorRef1, .driveReady1] ∧ serves .driveReady1 1 ∧
        t.fpt.written = pumped w) ∧
      (x.driveReady1 ≠ .on → s.fpt.probe.samples < 49 → counted ∧ none_ ∧ t.fpt.written = w) ∧
      (x.driveReady1 ≠ .on → 49 ≤ s.fpt.probe.samples → begun 12 ∧ none_ ∧
        t.fpt.written = pumped { w with enable1 := false })) ∧
    (s.fpt.probe.trial = 12 →
      let pressure : Option Int :=
        if isFitted s .groutPressure = true then (sampleOf s x .groutPressure).map (fun v => v.1)
        else none
      let pulse := ∃ v, sampleOf s x .groutMeter = some v ∧ 1 ≤ v.1
      let rise := ∃ a v, s.fpt.probe.startPressure = some a ∧ pressure = some v ∧ a + 50 ≤ v
      let seen := s.fpt.probe.forcingSeen = true ∨ forcingNow s = true
      let line := found [.groutPump, .flushValve, .groutMeter] ∧ serves .groutMeter 0
      (pulse ∨ rise →
        begun (trialAfter s.cfg.straps 12) ∧ line ∧ t.fpt.written = { w with pump := 0 }) ∧
      (¬pulse → ¬rise → 299 ≤ s.fpt.probe.samples →
        begun (trialAfter s.cfg.straps 12) ∧ t.fpt.written = { w with pump := 0 } ∧
        (seen → line) ∧ (¬seen → t.fpt.fitted = s.fpt.fitted)) ∧
      (¬pulse → ¬rise → s.fpt.probe.samples < 299 →
        t.fpt.probe =
          { s.fpt.probe with
            samples := s.fpt.probe.samples + 1, run := 0
            startPressure :=
              match s.fpt.probe.startPressure with
              | none => pressure
              | some a => some a
            forcingSeen := s.fpt.probe.forcingSeen || forcingNow s } ∧
        t.fpt.fitted = s.fpt.fitted ∧
        t.fpt.written = { w with pump := if s.fpt.probe.samples = 199 then 0 else w.pump }) ∧
      (∀ v, pressure = some v →
        inputOf t .groutPressure = { inputOf s .groutPressure with served := v }) ∧
      (pressure = none → inputOf t .groutPressure = inputOf s .groutPressure)))

/-! ## The shield line (09_the_shield_line) -/

/-- R176, R20 to R25, R119: STATUS_TIMER_EXPIRY completes: one STATUS of the values the blocks hold goes to the
queue, every fiftieth with the diagnostic part, and nothing else changes. The model's readings: SATURATED is set before
the flags are read (log 22), the tag beside no request is 0 (log 30), and the timer runs on from its old start
(log 3). R175: how any frame handed to LIF enters the queue. -/
def Obligations.StatusTimerHandsTheStatus : Prop :=
  (∀ (s : State) (start : Time), s.lif.timer = some start → 1 ≤ elapsedSince start s.elapsed →
    let volume (v : Int) := min 2147483647 v
    let diagnostic := s.lif.diagCount = 0 ∨
      ∃ f ∈ s.lif.queue, ∃ q : StatusRecord, f.body = .status q ∧ q.diagnostic ≠ none
    let clamps := 2147483647 < volumeOf s.gru.queue ∨ 2147483647 < s.gru.postedRing ∨
      2147483647 < s.gru.deliveredRing
    let flagged : State :=
      { s with
        alu :=
          { s.alu with
            flags := { s.alu.flags with saturated := s.alu.flags.saturated || decide clamps } } }
    (volumesClamp s = true ↔ clamps) ∧
    ∃ u r, exec .statusTimerExpiry s = .next (settle u) ∧
      (let handed := handFrame { dest := 15, body := .status r } flagged;
        { u with lif := { u.lif with diagCount := s.lif.diagCount, timer := s.lif.timer } } = handed) ∧
      u.lif.timer = some (start + 1) ∧
      (u.lif.diagCount = if s.lif.diagCount < 49 then s.lif.diagCount + 1 else 0) ∧
      r.phase = s.phase ∧ r.cutterhead = s.dsu.cutterhead ∧ r.proposed = s.dsu.proposed ∧
      r.applied = s.dsu.applied ∧ r.changing = s.dsu.changing ∧ r.throttle = s.dsu.throttle ∧
      r.torqueSum = torqueSum s ∧ r.motorCount = motorCount s ∧ r.group = s.thu.group ∧
      r.stroke = s.thu.stroke ∧ r.quality = s.thu.quality ∧ r.rate = s.thu.rate ∧
      r.counter = s.thu.counter ∧ r.strokeEnd = s.thu.strokeEnd ∧
      r.groupPressure = inputValue s .groupPressure ∧
      r.chamberPressure = inputValue s .chamberPressure ∧
      r.chamberValid = inputValid s .chamberPressure ∧ r.enable = s.thu.enable ∧
      r.pendingKind = s.thu.slot.map (fun k => k.kind) ∧
      r.pendingTag = (match s.thu.slot with | none => 0 | some k => k.tag) ∧
      r.ring = s.ring ∧ r.line = s.gru.line ∧
      r.outstanding = volume (volumeOf s.gru.queue) ∧ r.postedRing = volume s.gru.postedRing ∧
      r.deliveredRing = volume s.gru.deliveredRing ∧ r.echo = s.oru.echo ∧
      (∀ k, r.alarms.getLsbD k.number = inForce s k) ∧
      r.flags = flagged.alu.flags ∧
      (r.conveyorPart.isSome = true ↔ s.ptb.exConveyor = true) ∧
      (∀ c, r.conveyorPart = some c →
        c.conveyor = s.bal.conveyor ∧ c.manual = s.bal.manual ∧
        (c.balanceValid = true ↔
          s.bal.active = true ∧ s.bal.blind = false ∧ s.bal.conveyor ≠ .fault) ∧
        c.restarted = s.bal.restarted ∧ c.screwRef = s.bal.nCmd ∧ c.pMean = s.bal.pMean ∧
        (c.account = none ↔ diagnostic) ∧
        (∀ v, c.account = some v → v = (s.bal.account, s.bal.eRing, s.bal.xRing))) ∧
      (r.erectorPart.isSome = true ↔ s.ptb.exErector = true) ∧
      (∀ e, r.erectorPart = some e →
        e.state = s.bsq.state ∧ e.placement = s.bsq.cursor ∧ e.ring = s.bsq.cursorRing ∧
        e.target = (placementAt s.cfg.image s.bsq.cursor).position * s.cfg.image.nS / 360 ∧
        e.request = s.bsq.request.map (fun o => o.kind) ∧
        e.requestTag = (match s.bsq.request with | none => 0 | some o => o.tag)) ∧
      (r.diagnostic.isSome = true ↔ diagnostic) ∧
      (∀ d, r.diagnostic = some d →
        d.crcErrors = s.lif.crcErrors ∧ d.formatErrors = s.lif.formatErrors ∧
        d.collisions = s.lif.collisions ∧ d.queueDrops = s.lif.queueDrops ∧
        d.elapsed = s.elapsed) ∧
      u.lif.slot = s.lif.slot ∧ u.lif.seq = s.lif.seq ∧
      { u with lif := s.lif, alu := s.alu } = s) ∧
  (∀ (s : State) (f : TxFrame), FramesQueued s →
    let t := handFrame f s
    let q := s.lif.queue
    let rank (g : TxFrame) : Nat :=
      match g.body.frameClass with | .safety => 0 | .control => 1 | .report => 2
    let status (g : TxFrame) := ∃ r, g.body = .status r
    let entered (q : List TxFrame) :=
      q.filter (fun g => decide (rank g ≤ rank f)) ++ [f] ++
        q.filter (fun g => decide (rank f < rank g))
    let drops := t.lif.queueDrops = (if s.lif.queueDrops < 65535 then s.lif.queueDrops + 1 else 0) ∧
      t.alu.flags.counterWrap = (s.alu.flags.counterWrap || decide (65535 ≤ s.lif.queueDrops))
    let noDrop := t.lif.queueDrops = s.lif.queueDrops ∧ t.alu = s.alu
    (∀ before g after, q = before ++ g :: after → status f → status g →
      t.lif.queue = before ++ f :: after ∧ noDrop) ∧
    (¬(status f ∧ ∃ g ∈ q, status g) →
      (q.length < 8 → t.lif.queue = entered q ∧ noDrop) ∧
      (8 ≤ q.length → (∃ g ∈ q, rank f < rank g) →
        t.lif.queue = entered q.dropLast ∧ (∀ g ∈ q, ∀ last, q.getLast? = some last →
          rank g ≤ rank last) ∧ drops) ∧
      (8 ≤ q.length → (∀ g ∈ q, rank g ≤ rank f) → t.lif.queue = q ∧ drops)) ∧
    t.lif.slot = s.lif.slot ∧ t.alu.entries = s.alu.entries ∧
    { t with lif := s.lif, alu := s.alu } = s)

/-- R172, R173: TRANSMIT_START, FRAME_SENT and COLLISION complete: a frame starts at its gap or a multiple of
30 after it, leaves the slot when sent whole, and waits 10 longer after each collision up to the sixteenth; a
collision marks the transmission in hand as one during which the station abandoned its frame. The model's readings:
the idle count is the operand of TRANSMIT_START and starts again at 0 after a transmission (log 12), TRANSMIT_START
says that the line is idle, so that the marked transmission is over (log 39), and it re-evaluates no condition
(log 13). -/
def Obligations.LineSlotSendsAndCollides : Prop :=
  ∀ s : State,
    let base (f : TxFrame) : Nat :=
      match f.body.frameClass with | .safety => 2 | .control => 12 | .report => 22
    let quiet (idle : Nat) : State := { s with lif := { s.lif with idle := idle, abandoned := false } }
    (∀ idle : Nat, s.phase ≠ .load → s.phase ≠ .probe →
      (s.lif.slot = none → s.lif.queue = [] →
        exec (.transmitStart idle) s = .next (quiet idle)) ∧
      (∀ f rest, s.lif.slot = none → s.lif.queue = f :: rest →
        (¬(∃ k, idle = base f + s.own + 30 * k) →
          exec (.transmitStart idle) s = .next (quiet idle)) ∧
        ((∃ k, idle = base f + s.own + 30 * k) →
          exec (.transmitStart idle) s = .next
            { s with
              lif :=
                { (quiet idle).lif with
                  queue := rest, seq := s.lif.seq + 1
                  slot := some
                    { frame := f, seq := s.lif.seq, chars := frameChars s.own s.lif.seq f
                      collisions := 0, sending := true, leaves := false } } })) ∧
      (∀ w, s.lif.slot = some w → w.sending = false →
        (¬(∃ k, idle = base w.frame + s.own + 10 * w.collisions + 30 * k) →
          exec (.transmitStart idle) s = .next (quiet idle)) ∧
        ((∃ k, idle = base w.frame + s.own + 10 * w.collisions + 30 * k) →
          exec (.transmitStart idle) s = .next
            { s with
              lif := { (quiet idle).lif with slot := some { w with sending := true } } }))) ∧
    (∀ w, s.lif.slot = some w → w.sending = true →
      exec .frameSent s = .next (settle
        { s with lif := { s.lif with slot := none, lineFault := false, idle := 0 } }) ∧
      ∃ u, exec .collision s = .next (settle u) ∧
        u.lif.slot =
          (if 15 ≤ w.collisions ∨ w.leaves = true then none
          else some { w with collisions := w.collisions + 1, sending := false }) ∧
        (u.lif.lineFault = (s.lif.lineFault || decide (15 ≤ w.collisions))) ∧ u.lif.idle = 0 ∧
        u.lif.abandoned = true ∧
        (u.lif.collisions = if s.lif.collisions < 65535 then s.lif.collisions + 1 else 0) ∧
        (u.alu.flags.counterWrap = (s.alu.flags.counterWrap || decide (65535 ≤ s.lif.collisions))) ∧
        { u.lif with
          slot := s.lif.slot, lineFault := s.lif.lineFault, idle := s.lif.idle
          collisions := s.lif.collisions, abandoned := s.lif.abandoned } = s.lif ∧
        { u.alu with flags := { u.alu.flags with counterWrap := s.alu.flags.counterWrap } } = s.alu ∧
        { u with lif := s.lif, alu := s.alu } = s)

/-- R171, R173, R178 to R180, R182: when a station does not receive, the rest of a transmission during which it
abandoned its frame among that; what it makes of a transmission it cannot take, on every frame row, of a frame with
its own number as source, and of a reception that ends early. The model's readings: every one of them restarts the
idle count (log 12) and ends the transmission in which a frame was abandoned (log 39), a transmission ignored or not
received re-evaluates no condition (log 13), and a frame with the own number as source brings the duplicate-station
notice alone, an ESTOP RAISED too (log 31, R180 against R153). -/
def Obligations.BadReceptionsAreCounted : Prop :=
  ∀ (s : State) (chars : Chars) (i : Instr),
    i ∈ frameRows chars ∨ (∃ code, i = orderRow code chars) →
    let idle : State := { s with lif := { s.lif with idle := 0, abandoned := false } }
    (receives s = false ↔ s.phase = .load ∨ s.phase = .probe ∨ s.phase = .configFault ∨
      (∃ w, s.lif.slot = some w ∧ w.sending = true) ∨ s.lif.abandoned = true) ∧
    (receives s = false → exec i s = .next idle ∧ exec (.receptionEarlyEnd chars) s = .next idle) ∧
    (receives s = true →
      (judge s.cfg.image.nS chars = .ignored → exec i s = .next idle) ∧
      (judge s.cfg.image.nS chars = .crcFailure → ∃ u, exec i s = .next (settle u) ∧
        (u.lif.crcErrors = if s.lif.crcErrors < 65535 then s.lif.crcErrors + 1 else 0) ∧
        u.alu.flags.counterWrap = (s.alu.flags.counterWrap || decide (65535 ≤ s.lif.crcErrors)) ∧
        { u with lif := { u.lif with crcErrors := s.lif.crcErrors }, alu := s.alu } = idle) ∧
      (∀ n, judge s.cfg.image.nS chars = .formatError n → ∃ u, exec i s = .next (settle u) ∧
        (u.lif.formatErrors = if s.lif.formatErrors < 65535 then s.lif.formatErrors + 1 else 0) ∧
        u.alu.flags.counterWrap =
          (s.alu.flags.counterWrap || decide (65535 ≤ s.lif.formatErrors)) ∧
        { u with lif := { u.lif with formatErrors := s.lif.formatErrors }, alu := s.alu } = idle) ∧
      (∀ h b, judge s.cfg.image.nS chars = .valid h b → h.source = s.own →
        exec i s = .next (settle
          { idle with alu := { s.alu with duplicate := some s.elapsed } })) ∧
      (incomplete chars = true → chars.head? = some 0xA7 →
        ∃ u, exec (.receptionEarlyEnd chars) s = .next (settle u) ∧
          (u.lif.crcErrors = if s.lif.crcErrors < 65535 then s.lif.crcErrors + 1 else 0) ∧
          { u with lif := { u.lif with crcErrors := s.lif.crcErrors }, alu := s.alu } = idle) ∧
      (incomplete chars = true → chars.head? ≠ some 0xA7 →
        exec (.receptionEarlyEnd chars) s = .next idle))

/-- R174, R178, R179, R183: what a station or the console sends is heard as it was sent, for every frame of
five kinds that section 9.6 admits: REQUEST, REPLY, ALARM, JOIN and ORDER. The model's
readings: an ORDER carries frame class CONTROL (log 15), and every destination 0 to 7 is a sector station (log 38). -/
def Obligations.SentFramesAreHeardAsSent : Prop :=
  ∀ (nS source : Nat) (seq : Tag), nS ≤ 8 →
    let heard (src dest : Nat) (b : Body) :=
      judge nS (frameChars src seq { dest := dest, body := b }) =
        .valid { source := src, dest := dest, seq := seq } b
    (source < nS →
      (∀ dest kind ring tag, dest < 8 → heard source dest (.request kind ring tag)) ∧
      (∀ dest tag answer, dest < 8 → heard source dest (.reply tag answer)) ∧
      (∀ kind raised cls, heard source 15 (.alarm kind raised cls)) ∧
      (∀ r : JoinRecord, r.station = source → r.fitted.toNat < 67108864 → heard source 15 (.join r))) ∧
    (∀ dest tag code (params : List Int), dest < 8 ∨ dest = 15 → 1 ≤ code → code < 32 →
      params.length ≤ 3 → (∀ v ∈ params, -2147483648 ≤ v ∧ v ≤ 2147483647) →
      heard 8 dest (.order tag code params))

/-! ## Orders (10_orders_from_the_console) -/

/-- R184 to R189: an ORDER heard completes on every order row: not taken, or refused by one of the first four
checks, with its echo. -/
def Obligations.OrdersAreTakenAndChecked : Prop :=
  ∀ (s : State) (chars : Chars) (h : Header) (tag : Tag) (code : Nat) (params : List Int),
    hears s chars h (.order tag code params) →
    let row := orderRow code chars
    let addressed := h.dest = s.own ∨ h.dest = 15
    let taken := code ≠ 1 ∧ addressed ∧ s.oru.lastTag ≠ some tag
    let undefined_ := 24 ≤ code ∨ params.length ≠ orderParams code
    let dutyLess := (code = 10 ∧ s.ptb.exErector = false) ∨
      (11 ≤ code ∧ code ≤ 15 ∧ s.ptb.exConveyor = false)
    let badCode := ((code = 14 ∨ code = 15) ∧ ¬(param params 0 = 0 ∨ param params 0 = 1)) ∨
      ((code = 17 ∨ code = 23) ∧ ¬(0 ≤ param params 0 ∧ param params 0 ≤ 65535))
    let refused (result : OrderResult) :=
      .next (settle
        { atOrder s with
          oru :=
            { lastTag := some tag, echo := some { tag := tag, code := code, result := result } } })
    (¬taken → exec row s = .next (settle (atOrder s))) ∧
    (taken → undefined_ → exec row s = refused .refusedRange ∧
      exec (.orderUndefinedKind chars) s = refused .refusedRange) ∧
    (taken → ¬undefined_ → s.phase = .listen → exec row s = refused .refusedState) ∧
    (taken → ¬undefined_ → s.phase ≠ .listen → dutyLess → exec row s = refused .notApplicable) ∧
    (taken → ¬undefined_ → s.phase ≠ .listen → ¬dutyLess → badCode →
      exec row s = refused .refusedRange)

/-- R191, R197 with R4, R75, R140, R142, R182: RESTART_STATION completes: refused outside IDLE and HALTED, and
otherwise the warm restart, with what each block keeps. That the event closes without settling (log 13), that the
torque conditions and the stroke with its quality, which the restart tables do not name, stand (log 29), and that
PTB takes the frame before ORU restarts the station, so that the console entry ends ABSENT (R19, R180, log 5), are
the model's readings. -/
def Obligations.RestartBeginsAWarmListen : Prop :=
  ∀ (s : State) (chars : Chars) (tag : Tag), ordered s chars tag 22 [] →
    (s.phase ≠ .idle → s.phase ≠ .halted →
      exec (.restartStation chars) s =
        .next (settle (echoed tag 22 .refusedState (atOrder s)))) ∧
    (s.phase = .idle ∨ s.phase = .halted → ∃ t, exec (.restartStation chars) s = .next t ∧
      t.phase = .listen ∧ t.pauseCause = .none ∧ t.ring = s.ring ∧ t.elapsed = s.elapsed ∧
      t.pending = s.pending ∧
      t.cfg =
        { s.cfg with
          warm := true, listenTimer := some s.elapsed, joinTimer := some s.elapsed, joinCount := 1 } ∧
      t.oru = { lastTag := none, echo := none } ∧
      (∀ j < 8, peerOf t j = if j = s.own then { liveness := .self } else {}) ∧
      t.ptb.console = {} ∧ t.ptb.endOfListen = false ∧
      t.dsu = { DsuState.cold with overtorque := s.dsu.overtorque, jam := s.dsu.jam } ∧
      t.thu.counter = s.thu.counter ∧ t.thu.strokeEnd = s.thu.strokeEnd ∧
      t.thu.stroke = s.thu.stroke ∧ t.thu.quality = s.thu.quality ∧
      t.thu.group = .moving .holding ∧ t.thu.slot = none ∧ t.thu.lastAnswer = none ∧
      t.thu.rateTarget = 0 ∧ t.thu.bias = 0 ∧
      t.bsq.state = .idle ∧ t.bsq.request = none ∧ t.bsq.cursor = s.bsq.cursor ∧
      t.bsq.progress = s.bsq.progress ∧ t.bsq.cursorRing = s.bsq.cursorRing ∧
      t.bsq.nextTag = s.bsq.nextTag ∧ t.bsq.placed = s.bsq.placed ∧
      t.bsq.buildStart = s.bsq.buildStart ∧ t.bsq.substituted = s.bsq.substituted ∧
      t.gru = { s.gru with flushTimer := t.gru.flushTimer, flushRun := t.gru.flushRun } ∧
      t.bal.account = 0 ∧ t.bal.remE = 0 ∧ t.bal.remX = 0 ∧ t.bal.restarted = true ∧
      t.bal.eRing = s.bal.eRing ∧ t.bal.xRing = s.bal.xRing ∧ t.bal.manual = false ∧
      t.bal.gateOpen = false ∧ t.bal.nCmd = 0 ∧
      t.alu.entries = List.replicate 30 {} ∧ t.alu.estop = s.alu.estop ∧ t.alu.duplicate = none ∧
      t.fpt.inputs = s.fpt.inputs ∧ t.fpt.fitted = s.fpt.fitted ∧ t.fpt.estopIn = s.fpt.estopIn ∧
      t.lif.crcErrors = 0 ∧ t.lif.formatErrors = 0 ∧ t.lif.collisions = 0 ∧ t.lif.queueDrops = 0 ∧
      t.lif.seq = s.lif.seq ∧ t.lif.slot = none ∧ t.lif.abandoned = false ∧
      t.lif.queue =
        [{ dest := 15
           body := .join
             { station := s.own
               claims := { erector := s.cfg.straps.erector, conveyor := s.cfg.straps.conveyor }
               warm := true, fault := false, digest := s.cfg.digest
               fitted := fittedBits s.fpt.fitted, ring := s.ring } }])

/-! ## Invariants of every step -/

/-- R39: the applied level stays at or below every proposal that counts. R40, R41: the candidate stays the lowest
proposal that counts where that is above the applied level, and a candidate agreed on by all is applied. -/
def Obligations.AppliedLevelStaysAgreed : Prop :=
  (∀ s t : State, Shaped s → LevelsAgree s → step s = .next t → LevelsAgree t) ∧
  (∀ s t : State, Shaped s → CandidateHeld s → step s = .next t → CandidateHeld t)

/-- R58, R59, R61, R69: the advance gate holds after every step that it holds before: the own enable is as R58's three
conditions give, and the phase and the group as it and the peers' enables let them (`AdvanceGated`). -/
def Obligations.AdvanceGateIsKept : Prop :=
  ∀ s t : State, AdvanceGated s → step s = .next t → AdvanceGated t

/-- R101, R175: the demand queue and the transmit queue keep their bounds and orders through every step. -/
def Obligations.QueuesKeepTheirOrder : Prop :=
  (∀ s t : State, ParcelsQueued s → step s = .next t → ParcelsQueued t) ∧
  (∀ s t : State, FramesQueued s → step s = .next t → FramesQueued t)

/-- R52, R100, R121, R123, R129 to R131, R142 to R145: every table keeps its length, the alarm table its
soundness, counter, remainders and account their ranges, and the conveyor its tie to its hold causes, through
every step. R147, R148, R154: no running phase stands under a stop, and the outputs are forced exactly while ALU
forces them. -/
def Obligations.TablesRangesAndHoldsAreKept : Prop :=
  (∀ s t : State, Shaped s → step s = .next t → Shaped t) ∧
  (∀ s t : State, AlarmsSound s → step s = .next t → AlarmsSound t) ∧
  (∀ s t : State, WithinRanges s → step s = .next t → WithinRanges t) ∧
  (∀ s t : State, ConveyorHeld s → step s = .next t → ConveyorHeld t) ∧
  (∀ s t : State, StopsHalt s → step s = .next t → StopsHalt t)

/-- The station right after power-up meets every invariant above. -/
def Obligations.ResetMeetsTheInvariants : Prop :=
  Shaped State.reset ∧ LevelsAgree State.reset ∧ AdvanceGated State.reset ∧
    GroutBalanced State.reset ∧ ParcelsQueued State.reset ∧ FramesQueued State.reset ∧
    AlarmsSound State.reset ∧ WithinRanges State.reset ∧ ConveyorHeld State.reset ∧
    StopsHalt State.reset ∧ CandidateHeld State.reset
end

