-- ==== Sys2Proof/Laws/State.lean ====
section
/-! SUPPORT. One lemma per field per update of State, each true by rfl, so that no proof unfolds an update. -/

namespace Sys2Proof.Machine.State

open Sys2Proof

variable (s : State)

/-! ## onCfg -/

@[simp] theorem onCfg_pending (f : CfgState → CfgState) : (s.onCfg f).pending = s.pending := rfl
@[simp] theorem onCfg_elapsed (f : CfgState → CfgState) : (s.onCfg f).elapsed = s.elapsed := rfl
@[simp] theorem onCfg_phase (f : CfgState → CfgState) : (s.onCfg f).phase = s.phase := rfl
@[simp] theorem onCfg_pauseCause (f : CfgState → CfgState) : (s.onCfg f).pauseCause = s.pauseCause := rfl
@[simp] theorem onCfg_ring (f : CfgState → CfgState) : (s.onCfg f).ring = s.ring := rfl
@[simp] theorem onCfg_cfg (f : CfgState → CfgState) : (s.onCfg f).cfg = f s.cfg := rfl
@[simp] theorem onCfg_ptb (f : CfgState → CfgState) : (s.onCfg f).ptb = s.ptb := rfl
@[simp] theorem onCfg_oru (f : CfgState → CfgState) : (s.onCfg f).oru = s.oru := rfl
@[simp] theorem onCfg_dsu (f : CfgState → CfgState) : (s.onCfg f).dsu = s.dsu := rfl
@[simp] theorem onCfg_thu (f : CfgState → CfgState) : (s.onCfg f).thu = s.thu := rfl
@[simp] theorem onCfg_bsq (f : CfgState → CfgState) : (s.onCfg f).bsq = s.bsq := rfl
@[simp] theorem onCfg_gru (f : CfgState → CfgState) : (s.onCfg f).gru = s.gru := rfl
@[simp] theorem onCfg_bal (f : CfgState → CfgState) : (s.onCfg f).bal = s.bal := rfl
@[simp] theorem onCfg_alu (f : CfgState → CfgState) : (s.onCfg f).alu = s.alu := rfl
@[simp] theorem onCfg_fpt (f : CfgState → CfgState) : (s.onCfg f).fpt = s.fpt := rfl
@[simp] theorem onCfg_lif (f : CfgState → CfgState) : (s.onCfg f).lif = s.lif := rfl

/-! ## onPtb -/

@[simp] theorem onPtb_pending (f : PtbState → PtbState) : (s.onPtb f).pending = s.pending := rfl
@[simp] theorem onPtb_elapsed (f : PtbState → PtbState) : (s.onPtb f).elapsed = s.elapsed := rfl
@[simp] theorem onPtb_phase (f : PtbState → PtbState) : (s.onPtb f).phase = s.phase := rfl
@[simp] theorem onPtb_pauseCause (f : PtbState → PtbState) : (s.onPtb f).pauseCause = s.pauseCause := rfl
@[simp] theorem onPtb_ring (f : PtbState → PtbState) : (s.onPtb f).ring = s.ring := rfl
@[simp] theorem onPtb_cfg (f : PtbState → PtbState) : (s.onPtb f).cfg = s.cfg := rfl
@[simp] theorem onPtb_ptb (f : PtbState → PtbState) : (s.onPtb f).ptb = f s.ptb := rfl
@[simp] theorem onPtb_oru (f : PtbState → PtbState) : (s.onPtb f).oru = s.oru := rfl
@[simp] theorem onPtb_dsu (f : PtbState → PtbState) : (s.onPtb f).dsu = s.dsu := rfl
@[simp] theorem onPtb_thu (f : PtbState → PtbState) : (s.onPtb f).thu = s.thu := rfl
@[simp] theorem onPtb_bsq (f : PtbState → PtbState) : (s.onPtb f).bsq = s.bsq := rfl
@[simp] theorem onPtb_gru (f : PtbState → PtbState) : (s.onPtb f).gru = s.gru := rfl
@[simp] theorem onPtb_bal (f : PtbState → PtbState) : (s.onPtb f).bal = s.bal := rfl
@[simp] theorem onPtb_alu (f : PtbState → PtbState) : (s.onPtb f).alu = s.alu := rfl
@[simp] theorem onPtb_fpt (f : PtbState → PtbState) : (s.onPtb f).fpt = s.fpt := rfl
@[simp] theorem onPtb_lif (f : PtbState → PtbState) : (s.onPtb f).lif = s.lif := rfl

/-! ## onOru -/

@[simp] theorem onOru_pending (f : OruState → OruState) : (s.onOru f).pending = s.pending := rfl
@[simp] theorem onOru_elapsed (f : OruState → OruState) : (s.onOru f).elapsed = s.elapsed := rfl
@[simp] theorem onOru_phase (f : OruState → OruState) : (s.onOru f).phase = s.phase := rfl
@[simp] theorem onOru_pauseCause (f : OruState → OruState) : (s.onOru f).pauseCause = s.pauseCause := rfl
@[simp] theorem onOru_ring (f : OruState → OruState) : (s.onOru f).ring = s.ring := rfl
@[simp] theorem onOru_cfg (f : OruState → OruState) : (s.onOru f).cfg = s.cfg := rfl
@[simp] theorem onOru_ptb (f : OruState → OruState) : (s.onOru f).ptb = s.ptb := rfl
@[simp] theorem onOru_oru (f : OruState → OruState) : (s.onOru f).oru = f s.oru := rfl
@[simp] theorem onOru_dsu (f : OruState → OruState) : (s.onOru f).dsu = s.dsu := rfl
@[simp] theorem onOru_thu (f : OruState → OruState) : (s.onOru f).thu = s.thu := rfl
@[simp] theorem onOru_bsq (f : OruState → OruState) : (s.onOru f).bsq = s.bsq := rfl
@[simp] theorem onOru_gru (f : OruState → OruState) : (s.onOru f).gru = s.gru := rfl
@[simp] theorem onOru_bal (f : OruState → OruState) : (s.onOru f).bal = s.bal := rfl
@[simp] theorem onOru_alu (f : OruState → OruState) : (s.onOru f).alu = s.alu := rfl
@[simp] theorem onOru_fpt (f : OruState → OruState) : (s.onOru f).fpt = s.fpt := rfl
@[simp] theorem onOru_lif (f : OruState → OruState) : (s.onOru f).lif = s.lif := rfl

/-! ## onDsu -/

@[simp] theorem onDsu_pending (f : DsuState → DsuState) : (s.onDsu f).pending = s.pending := rfl
@[simp] theorem onDsu_elapsed (f : DsuState → DsuState) : (s.onDsu f).elapsed = s.elapsed := rfl
@[simp] theorem onDsu_phase (f : DsuState → DsuState) : (s.onDsu f).phase = s.phase := rfl
@[simp] theorem onDsu_pauseCause (f : DsuState → DsuState) : (s.onDsu f).pauseCause = s.pauseCause := rfl
@[simp] theorem onDsu_ring (f : DsuState → DsuState) : (s.onDsu f).ring = s.ring := rfl
@[simp] theorem onDsu_cfg (f : DsuState → DsuState) : (s.onDsu f).cfg = s.cfg := rfl
@[simp] theorem onDsu_ptb (f : DsuState → DsuState) : (s.onDsu f).ptb = s.ptb := rfl
@[simp] theorem onDsu_oru (f : DsuState → DsuState) : (s.onDsu f).oru = s.oru := rfl
@[simp] theorem onDsu_dsu (f : DsuState → DsuState) : (s.onDsu f).dsu = f s.dsu := rfl
@[simp] theorem onDsu_thu (f : DsuState → DsuState) : (s.onDsu f).thu = s.thu := rfl
@[simp] theorem onDsu_bsq (f : DsuState → DsuState) : (s.onDsu f).bsq = s.bsq := rfl
@[simp] theorem onDsu_gru (f : DsuState → DsuState) : (s.onDsu f).gru = s.gru := rfl
@[simp] theorem onDsu_bal (f : DsuState → DsuState) : (s.onDsu f).bal = s.bal := rfl
@[simp] theorem onDsu_alu (f : DsuState → DsuState) : (s.onDsu f).alu = s.alu := rfl
@[simp] theorem onDsu_fpt (f : DsuState → DsuState) : (s.onDsu f).fpt = s.fpt := rfl
@[simp] theorem onDsu_lif (f : DsuState → DsuState) : (s.onDsu f).lif = s.lif := rfl

/-! ## onThu -/

@[simp] theorem onThu_pending (f : ThuState → ThuState) : (s.onThu f).pending = s.pending := rfl
@[simp] theorem onThu_elapsed (f : ThuState → ThuState) : (s.onThu f).elapsed = s.elapsed := rfl
@[simp] theorem onThu_phase (f : ThuState → ThuState) : (s.onThu f).phase = s.phase := rfl
@[simp] theorem onThu_pauseCause (f : ThuState → ThuState) : (s.onThu f).pauseCause = s.pauseCause := rfl
@[simp] theorem onThu_ring (f : ThuState → ThuState) : (s.onThu f).ring = s.ring := rfl
@[simp] theorem onThu_cfg (f : ThuState → ThuState) : (s.onThu f).cfg = s.cfg := rfl
@[simp] theorem onThu_ptb (f : ThuState → ThuState) : (s.onThu f).ptb = s.ptb := rfl
@[simp] theorem onThu_oru (f : ThuState → ThuState) : (s.onThu f).oru = s.oru := rfl
@[simp] theorem onThu_dsu (f : ThuState → ThuState) : (s.onThu f).dsu = s.dsu := rfl
@[simp] theorem onThu_thu (f : ThuState → ThuState) : (s.onThu f).thu = f s.thu := rfl
@[simp] theorem onThu_bsq (f : ThuState → ThuState) : (s.onThu f).bsq = s.bsq := rfl
@[simp] theorem onThu_gru (f : ThuState → ThuState) : (s.onThu f).gru = s.gru := rfl
@[simp] theorem onThu_bal (f : ThuState → ThuState) : (s.onThu f).bal = s.bal := rfl
@[simp] theorem onThu_alu (f : ThuState → ThuState) : (s.onThu f).alu = s.alu := rfl
@[simp] theorem onThu_fpt (f : ThuState → ThuState) : (s.onThu f).fpt = s.fpt := rfl
@[simp] theorem onThu_lif (f : ThuState → ThuState) : (s.onThu f).lif = s.lif := rfl

/-! ## onBsq -/

@[simp] theorem onBsq_pending (f : BsqState → BsqState) : (s.onBsq f).pending = s.pending := rfl
@[simp] theorem onBsq_elapsed (f : BsqState → BsqState) : (s.onBsq f).elapsed = s.elapsed := rfl
@[simp] theorem onBsq_phase (f : BsqState → BsqState) : (s.onBsq f).phase = s.phase := rfl
@[simp] theorem onBsq_pauseCause (f : BsqState → BsqState) : (s.onBsq f).pauseCause = s.pauseCause := rfl
@[simp] theorem onBsq_ring (f : BsqState → BsqState) : (s.onBsq f).ring = s.ring := rfl
@[simp] theorem onBsq_cfg (f : BsqState → BsqState) : (s.onBsq f).cfg = s.cfg := rfl
@[simp] theorem onBsq_ptb (f : BsqState → BsqState) : (s.onBsq f).ptb = s.ptb := rfl
@[simp] theorem onBsq_oru (f : BsqState → BsqState) : (s.onBsq f).oru = s.oru := rfl
@[simp] theorem onBsq_dsu (f : BsqState → BsqState) : (s.onBsq f).dsu = s.dsu := rfl
@[simp] theorem onBsq_thu (f : BsqState → BsqState) : (s.onBsq f).thu = s.thu := rfl
@[simp] theorem onBsq_bsq (f : BsqState → BsqState) : (s.onBsq f).bsq = f s.bsq := rfl
@[simp] theorem onBsq_gru (f : BsqState → BsqState) : (s.onBsq f).gru = s.gru := rfl
@[simp] theorem onBsq_bal (f : BsqState → BsqState) : (s.onBsq f).bal = s.bal := rfl
@[simp] theorem onBsq_alu (f : BsqState → BsqState) : (s.onBsq f).alu = s.alu := rfl
@[simp] theorem onBsq_fpt (f : BsqState → BsqState) : (s.onBsq f).fpt = s.fpt := rfl
@[simp] theorem onBsq_lif (f : BsqState → BsqState) : (s.onBsq f).lif = s.lif := rfl

/-! ## onGru -/

@[simp] theorem onGru_pending (f : GruState → GruState) : (s.onGru f).pending = s.pending := rfl
@[simp] theorem onGru_elapsed (f : GruState → GruState) : (s.onGru f).elapsed = s.elapsed := rfl
@[simp] theorem onGru_phase (f : GruState → GruState) : (s.onGru f).phase = s.phase := rfl
@[simp] theorem onGru_pauseCause (f : GruState → GruState) : (s.onGru f).pauseCause = s.pauseCause := rfl
@[simp] theorem onGru_ring (f : GruState → GruState) : (s.onGru f).ring = s.ring := rfl
@[simp] theorem onGru_cfg (f : GruState → GruState) : (s.onGru f).cfg = s.cfg := rfl
@[simp] theorem onGru_ptb (f : GruState → GruState) : (s.onGru f).ptb = s.ptb := rfl
@[simp] theorem onGru_oru (f : GruState → GruState) : (s.onGru f).oru = s.oru := rfl
@[simp] theorem onGru_dsu (f : GruState → GruState) : (s.onGru f).dsu = s.dsu := rfl
@[simp] theorem onGru_thu (f : GruState → GruState) : (s.onGru f).thu = s.thu := rfl
@[simp] theorem onGru_bsq (f : GruState → GruState) : (s.onGru f).bsq = s.bsq := rfl
@[simp] theorem onGru_gru (f : GruState → GruState) : (s.onGru f).gru = f s.gru := rfl
@[simp] theorem onGru_bal (f : GruState → GruState) : (s.onGru f).bal = s.bal := rfl
@[simp] theorem onGru_alu (f : GruState → GruState) : (s.onGru f).alu = s.alu := rfl
@[simp] theorem onGru_fpt (f : GruState → GruState) : (s.onGru f).fpt = s.fpt := rfl
@[simp] theorem onGru_lif (f : GruState → GruState) : (s.onGru f).lif = s.lif := rfl

/-! ## onBal -/

@[simp] theorem onBal_pending (f : BalState → BalState) : (s.onBal f).pending = s.pending := rfl
@[simp] theorem onBal_elapsed (f : BalState → BalState) : (s.onBal f).elapsed = s.elapsed := rfl
@[simp] theorem onBal_phase (f : BalState → BalState) : (s.onBal f).phase = s.phase := rfl
@[simp] theorem onBal_pauseCause (f : BalState → BalState) : (s.onBal f).pauseCause = s.pauseCause := rfl
@[simp] theorem onBal_ring (f : BalState → BalState) : (s.onBal f).ring = s.ring := rfl
@[simp] theorem onBal_cfg (f : BalState → BalState) : (s.onBal f).cfg = s.cfg := rfl
@[simp] theorem onBal_ptb (f : BalState → BalState) : (s.onBal f).ptb = s.ptb := rfl
@[simp] theorem onBal_oru (f : BalState → BalState) : (s.onBal f).oru = s.oru := rfl
@[simp] theorem onBal_dsu (f : BalState → BalState) : (s.onBal f).dsu = s.dsu := rfl
@[simp] theorem onBal_thu (f : BalState → BalState) : (s.onBal f).thu = s.thu := rfl
@[simp] theorem onBal_bsq (f : BalState → BalState) : (s.onBal f).bsq = s.bsq := rfl
@[simp] theorem onBal_gru (f : BalState → BalState) : (s.onBal f).gru = s.gru := rfl
@[simp] theorem onBal_bal (f : BalState → BalState) : (s.onBal f).bal = f s.bal := rfl
@[simp] theorem onBal_alu (f : BalState → BalState) : (s.onBal f).alu = s.alu := rfl
@[simp] theorem onBal_fpt (f : BalState → BalState) : (s.onBal f).fpt = s.fpt := rfl
@[simp] theorem onBal_lif (f : BalState → BalState) : (s.onBal f).lif = s.lif := rfl

/-! ## onAlu -/

@[simp] theorem onAlu_pending (f : AluState → AluState) : (s.onAlu f).pending = s.pending := rfl
@[simp] theorem onAlu_elapsed (f : AluState → AluState) : (s.onAlu f).elapsed = s.elapsed := rfl
@[simp] theorem onAlu_phase (f : AluState → AluState) : (s.onAlu f).phase = s.phase := rfl
@[simp] theorem onAlu_pauseCause (f : AluState → AluState) : (s.onAlu f).pauseCause = s.pauseCause := rfl
@[simp] theorem onAlu_ring (f : AluState → AluState) : (s.onAlu f).ring = s.ring := rfl
@[simp] theorem onAlu_cfg (f : AluState → AluState) : (s.onAlu f).cfg = s.cfg := rfl
@[simp] theorem onAlu_ptb (f : AluState → AluState) : (s.onAlu f).ptb = s.ptb := rfl
@[simp] theorem onAlu_oru (f : AluState → AluState) : (s.onAlu f).oru = s.oru := rfl
@[simp] theorem onAlu_dsu (f : AluState → AluState) : (s.onAlu f).dsu = s.dsu := rfl
@[simp] theorem onAlu_thu (f : AluState → AluState) : (s.onAlu f).thu = s.thu := rfl
@[simp] theorem onAlu_bsq (f : AluState → AluState) : (s.onAlu f).bsq = s.bsq := rfl
@[simp] theorem onAlu_gru (f : AluState → AluState) : (s.onAlu f).gru = s.gru := rfl
@[simp] theorem onAlu_bal (f : AluState → AluState) : (s.onAlu f).bal = s.bal := rfl
@[simp] theorem onAlu_alu (f : AluState → AluState) : (s.onAlu f).alu = f s.alu := rfl
@[simp] theorem onAlu_fpt (f : AluState → AluState) : (s.onAlu f).fpt = s.fpt := rfl
@[simp] theorem onAlu_lif (f : AluState → AluState) : (s.onAlu f).lif = s.lif := rfl

/-! ## onFpt -/

@[simp] theorem onFpt_pending (f : FptState → FptState) : (s.onFpt f).pending = s.pending := rfl
@[simp] theorem onFpt_elapsed (f : FptState → FptState) : (s.onFpt f).elapsed = s.elapsed := rfl
@[simp] theorem onFpt_phase (f : FptState → FptState) : (s.onFpt f).phase = s.phase := rfl
@[simp] theorem onFpt_pauseCause (f : FptState → FptState) : (s.onFpt f).pauseCause = s.pauseCause := rfl
@[simp] theorem onFpt_ring (f : FptState → FptState) : (s.onFpt f).ring = s.ring := rfl
@[simp] theorem onFpt_cfg (f : FptState → FptState) : (s.onFpt f).cfg = s.cfg := rfl
@[simp] theorem onFpt_ptb (f : FptState → FptState) : (s.onFpt f).ptb = s.ptb := rfl
@[simp] theorem onFpt_oru (f : FptState → FptState) : (s.onFpt f).oru = s.oru := rfl
@[simp] theorem onFpt_dsu (f : FptState → FptState) : (s.onFpt f).dsu = s.dsu := rfl
@[simp] theorem onFpt_thu (f : FptState → FptState) : (s.onFpt f).thu = s.thu := rfl
@[simp] theorem onFpt_bsq (f : FptState → FptState) : (s.onFpt f).bsq = s.bsq := rfl
@[simp] theorem onFpt_gru (f : FptState → FptState) : (s.onFpt f).gru = s.gru := rfl
@[simp] theorem onFpt_bal (f : FptState → FptState) : (s.onFpt f).bal = s.bal := rfl
@[simp] theorem onFpt_alu (f : FptState → FptState) : (s.onFpt f).alu = s.alu := rfl
@[simp] theorem onFpt_fpt (f : FptState → FptState) : (s.onFpt f).fpt = f s.fpt := rfl
@[simp] theorem onFpt_lif (f : FptState → FptState) : (s.onFpt f).lif = s.lif := rfl

/-! ## onLif -/

@[simp] theorem onLif_pending (f : LifState → LifState) : (s.onLif f).pending = s.pending := rfl
@[simp] theorem onLif_elapsed (f : LifState → LifState) : (s.onLif f).elapsed = s.elapsed := rfl
@[simp] theorem onLif_phase (f : LifState → LifState) : (s.onLif f).phase = s.phase := rfl
@[simp] theorem onLif_pauseCause (f : LifState → LifState) : (s.onLif f).pauseCause = s.pauseCause := rfl
@[simp] theorem onLif_ring (f : LifState → LifState) : (s.onLif f).ring = s.ring := rfl
@[simp] theorem onLif_cfg (f : LifState → LifState) : (s.onLif f).cfg = s.cfg := rfl
@[simp] theorem onLif_ptb (f : LifState → LifState) : (s.onLif f).ptb = s.ptb := rfl
@[simp] theorem onLif_oru (f : LifState → LifState) : (s.onLif f).oru = s.oru := rfl
@[simp] theorem onLif_dsu (f : LifState → LifState) : (s.onLif f).dsu = s.dsu := rfl
@[simp] theorem onLif_thu (f : LifState → LifState) : (s.onLif f).thu = s.thu := rfl
@[simp] theorem onLif_bsq (f : LifState → LifState) : (s.onLif f).bsq = s.bsq := rfl
@[simp] theorem onLif_gru (f : LifState → LifState) : (s.onLif f).gru = s.gru := rfl
@[simp] theorem onLif_bal (f : LifState → LifState) : (s.onLif f).bal = s.bal := rfl
@[simp] theorem onLif_alu (f : LifState → LifState) : (s.onLif f).alu = s.alu := rfl
@[simp] theorem onLif_fpt (f : LifState → LifState) : (s.onLif f).fpt = s.fpt := rfl
@[simp] theorem onLif_lif (f : LifState → LifState) : (s.onLif f).lif = f s.lif := rfl

/-! ## setPhase -/

@[simp] theorem setPhase_pending (v : Phase) : (s.setPhase v).pending = s.pending := rfl
@[simp] theorem setPhase_elapsed (v : Phase) : (s.setPhase v).elapsed = s.elapsed := rfl
@[simp] theorem setPhase_phase (v : Phase) : (s.setPhase v).phase = v := rfl
@[simp] theorem setPhase_pauseCause (v : Phase) : (s.setPhase v).pauseCause = s.pauseCause := rfl
@[simp] theorem setPhase_ring (v : Phase) : (s.setPhase v).ring = s.ring := rfl
@[simp] theorem setPhase_cfg (v : Phase) : (s.setPhase v).cfg = s.cfg := rfl
@[simp] theorem setPhase_ptb (v : Phase) : (s.setPhase v).ptb = s.ptb := rfl
@[simp] theorem setPhase_oru (v : Phase) : (s.setPhase v).oru = s.oru := rfl
@[simp] theorem setPhase_dsu (v : Phase) : (s.setPhase v).dsu = s.dsu := rfl
@[simp] theorem setPhase_thu (v : Phase) : (s.setPhase v).thu = s.thu := rfl
@[simp] theorem setPhase_bsq (v : Phase) : (s.setPhase v).bsq = s.bsq := rfl
@[simp] theorem setPhase_gru (v : Phase) : (s.setPhase v).gru = s.gru := rfl
@[simp] theorem setPhase_bal (v : Phase) : (s.setPhase v).bal = s.bal := rfl
@[simp] theorem setPhase_alu (v : Phase) : (s.setPhase v).alu = s.alu := rfl
@[simp] theorem setPhase_fpt (v : Phase) : (s.setPhase v).fpt = s.fpt := rfl
@[simp] theorem setPhase_lif (v : Phase) : (s.setPhase v).lif = s.lif := rfl

/-! ## setPauseCause -/

@[simp] theorem setPauseCause_pending (v : PauseCause) : (s.setPauseCause v).pending = s.pending := rfl
@[simp] theorem setPauseCause_elapsed (v : PauseCause) : (s.setPauseCause v).elapsed = s.elapsed := rfl
@[simp] theorem setPauseCause_phase (v : PauseCause) : (s.setPauseCause v).phase = s.phase := rfl
@[simp] theorem setPauseCause_pauseCause (v : PauseCause) : (s.setPauseCause v).pauseCause = v := rfl
@[simp] theorem setPauseCause_ring (v : PauseCause) : (s.setPauseCause v).ring = s.ring := rfl
@[simp] theorem setPauseCause_cfg (v : PauseCause) : (s.setPauseCause v).cfg = s.cfg := rfl
@[simp] theorem setPauseCause_ptb (v : PauseCause) : (s.setPauseCause v).ptb = s.ptb := rfl
@[simp] theorem setPauseCause_oru (v : PauseCause) : (s.setPauseCause v).oru = s.oru := rfl
@[simp] theorem setPauseCause_dsu (v : PauseCause) : (s.setPauseCause v).dsu = s.dsu := rfl
@[simp] theorem setPauseCause_thu (v : PauseCause) : (s.setPauseCause v).thu = s.thu := rfl
@[simp] theorem setPauseCause_bsq (v : PauseCause) : (s.setPauseCause v).bsq = s.bsq := rfl
@[simp] theorem setPauseCause_gru (v : PauseCause) : (s.setPauseCause v).gru = s.gru := rfl
@[simp] theorem setPauseCause_bal (v : PauseCause) : (s.setPauseCause v).bal = s.bal := rfl
@[simp] theorem setPauseCause_alu (v : PauseCause) : (s.setPauseCause v).alu = s.alu := rfl
@[simp] theorem setPauseCause_fpt (v : PauseCause) : (s.setPauseCause v).fpt = s.fpt := rfl
@[simp] theorem setPauseCause_lif (v : PauseCause) : (s.setPauseCause v).lif = s.lif := rfl

/-! ## setRing -/

@[simp] theorem setRing_pending (v : RingNumber) : (s.setRing v).pending = s.pending := rfl
@[simp] theorem setRing_elapsed (v : RingNumber) : (s.setRing v).elapsed = s.elapsed := rfl
@[simp] theorem setRing_phase (v : RingNumber) : (s.setRing v).phase = s.phase := rfl
@[simp] theorem setRing_pauseCause (v : RingNumber) : (s.setRing v).pauseCause = s.pauseCause := rfl
@[simp] theorem setRing_ring (v : RingNumber) : (s.setRing v).ring = v := rfl
@[simp] theorem setRing_cfg (v : RingNumber) : (s.setRing v).cfg = s.cfg := rfl
@[simp] theorem setRing_ptb (v : RingNumber) : (s.setRing v).ptb = s.ptb := rfl
@[simp] theorem setRing_oru (v : RingNumber) : (s.setRing v).oru = s.oru := rfl
@[simp] theorem setRing_dsu (v : RingNumber) : (s.setRing v).dsu = s.dsu := rfl
@[simp] theorem setRing_thu (v : RingNumber) : (s.setRing v).thu = s.thu := rfl
@[simp] theorem setRing_bsq (v : RingNumber) : (s.setRing v).bsq = s.bsq := rfl
@[simp] theorem setRing_gru (v : RingNumber) : (s.setRing v).gru = s.gru := rfl
@[simp] theorem setRing_bal (v : RingNumber) : (s.setRing v).bal = s.bal := rfl
@[simp] theorem setRing_alu (v : RingNumber) : (s.setRing v).alu = s.alu := rfl
@[simp] theorem setRing_fpt (v : RingNumber) : (s.setRing v).fpt = s.fpt := rfl
@[simp] theorem setRing_lif (v : RingNumber) : (s.setRing v).lif = s.lif := rfl

/-! ## setElapsed -/

@[simp] theorem setElapsed_pending (v : Time) : (s.setElapsed v).pending = s.pending := rfl
@[simp] theorem setElapsed_elapsed (v : Time) : (s.setElapsed v).elapsed = v := rfl
@[simp] theorem setElapsed_phase (v : Time) : (s.setElapsed v).phase = s.phase := rfl
@[simp] theorem setElapsed_pauseCause (v : Time) : (s.setElapsed v).pauseCause = s.pauseCause := rfl
@[simp] theorem setElapsed_ring (v : Time) : (s.setElapsed v).ring = s.ring := rfl
@[simp] theorem setElapsed_cfg (v : Time) : (s.setElapsed v).cfg = s.cfg := rfl
@[simp] theorem setElapsed_ptb (v : Time) : (s.setElapsed v).ptb = s.ptb := rfl
@[simp] theorem setElapsed_oru (v : Time) : (s.setElapsed v).oru = s.oru := rfl
@[simp] theorem setElapsed_dsu (v : Time) : (s.setElapsed v).dsu = s.dsu := rfl
@[simp] theorem setElapsed_thu (v : Time) : (s.setElapsed v).thu = s.thu := rfl
@[simp] theorem setElapsed_bsq (v : Time) : (s.setElapsed v).bsq = s.bsq := rfl
@[simp] theorem setElapsed_gru (v : Time) : (s.setElapsed v).gru = s.gru := rfl
@[simp] theorem setElapsed_bal (v : Time) : (s.setElapsed v).bal = s.bal := rfl
@[simp] theorem setElapsed_alu (v : Time) : (s.setElapsed v).alu = s.alu := rfl
@[simp] theorem setElapsed_fpt (v : Time) : (s.setElapsed v).fpt = s.fpt := rfl
@[simp] theorem setElapsed_lif (v : Time) : (s.setElapsed v).lif = s.lif := rfl

/-! ## setPending -/

@[simp] theorem setPending_pending (v : List Instr) : (s.setPending v).pending = v := rfl
@[simp] theorem setPending_elapsed (v : List Instr) : (s.setPending v).elapsed = s.elapsed := rfl
@[simp] theorem setPending_phase (v : List Instr) : (s.setPending v).phase = s.phase := rfl
@[simp] theorem setPending_pauseCause (v : List Instr) : (s.setPending v).pauseCause = s.pauseCause := rfl
@[simp] theorem setPending_ring (v : List Instr) : (s.setPending v).ring = s.ring := rfl
@[simp] theorem setPending_cfg (v : List Instr) : (s.setPending v).cfg = s.cfg := rfl
@[simp] theorem setPending_ptb (v : List Instr) : (s.setPending v).ptb = s.ptb := rfl
@[simp] theorem setPending_oru (v : List Instr) : (s.setPending v).oru = s.oru := rfl
@[simp] theorem setPending_dsu (v : List Instr) : (s.setPending v).dsu = s.dsu := rfl
@[simp] theorem setPending_thu (v : List Instr) : (s.setPending v).thu = s.thu := rfl
@[simp] theorem setPending_bsq (v : List Instr) : (s.setPending v).bsq = s.bsq := rfl
@[simp] theorem setPending_gru (v : List Instr) : (s.setPending v).gru = s.gru := rfl
@[simp] theorem setPending_bal (v : List Instr) : (s.setPending v).bal = s.bal := rfl
@[simp] theorem setPending_alu (v : List Instr) : (s.setPending v).alu = s.alu := rfl
@[simp] theorem setPending_fpt (v : List Instr) : (s.setPending v).fpt = s.fpt := rfl
@[simp] theorem setPending_lif (v : List Instr) : (s.setPending v).lif = s.lif := rfl

end Sys2Proof.Machine.State
end

