-- ==== Sys2Proof/Laws/Flags.lean ====
section
/-! SUPPORT. What each operation of Machine/Flags.lean leaves unchanged, block by block and, in the
blocks it changes, field by field. -/

namespace Sys2Proof.Machine

open Sys2Proof

@[simp] theorem setFlag_frame (f : Flag) (s : State) :
    (setFlag f s).pending = s.pending ∧ (setFlag f s).elapsed = s.elapsed ∧ (setFlag f s).phase = s.phase ∧
    (setFlag f s).pauseCause = s.pauseCause ∧ (setFlag f s).ring = s.ring ∧ (setFlag f s).cfg = s.cfg ∧
    (setFlag f s).ptb = s.ptb ∧ (setFlag f s).oru = s.oru ∧ (setFlag f s).dsu = s.dsu ∧
    (setFlag f s).thu = s.thu ∧ (setFlag f s).bsq = s.bsq ∧ (setFlag f s).gru = s.gru ∧
    (setFlag f s).bal = s.bal ∧ (setFlag f s).fpt = s.fpt ∧ (setFlag f s).lif = s.lif := by
  refine ⟨?_, ?_, ?_, ?_, ?_, ?_, ?_, ?_, ?_, ?_, ?_, ?_, ?_, ?_, ?_⟩ <;> rfl

@[simp] theorem setFlagIf_frame (b : Bool) (f : Flag) (s : State) :
    (setFlagIf b f s).pending = s.pending ∧ (setFlagIf b f s).elapsed = s.elapsed ∧
    (setFlagIf b f s).phase = s.phase ∧ (setFlagIf b f s).pauseCause = s.pauseCause ∧
    (setFlagIf b f s).ring = s.ring ∧ (setFlagIf b f s).cfg = s.cfg ∧ (setFlagIf b f s).ptb = s.ptb ∧
    (setFlagIf b f s).oru = s.oru ∧ (setFlagIf b f s).dsu = s.dsu ∧ (setFlagIf b f s).thu = s.thu ∧
    (setFlagIf b f s).bsq = s.bsq ∧ (setFlagIf b f s).gru = s.gru ∧ (setFlagIf b f s).bal = s.bal ∧
    (setFlagIf b f s).fpt = s.fpt ∧ (setFlagIf b f s).lif = s.lif := by
  unfold setFlagIf; split <;> simp

@[simp] theorem clearAllFlags_frame (s : State) :
    (clearAllFlags s).pending = s.pending ∧ (clearAllFlags s).elapsed = s.elapsed ∧
    (clearAllFlags s).phase = s.phase ∧ (clearAllFlags s).pauseCause = s.pauseCause ∧
    (clearAllFlags s).ring = s.ring ∧ (clearAllFlags s).cfg = s.cfg ∧ (clearAllFlags s).ptb = s.ptb ∧
    (clearAllFlags s).oru = s.oru ∧ (clearAllFlags s).dsu = s.dsu ∧ (clearAllFlags s).thu = s.thu ∧
    (clearAllFlags s).bsq = s.bsq ∧ (clearAllFlags s).gru = s.gru ∧ (clearAllFlags s).bal = s.bal ∧
    (clearAllFlags s).fpt = s.fpt ∧ (clearAllFlags s).lif = s.lif := by
  refine ⟨?_, ?_, ?_, ?_, ?_, ?_, ?_, ?_, ?_, ?_, ?_, ?_, ?_, ?_, ?_⟩ <;> rfl

@[simp] theorem countCrcError_frame (s : State) :
    (countCrcError s).pending = s.pending ∧ (countCrcError s).elapsed = s.elapsed ∧
    (countCrcError s).phase = s.phase ∧ (countCrcError s).pauseCause = s.pauseCause ∧
    (countCrcError s).ring = s.ring ∧ (countCrcError s).cfg = s.cfg ∧ (countCrcError s).ptb = s.ptb ∧
    (countCrcError s).oru = s.oru ∧ (countCrcError s).dsu = s.dsu ∧ (countCrcError s).thu = s.thu ∧
    (countCrcError s).bsq = s.bsq ∧ (countCrcError s).gru = s.gru ∧ (countCrcError s).bal = s.bal ∧
    (countCrcError s).fpt = s.fpt := by
  simp [countCrcError]

@[simp] theorem countFormatError_frame (s : State) :
    (countFormatError s).pending = s.pending ∧ (countFormatError s).elapsed = s.elapsed ∧
    (countFormatError s).phase = s.phase ∧ (countFormatError s).pauseCause = s.pauseCause ∧
    (countFormatError s).ring = s.ring ∧ (countFormatError s).cfg = s.cfg ∧ (countFormatError s).ptb = s.ptb ∧
    (countFormatError s).oru = s.oru ∧ (countFormatError s).dsu = s.dsu ∧ (countFormatError s).thu = s.thu ∧
    (countFormatError s).bsq = s.bsq ∧ (countFormatError s).gru = s.gru ∧ (countFormatError s).bal = s.bal ∧
    (countFormatError s).fpt = s.fpt := by
  simp [countFormatError]

@[simp] theorem countCollision_frame (s : State) :
    (countCollision s).pending = s.pending ∧ (countCollision s).elapsed = s.elapsed ∧
    (countCollision s).phase = s.phase ∧ (countCollision s).pauseCause = s.pauseCause ∧
    (countCollision s).ring = s.ring ∧ (countCollision s).cfg = s.cfg ∧ (countCollision s).ptb = s.ptb ∧
    (countCollision s).oru = s.oru ∧ (countCollision s).dsu = s.dsu ∧ (countCollision s).thu = s.thu ∧
    (countCollision s).bsq = s.bsq ∧ (countCollision s).gru = s.gru ∧ (countCollision s).bal = s.bal ∧
    (countCollision s).fpt = s.fpt := by
  simp [countCollision]

@[simp] theorem countQueueDrop_frame (s : State) :
    (countQueueDrop s).pending = s.pending ∧ (countQueueDrop s).elapsed = s.elapsed ∧
    (countQueueDrop s).phase = s.phase ∧ (countQueueDrop s).pauseCause = s.pauseCause ∧
    (countQueueDrop s).ring = s.ring ∧ (countQueueDrop s).cfg = s.cfg ∧ (countQueueDrop s).ptb = s.ptb ∧
    (countQueueDrop s).oru = s.oru ∧ (countQueueDrop s).dsu = s.dsu ∧ (countQueueDrop s).thu = s.thu ∧
    (countQueueDrop s).bsq = s.bsq ∧ (countQueueDrop s).gru = s.gru ∧ (countQueueDrop s).bal = s.bal ∧
    (countQueueDrop s).fpt = s.fpt := by
  simp [countQueueDrop]

@[simp] theorem setFlag_fields (f : Flag) (s : State) :
    (setFlag f s).alu.active = s.alu.active ∧ (setFlag f s).alu.entries = s.alu.entries ∧
    (setFlag f s).alu.estop = s.alu.estop ∧ (setFlag f s).alu.duplicate = s.alu.duplicate := by
  simp [setFlag]

@[simp] theorem setFlagIf_fields (b : Bool) (f : Flag) (s : State) :
    (setFlagIf b f s).alu.active = s.alu.active ∧ (setFlagIf b f s).alu.entries = s.alu.entries ∧
    (setFlagIf b f s).alu.estop = s.alu.estop ∧ (setFlagIf b f s).alu.duplicate = s.alu.duplicate := by
  unfold setFlagIf; split <;> simp

@[simp] theorem clearAllFlags_fields (s : State) :
    (clearAllFlags s).alu.active = s.alu.active ∧ (clearAllFlags s).alu.entries = s.alu.entries ∧
    (clearAllFlags s).alu.estop = s.alu.estop ∧ (clearAllFlags s).alu.duplicate = s.alu.duplicate := by
  simp [clearAllFlags]

@[simp] theorem countCrcError_fields (s : State) :
    (countCrcError s).alu.active = s.alu.active ∧ (countCrcError s).alu.entries = s.alu.entries ∧
    (countCrcError s).alu.estop = s.alu.estop ∧ (countCrcError s).alu.duplicate = s.alu.duplicate ∧
    (countCrcError s).lif.queue = s.lif.queue ∧ (countCrcError s).lif.slot = s.lif.slot ∧
    (countCrcError s).lif.seq = s.lif.seq ∧ (countCrcError s).lif.idle = s.lif.idle ∧
    (countCrcError s).lif.formatErrors = s.lif.formatErrors ∧
    (countCrcError s).lif.collisions = s.lif.collisions ∧ (countCrcError s).lif.queueDrops = s.lif.queueDrops ∧
    (countCrcError s).lif.diagCount = s.lif.diagCount ∧ (countCrcError s).lif.timer = s.lif.timer ∧
    (countCrcError s).lif.lineFault = s.lif.lineFault ∧
    (countCrcError s).lif.abandoned = s.lif.abandoned := by
  simp [countCrcError]

@[simp] theorem countFormatError_fields (s : State) :
    (countFormatError s).alu.active = s.alu.active ∧ (countFormatError s).alu.entries = s.alu.entries ∧
    (countFormatError s).alu.estop = s.alu.estop ∧ (countFormatError s).alu.duplicate = s.alu.duplicate ∧
    (countFormatError s).lif.queue = s.lif.queue ∧ (countFormatError s).lif.slot = s.lif.slot ∧
    (countFormatError s).lif.seq = s.lif.seq ∧ (countFormatError s).lif.idle = s.lif.idle ∧
    (countFormatError s).lif.crcErrors = s.lif.crcErrors ∧
    (countFormatError s).lif.collisions = s.lif.collisions ∧
    (countFormatError s).lif.queueDrops = s.lif.queueDrops ∧
    (countFormatError s).lif.diagCount = s.lif.diagCount ∧ (countFormatError s).lif.timer = s.lif.timer ∧
    (countFormatError s).lif.lineFault = s.lif.lineFault ∧
    (countFormatError s).lif.abandoned = s.lif.abandoned := by
  simp [countFormatError]

@[simp] theorem countCollision_fields (s : State) :
    (countCollision s).alu.active = s.alu.active ∧ (countCollision s).alu.entries = s.alu.entries ∧
    (countCollision s).alu.estop = s.alu.estop ∧ (countCollision s).alu.duplicate = s.alu.duplicate ∧
    (countCollision s).lif.queue = s.lif.queue ∧ (countCollision s).lif.slot = s.lif.slot ∧
    (countCollision s).lif.seq = s.lif.seq ∧ (countCollision s).lif.idle = s.lif.idle ∧
    (countCollision s).lif.crcErrors = s.lif.crcErrors ∧
    (countCollision s).lif.formatErrors = s.lif.formatErrors ∧
    (countCollision s).lif.queueDrops = s.lif.queueDrops ∧ (countCollision s).lif.diagCount = s.lif.diagCount ∧
    (countCollision s).lif.timer = s.lif.timer ∧ (countCollision s).lif.lineFault = s.lif.lineFault ∧
    (countCollision s).lif.abandoned = s.lif.abandoned := by
  simp [countCollision]

@[simp] theorem countQueueDrop_fields (s : State) :
    (countQueueDrop s).alu.active = s.alu.active ∧ (countQueueDrop s).alu.entries = s.alu.entries ∧
    (countQueueDrop s).alu.estop = s.alu.estop ∧ (countQueueDrop s).alu.duplicate = s.alu.duplicate ∧
    (countQueueDrop s).lif.queue = s.lif.queue ∧ (countQueueDrop s).lif.slot = s.lif.slot ∧
    (countQueueDrop s).lif.seq = s.lif.seq ∧ (countQueueDrop s).lif.idle = s.lif.idle ∧
    (countQueueDrop s).lif.crcErrors = s.lif.crcErrors ∧
    (countQueueDrop s).lif.formatErrors = s.lif.formatErrors ∧
    (countQueueDrop s).lif.collisions = s.lif.collisions ∧ (countQueueDrop s).lif.diagCount = s.lif.diagCount ∧
    (countQueueDrop s).lif.timer = s.lif.timer ∧ (countQueueDrop s).lif.lineFault = s.lif.lineFault ∧
    (countQueueDrop s).lif.abandoned = s.lif.abandoned := by
  simp [countQueueDrop]

end Sys2Proof.Machine
end

