-- ==== Sys2Proof/Laws/Ops.lean ====
section
/-! SUPPORT. What each operation of Machine/Ops.lean leaves unchanged, block by block and, in the
blocks it changes, field by field. -/

namespace Sys2Proof.Machine

open Sys2Proof

@[simp] theorem setEntry_frame (k : AlarmKind) (e : AlarmEntry) (s : State) :
    (setEntry k e s).pending = s.pending ∧ (setEntry k e s).elapsed = s.elapsed ∧
    (setEntry k e s).phase = s.phase ∧ (setEntry k e s).pauseCause = s.pauseCause ∧
    (setEntry k e s).ring = s.ring ∧ (setEntry k e s).cfg = s.cfg ∧ (setEntry k e s).ptb = s.ptb ∧
    (setEntry k e s).oru = s.oru ∧ (setEntry k e s).dsu = s.dsu ∧ (setEntry k e s).thu = s.thu ∧
    (setEntry k e s).bsq = s.bsq ∧ (setEntry k e s).gru = s.gru ∧ (setEntry k e s).bal = s.bal ∧
    (setEntry k e s).fpt = s.fpt ∧ (setEntry k e s).lif = s.lif := by
  refine ⟨?_, ?_, ?_, ?_, ?_, ?_, ?_, ?_, ?_, ?_, ?_, ?_, ?_, ?_, ?_⟩ <;> rfl

@[simp] theorem setPeer_frame (j : Nat) (e : PeerEntry) (s : State) :
    (setPeer j e s).pending = s.pending ∧ (setPeer j e s).elapsed = s.elapsed ∧
    (setPeer j e s).phase = s.phase ∧ (setPeer j e s).pauseCause = s.pauseCause ∧
    (setPeer j e s).ring = s.ring ∧ (setPeer j e s).cfg = s.cfg ∧ (setPeer j e s).oru = s.oru ∧
    (setPeer j e s).dsu = s.dsu ∧ (setPeer j e s).thu = s.thu ∧ (setPeer j e s).bsq = s.bsq ∧
    (setPeer j e s).gru = s.gru ∧ (setPeer j e s).bal = s.bal ∧ (setPeer j e s).alu = s.alu ∧
    (setPeer j e s).fpt = s.fpt ∧ (setPeer j e s).lif = s.lif := by
  refine ⟨?_, ?_, ?_, ?_, ?_, ?_, ?_, ?_, ?_, ?_, ?_, ?_, ?_, ?_, ?_⟩ <;> rfl

@[simp] theorem handFrame_frame (f : TxFrame) (s : State) :
    (handFrame f s).pending = s.pending ∧ (handFrame f s).elapsed = s.elapsed ∧
    (handFrame f s).phase = s.phase ∧ (handFrame f s).pauseCause = s.pauseCause ∧
    (handFrame f s).ring = s.ring ∧ (handFrame f s).cfg = s.cfg ∧ (handFrame f s).ptb = s.ptb ∧
    (handFrame f s).oru = s.oru ∧ (handFrame f s).dsu = s.dsu ∧ (handFrame f s).thu = s.thu ∧
    (handFrame f s).bsq = s.bsq ∧ (handFrame f s).gru = s.gru ∧ (handFrame f s).bal = s.bal ∧
    (handFrame f s).fpt = s.fpt := by
  unfold handFrame; (repeat' split) <;> simp

@[simp] theorem setEntry_fields (k : AlarmKind) (e : AlarmEntry) (s : State) :
    (setEntry k e s).alu.active = s.alu.active ∧ (setEntry k e s).alu.flags = s.alu.flags ∧
    (setEntry k e s).alu.estop = s.alu.estop ∧ (setEntry k e s).alu.duplicate = s.alu.duplicate := by
  simp [setEntry]

@[simp] theorem setPeer_fields (j : Nat) (e : PeerEntry) (s : State) :
    (setPeer j e s).ptb.console = s.ptb.console ∧ (setPeer j e s).ptb.endOfListen = s.ptb.endOfListen ∧
    (setPeer j e s).ptb.listenEnd = s.ptb.listenEnd ∧ (setPeer j e s).ptb.erector = s.ptb.erector ∧
    (setPeer j e s).ptb.conveyor = s.ptb.conveyor ∧ (setPeer j e s).ptb.exErector = s.ptb.exErector ∧
    (setPeer j e s).ptb.exConveyor = s.ptb.exConveyor := by
  simp [setPeer]

@[simp] theorem handFrame_fields (f : TxFrame) (s : State) :
    (handFrame f s).alu.active = s.alu.active ∧ (handFrame f s).alu.entries = s.alu.entries ∧
    (handFrame f s).alu.estop = s.alu.estop ∧ (handFrame f s).alu.duplicate = s.alu.duplicate ∧
    (handFrame f s).lif.slot = s.lif.slot ∧ (handFrame f s).lif.seq = s.lif.seq ∧
    (handFrame f s).lif.idle = s.lif.idle ∧ (handFrame f s).lif.crcErrors = s.lif.crcErrors ∧
    (handFrame f s).lif.formatErrors = s.lif.formatErrors ∧ (handFrame f s).lif.collisions = s.lif.collisions ∧
    (handFrame f s).lif.diagCount = s.lif.diagCount ∧ (handFrame f s).lif.timer = s.lif.timer ∧
    (handFrame f s).lif.lineFault = s.lif.lineFault ∧
    (handFrame f s).lif.abandoned = s.lif.abandoned := by
  unfold handFrame; (repeat' split) <;> simp

end Sys2Proof.Machine
end

