-- ==== Sys2Proof/Laws/Ports.lean ====
section
/-! SUPPORT. What each operation of Machine/Ports.lean leaves unchanged, block by block and, in the
blocks it changes, field by field. -/

namespace Sys2Proof.Machine

open Sys2Proof

@[simp] theorem refreshMotor0_frame (s : State) :
    (refreshMotor0 s).pending = s.pending ∧ (refreshMotor0 s).elapsed = s.elapsed ∧
    (refreshMotor0 s).phase = s.phase ∧ (refreshMotor0 s).pauseCause = s.pauseCause ∧
    (refreshMotor0 s).ring = s.ring ∧ (refreshMotor0 s).cfg = s.cfg ∧ (refreshMotor0 s).ptb = s.ptb ∧
    (refreshMotor0 s).oru = s.oru ∧ (refreshMotor0 s).dsu = s.dsu ∧ (refreshMotor0 s).thu = s.thu ∧
    (refreshMotor0 s).bsq = s.bsq ∧ (refreshMotor0 s).gru = s.gru ∧ (refreshMotor0 s).bal = s.bal ∧
    (refreshMotor0 s).lif = s.lif := by
  simp [refreshMotor0]

@[simp] theorem refreshMotor1_frame (s : State) :
    (refreshMotor1 s).pending = s.pending ∧ (refreshMotor1 s).elapsed = s.elapsed ∧
    (refreshMotor1 s).phase = s.phase ∧ (refreshMotor1 s).pauseCause = s.pauseCause ∧
    (refreshMotor1 s).ring = s.ring ∧ (refreshMotor1 s).cfg = s.cfg ∧ (refreshMotor1 s).ptb = s.ptb ∧
    (refreshMotor1 s).oru = s.oru ∧ (refreshMotor1 s).dsu = s.dsu ∧ (refreshMotor1 s).thu = s.thu ∧
    (refreshMotor1 s).bsq = s.bsq ∧ (refreshMotor1 s).gru = s.gru ∧ (refreshMotor1 s).bal = s.bal ∧
    (refreshMotor1 s).lif = s.lif := by
  simp [refreshMotor1]

@[simp] theorem refreshValve_frame (s : State) :
    (refreshValve s).pending = s.pending ∧ (refreshValve s).elapsed = s.elapsed ∧
    (refreshValve s).phase = s.phase ∧ (refreshValve s).pauseCause = s.pauseCause ∧
    (refreshValve s).ring = s.ring ∧ (refreshValve s).cfg = s.cfg ∧ (refreshValve s).ptb = s.ptb ∧
    (refreshValve s).oru = s.oru ∧ (refreshValve s).dsu = s.dsu ∧ (refreshValve s).thu = s.thu ∧
    (refreshValve s).bsq = s.bsq ∧ (refreshValve s).gru = s.gru ∧ (refreshValve s).bal = s.bal ∧
    (refreshValve s).lif = s.lif := by
  simp [refreshValve]

@[simp] theorem refreshPump_frame (s : State) :
    (refreshPump s).pending = s.pending ∧ (refreshPump s).elapsed = s.elapsed ∧
    (refreshPump s).phase = s.phase ∧ (refreshPump s).pauseCause = s.pauseCause ∧
    (refreshPump s).ring = s.ring ∧ (refreshPump s).cfg = s.cfg ∧ (refreshPump s).ptb = s.ptb ∧
    (refreshPump s).oru = s.oru ∧ (refreshPump s).dsu = s.dsu ∧ (refreshPump s).thu = s.thu ∧
    (refreshPump s).bsq = s.bsq ∧ (refreshPump s).gru = s.gru ∧ (refreshPump s).bal = s.bal ∧
    (refreshPump s).lif = s.lif := by
  simp [refreshPump]

@[simp] theorem refreshFlush_frame (s : State) :
    (refreshFlush s).pending = s.pending ∧ (refreshFlush s).elapsed = s.elapsed ∧
    (refreshFlush s).phase = s.phase ∧ (refreshFlush s).pauseCause = s.pauseCause ∧
    (refreshFlush s).ring = s.ring ∧ (refreshFlush s).cfg = s.cfg ∧ (refreshFlush s).ptb = s.ptb ∧
    (refreshFlush s).oru = s.oru ∧ (refreshFlush s).dsu = s.dsu ∧ (refreshFlush s).thu = s.thu ∧
    (refreshFlush s).bsq = s.bsq ∧ (refreshFlush s).gru = s.gru ∧ (refreshFlush s).bal = s.bal ∧
    (refreshFlush s).alu = s.alu ∧ (refreshFlush s).lif = s.lif := by
  refine ⟨?_, ?_, ?_, ?_, ?_, ?_, ?_, ?_, ?_, ?_, ?_, ?_, ?_, ?_, ?_⟩ <;> rfl

@[simp] theorem refreshScrew_frame (s : State) :
    (refreshScrew s).pending = s.pending ∧ (refreshScrew s).elapsed = s.elapsed ∧
    (refreshScrew s).phase = s.phase ∧ (refreshScrew s).pauseCause = s.pauseCause ∧
    (refreshScrew s).ring = s.ring ∧ (refreshScrew s).cfg = s.cfg ∧ (refreshScrew s).ptb = s.ptb ∧
    (refreshScrew s).oru = s.oru ∧ (refreshScrew s).dsu = s.dsu ∧ (refreshScrew s).thu = s.thu ∧
    (refreshScrew s).bsq = s.bsq ∧ (refreshScrew s).gru = s.gru ∧ (refreshScrew s).bal = s.bal ∧
    (refreshScrew s).lif = s.lif := by
  simp [refreshScrew]

@[simp] theorem refreshGate_frame (s : State) :
    (refreshGate s).pending = s.pending ∧ (refreshGate s).elapsed = s.elapsed ∧
    (refreshGate s).phase = s.phase ∧ (refreshGate s).pauseCause = s.pauseCause ∧
    (refreshGate s).ring = s.ring ∧ (refreshGate s).cfg = s.cfg ∧ (refreshGate s).ptb = s.ptb ∧
    (refreshGate s).oru = s.oru ∧ (refreshGate s).dsu = s.dsu ∧ (refreshGate s).thu = s.thu ∧
    (refreshGate s).bsq = s.bsq ∧ (refreshGate s).gru = s.gru ∧ (refreshGate s).bal = s.bal ∧
    (refreshGate s).alu = s.alu ∧ (refreshGate s).lif = s.lif := by
  refine ⟨?_, ?_, ?_, ?_, ?_, ?_, ?_, ?_, ?_, ?_, ?_, ?_, ?_, ?_, ?_⟩ <;> rfl

@[simp] theorem refreshErector_frame (s : State) :
    (refreshErector s).pending = s.pending ∧ (refreshErector s).elapsed = s.elapsed ∧
    (refreshErector s).phase = s.phase ∧ (refreshErector s).pauseCause = s.pauseCause ∧
    (refreshErector s).ring = s.ring ∧ (refreshErector s).cfg = s.cfg ∧ (refreshErector s).ptb = s.ptb ∧
    (refreshErector s).oru = s.oru ∧ (refreshErector s).dsu = s.dsu ∧ (refreshErector s).thu = s.thu ∧
    (refreshErector s).bsq = s.bsq ∧ (refreshErector s).gru = s.gru ∧ (refreshErector s).bal = s.bal ∧
    (refreshErector s).alu = s.alu ∧ (refreshErector s).lif = s.lif := by
  refine ⟨?_, ?_, ?_, ?_, ?_, ?_, ?_, ?_, ?_, ?_, ?_, ?_, ?_, ?_, ?_⟩ <;> rfl

@[simp] theorem refreshAll_frame (s : State) :
    (refreshAll s).pending = s.pending ∧ (refreshAll s).elapsed = s.elapsed ∧ (refreshAll s).phase = s.phase ∧
    (refreshAll s).pauseCause = s.pauseCause ∧ (refreshAll s).ring = s.ring ∧ (refreshAll s).cfg = s.cfg ∧
    (refreshAll s).ptb = s.ptb ∧ (refreshAll s).oru = s.oru ∧ (refreshAll s).dsu = s.dsu ∧
    (refreshAll s).thu = s.thu ∧ (refreshAll s).bsq = s.bsq ∧ (refreshAll s).gru = s.gru ∧
    (refreshAll s).bal = s.bal ∧ (refreshAll s).lif = s.lif := by
  simp [refreshAll]

@[simp] theorem writeMotor0_frame (v : Int) (s : State) :
    (writeMotor0 v s).pending = s.pending ∧ (writeMotor0 v s).elapsed = s.elapsed ∧
    (writeMotor0 v s).phase = s.phase ∧ (writeMotor0 v s).pauseCause = s.pauseCause ∧
    (writeMotor0 v s).ring = s.ring ∧ (writeMotor0 v s).cfg = s.cfg ∧ (writeMotor0 v s).ptb = s.ptb ∧
    (writeMotor0 v s).oru = s.oru ∧ (writeMotor0 v s).dsu = s.dsu ∧ (writeMotor0 v s).thu = s.thu ∧
    (writeMotor0 v s).bsq = s.bsq ∧ (writeMotor0 v s).gru = s.gru ∧ (writeMotor0 v s).bal = s.bal ∧
    (writeMotor0 v s).lif = s.lif := by
  simp [writeMotor0]

@[simp] theorem writeMotor1_frame (v : Int) (s : State) :
    (writeMotor1 v s).pending = s.pending ∧ (writeMotor1 v s).elapsed = s.elapsed ∧
    (writeMotor1 v s).phase = s.phase ∧ (writeMotor1 v s).pauseCause = s.pauseCause ∧
    (writeMotor1 v s).ring = s.ring ∧ (writeMotor1 v s).cfg = s.cfg ∧ (writeMotor1 v s).ptb = s.ptb ∧
    (writeMotor1 v s).oru = s.oru ∧ (writeMotor1 v s).dsu = s.dsu ∧ (writeMotor1 v s).thu = s.thu ∧
    (writeMotor1 v s).bsq = s.bsq ∧ (writeMotor1 v s).gru = s.gru ∧ (writeMotor1 v s).bal = s.bal ∧
    (writeMotor1 v s).lif = s.lif := by
  simp [writeMotor1]

@[simp] theorem writeEnable0_frame (b : Bool) (s : State) :
    (writeEnable0 b s).pending = s.pending ∧ (writeEnable0 b s).elapsed = s.elapsed ∧
    (writeEnable0 b s).phase = s.phase ∧ (writeEnable0 b s).pauseCause = s.pauseCause ∧
    (writeEnable0 b s).ring = s.ring ∧ (writeEnable0 b s).cfg = s.cfg ∧ (writeEnable0 b s).ptb = s.ptb ∧
    (writeEnable0 b s).oru = s.oru ∧ (writeEnable0 b s).dsu = s.dsu ∧ (writeEnable0 b s).thu = s.thu ∧
    (writeEnable0 b s).bsq = s.bsq ∧ (writeEnable0 b s).gru = s.gru ∧ (writeEnable0 b s).bal = s.bal ∧
    (writeEnable0 b s).lif = s.lif := by
  simp [writeEnable0]

@[simp] theorem writeEnable1_frame (b : Bool) (s : State) :
    (writeEnable1 b s).pending = s.pending ∧ (writeEnable1 b s).elapsed = s.elapsed ∧
    (writeEnable1 b s).phase = s.phase ∧ (writeEnable1 b s).pauseCause = s.pauseCause ∧
    (writeEnable1 b s).ring = s.ring ∧ (writeEnable1 b s).cfg = s.cfg ∧ (writeEnable1 b s).ptb = s.ptb ∧
    (writeEnable1 b s).oru = s.oru ∧ (writeEnable1 b s).dsu = s.dsu ∧ (writeEnable1 b s).thu = s.thu ∧
    (writeEnable1 b s).bsq = s.bsq ∧ (writeEnable1 b s).gru = s.gru ∧ (writeEnable1 b s).bal = s.bal ∧
    (writeEnable1 b s).lif = s.lif := by
  simp [writeEnable1]

@[simp] theorem writeValve_frame (m : ValveMode) (p : Int) (s : State) :
    (writeValve m p s).pending = s.pending ∧ (writeValve m p s).elapsed = s.elapsed ∧
    (writeValve m p s).phase = s.phase ∧ (writeValve m p s).pauseCause = s.pauseCause ∧
    (writeValve m p s).ring = s.ring ∧ (writeValve m p s).cfg = s.cfg ∧ (writeValve m p s).ptb = s.ptb ∧
    (writeValve m p s).oru = s.oru ∧ (writeValve m p s).dsu = s.dsu ∧ (writeValve m p s).thu = s.thu ∧
    (writeValve m p s).bsq = s.bsq ∧ (writeValve m p s).gru = s.gru ∧ (writeValve m p s).bal = s.bal ∧
    (writeValve m p s).lif = s.lif := by
  simp [writeValve]

@[simp] theorem writePump_frame (v : Int) (s : State) :
    (writePump v s).pending = s.pending ∧ (writePump v s).elapsed = s.elapsed ∧
    (writePump v s).phase = s.phase ∧ (writePump v s).pauseCause = s.pauseCause ∧
    (writePump v s).ring = s.ring ∧ (writePump v s).cfg = s.cfg ∧ (writePump v s).ptb = s.ptb ∧
    (writePump v s).oru = s.oru ∧ (writePump v s).dsu = s.dsu ∧ (writePump v s).thu = s.thu ∧
    (writePump v s).bsq = s.bsq ∧ (writePump v s).gru = s.gru ∧ (writePump v s).bal = s.bal ∧
    (writePump v s).lif = s.lif := by
  simp [writePump]

@[simp] theorem writeFlush_frame (isOpen : Bool) (s : State) :
    (writeFlush isOpen s).pending = s.pending ∧ (writeFlush isOpen s).elapsed = s.elapsed ∧
    (writeFlush isOpen s).phase = s.phase ∧ (writeFlush isOpen s).pauseCause = s.pauseCause ∧
    (writeFlush isOpen s).ring = s.ring ∧ (writeFlush isOpen s).cfg = s.cfg ∧
    (writeFlush isOpen s).ptb = s.ptb ∧ (writeFlush isOpen s).oru = s.oru ∧ (writeFlush isOpen s).dsu = s.dsu ∧
    (writeFlush isOpen s).thu = s.thu ∧ (writeFlush isOpen s).bsq = s.bsq ∧ (writeFlush isOpen s).gru = s.gru ∧
    (writeFlush isOpen s).bal = s.bal ∧ (writeFlush isOpen s).alu = s.alu ∧
    (writeFlush isOpen s).lif = s.lif := by
  refine ⟨?_, ?_, ?_, ?_, ?_, ?_, ?_, ?_, ?_, ?_, ?_, ?_, ?_, ?_, ?_⟩ <;> rfl

@[simp] theorem writeScrew_frame (v : Int) (s : State) :
    (writeScrew v s).pending = s.pending ∧ (writeScrew v s).elapsed = s.elapsed ∧
    (writeScrew v s).phase = s.phase ∧ (writeScrew v s).pauseCause = s.pauseCause ∧
    (writeScrew v s).ring = s.ring ∧ (writeScrew v s).cfg = s.cfg ∧ (writeScrew v s).ptb = s.ptb ∧
    (writeScrew v s).oru = s.oru ∧ (writeScrew v s).dsu = s.dsu ∧ (writeScrew v s).thu = s.thu ∧
    (writeScrew v s).bsq = s.bsq ∧ (writeScrew v s).gru = s.gru ∧ (writeScrew v s).bal = s.bal ∧
    (writeScrew v s).lif = s.lif := by
  simp [writeScrew]

@[simp] theorem writeGate_frame (isOpen : Bool) (s : State) :
    (writeGate isOpen s).pending = s.pending ∧ (writeGate isOpen s).elapsed = s.elapsed ∧
    (writeGate isOpen s).phase = s.phase ∧ (writeGate isOpen s).pauseCause = s.pauseCause ∧
    (writeGate isOpen s).ring = s.ring ∧ (writeGate isOpen s).cfg = s.cfg ∧ (writeGate isOpen s).ptb = s.ptb ∧
    (writeGate isOpen s).oru = s.oru ∧ (writeGate isOpen s).dsu = s.dsu ∧ (writeGate isOpen s).thu = s.thu ∧
    (writeGate isOpen s).bsq = s.bsq ∧ (writeGate isOpen s).gru = s.gru ∧ (writeGate isOpen s).bal = s.bal ∧
    (writeGate isOpen s).alu = s.alu ∧ (writeGate isOpen s).lif = s.lif := by
  refine ⟨?_, ?_, ?_, ?_, ?_, ?_, ?_, ?_, ?_, ?_, ?_, ?_, ?_, ?_, ?_⟩ <;> rfl

@[simp] theorem writeErector_frame (c : ErectorCmd) (s : State) :
    (writeErector c s).pending = s.pending ∧ (writeErector c s).elapsed = s.elapsed ∧
    (writeErector c s).phase = s.phase ∧ (writeErector c s).pauseCause = s.pauseCause ∧
    (writeErector c s).ring = s.ring ∧ (writeErector c s).cfg = s.cfg ∧ (writeErector c s).ptb = s.ptb ∧
    (writeErector c s).oru = s.oru ∧ (writeErector c s).dsu = s.dsu ∧ (writeErector c s).thu = s.thu ∧
    (writeErector c s).bsq = s.bsq ∧ (writeErector c s).gru = s.gru ∧ (writeErector c s).bal = s.bal ∧
    (writeErector c s).alu = s.alu ∧ (writeErector c s).lif = s.lif := by
  refine ⟨?_, ?_, ?_, ?_, ?_, ?_, ?_, ?_, ?_, ?_, ?_, ?_, ?_, ?_, ?_⟩ <;> rfl

@[simp] theorem refreshMotor0_fields (s : State) :
    (refreshMotor0 s).alu.active = s.alu.active ∧ (refreshMotor0 s).alu.entries = s.alu.entries ∧
    (refreshMotor0 s).alu.estop = s.alu.estop ∧ (refreshMotor0 s).alu.duplicate = s.alu.duplicate ∧
    (refreshMotor0 s).fpt.timer = s.fpt.timer ∧ (refreshMotor0 s).fpt.fitted = s.fpt.fitted ∧
    (refreshMotor0 s).fpt.inputs = s.fpt.inputs ∧ (refreshMotor0 s).fpt.estopIn = s.fpt.estopIn ∧
    (refreshMotor0 s).fpt.probe = s.fpt.probe ∧ (refreshMotor0 s).fpt.written = s.fpt.written ∧
    (refreshMotor0 s).fpt.forced = s.fpt.forced := by
  simp [refreshMotor0]

@[simp] theorem refreshMotor1_fields (s : State) :
    (refreshMotor1 s).alu.active = s.alu.active ∧ (refreshMotor1 s).alu.entries = s.alu.entries ∧
    (refreshMotor1 s).alu.estop = s.alu.estop ∧ (refreshMotor1 s).alu.duplicate = s.alu.duplicate ∧
    (refreshMotor1 s).fpt.timer = s.fpt.timer ∧ (refreshMotor1 s).fpt.fitted = s.fpt.fitted ∧
    (refreshMotor1 s).fpt.inputs = s.fpt.inputs ∧ (refreshMotor1 s).fpt.estopIn = s.fpt.estopIn ∧
    (refreshMotor1 s).fpt.probe = s.fpt.probe ∧ (refreshMotor1 s).fpt.written = s.fpt.written ∧
    (refreshMotor1 s).fpt.forced = s.fpt.forced := by
  simp [refreshMotor1]

@[simp] theorem refreshValve_fields (s : State) :
    (refreshValve s).alu.active = s.alu.active ∧ (refreshValve s).alu.entries = s.alu.entries ∧
    (refreshValve s).alu.estop = s.alu.estop ∧ (refreshValve s).alu.duplicate = s.alu.duplicate ∧
    (refreshValve s).fpt.timer = s.fpt.timer ∧ (refreshValve s).fpt.fitted = s.fpt.fitted ∧
    (refreshValve s).fpt.inputs = s.fpt.inputs ∧ (refreshValve s).fpt.estopIn = s.fpt.estopIn ∧
    (refreshValve s).fpt.probe = s.fpt.probe ∧ (refreshValve s).fpt.written = s.fpt.written ∧
    (refreshValve s).fpt.forced = s.fpt.forced := by
  simp [refreshValve]

@[simp] theorem refreshPump_fields (s : State) :
    (refreshPump s).alu.active = s.alu.active ∧ (refreshPump s).alu.entries = s.alu.entries ∧
    (refreshPump s).alu.estop = s.alu.estop ∧ (refreshPump s).alu.duplicate = s.alu.duplicate ∧
    (refreshPump s).fpt.timer = s.fpt.timer ∧ (refreshPump s).fpt.fitted = s.fpt.fitted ∧
    (refreshPump s).fpt.inputs = s.fpt.inputs ∧ (refreshPump s).fpt.estopIn = s.fpt.estopIn ∧
    (refreshPump s).fpt.probe = s.fpt.probe ∧ (refreshPump s).fpt.written = s.fpt.written ∧
    (refreshPump s).fpt.forced = s.fpt.forced := by
  simp [refreshPump]

@[simp] theorem refreshFlush_fields (s : State) :
    (refreshFlush s).fpt.timer = s.fpt.timer ∧ (refreshFlush s).fpt.fitted = s.fpt.fitted ∧
    (refreshFlush s).fpt.inputs = s.fpt.inputs ∧ (refreshFlush s).fpt.estopIn = s.fpt.estopIn ∧
    (refreshFlush s).fpt.probe = s.fpt.probe ∧ (refreshFlush s).fpt.written = s.fpt.written ∧
    (refreshFlush s).fpt.forced = s.fpt.forced := by
  simp [refreshFlush]

@[simp] theorem refreshScrew_fields (s : State) :
    (refreshScrew s).alu.active = s.alu.active ∧ (refreshScrew s).alu.entries = s.alu.entries ∧
    (refreshScrew s).alu.estop = s.alu.estop ∧ (refreshScrew s).alu.duplicate = s.alu.duplicate ∧
    (refreshScrew s).fpt.timer = s.fpt.timer ∧ (refreshScrew s).fpt.fitted = s.fpt.fitted ∧
    (refreshScrew s).fpt.inputs = s.fpt.inputs ∧ (refreshScrew s).fpt.estopIn = s.fpt.estopIn ∧
    (refreshScrew s).fpt.probe = s.fpt.probe ∧ (refreshScrew s).fpt.written = s.fpt.written ∧
    (refreshScrew s).fpt.forced = s.fpt.forced := by
  simp [refreshScrew]

@[simp] theorem refreshGate_fields (s : State) :
    (refreshGate s).fpt.timer = s.fpt.timer ∧ (refreshGate s).fpt.fitted = s.fpt.fitted ∧
    (refreshGate s).fpt.inputs = s.fpt.inputs ∧ (refreshGate s).fpt.estopIn = s.fpt.estopIn ∧
    (refreshGate s).fpt.probe = s.fpt.probe ∧ (refreshGate s).fpt.written = s.fpt.written ∧
    (refreshGate s).fpt.forced = s.fpt.forced := by
  simp [refreshGate]

@[simp] theorem refreshErector_fields (s : State) :
    (refreshErector s).fpt.timer = s.fpt.timer ∧ (refreshErector s).fpt.fitted = s.fpt.fitted ∧
    (refreshErector s).fpt.inputs = s.fpt.inputs ∧ (refreshErector s).fpt.estopIn = s.fpt.estopIn ∧
    (refreshErector s).fpt.probe = s.fpt.probe ∧ (refreshErector s).fpt.written = s.fpt.written ∧
    (refreshErector s).fpt.forced = s.fpt.forced := by
  simp [refreshErector]

@[simp] theorem refreshAll_fields (s : State) :
    (refreshAll s).alu.active = s.alu.active ∧ (refreshAll s).alu.entries = s.alu.entries ∧
    (refreshAll s).alu.estop = s.alu.estop ∧ (refreshAll s).alu.duplicate = s.alu.duplicate ∧
    (refreshAll s).fpt.timer = s.fpt.timer ∧ (refreshAll s).fpt.fitted = s.fpt.fitted ∧
    (refreshAll s).fpt.inputs = s.fpt.inputs ∧ (refreshAll s).fpt.estopIn = s.fpt.estopIn ∧
    (refreshAll s).fpt.probe = s.fpt.probe ∧ (refreshAll s).fpt.written = s.fpt.written ∧
    (refreshAll s).fpt.forced = s.fpt.forced := by
  simp [refreshAll]

@[simp] theorem writeMotor0_fields (v : Int) (s : State) :
    (writeMotor0 v s).alu.active = s.alu.active ∧ (writeMotor0 v s).alu.entries = s.alu.entries ∧
    (writeMotor0 v s).alu.estop = s.alu.estop ∧ (writeMotor0 v s).alu.duplicate = s.alu.duplicate ∧
    (writeMotor0 v s).fpt.timer = s.fpt.timer ∧ (writeMotor0 v s).fpt.fitted = s.fpt.fitted ∧
    (writeMotor0 v s).fpt.inputs = s.fpt.inputs ∧ (writeMotor0 v s).fpt.estopIn = s.fpt.estopIn ∧
    (writeMotor0 v s).fpt.probe = s.fpt.probe ∧ (writeMotor0 v s).fpt.forced = s.fpt.forced := by
  simp [writeMotor0]

@[simp] theorem writeMotor1_fields (v : Int) (s : State) :
    (writeMotor1 v s).alu.active = s.alu.active ∧ (writeMotor1 v s).alu.entries = s.alu.entries ∧
    (writeMotor1 v s).alu.estop = s.alu.estop ∧ (writeMotor1 v s).alu.duplicate = s.alu.duplicate ∧
    (writeMotor1 v s).fpt.timer = s.fpt.timer ∧ (writeMotor1 v s).fpt.fitted = s.fpt.fitted ∧
    (writeMotor1 v s).fpt.inputs = s.fpt.inputs ∧ (writeMotor1 v s).fpt.estopIn = s.fpt.estopIn ∧
    (writeMotor1 v s).fpt.probe = s.fpt.probe ∧ (writeMotor1 v s).fpt.forced = s.fpt.forced := by
  simp [writeMotor1]

@[simp] theorem writeEnable0_fields (b : Bool) (s : State) :
    (writeEnable0 b s).alu.active = s.alu.active ∧ (writeEnable0 b s).alu.entries = s.alu.entries ∧
    (writeEnable0 b s).alu.estop = s.alu.estop ∧ (writeEnable0 b s).alu.duplicate = s.alu.duplicate ∧
    (writeEnable0 b s).fpt.timer = s.fpt.timer ∧ (writeEnable0 b s).fpt.fitted = s.fpt.fitted ∧
    (writeEnable0 b s).fpt.inputs = s.fpt.inputs ∧ (writeEnable0 b s).fpt.estopIn = s.fpt.estopIn ∧
    (writeEnable0 b s).fpt.probe = s.fpt.probe ∧ (writeEnable0 b s).fpt.forced = s.fpt.forced := by
  simp [writeEnable0]

@[simp] theorem writeEnable1_fields (b : Bool) (s : State) :
    (writeEnable1 b s).alu.active = s.alu.active ∧ (writeEnable1 b s).alu.entries = s.alu.entries ∧
    (writeEnable1 b s).alu.estop = s.alu.estop ∧ (writeEnable1 b s).alu.duplicate = s.alu.duplicate ∧
    (writeEnable1 b s).fpt.timer = s.fpt.timer ∧ (writeEnable1 b s).fpt.fitted = s.fpt.fitted ∧
    (writeEnable1 b s).fpt.inputs = s.fpt.inputs ∧ (writeEnable1 b s).fpt.estopIn = s.fpt.estopIn ∧
    (writeEnable1 b s).fpt.probe = s.fpt.probe ∧ (writeEnable1 b s).fpt.forced = s.fpt.forced := by
  simp [writeEnable1]

@[simp] theorem writeValve_fields (m : ValveMode) (p : Int) (s : State) :
    (writeValve m p s).alu.active = s.alu.active ∧ (writeValve m p s).alu.entries = s.alu.entries ∧
    (writeValve m p s).alu.estop = s.alu.estop ∧ (writeValve m p s).alu.duplicate = s.alu.duplicate ∧
    (writeValve m p s).fpt.timer = s.fpt.timer ∧ (writeValve m p s).fpt.fitted = s.fpt.fitted ∧
    (writeValve m p s).fpt.inputs = s.fpt.inputs ∧ (writeValve m p s).fpt.estopIn = s.fpt.estopIn ∧
    (writeValve m p s).fpt.probe = s.fpt.probe ∧ (writeValve m p s).fpt.forced = s.fpt.forced := by
  simp [writeValve]

@[simp] theorem writePump_fields (v : Int) (s : State) :
    (writePump v s).alu.active = s.alu.active ∧ (writePump v s).alu.entries = s.alu.entries ∧
    (writePump v s).alu.estop = s.alu.estop ∧ (writePump v s).alu.duplicate = s.alu.duplicate ∧
    (writePump v s).fpt.timer = s.fpt.timer ∧ (writePump v s).fpt.fitted = s.fpt.fitted ∧
    (writePump v s).fpt.inputs = s.fpt.inputs ∧ (writePump v s).fpt.estopIn = s.fpt.estopIn ∧
    (writePump v s).fpt.probe = s.fpt.probe ∧ (writePump v s).fpt.forced = s.fpt.forced := by
  simp [writePump]

@[simp] theorem writeFlush_fields (isOpen : Bool) (s : State) :
    (writeFlush isOpen s).fpt.timer = s.fpt.timer ∧ (writeFlush isOpen s).fpt.fitted = s.fpt.fitted ∧
    (writeFlush isOpen s).fpt.inputs = s.fpt.inputs ∧ (writeFlush isOpen s).fpt.estopIn = s.fpt.estopIn ∧
    (writeFlush isOpen s).fpt.probe = s.fpt.probe ∧ (writeFlush isOpen s).fpt.forced = s.fpt.forced := by
  simp [writeFlush]

@[simp] theorem writeScrew_fields (v : Int) (s : State) :
    (writeScrew v s).alu.active = s.alu.active ∧ (writeScrew v s).alu.entries = s.alu.entries ∧
    (writeScrew v s).alu.estop = s.alu.estop ∧ (writeScrew v s).alu.duplicate = s.alu.duplicate ∧
    (writeScrew v s).fpt.timer = s.fpt.timer ∧ (writeScrew v s).fpt.fitted = s.fpt.fitted ∧
    (writeScrew v s).fpt.inputs = s.fpt.inputs ∧ (writeScrew v s).fpt.estopIn = s.fpt.estopIn ∧
    (writeScrew v s).fpt.probe = s.fpt.probe ∧ (writeScrew v s).fpt.forced = s.fpt.forced := by
  simp [writeScrew]

@[simp] theorem writeGate_fields (isOpen : Bool) (s : State) :
    (writeGate isOpen s).fpt.timer = s.fpt.timer ∧ (writeGate isOpen s).fpt.fitted = s.fpt.fitted ∧
    (writeGate isOpen s).fpt.inputs = s.fpt.inputs ∧ (writeGate isOpen s).fpt.estopIn = s.fpt.estopIn ∧
    (writeGate isOpen s).fpt.probe = s.fpt.probe ∧ (writeGate isOpen s).fpt.forced = s.fpt.forced := by
  simp [writeGate]

@[simp] theorem writeErector_fields (c : ErectorCmd) (s : State) :
    (writeErector c s).fpt.timer = s.fpt.timer ∧ (writeErector c s).fpt.fitted = s.fpt.fitted ∧
    (writeErector c s).fpt.inputs = s.fpt.inputs ∧ (writeErector c s).fpt.estopIn = s.fpt.estopIn ∧
    (writeErector c s).fpt.probe = s.fpt.probe ∧ (writeErector c s).fpt.forced = s.fpt.forced := by
  simp [writeErector]

/-! ## What a write leaves as written (R165) -/

@[simp] theorem writeMotor0_written (v : Int) (s : State) :
    (writeMotor0 v s).fpt.written = { s.fpt.written with motor0 := v } := by
  simp [writeMotor0]

@[simp] theorem writeMotor1_written (v : Int) (s : State) :
    (writeMotor1 v s).fpt.written = { s.fpt.written with motor1 := v } := by
  simp [writeMotor1]

@[simp] theorem writeEnable0_written (b : Bool) (s : State) :
    (writeEnable0 b s).fpt.written = { s.fpt.written with enable0 := b } := by
  simp [writeEnable0]

@[simp] theorem writeEnable1_written (b : Bool) (s : State) :
    (writeEnable1 b s).fpt.written = { s.fpt.written with enable1 := b } := by
  simp [writeEnable1]

@[simp] theorem writePump_written (v : Int) (s : State) :
    (writePump v s).fpt.written = { s.fpt.written with pump := v } := by
  simp [writePump]

@[simp] theorem writeFlush_written (isOpen : Bool) (s : State) :
    (writeFlush isOpen s).fpt.written = { s.fpt.written with flushOpen := isOpen } := by
  simp [writeFlush]

@[simp] theorem writeScrew_written (v : Int) (s : State) :
    (writeScrew v s).fpt.written = { s.fpt.written with screw := v } := by
  simp [writeScrew]

@[simp] theorem writeGate_written (isOpen : Bool) (s : State) :
    (writeGate isOpen s).fpt.written = { s.fpt.written with gateOpen := isOpen } := by
  simp [writeGate]

@[simp] theorem writeErector_written (c : ErectorCmd) (s : State) :
    (writeErector c s).fpt.written = { s.fpt.written with erector := c } := by
  simp [writeErector]

@[simp] theorem writeValve_written (m : ValveMode) (p : Int) (s : State) :
    (writeValve m p s).fpt.written = { s.fpt.written with valveMode := m, valvePressure := p } := by
  simp [writeValve]

end Sys2Proof.Machine
end

