-- ==== Sys2Proof/Laws/Drive.lean ====
section
/-! SUPPORT. What each operation of Machine/Drive.lean leaves unchanged, block by block and, in the
blocks it changes, field by field. -/

namespace Sys2Proof.Machine

open Sys2Proof

@[simp] theorem writeMotors_frame (s : State) :
    (writeMotors s).pending = s.pending ∧ (writeMotors s).elapsed = s.elapsed ∧
    (writeMotors s).phase = s.phase ∧ (writeMotors s).pauseCause = s.pauseCause ∧
    (writeMotors s).ring = s.ring ∧ (writeMotors s).cfg = s.cfg ∧ (writeMotors s).ptb = s.ptb ∧
    (writeMotors s).oru = s.oru ∧ (writeMotors s).dsu = s.dsu ∧ (writeMotors s).thu = s.thu ∧
    (writeMotors s).bsq = s.bsq ∧ (writeMotors s).gru = s.gru ∧ (writeMotors s).bal = s.bal ∧
    (writeMotors s).lif = s.lif := by
  simp [writeMotors]

@[simp] theorem formTotalTorque_frame (s : State) :
    (formTotalTorque s).pending = s.pending ∧ (formTotalTorque s).elapsed = s.elapsed ∧
    (formTotalTorque s).phase = s.phase ∧ (formTotalTorque s).pauseCause = s.pauseCause ∧
    (formTotalTorque s).ring = s.ring ∧ (formTotalTorque s).cfg = s.cfg ∧ (formTotalTorque s).ptb = s.ptb ∧
    (formTotalTorque s).oru = s.oru ∧ (formTotalTorque s).thu = s.thu ∧ (formTotalTorque s).bsq = s.bsq ∧
    (formTotalTorque s).gru = s.gru ∧ (formTotalTorque s).bal = s.bal ∧ (formTotalTorque s).alu = s.alu ∧
    (formTotalTorque s).fpt = s.fpt ∧ (formTotalTorque s).lif = s.lif := by
  refine ⟨?_, ?_, ?_, ?_, ?_, ?_, ?_, ?_, ?_, ?_, ?_, ?_, ?_, ?_, ?_⟩ <;> rfl

@[simp] theorem torqueArrival_frame (s : State) :
    (torqueArrival s).pending = s.pending ∧ (torqueArrival s).elapsed = s.elapsed ∧
    (torqueArrival s).phase = s.phase ∧ (torqueArrival s).pauseCause = s.pauseCause ∧
    (torqueArrival s).ring = s.ring ∧ (torqueArrival s).cfg = s.cfg ∧ (torqueArrival s).ptb = s.ptb ∧
    (torqueArrival s).oru = s.oru ∧ (torqueArrival s).thu = s.thu ∧ (torqueArrival s).bsq = s.bsq ∧
    (torqueArrival s).gru = s.gru ∧ (torqueArrival s).bal = s.bal ∧ (torqueArrival s).lif = s.lif := by
  simp [torqueArrival]

@[simp] theorem leaveRunning_frame (c : Cutterhead) (s : State) :
    (leaveRunning c s).pending = s.pending ∧ (leaveRunning c s).elapsed = s.elapsed ∧
    (leaveRunning c s).phase = s.phase ∧ (leaveRunning c s).pauseCause = s.pauseCause ∧
    (leaveRunning c s).ring = s.ring ∧ (leaveRunning c s).cfg = s.cfg ∧ (leaveRunning c s).ptb = s.ptb ∧
    (leaveRunning c s).oru = s.oru ∧ (leaveRunning c s).thu = s.thu ∧ (leaveRunning c s).bsq = s.bsq ∧
    (leaveRunning c s).gru = s.gru ∧ (leaveRunning c s).bal = s.bal ∧ (leaveRunning c s).alu = s.alu ∧
    (leaveRunning c s).fpt = s.fpt ∧ (leaveRunning c s).lif = s.lif := by
  refine ⟨?_, ?_, ?_, ?_, ?_, ?_, ?_, ?_, ?_, ?_, ?_, ?_, ?_, ?_, ?_⟩ <;> rfl

@[simp] theorem zeroMotors_frame (s : State) :
    (zeroMotors s).pending = s.pending ∧ (zeroMotors s).elapsed = s.elapsed ∧
    (zeroMotors s).phase = s.phase ∧ (zeroMotors s).pauseCause = s.pauseCause ∧
    (zeroMotors s).ring = s.ring ∧ (zeroMotors s).cfg = s.cfg ∧ (zeroMotors s).ptb = s.ptb ∧
    (zeroMotors s).oru = s.oru ∧ (zeroMotors s).thu = s.thu ∧ (zeroMotors s).bsq = s.bsq ∧
    (zeroMotors s).gru = s.gru ∧ (zeroMotors s).bal = s.bal ∧ (zeroMotors s).lif = s.lif := by
  unfold zeroMotors; split <;> simp

@[simp] theorem driveStandstill_frame (s : State) :
    (driveStandstill s).pending = s.pending ∧ (driveStandstill s).elapsed = s.elapsed ∧
    (driveStandstill s).phase = s.phase ∧ (driveStandstill s).pauseCause = s.pauseCause ∧
    (driveStandstill s).ring = s.ring ∧ (driveStandstill s).cfg = s.cfg ∧ (driveStandstill s).ptb = s.ptb ∧
    (driveStandstill s).oru = s.oru ∧ (driveStandstill s).thu = s.thu ∧ (driveStandstill s).bsq = s.bsq ∧
    (driveStandstill s).gru = s.gru ∧ (driveStandstill s).bal = s.bal ∧ (driveStandstill s).lif = s.lif := by
  unfold driveStandstill; split <;> simp

@[simp] theorem tripCutterhead_frame (s : State) :
    (tripCutterhead s).pending = s.pending ∧ (tripCutterhead s).elapsed = s.elapsed ∧
    (tripCutterhead s).phase = s.phase ∧ (tripCutterhead s).pauseCause = s.pauseCause ∧
    (tripCutterhead s).ring = s.ring ∧ (tripCutterhead s).cfg = s.cfg ∧ (tripCutterhead s).ptb = s.ptb ∧
    (tripCutterhead s).oru = s.oru ∧ (tripCutterhead s).thu = s.thu ∧ (tripCutterhead s).bsq = s.bsq ∧
    (tripCutterhead s).gru = s.gru ∧ (tripCutterhead s).bal = s.bal ∧ (tripCutterhead s).lif = s.lif := by
  simp [tripCutterhead]

@[simp] theorem untrip_frame (s : State) :
    (untrip s).pending = s.pending ∧ (untrip s).elapsed = s.elapsed ∧ (untrip s).phase = s.phase ∧
    (untrip s).pauseCause = s.pauseCause ∧ (untrip s).ring = s.ring ∧ (untrip s).cfg = s.cfg ∧
    (untrip s).ptb = s.ptb ∧ (untrip s).oru = s.oru ∧ (untrip s).thu = s.thu ∧ (untrip s).bsq = s.bsq ∧
    (untrip s).gru = s.gru ∧ (untrip s).bal = s.bal ∧ (untrip s).alu = s.alu ∧ (untrip s).fpt = s.fpt ∧
    (untrip s).lif = s.lif := by
  unfold untrip; split <;> simp

@[simp] theorem setApplied_frame (l : Nat) (s : State) :
    (setApplied l s).pending = s.pending ∧ (setApplied l s).elapsed = s.elapsed ∧
    (setApplied l s).phase = s.phase ∧ (setApplied l s).pauseCause = s.pauseCause ∧
    (setApplied l s).ring = s.ring ∧ (setApplied l s).cfg = s.cfg ∧ (setApplied l s).ptb = s.ptb ∧
    (setApplied l s).oru = s.oru ∧ (setApplied l s).thu = s.thu ∧ (setApplied l s).bsq = s.bsq ∧
    (setApplied l s).gru = s.gru ∧ (setApplied l s).bal = s.bal ∧ (setApplied l s).alu = s.alu ∧
    (setApplied l s).fpt = s.fpt ∧ (setApplied l s).lif = s.lif := by
  unfold setApplied; (repeat' split) <;> simp

@[simp] theorem clearAgreement_frame (s : State) :
    (clearAgreement s).pending = s.pending ∧ (clearAgreement s).elapsed = s.elapsed ∧
    (clearAgreement s).phase = s.phase ∧ (clearAgreement s).pauseCause = s.pauseCause ∧
    (clearAgreement s).ring = s.ring ∧ (clearAgreement s).cfg = s.cfg ∧ (clearAgreement s).oru = s.oru ∧
    (clearAgreement s).dsu = s.dsu ∧ (clearAgreement s).thu = s.thu ∧ (clearAgreement s).bsq = s.bsq ∧
    (clearAgreement s).gru = s.gru ∧ (clearAgreement s).bal = s.bal ∧ (clearAgreement s).alu = s.alu ∧
    (clearAgreement s).fpt = s.fpt ∧ (clearAgreement s).lif = s.lif := by
  refine ⟨?_, ?_, ?_, ?_, ?_, ?_, ?_, ?_, ?_, ?_, ?_, ?_, ?_, ?_, ?_⟩ <;> rfl

@[simp] theorem recomputeCandidate_frame (s : State) :
    (recomputeCandidate s).pending = s.pending ∧ (recomputeCandidate s).elapsed = s.elapsed ∧
    (recomputeCandidate s).phase = s.phase ∧ (recomputeCandidate s).pauseCause = s.pauseCause ∧
    (recomputeCandidate s).ring = s.ring ∧ (recomputeCandidate s).cfg = s.cfg ∧
    (recomputeCandidate s).oru = s.oru ∧ (recomputeCandidate s).thu = s.thu ∧
    (recomputeCandidate s).bsq = s.bsq ∧ (recomputeCandidate s).gru = s.gru ∧
    (recomputeCandidate s).bal = s.bal ∧ (recomputeCandidate s).alu = s.alu ∧
    (recomputeCandidate s).fpt = s.fpt ∧ (recomputeCandidate s).lif = s.lif := by
  unfold recomputeCandidate; split <;> simp

@[simp] theorem riseCheck_frame (s : State) :
    (riseCheck s).pending = s.pending ∧ (riseCheck s).elapsed = s.elapsed ∧ (riseCheck s).phase = s.phase ∧
    (riseCheck s).pauseCause = s.pauseCause ∧ (riseCheck s).ring = s.ring ∧ (riseCheck s).cfg = s.cfg ∧
    (riseCheck s).oru = s.oru ∧ (riseCheck s).thu = s.thu ∧ (riseCheck s).bsq = s.bsq ∧
    (riseCheck s).gru = s.gru ∧ (riseCheck s).bal = s.bal ∧ (riseCheck s).alu = s.alu ∧
    (riseCheck s).fpt = s.fpt ∧ (riseCheck s).lif = s.lif := by
  unfold riseCheck; (repeat' split) <;> simp

@[simp] theorem fallCheck_frame (proposal : Nat) (s : State) :
    (fallCheck proposal s).pending = s.pending ∧ (fallCheck proposal s).elapsed = s.elapsed ∧
    (fallCheck proposal s).phase = s.phase ∧ (fallCheck proposal s).pauseCause = s.pauseCause ∧
    (fallCheck proposal s).ring = s.ring ∧ (fallCheck proposal s).cfg = s.cfg ∧
    (fallCheck proposal s).oru = s.oru ∧ (fallCheck proposal s).thu = s.thu ∧
    (fallCheck proposal s).bsq = s.bsq ∧ (fallCheck proposal s).gru = s.gru ∧
    (fallCheck proposal s).bal = s.bal ∧ (fallCheck proposal s).alu = s.alu ∧
    (fallCheck proposal s).fpt = s.fpt ∧ (fallCheck proposal s).lif = s.lif := by
  unfold fallCheck; split <;> simp

@[simp] theorem repropose_frame (s : State) :
    (repropose s).pending = s.pending ∧ (repropose s).elapsed = s.elapsed ∧ (repropose s).phase = s.phase ∧
    (repropose s).pauseCause = s.pauseCause ∧ (repropose s).ring = s.ring ∧ (repropose s).cfg = s.cfg ∧
    (repropose s).oru = s.oru ∧ (repropose s).thu = s.thu ∧ (repropose s).bsq = s.bsq ∧
    (repropose s).gru = s.gru ∧ (repropose s).bal = s.bal ∧ (repropose s).alu = s.alu ∧
    (repropose s).fpt = s.fpt ∧ (repropose s).lif = s.lif := by
  unfold repropose; split <;> simp

@[simp] theorem countAgreement_frame (j : Nat) (s : State) :
    (countAgreement j s).pending = s.pending ∧ (countAgreement j s).elapsed = s.elapsed ∧
    (countAgreement j s).phase = s.phase ∧ (countAgreement j s).pauseCause = s.pauseCause ∧
    (countAgreement j s).ring = s.ring ∧ (countAgreement j s).cfg = s.cfg ∧ (countAgreement j s).oru = s.oru ∧
    (countAgreement j s).dsu = s.dsu ∧ (countAgreement j s).thu = s.thu ∧ (countAgreement j s).bsq = s.bsq ∧
    (countAgreement j s).gru = s.gru ∧ (countAgreement j s).bal = s.bal ∧ (countAgreement j s).alu = s.alu ∧
    (countAgreement j s).fpt = s.fpt ∧ (countAgreement j s).lif = s.lif := by
  unfold countAgreement; split <;> simp

@[simp] theorem watchPeer_frame (j : Nat) (c : Cutterhead) (s : State) :
    (watchPeer j c s).pending = s.pending ∧ (watchPeer j c s).elapsed = s.elapsed ∧
    (watchPeer j c s).phase = s.phase ∧ (watchPeer j c s).pauseCause = s.pauseCause ∧
    (watchPeer j c s).ring = s.ring ∧ (watchPeer j c s).cfg = s.cfg ∧ (watchPeer j c s).ptb = s.ptb ∧
    (watchPeer j c s).oru = s.oru ∧ (watchPeer j c s).thu = s.thu ∧ (watchPeer j c s).bsq = s.bsq ∧
    (watchPeer j c s).gru = s.gru ∧ (watchPeer j c s).bal = s.bal ∧ (watchPeer j c s).alu = s.alu ∧
    (watchPeer j c s).fpt = s.fpt ∧ (watchPeer j c s).lif = s.lif := by
  refine ⟨?_, ?_, ?_, ?_, ?_, ?_, ?_, ?_, ?_, ?_, ?_, ?_, ?_, ?_, ?_⟩ <;> rfl

@[simp] theorem driveCountedStatus_frame (j : Nat) (r : StatusRecord) (s : State) :
    (driveCountedStatus j r s).pending = s.pending ∧ (driveCountedStatus j r s).elapsed = s.elapsed ∧
    (driveCountedStatus j r s).phase = s.phase ∧ (driveCountedStatus j r s).pauseCause = s.pauseCause ∧
    (driveCountedStatus j r s).ring = s.ring ∧ (driveCountedStatus j r s).cfg = s.cfg ∧
    (driveCountedStatus j r s).oru = s.oru ∧ (driveCountedStatus j r s).thu = s.thu ∧
    (driveCountedStatus j r s).bsq = s.bsq ∧ (driveCountedStatus j r s).gru = s.gru ∧
    (driveCountedStatus j r s).bal = s.bal ∧ (driveCountedStatus j r s).alu = s.alu ∧
    (driveCountedStatus j r s).fpt = s.fpt ∧ (driveCountedStatus j r s).lif = s.lif := by
  simp [driveCountedStatus]

@[simp] theorem drivePresence_frame (j : Nat) (s : State) :
    (drivePresence j s).pending = s.pending ∧ (drivePresence j s).elapsed = s.elapsed ∧
    (drivePresence j s).phase = s.phase ∧ (drivePresence j s).pauseCause = s.pauseCause ∧
    (drivePresence j s).ring = s.ring ∧ (drivePresence j s).cfg = s.cfg ∧ (drivePresence j s).oru = s.oru ∧
    (drivePresence j s).thu = s.thu ∧ (drivePresence j s).bsq = s.bsq ∧ (drivePresence j s).gru = s.gru ∧
    (drivePresence j s).bal = s.bal ∧ (drivePresence j s).alu = s.alu ∧ (drivePresence j s).fpt = s.fpt ∧
    (drivePresence j s).lif = s.lif := by
  unfold drivePresence; split <;> simp

@[simp] theorem rampEnd_frame (s : State) :
    (rampEnd s).pending = s.pending ∧ (rampEnd s).elapsed = s.elapsed ∧ (rampEnd s).phase = s.phase ∧
    (rampEnd s).pauseCause = s.pauseCause ∧ (rampEnd s).ring = s.ring ∧ (rampEnd s).cfg = s.cfg ∧
    (rampEnd s).ptb = s.ptb ∧ (rampEnd s).oru = s.oru ∧ (rampEnd s).thu = s.thu ∧ (rampEnd s).bsq = s.bsq ∧
    (rampEnd s).gru = s.gru ∧ (rampEnd s).bal = s.bal ∧ (rampEnd s).alu = s.alu ∧ (rampEnd s).fpt = s.fpt ∧
    (rampEnd s).lif = s.lif := by
  unfold rampEnd; (repeat' split) <;> simp

@[simp] theorem rampStep_frame (s : State) :
    (rampStep s).pending = s.pending ∧ (rampStep s).elapsed = s.elapsed ∧ (rampStep s).phase = s.phase ∧
    (rampStep s).pauseCause = s.pauseCause ∧ (rampStep s).ring = s.ring ∧ (rampStep s).cfg = s.cfg ∧
    (rampStep s).ptb = s.ptb ∧ (rampStep s).oru = s.oru ∧ (rampStep s).thu = s.thu ∧ (rampStep s).bsq = s.bsq ∧
    (rampStep s).gru = s.gru ∧ (rampStep s).bal = s.bal ∧ (rampStep s).lif = s.lif := by
  unfold rampStep; split <;> simp

@[simp] theorem clearCounts_frame (s : State) :
    (clearCounts s).pending = s.pending ∧ (clearCounts s).elapsed = s.elapsed ∧
    (clearCounts s).phase = s.phase ∧ (clearCounts s).pauseCause = s.pauseCause ∧
    (clearCounts s).ring = s.ring ∧ (clearCounts s).cfg = s.cfg ∧ (clearCounts s).ptb = s.ptb ∧
    (clearCounts s).oru = s.oru ∧ (clearCounts s).thu = s.thu ∧ (clearCounts s).bsq = s.bsq ∧
    (clearCounts s).gru = s.gru ∧ (clearCounts s).bal = s.bal ∧ (clearCounts s).alu = s.alu ∧
    (clearCounts s).fpt = s.fpt ∧ (clearCounts s).lif = s.lif := by
  refine ⟨?_, ?_, ?_, ?_, ?_, ?_, ?_, ?_, ?_, ?_, ?_, ?_, ?_, ?_, ?_⟩ <;> rfl

@[simp] theorem stepChoice_frame (l : Option Nat) (s : State) :
    (stepChoice l s).pending = s.pending ∧ (stepChoice l s).elapsed = s.elapsed ∧
    (stepChoice l s).phase = s.phase ∧ (stepChoice l s).pauseCause = s.pauseCause ∧
    (stepChoice l s).ring = s.ring ∧ (stepChoice l s).cfg = s.cfg ∧ (stepChoice l s).oru = s.oru ∧
    (stepChoice l s).thu = s.thu ∧ (stepChoice l s).bsq = s.bsq ∧ (stepChoice l s).gru = s.gru ∧
    (stepChoice l s).bal = s.bal ∧ (stepChoice l s).alu = s.alu ∧ (stepChoice l s).fpt = s.fpt ∧
    (stepChoice l s).lif = s.lif := by
  unfold stepChoice; split <;> simp

@[simp] theorem compareLoad_frame (load : Int) (s : State) :
    (compareLoad load s).pending = s.pending ∧ (compareLoad load s).elapsed = s.elapsed ∧
    (compareLoad load s).phase = s.phase ∧ (compareLoad load s).pauseCause = s.pauseCause ∧
    (compareLoad load s).ring = s.ring ∧ (compareLoad load s).cfg = s.cfg ∧ (compareLoad load s).oru = s.oru ∧
    (compareLoad load s).thu = s.thu ∧ (compareLoad load s).bsq = s.bsq ∧ (compareLoad load s).gru = s.gru ∧
    (compareLoad load s).bal = s.bal ∧ (compareLoad load s).alu = s.alu ∧ (compareLoad load s).fpt = s.fpt ∧
    (compareLoad load s).lif = s.lif := by
  unfold compareLoad; dsimp only; (repeat' split) <;> simp

@[simp] theorem evaluateLoad_frame (s : State) :
    (evaluateLoad s).pending = s.pending ∧ (evaluateLoad s).elapsed = s.elapsed ∧
    (evaluateLoad s).phase = s.phase ∧ (evaluateLoad s).pauseCause = s.pauseCause ∧
    (evaluateLoad s).ring = s.ring ∧ (evaluateLoad s).cfg = s.cfg ∧ (evaluateLoad s).oru = s.oru ∧
    (evaluateLoad s).thu = s.thu ∧ (evaluateLoad s).bsq = s.bsq ∧ (evaluateLoad s).gru = s.gru ∧
    (evaluateLoad s).bal = s.bal ∧ (evaluateLoad s).fpt = s.fpt ∧ (evaluateLoad s).lif = s.lif := by
  unfold evaluateLoad; split <;> simp

@[simp] theorem dutyEvaluation_frame (s : State) :
    (dutyEvaluation s).pending = s.pending ∧ (dutyEvaluation s).elapsed = s.elapsed ∧
    (dutyEvaluation s).phase = s.phase ∧ (dutyEvaluation s).pauseCause = s.pauseCause ∧
    (dutyEvaluation s).ring = s.ring ∧ (dutyEvaluation s).cfg = s.cfg ∧ (dutyEvaluation s).oru = s.oru ∧
    (dutyEvaluation s).thu = s.thu ∧ (dutyEvaluation s).bsq = s.bsq ∧ (dutyEvaluation s).gru = s.gru ∧
    (dutyEvaluation s).bal = s.bal ∧ (dutyEvaluation s).lif = s.lif := by
  unfold dutyEvaluation; split <;> simp

@[simp] theorem tempArrival_frame (s : State) :
    (tempArrival s).pending = s.pending ∧ (tempArrival s).elapsed = s.elapsed ∧
    (tempArrival s).phase = s.phase ∧ (tempArrival s).pauseCause = s.pauseCause ∧
    (tempArrival s).ring = s.ring ∧ (tempArrival s).cfg = s.cfg ∧ (tempArrival s).oru = s.oru ∧
    (tempArrival s).thu = s.thu ∧ (tempArrival s).bsq = s.bsq ∧ (tempArrival s).gru = s.gru ∧
    (tempArrival s).bal = s.bal ∧ (tempArrival s).alu = s.alu ∧ (tempArrival s).fpt = s.fpt ∧
    (tempArrival s).lif = s.lif := by
  simp [tempArrival]

@[simp] theorem driveRingClose_frame (s : State) :
    (driveRingClose s).pending = s.pending ∧ (driveRingClose s).elapsed = s.elapsed ∧
    (driveRingClose s).phase = s.phase ∧ (driveRingClose s).pauseCause = s.pauseCause ∧
    (driveRingClose s).ring = s.ring ∧ (driveRingClose s).cfg = s.cfg ∧ (driveRingClose s).ptb = s.ptb ∧
    (driveRingClose s).oru = s.oru ∧ (driveRingClose s).thu = s.thu ∧ (driveRingClose s).bsq = s.bsq ∧
    (driveRingClose s).gru = s.gru ∧ (driveRingClose s).bal = s.bal ∧ (driveRingClose s).alu = s.alu ∧
    (driveRingClose s).fpt = s.fpt ∧ (driveRingClose s).lif = s.lif := by
  refine ⟨?_, ?_, ?_, ?_, ?_, ?_, ?_, ?_, ?_, ?_, ?_, ?_, ?_, ?_, ?_⟩ <;> rfl

@[simp] theorem driveRestart_frame (s : State) :
    (driveRestart s).pending = s.pending ∧ (driveRestart s).elapsed = s.elapsed ∧
    (driveRestart s).phase = s.phase ∧ (driveRestart s).pauseCause = s.pauseCause ∧
    (driveRestart s).ring = s.ring ∧ (driveRestart s).cfg = s.cfg ∧ (driveRestart s).ptb = s.ptb ∧
    (driveRestart s).oru = s.oru ∧ (driveRestart s).thu = s.thu ∧ (driveRestart s).bsq = s.bsq ∧
    (driveRestart s).gru = s.gru ∧ (driveRestart s).bal = s.bal ∧ (driveRestart s).lif = s.lif := by
  simp [driveRestart]

@[simp] theorem writeMotors_fields (s : State) :
    (writeMotors s).alu.active = s.alu.active ∧ (writeMotors s).alu.entries = s.alu.entries ∧
    (writeMotors s).alu.estop = s.alu.estop ∧ (writeMotors s).alu.duplicate = s.alu.duplicate ∧
    (writeMotors s).fpt.timer = s.fpt.timer ∧ (writeMotors s).fpt.fitted = s.fpt.fitted ∧
    (writeMotors s).fpt.inputs = s.fpt.inputs ∧ (writeMotors s).fpt.estopIn = s.fpt.estopIn ∧
    (writeMotors s).fpt.probe = s.fpt.probe ∧ (writeMotors s).fpt.forced = s.fpt.forced := by
  simp [writeMotors]

@[simp] theorem formTotalTorque_fields (s : State) :
    (formTotalTorque s).dsu.cutterhead = s.dsu.cutterhead ∧ (formTotalTorque s).dsu.nr = s.dsu.nr ∧
    (formTotalTorque s).dsu.choice = s.dsu.choice ∧ (formTotalTorque s).dsu.downCount = s.dsu.downCount ∧
    (formTotalTorque s).dsu.upCount = s.dsu.upCount ∧ (formTotalTorque s).dsu.throttle = s.dsu.throttle ∧
    (formTotalTorque s).dsu.consoleMax = s.dsu.consoleMax ∧ (formTotalTorque s).dsu.proposed = s.dsu.proposed ∧
    (formTotalTorque s).dsu.applied = s.dsu.applied ∧ (formTotalTorque s).dsu.candidate = s.dsu.candidate ∧
    (formTotalTorque s).dsu.changing = s.dsu.changing ∧ (formTotalTorque s).dsu.rampCap = s.dsu.rampCap ∧
    (formTotalTorque s).dsu.startedAt = s.dsu.startedAt ∧
    (formTotalTorque s).dsu.stoppedSince = s.dsu.stoppedSince ∧
    (formTotalTorque s).dsu.residency = s.dsu.residency ∧ (formTotalTorque s).dsu.timer = s.dsu.timer := by
  simp [formTotalTorque]

@[simp] theorem torqueArrival_fields (s : State) :
    (torqueArrival s).dsu.cutterhead = s.dsu.cutterhead ∧ (torqueArrival s).dsu.nr = s.dsu.nr ∧
    (torqueArrival s).dsu.choice = s.dsu.choice ∧ (torqueArrival s).dsu.downCount = s.dsu.downCount ∧
    (torqueArrival s).dsu.upCount = s.dsu.upCount ∧ (torqueArrival s).dsu.throttle = s.dsu.throttle ∧
    (torqueArrival s).dsu.consoleMax = s.dsu.consoleMax ∧ (torqueArrival s).dsu.proposed = s.dsu.proposed ∧
    (torqueArrival s).dsu.applied = s.dsu.applied ∧ (torqueArrival s).dsu.candidate = s.dsu.candidate ∧
    (torqueArrival s).dsu.changing = s.dsu.changing ∧ (torqueArrival s).dsu.rampCap = s.dsu.rampCap ∧
    (torqueArrival s).dsu.startedAt = s.dsu.startedAt ∧
    (torqueArrival s).dsu.stoppedSince = s.dsu.stoppedSince ∧
    (torqueArrival s).dsu.residency = s.dsu.residency ∧ (torqueArrival s).dsu.timer = s.dsu.timer ∧
    (torqueArrival s).alu.active = s.alu.active ∧ (torqueArrival s).alu.entries = s.alu.entries ∧
    (torqueArrival s).alu.estop = s.alu.estop ∧ (torqueArrival s).alu.duplicate = s.alu.duplicate ∧
    (torqueArrival s).fpt.timer = s.fpt.timer ∧ (torqueArrival s).fpt.fitted = s.fpt.fitted ∧
    (torqueArrival s).fpt.inputs = s.fpt.inputs ∧ (torqueArrival s).fpt.estopIn = s.fpt.estopIn ∧
    (torqueArrival s).fpt.probe = s.fpt.probe ∧ (torqueArrival s).fpt.forced = s.fpt.forced := by
  simp [torqueArrival]

@[simp] theorem leaveRunning_fields (c : Cutterhead) (s : State) :
    (leaveRunning c s).dsu.nr = s.dsu.nr ∧ (leaveRunning c s).dsu.choice = s.dsu.choice ∧
    (leaveRunning c s).dsu.throttle = s.dsu.throttle ∧ (leaveRunning c s).dsu.consoleMax = s.dsu.consoleMax ∧
    (leaveRunning c s).dsu.proposed = s.dsu.proposed ∧ (leaveRunning c s).dsu.applied = s.dsu.applied ∧
    (leaveRunning c s).dsu.candidate = s.dsu.candidate ∧ (leaveRunning c s).dsu.rampCap = s.dsu.rampCap ∧
    (leaveRunning c s).dsu.startedAt = s.dsu.startedAt ∧
    (leaveRunning c s).dsu.stoppedSince = s.dsu.stoppedSince ∧
    (leaveRunning c s).dsu.overtorque = s.dsu.overtorque ∧ (leaveRunning c s).dsu.jam = s.dsu.jam ∧
    (leaveRunning c s).dsu.ringMax = s.dsu.ringMax ∧ (leaveRunning c s).dsu.residency = s.dsu.residency ∧
    (leaveRunning c s).dsu.timer = s.dsu.timer := by
  simp [leaveRunning]

@[simp] theorem zeroMotors_fields (s : State) :
    (zeroMotors s).dsu.choice = s.dsu.choice ∧ (zeroMotors s).dsu.throttle = s.dsu.throttle ∧
    (zeroMotors s).dsu.consoleMax = s.dsu.consoleMax ∧ (zeroMotors s).dsu.proposed = s.dsu.proposed ∧
    (zeroMotors s).dsu.applied = s.dsu.applied ∧ (zeroMotors s).dsu.candidate = s.dsu.candidate ∧
    (zeroMotors s).dsu.rampCap = s.dsu.rampCap ∧ (zeroMotors s).dsu.startedAt = s.dsu.startedAt ∧
    (zeroMotors s).dsu.stoppedSince = s.dsu.stoppedSince ∧
    (zeroMotors s).dsu.overtorque = s.dsu.overtorque ∧ (zeroMotors s).dsu.jam = s.dsu.jam ∧
    (zeroMotors s).dsu.ringMax = s.dsu.ringMax ∧ (zeroMotors s).dsu.residency = s.dsu.residency ∧
    (zeroMotors s).dsu.timer = s.dsu.timer ∧ (zeroMotors s).alu.active = s.alu.active ∧
    (zeroMotors s).alu.entries = s.alu.entries ∧ (zeroMotors s).alu.estop = s.alu.estop ∧
    (zeroMotors s).alu.duplicate = s.alu.duplicate ∧ (zeroMotors s).fpt.timer = s.fpt.timer ∧
    (zeroMotors s).fpt.fitted = s.fpt.fitted ∧ (zeroMotors s).fpt.inputs = s.fpt.inputs ∧
    (zeroMotors s).fpt.estopIn = s.fpt.estopIn ∧ (zeroMotors s).fpt.probe = s.fpt.probe ∧
    (zeroMotors s).fpt.forced = s.fpt.forced := by
  unfold zeroMotors; split <;> simp

@[simp] theorem driveStandstill_fields (s : State) :
    (driveStandstill s).dsu.choice = s.dsu.choice ∧ (driveStandstill s).dsu.throttle = s.dsu.throttle ∧
    (driveStandstill s).dsu.consoleMax = s.dsu.consoleMax ∧ (driveStandstill s).dsu.proposed = s.dsu.proposed ∧
    (driveStandstill s).dsu.applied = s.dsu.applied ∧ (driveStandstill s).dsu.candidate = s.dsu.candidate ∧
    (driveStandstill s).dsu.rampCap = s.dsu.rampCap ∧ (driveStandstill s).dsu.startedAt = s.dsu.startedAt ∧
    (driveStandstill s).dsu.stoppedSince = s.dsu.stoppedSince ∧
    (driveStandstill s).dsu.overtorque = s.dsu.overtorque ∧ (driveStandstill s).dsu.jam = s.dsu.jam ∧
    (driveStandstill s).dsu.ringMax = s.dsu.ringMax ∧ (driveStandstill s).dsu.residency = s.dsu.residency ∧
    (driveStandstill s).dsu.timer = s.dsu.timer ∧ (driveStandstill s).alu.active = s.alu.active ∧
    (driveStandstill s).alu.entries = s.alu.entries ∧ (driveStandstill s).alu.estop = s.alu.estop ∧
    (driveStandstill s).alu.duplicate = s.alu.duplicate ∧ (driveStandstill s).fpt.timer = s.fpt.timer ∧
    (driveStandstill s).fpt.fitted = s.fpt.fitted ∧ (driveStandstill s).fpt.inputs = s.fpt.inputs ∧
    (driveStandstill s).fpt.estopIn = s.fpt.estopIn ∧ (driveStandstill s).fpt.probe = s.fpt.probe ∧
    (driveStandstill s).fpt.forced = s.fpt.forced := by
  unfold driveStandstill; split <;> simp

@[simp] theorem tripCutterhead_fields (s : State) :
    (tripCutterhead s).dsu.choice = s.dsu.choice ∧ (tripCutterhead s).dsu.throttle = s.dsu.throttle ∧
    (tripCutterhead s).dsu.consoleMax = s.dsu.consoleMax ∧ (tripCutterhead s).dsu.proposed = s.dsu.proposed ∧
    (tripCutterhead s).dsu.applied = s.dsu.applied ∧ (tripCutterhead s).dsu.candidate = s.dsu.candidate ∧
    (tripCutterhead s).dsu.rampCap = s.dsu.rampCap ∧ (tripCutterhead s).dsu.startedAt = s.dsu.startedAt ∧
    (tripCutterhead s).dsu.stoppedSince = s.dsu.stoppedSince ∧
    (tripCutterhead s).dsu.overtorque = s.dsu.overtorque ∧ (tripCutterhead s).dsu.jam = s.dsu.jam ∧
    (tripCutterhead s).dsu.ringMax = s.dsu.ringMax ∧ (tripCutterhead s).dsu.residency = s.dsu.residency ∧
    (tripCutterhead s).dsu.timer = s.dsu.timer ∧ (tripCutterhead s).alu.active = s.alu.active ∧
    (tripCutterhead s).alu.entries = s.alu.entries ∧ (tripCutterhead s).alu.estop = s.alu.estop ∧
    (tripCutterhead s).alu.duplicate = s.alu.duplicate ∧ (tripCutterhead s).fpt.timer = s.fpt.timer ∧
    (tripCutterhead s).fpt.fitted = s.fpt.fitted ∧ (tripCutterhead s).fpt.inputs = s.fpt.inputs ∧
    (tripCutterhead s).fpt.estopIn = s.fpt.estopIn ∧ (tripCutterhead s).fpt.probe = s.fpt.probe ∧
    (tripCutterhead s).fpt.forced = s.fpt.forced := by
  simp [tripCutterhead]

@[simp] theorem untrip_fields (s : State) :
    (untrip s).dsu.nr = s.dsu.nr ∧ (untrip s).dsu.choice = s.dsu.choice ∧
    (untrip s).dsu.downCount = s.dsu.downCount ∧ (untrip s).dsu.upCount = s.dsu.upCount ∧
    (untrip s).dsu.throttle = s.dsu.throttle ∧ (untrip s).dsu.consoleMax = s.dsu.consoleMax ∧
    (untrip s).dsu.proposed = s.dsu.proposed ∧ (untrip s).dsu.applied = s.dsu.applied ∧
    (untrip s).dsu.candidate = s.dsu.candidate ∧ (untrip s).dsu.changing = s.dsu.changing ∧
    (untrip s).dsu.rampCap = s.dsu.rampCap ∧ (untrip s).dsu.startedAt = s.dsu.startedAt ∧
    (untrip s).dsu.stoppedSince = s.dsu.stoppedSince ∧ (untrip s).dsu.overtorque = s.dsu.overtorque ∧
    (untrip s).dsu.jam = s.dsu.jam ∧ (untrip s).dsu.ringMax = s.dsu.ringMax ∧
    (untrip s).dsu.residency = s.dsu.residency ∧ (untrip s).dsu.timer = s.dsu.timer := by
  unfold untrip; split <;> simp

@[simp] theorem setApplied_fields (l : Nat) (s : State) :
    (setApplied l s).dsu.cutterhead = s.dsu.cutterhead ∧ (setApplied l s).dsu.nr = s.dsu.nr ∧
    (setApplied l s).dsu.choice = s.dsu.choice ∧ (setApplied l s).dsu.downCount = s.dsu.downCount ∧
    (setApplied l s).dsu.upCount = s.dsu.upCount ∧ (setApplied l s).dsu.throttle = s.dsu.throttle ∧
    (setApplied l s).dsu.consoleMax = s.dsu.consoleMax ∧ (setApplied l s).dsu.proposed = s.dsu.proposed ∧
    (setApplied l s).dsu.candidate = s.dsu.candidate ∧ (setApplied l s).dsu.startedAt = s.dsu.startedAt ∧
    (setApplied l s).dsu.stoppedSince = s.dsu.stoppedSince ∧
    (setApplied l s).dsu.overtorque = s.dsu.overtorque ∧ (setApplied l s).dsu.jam = s.dsu.jam ∧
    (setApplied l s).dsu.ringMax = s.dsu.ringMax ∧ (setApplied l s).dsu.residency = s.dsu.residency ∧
    (setApplied l s).dsu.timer = s.dsu.timer := by
  unfold setApplied; (repeat' split) <;> simp

@[simp] theorem clearAgreement_fields (s : State) :
    (clearAgreement s).ptb.console = s.ptb.console ∧ (clearAgreement s).ptb.endOfListen = s.ptb.endOfListen ∧
    (clearAgreement s).ptb.listenEnd = s.ptb.listenEnd ∧ (clearAgreement s).ptb.erector = s.ptb.erector ∧
    (clearAgreement s).ptb.conveyor = s.ptb.conveyor ∧ (clearAgreement s).ptb.exErector = s.ptb.exErector ∧
    (clearAgreement s).ptb.exConveyor = s.ptb.exConveyor := by
  simp [clearAgreement]

@[simp] theorem recomputeCandidate_fields (s : State) :
    (recomputeCandidate s).ptb.console = s.ptb.console ∧
    (recomputeCandidate s).ptb.endOfListen = s.ptb.endOfListen ∧
    (recomputeCandidate s).ptb.listenEnd = s.ptb.listenEnd ∧
    (recomputeCandidate s).ptb.erector = s.ptb.erector ∧ (recomputeCandidate s).ptb.conveyor = s.ptb.conveyor ∧
    (recomputeCandidate s).ptb.exErector = s.ptb.exErector ∧
    (recomputeCandidate s).ptb.exConveyor = s.ptb.exConveyor ∧
    (recomputeCandidate s).dsu.cutterhead = s.dsu.cutterhead ∧ (recomputeCandidate s).dsu.nr = s.dsu.nr ∧
    (recomputeCandidate s).dsu.choice = s.dsu.choice ∧ (recomputeCandidate s).dsu.downCount = s.dsu.downCount ∧
    (recomputeCandidate s).dsu.upCount = s.dsu.upCount ∧ (recomputeCandidate s).dsu.throttle = s.dsu.throttle ∧
    (recomputeCandidate s).dsu.consoleMax = s.dsu.consoleMax ∧
    (recomputeCandidate s).dsu.proposed = s.dsu.proposed ∧ (recomputeCandidate s).dsu.applied = s.dsu.applied ∧
    (recomputeCandidate s).dsu.changing = s.dsu.changing ∧ (recomputeCandidate s).dsu.rampCap = s.dsu.rampCap ∧
    (recomputeCandidate s).dsu.startedAt = s.dsu.startedAt ∧
    (recomputeCandidate s).dsu.stoppedSince = s.dsu.stoppedSince ∧
    (recomputeCandidate s).dsu.overtorque = s.dsu.overtorque ∧ (recomputeCandidate s).dsu.jam = s.dsu.jam ∧
    (recomputeCandidate s).dsu.ringMax = s.dsu.ringMax ∧
    (recomputeCandidate s).dsu.residency = s.dsu.residency ∧
    (recomputeCandidate s).dsu.timer = s.dsu.timer := by
  unfold recomputeCandidate; split <;> simp

@[simp] theorem riseCheck_fields (s : State) :
    (riseCheck s).ptb.console = s.ptb.console ∧ (riseCheck s).ptb.endOfListen = s.ptb.endOfListen ∧
    (riseCheck s).ptb.listenEnd = s.ptb.listenEnd ∧ (riseCheck s).ptb.erector = s.ptb.erector ∧
    (riseCheck s).ptb.conveyor = s.ptb.conveyor ∧ (riseCheck s).ptb.exErector = s.ptb.exErector ∧
    (riseCheck s).ptb.exConveyor = s.ptb.exConveyor ∧ (riseCheck s).dsu.cutterhead = s.dsu.cutterhead ∧
    (riseCheck s).dsu.nr = s.dsu.nr ∧ (riseCheck s).dsu.choice = s.dsu.choice ∧
    (riseCheck s).dsu.downCount = s.dsu.downCount ∧ (riseCheck s).dsu.upCount = s.dsu.upCount ∧
    (riseCheck s).dsu.throttle = s.dsu.throttle ∧ (riseCheck s).dsu.consoleMax = s.dsu.consoleMax ∧
    (riseCheck s).dsu.proposed = s.dsu.proposed ∧ (riseCheck s).dsu.startedAt = s.dsu.startedAt ∧
    (riseCheck s).dsu.stoppedSince = s.dsu.stoppedSince ∧ (riseCheck s).dsu.overtorque = s.dsu.overtorque ∧
    (riseCheck s).dsu.jam = s.dsu.jam ∧ (riseCheck s).dsu.ringMax = s.dsu.ringMax ∧
    (riseCheck s).dsu.residency = s.dsu.residency ∧ (riseCheck s).dsu.timer = s.dsu.timer := by
  unfold riseCheck; (repeat' split) <;> simp

@[simp] theorem fallCheck_fields (proposal : Nat) (s : State) :
    (fallCheck proposal s).ptb.console = s.ptb.console ∧
    (fallCheck proposal s).ptb.endOfListen = s.ptb.endOfListen ∧
    (fallCheck proposal s).ptb.listenEnd = s.ptb.listenEnd ∧
    (fallCheck proposal s).ptb.erector = s.ptb.erector ∧ (fallCheck proposal s).ptb.conveyor = s.ptb.conveyor ∧
    (fallCheck proposal s).ptb.exErector = s.ptb.exErector ∧
    (fallCheck proposal s).ptb.exConveyor = s.ptb.exConveyor ∧
    (fallCheck proposal s).dsu.cutterhead = s.dsu.cutterhead ∧ (fallCheck proposal s).dsu.nr = s.dsu.nr ∧
    (fallCheck proposal s).dsu.choice = s.dsu.choice ∧ (fallCheck proposal s).dsu.downCount = s.dsu.downCount ∧
    (fallCheck proposal s).dsu.upCount = s.dsu.upCount ∧ (fallCheck proposal s).dsu.throttle = s.dsu.throttle ∧
    (fallCheck proposal s).dsu.consoleMax = s.dsu.consoleMax ∧
    (fallCheck proposal s).dsu.proposed = s.dsu.proposed ∧
    (fallCheck proposal s).dsu.startedAt = s.dsu.startedAt ∧
    (fallCheck proposal s).dsu.stoppedSince = s.dsu.stoppedSince ∧
    (fallCheck proposal s).dsu.overtorque = s.dsu.overtorque ∧ (fallCheck proposal s).dsu.jam = s.dsu.jam ∧
    (fallCheck proposal s).dsu.ringMax = s.dsu.ringMax ∧
    (fallCheck proposal s).dsu.residency = s.dsu.residency ∧
    (fallCheck proposal s).dsu.timer = s.dsu.timer := by
  unfold fallCheck; split <;> simp

@[simp] theorem repropose_fields (s : State) :
    (repropose s).ptb.console = s.ptb.console ∧ (repropose s).ptb.endOfListen = s.ptb.endOfListen ∧
    (repropose s).ptb.listenEnd = s.ptb.listenEnd ∧ (repropose s).ptb.erector = s.ptb.erector ∧
    (repropose s).ptb.conveyor = s.ptb.conveyor ∧ (repropose s).ptb.exErector = s.ptb.exErector ∧
    (repropose s).ptb.exConveyor = s.ptb.exConveyor ∧ (repropose s).dsu.cutterhead = s.dsu.cutterhead ∧
    (repropose s).dsu.nr = s.dsu.nr ∧ (repropose s).dsu.choice = s.dsu.choice ∧
    (repropose s).dsu.downCount = s.dsu.downCount ∧ (repropose s).dsu.upCount = s.dsu.upCount ∧
    (repropose s).dsu.throttle = s.dsu.throttle ∧ (repropose s).dsu.consoleMax = s.dsu.consoleMax ∧
    (repropose s).dsu.startedAt = s.dsu.startedAt ∧ (repropose s).dsu.stoppedSince = s.dsu.stoppedSince ∧
    (repropose s).dsu.overtorque = s.dsu.overtorque ∧ (repropose s).dsu.jam = s.dsu.jam ∧
    (repropose s).dsu.ringMax = s.dsu.ringMax ∧ (repropose s).dsu.residency = s.dsu.residency ∧
    (repropose s).dsu.timer = s.dsu.timer := by
  unfold repropose; split <;> simp

@[simp] theorem countAgreement_fields (j : Nat) (s : State) :
    (countAgreement j s).ptb.console = s.ptb.console ∧
    (countAgreement j s).ptb.endOfListen = s.ptb.endOfListen ∧
    (countAgreement j s).ptb.listenEnd = s.ptb.listenEnd ∧ (countAgreement j s).ptb.erector = s.ptb.erector ∧
    (countAgreement j s).ptb.conveyor = s.ptb.conveyor ∧ (countAgreement j s).ptb.exErector = s.ptb.exErector ∧
    (countAgreement j s).ptb.exConveyor = s.ptb.exConveyor := by
  unfold countAgreement; split <;> simp

@[simp] theorem watchPeer_fields (j : Nat) (c : Cutterhead) (s : State) :
    (watchPeer j c s).dsu.cutterhead = s.dsu.cutterhead ∧ (watchPeer j c s).dsu.nr = s.dsu.nr ∧
    (watchPeer j c s).dsu.choice = s.dsu.choice ∧ (watchPeer j c s).dsu.downCount = s.dsu.downCount ∧
    (watchPeer j c s).dsu.upCount = s.dsu.upCount ∧ (watchPeer j c s).dsu.throttle = s.dsu.throttle ∧
    (watchPeer j c s).dsu.consoleMax = s.dsu.consoleMax ∧ (watchPeer j c s).dsu.proposed = s.dsu.proposed ∧
    (watchPeer j c s).dsu.applied = s.dsu.applied ∧ (watchPeer j c s).dsu.candidate = s.dsu.candidate ∧
    (watchPeer j c s).dsu.changing = s.dsu.changing ∧ (watchPeer j c s).dsu.rampCap = s.dsu.rampCap ∧
    (watchPeer j c s).dsu.startedAt = s.dsu.startedAt ∧ (watchPeer j c s).dsu.overtorque = s.dsu.overtorque ∧
    (watchPeer j c s).dsu.jam = s.dsu.jam ∧ (watchPeer j c s).dsu.ringMax = s.dsu.ringMax ∧
    (watchPeer j c s).dsu.residency = s.dsu.residency ∧ (watchPeer j c s).dsu.timer = s.dsu.timer := by
  simp [watchPeer]

@[simp] theorem driveCountedStatus_fields (j : Nat) (r : StatusRecord) (s : State) :
    (driveCountedStatus j r s).ptb.console = s.ptb.console ∧
    (driveCountedStatus j r s).ptb.endOfListen = s.ptb.endOfListen ∧
    (driveCountedStatus j r s).ptb.listenEnd = s.ptb.listenEnd ∧
    (driveCountedStatus j r s).ptb.erector = s.ptb.erector ∧
    (driveCountedStatus j r s).ptb.conveyor = s.ptb.conveyor ∧
    (driveCountedStatus j r s).ptb.exErector = s.ptb.exErector ∧
    (driveCountedStatus j r s).ptb.exConveyor = s.ptb.exConveyor ∧
    (driveCountedStatus j r s).dsu.cutterhead = s.dsu.cutterhead ∧
    (driveCountedStatus j r s).dsu.nr = s.dsu.nr ∧ (driveCountedStatus j r s).dsu.choice = s.dsu.choice ∧
    (driveCountedStatus j r s).dsu.downCount = s.dsu.downCount ∧
    (driveCountedStatus j r s).dsu.upCount = s.dsu.upCount ∧
    (driveCountedStatus j r s).dsu.throttle = s.dsu.throttle ∧
    (driveCountedStatus j r s).dsu.consoleMax = s.dsu.consoleMax ∧
    (driveCountedStatus j r s).dsu.proposed = s.dsu.proposed ∧
    (driveCountedStatus j r s).dsu.startedAt = s.dsu.startedAt ∧
    (driveCountedStatus j r s).dsu.overtorque = s.dsu.overtorque ∧
    (driveCountedStatus j r s).dsu.jam = s.dsu.jam ∧ (driveCountedStatus j r s).dsu.ringMax = s.dsu.ringMax ∧
    (driveCountedStatus j r s).dsu.residency = s.dsu.residency ∧
    (driveCountedStatus j r s).dsu.timer = s.dsu.timer := by
  simp [driveCountedStatus]

@[simp] theorem drivePresence_fields (j : Nat) (s : State) :
    (drivePresence j s).ptb.console = s.ptb.console ∧ (drivePresence j s).ptb.endOfListen = s.ptb.endOfListen ∧
    (drivePresence j s).ptb.listenEnd = s.ptb.listenEnd ∧ (drivePresence j s).ptb.erector = s.ptb.erector ∧
    (drivePresence j s).ptb.conveyor = s.ptb.conveyor ∧ (drivePresence j s).ptb.exErector = s.ptb.exErector ∧
    (drivePresence j s).ptb.exConveyor = s.ptb.exConveyor ∧
    (drivePresence j s).dsu.cutterhead = s.dsu.cutterhead ∧ (drivePresence j s).dsu.nr = s.dsu.nr ∧
    (drivePresence j s).dsu.choice = s.dsu.choice ∧ (drivePresence j s).dsu.downCount = s.dsu.downCount ∧
    (drivePresence j s).dsu.upCount = s.dsu.upCount ∧ (drivePresence j s).dsu.throttle = s.dsu.throttle ∧
    (drivePresence j s).dsu.consoleMax = s.dsu.consoleMax ∧ (drivePresence j s).dsu.proposed = s.dsu.proposed ∧
    (drivePresence j s).dsu.startedAt = s.dsu.startedAt ∧
    (drivePresence j s).dsu.overtorque = s.dsu.overtorque ∧ (drivePresence j s).dsu.jam = s.dsu.jam ∧
    (drivePresence j s).dsu.ringMax = s.dsu.ringMax ∧ (drivePresence j s).dsu.residency = s.dsu.residency ∧
    (drivePresence j s).dsu.timer = s.dsu.timer := by
  unfold drivePresence; split <;> simp

@[simp] theorem rampEnd_fields (s : State) :
    (rampEnd s).dsu.nr = s.dsu.nr ∧ (rampEnd s).dsu.choice = s.dsu.choice ∧
    (rampEnd s).dsu.downCount = s.dsu.downCount ∧ (rampEnd s).dsu.upCount = s.dsu.upCount ∧
    (rampEnd s).dsu.throttle = s.dsu.throttle ∧ (rampEnd s).dsu.consoleMax = s.dsu.consoleMax ∧
    (rampEnd s).dsu.proposed = s.dsu.proposed ∧ (rampEnd s).dsu.applied = s.dsu.applied ∧
    (rampEnd s).dsu.candidate = s.dsu.candidate ∧ (rampEnd s).dsu.rampCap = s.dsu.rampCap ∧
    (rampEnd s).dsu.startedAt = s.dsu.startedAt ∧ (rampEnd s).dsu.stoppedSince = s.dsu.stoppedSince ∧
    (rampEnd s).dsu.overtorque = s.dsu.overtorque ∧ (rampEnd s).dsu.jam = s.dsu.jam ∧
    (rampEnd s).dsu.ringMax = s.dsu.ringMax ∧ (rampEnd s).dsu.residency = s.dsu.residency ∧
    (rampEnd s).dsu.timer = s.dsu.timer := by
  unfold rampEnd; (repeat' split) <;> simp

@[simp] theorem rampStep_fields (s : State) :
    (rampStep s).dsu.choice = s.dsu.choice ∧ (rampStep s).dsu.downCount = s.dsu.downCount ∧
    (rampStep s).dsu.upCount = s.dsu.upCount ∧ (rampStep s).dsu.throttle = s.dsu.throttle ∧
    (rampStep s).dsu.consoleMax = s.dsu.consoleMax ∧ (rampStep s).dsu.proposed = s.dsu.proposed ∧
    (rampStep s).dsu.applied = s.dsu.applied ∧ (rampStep s).dsu.candidate = s.dsu.candidate ∧
    (rampStep s).dsu.rampCap = s.dsu.rampCap ∧ (rampStep s).dsu.startedAt = s.dsu.startedAt ∧
    (rampStep s).dsu.stoppedSince = s.dsu.stoppedSince ∧ (rampStep s).dsu.overtorque = s.dsu.overtorque ∧
    (rampStep s).dsu.jam = s.dsu.jam ∧ (rampStep s).dsu.ringMax = s.dsu.ringMax ∧
    (rampStep s).dsu.residency = s.dsu.residency ∧ (rampStep s).dsu.timer = s.dsu.timer ∧
    (rampStep s).alu.active = s.alu.active ∧ (rampStep s).alu.entries = s.alu.entries ∧
    (rampStep s).alu.estop = s.alu.estop ∧ (rampStep s).alu.duplicate = s.alu.duplicate ∧
    (rampStep s).fpt.timer = s.fpt.timer ∧ (rampStep s).fpt.fitted = s.fpt.fitted ∧
    (rampStep s).fpt.inputs = s.fpt.inputs ∧ (rampStep s).fpt.estopIn = s.fpt.estopIn ∧
    (rampStep s).fpt.probe = s.fpt.probe ∧ (rampStep s).fpt.forced = s.fpt.forced := by
  unfold rampStep; split <;> simp

@[simp] theorem clearCounts_fields (s : State) :
    (clearCounts s).dsu.cutterhead = s.dsu.cutterhead ∧ (clearCounts s).dsu.nr = s.dsu.nr ∧
    (clearCounts s).dsu.choice = s.dsu.choice ∧ (clearCounts s).dsu.throttle = s.dsu.throttle ∧
    (clearCounts s).dsu.consoleMax = s.dsu.consoleMax ∧ (clearCounts s).dsu.proposed = s.dsu.proposed ∧
    (clearCounts s).dsu.applied = s.dsu.applied ∧ (clearCounts s).dsu.candidate = s.dsu.candidate ∧
    (clearCounts s).dsu.changing = s.dsu.changing ∧ (clearCounts s).dsu.rampCap = s.dsu.rampCap ∧
    (clearCounts s).dsu.startedAt = s.dsu.startedAt ∧ (clearCounts s).dsu.stoppedSince = s.dsu.stoppedSince ∧
    (clearCounts s).dsu.overtorque = s.dsu.overtorque ∧ (clearCounts s).dsu.jam = s.dsu.jam ∧
    (clearCounts s).dsu.ringMax = s.dsu.ringMax ∧ (clearCounts s).dsu.residency = s.dsu.residency ∧
    (clearCounts s).dsu.timer = s.dsu.timer := by
  simp [clearCounts]

@[simp] theorem stepChoice_fields (l : Option Nat) (s : State) :
    (stepChoice l s).ptb.console = s.ptb.console ∧ (stepChoice l s).ptb.endOfListen = s.ptb.endOfListen ∧
    (stepChoice l s).ptb.listenEnd = s.ptb.listenEnd ∧ (stepChoice l s).ptb.erector = s.ptb.erector ∧
    (stepChoice l s).ptb.conveyor = s.ptb.conveyor ∧ (stepChoice l s).ptb.exErector = s.ptb.exErector ∧
    (stepChoice l s).ptb.exConveyor = s.ptb.exConveyor ∧ (stepChoice l s).dsu.cutterhead = s.dsu.cutterhead ∧
    (stepChoice l s).dsu.nr = s.dsu.nr ∧ (stepChoice l s).dsu.throttle = s.dsu.throttle ∧
    (stepChoice l s).dsu.consoleMax = s.dsu.consoleMax ∧ (stepChoice l s).dsu.startedAt = s.dsu.startedAt ∧
    (stepChoice l s).dsu.stoppedSince = s.dsu.stoppedSince ∧
    (stepChoice l s).dsu.overtorque = s.dsu.overtorque ∧ (stepChoice l s).dsu.jam = s.dsu.jam ∧
    (stepChoice l s).dsu.ringMax = s.dsu.ringMax ∧ (stepChoice l s).dsu.residency = s.dsu.residency ∧
    (stepChoice l s).dsu.timer = s.dsu.timer := by
  unfold stepChoice; split <;> simp

@[simp] theorem compareLoad_fields (load : Int) (s : State) :
    (compareLoad load s).ptb.console = s.ptb.console ∧
    (compareLoad load s).ptb.endOfListen = s.ptb.endOfListen ∧
    (compareLoad load s).ptb.listenEnd = s.ptb.listenEnd ∧ (compareLoad load s).ptb.erector = s.ptb.erector ∧
    (compareLoad load s).ptb.conveyor = s.ptb.conveyor ∧ (compareLoad load s).ptb.exErector = s.ptb.exErector ∧
    (compareLoad load s).ptb.exConveyor = s.ptb.exConveyor ∧
    (compareLoad load s).dsu.cutterhead = s.dsu.cutterhead ∧ (compareLoad load s).dsu.nr = s.dsu.nr ∧
    (compareLoad load s).dsu.throttle = s.dsu.throttle ∧
    (compareLoad load s).dsu.consoleMax = s.dsu.consoleMax ∧
    (compareLoad load s).dsu.startedAt = s.dsu.startedAt ∧
    (compareLoad load s).dsu.stoppedSince = s.dsu.stoppedSince ∧
    (compareLoad load s).dsu.overtorque = s.dsu.overtorque ∧ (compareLoad load s).dsu.jam = s.dsu.jam ∧
    (compareLoad load s).dsu.ringMax = s.dsu.ringMax ∧ (compareLoad load s).dsu.residency = s.dsu.residency ∧
    (compareLoad load s).dsu.timer = s.dsu.timer := by
  unfold compareLoad; dsimp only; (repeat' split) <;> simp

@[simp] theorem evaluateLoad_fields (s : State) :
    (evaluateLoad s).ptb.console = s.ptb.console ∧ (evaluateLoad s).ptb.endOfListen = s.ptb.endOfListen ∧
    (evaluateLoad s).ptb.listenEnd = s.ptb.listenEnd ∧ (evaluateLoad s).ptb.erector = s.ptb.erector ∧
    (evaluateLoad s).ptb.conveyor = s.ptb.conveyor ∧ (evaluateLoad s).ptb.exErector = s.ptb.exErector ∧
    (evaluateLoad s).ptb.exConveyor = s.ptb.exConveyor ∧ (evaluateLoad s).dsu.cutterhead = s.dsu.cutterhead ∧
    (evaluateLoad s).dsu.nr = s.dsu.nr ∧ (evaluateLoad s).dsu.throttle = s.dsu.throttle ∧
    (evaluateLoad s).dsu.consoleMax = s.dsu.consoleMax ∧ (evaluateLoad s).dsu.startedAt = s.dsu.startedAt ∧
    (evaluateLoad s).dsu.stoppedSince = s.dsu.stoppedSince ∧
    (evaluateLoad s).dsu.overtorque = s.dsu.overtorque ∧ (evaluateLoad s).dsu.jam = s.dsu.jam ∧
    (evaluateLoad s).dsu.ringMax = s.dsu.ringMax ∧ (evaluateLoad s).dsu.residency = s.dsu.residency ∧
    (evaluateLoad s).dsu.timer = s.dsu.timer ∧ (evaluateLoad s).alu.active = s.alu.active ∧
    (evaluateLoad s).alu.entries = s.alu.entries ∧ (evaluateLoad s).alu.estop = s.alu.estop ∧
    (evaluateLoad s).alu.duplicate = s.alu.duplicate := by
  unfold evaluateLoad; split <;> simp

@[simp] theorem dutyEvaluation_fields (s : State) :
    (dutyEvaluation s).ptb.console = s.ptb.console ∧ (dutyEvaluation s).ptb.endOfListen = s.ptb.endOfListen ∧
    (dutyEvaluation s).ptb.listenEnd = s.ptb.listenEnd ∧ (dutyEvaluation s).ptb.erector = s.ptb.erector ∧
    (dutyEvaluation s).ptb.conveyor = s.ptb.conveyor ∧ (dutyEvaluation s).ptb.exErector = s.ptb.exErector ∧
    (dutyEvaluation s).ptb.exConveyor = s.ptb.exConveyor ∧ (dutyEvaluation s).dsu.throttle = s.dsu.throttle ∧
    (dutyEvaluation s).dsu.consoleMax = s.dsu.consoleMax ∧ (dutyEvaluation s).dsu.startedAt = s.dsu.startedAt ∧
    (dutyEvaluation s).dsu.stoppedSince = s.dsu.stoppedSince ∧
    (dutyEvaluation s).dsu.overtorque = s.dsu.overtorque ∧ (dutyEvaluation s).dsu.jam = s.dsu.jam ∧
    (dutyEvaluation s).dsu.ringMax = s.dsu.ringMax ∧ (dutyEvaluation s).dsu.residency = s.dsu.residency ∧
    (dutyEvaluation s).dsu.timer = s.dsu.timer ∧ (dutyEvaluation s).alu.active = s.alu.active ∧
    (dutyEvaluation s).alu.entries = s.alu.entries ∧ (dutyEvaluation s).alu.estop = s.alu.estop ∧
    (dutyEvaluation s).alu.duplicate = s.alu.duplicate ∧ (dutyEvaluation s).fpt.timer = s.fpt.timer ∧
    (dutyEvaluation s).fpt.fitted = s.fpt.fitted ∧ (dutyEvaluation s).fpt.inputs = s.fpt.inputs ∧
    (dutyEvaluation s).fpt.estopIn = s.fpt.estopIn ∧ (dutyEvaluation s).fpt.probe = s.fpt.probe ∧
    (dutyEvaluation s).fpt.forced = s.fpt.forced := by
  unfold dutyEvaluation; split <;> simp

@[simp] theorem tempArrival_fields (s : State) :
    (tempArrival s).ptb.console = s.ptb.console ∧ (tempArrival s).ptb.endOfListen = s.ptb.endOfListen ∧
    (tempArrival s).ptb.listenEnd = s.ptb.listenEnd ∧ (tempArrival s).ptb.erector = s.ptb.erector ∧
    (tempArrival s).ptb.conveyor = s.ptb.conveyor ∧ (tempArrival s).ptb.exErector = s.ptb.exErector ∧
    (tempArrival s).ptb.exConveyor = s.ptb.exConveyor ∧ (tempArrival s).dsu.cutterhead = s.dsu.cutterhead ∧
    (tempArrival s).dsu.nr = s.dsu.nr ∧ (tempArrival s).dsu.choice = s.dsu.choice ∧
    (tempArrival s).dsu.downCount = s.dsu.downCount ∧ (tempArrival s).dsu.upCount = s.dsu.upCount ∧
    (tempArrival s).dsu.consoleMax = s.dsu.consoleMax ∧ (tempArrival s).dsu.startedAt = s.dsu.startedAt ∧
    (tempArrival s).dsu.stoppedSince = s.dsu.stoppedSince ∧ (tempArrival s).dsu.overtorque = s.dsu.overtorque ∧
    (tempArrival s).dsu.jam = s.dsu.jam ∧ (tempArrival s).dsu.ringMax = s.dsu.ringMax ∧
    (tempArrival s).dsu.residency = s.dsu.residency ∧ (tempArrival s).dsu.timer = s.dsu.timer := by
  simp [tempArrival]

@[simp] theorem driveRingClose_fields (s : State) :
    (driveRingClose s).dsu.cutterhead = s.dsu.cutterhead ∧ (driveRingClose s).dsu.nr = s.dsu.nr ∧
    (driveRingClose s).dsu.choice = s.dsu.choice ∧ (driveRingClose s).dsu.downCount = s.dsu.downCount ∧
    (driveRingClose s).dsu.upCount = s.dsu.upCount ∧ (driveRingClose s).dsu.throttle = s.dsu.throttle ∧
    (driveRingClose s).dsu.consoleMax = s.dsu.consoleMax ∧ (driveRingClose s).dsu.proposed = s.dsu.proposed ∧
    (driveRingClose s).dsu.applied = s.dsu.applied ∧ (driveRingClose s).dsu.candidate = s.dsu.candidate ∧
    (driveRingClose s).dsu.changing = s.dsu.changing ∧ (driveRingClose s).dsu.rampCap = s.dsu.rampCap ∧
    (driveRingClose s).dsu.startedAt = s.dsu.startedAt ∧
    (driveRingClose s).dsu.stoppedSince = s.dsu.stoppedSince ∧
    (driveRingClose s).dsu.overtorque = s.dsu.overtorque ∧ (driveRingClose s).dsu.jam = s.dsu.jam ∧
    (driveRingClose s).dsu.timer = s.dsu.timer := by
  simp [driveRingClose]

@[simp] theorem driveRestart_fields (s : State) :
    (driveRestart s).dsu.overtorque = s.dsu.overtorque ∧ (driveRestart s).dsu.jam = s.dsu.jam ∧
    (driveRestart s).alu.active = s.alu.active ∧ (driveRestart s).alu.entries = s.alu.entries ∧
    (driveRestart s).alu.estop = s.alu.estop ∧ (driveRestart s).alu.duplicate = s.alu.duplicate ∧
    (driveRestart s).fpt.timer = s.fpt.timer ∧ (driveRestart s).fpt.fitted = s.fpt.fitted ∧
    (driveRestart s).fpt.inputs = s.fpt.inputs ∧ (driveRestart s).fpt.estopIn = s.fpt.estopIn ∧
    (driveRestart s).fpt.probe = s.fpt.probe ∧ (driveRestart s).fpt.forced = s.fpt.forced := by
  simp [driveRestart]

end Sys2Proof.Machine
end

