-- ==== Sys2Proof/Laws/Grout.lean ====
section
/-! SUPPORT. What each operation of Machine/Grout.lean leaves unchanged, block by block and, in the
blocks it changes, field by field. -/

namespace Sys2Proof.Machine

open Sys2Proof

@[simp] theorem setLine_frame (l : GroutLine) (s : State) :
    (setLine l s).pending = s.pending ∧ (setLine l s).elapsed = s.elapsed ∧ (setLine l s).phase = s.phase ∧
    (setLine l s).pauseCause = s.pauseCause ∧ (setLine l s).ring = s.ring ∧ (setLine l s).cfg = s.cfg ∧
    (setLine l s).ptb = s.ptb ∧ (setLine l s).oru = s.oru ∧ (setLine l s).dsu = s.dsu ∧
    (setLine l s).thu = s.thu ∧ (setLine l s).bsq = s.bsq ∧ (setLine l s).bal = s.bal ∧
    (setLine l s).lif = s.lif := by
  simp [setLine]

@[simp] theorem choosePump_frame (s : State) :
    (choosePump s).pending = s.pending ∧ (choosePump s).elapsed = s.elapsed ∧ (choosePump s).phase = s.phase ∧
    (choosePump s).pauseCause = s.pauseCause ∧ (choosePump s).ring = s.ring ∧ (choosePump s).cfg = s.cfg ∧
    (choosePump s).ptb = s.ptb ∧ (choosePump s).oru = s.oru ∧ (choosePump s).dsu = s.dsu ∧
    (choosePump s).thu = s.thu ∧ (choosePump s).bsq = s.bsq ∧ (choosePump s).gru = s.gru ∧
    (choosePump s).bal = s.bal ∧ (choosePump s).lif = s.lif := by
  unfold choosePump; split <;> simp

@[simp] theorem volumeChanged_frame (s : State) :
    (volumeChanged s).pending = s.pending ∧ (volumeChanged s).elapsed = s.elapsed ∧
    (volumeChanged s).phase = s.phase ∧ (volumeChanged s).pauseCause = s.pauseCause ∧
    (volumeChanged s).ring = s.ring ∧ (volumeChanged s).cfg = s.cfg ∧ (volumeChanged s).ptb = s.ptb ∧
    (volumeChanged s).oru = s.oru ∧ (volumeChanged s).dsu = s.dsu ∧ (volumeChanged s).thu = s.thu ∧
    (volumeChanged s).bsq = s.bsq ∧ (volumeChanged s).bal = s.bal ∧ (volumeChanged s).lif = s.lif := by
  simp [volumeChanged]

@[simp] theorem startTest_frame (s : State) :
    (startTest s).pending = s.pending ∧ (startTest s).elapsed = s.elapsed ∧ (startTest s).phase = s.phase ∧
    (startTest s).pauseCause = s.pauseCause ∧ (startTest s).ring = s.ring ∧ (startTest s).cfg = s.cfg ∧
    (startTest s).ptb = s.ptb ∧ (startTest s).oru = s.oru ∧ (startTest s).dsu = s.dsu ∧
    (startTest s).thu = s.thu ∧ (startTest s).bsq = s.bsq ∧ (startTest s).bal = s.bal ∧
    (startTest s).lif = s.lif := by
  unfold startTest; split <;> simp

@[simp] theorem postDemand_frame (d : Int) (s : State) :
    (postDemand d s).pending = s.pending ∧ (postDemand d s).elapsed = s.elapsed ∧
    (postDemand d s).phase = s.phase ∧ (postDemand d s).pauseCause = s.pauseCause ∧
    (postDemand d s).ring = s.ring ∧ (postDemand d s).cfg = s.cfg ∧ (postDemand d s).ptb = s.ptb ∧
    (postDemand d s).oru = s.oru ∧ (postDemand d s).dsu = s.dsu ∧ (postDemand d s).thu = s.thu ∧
    (postDemand d s).bsq = s.bsq ∧ (postDemand d s).bal = s.bal ∧ (postDemand d s).lif = s.lif := by
  simp [postDemand]

@[simp] theorem groutIncrement_frame (ds : Int) (s : State) :
    (groutIncrement ds s).pending = s.pending ∧ (groutIncrement ds s).elapsed = s.elapsed ∧
    (groutIncrement ds s).phase = s.phase ∧ (groutIncrement ds s).pauseCause = s.pauseCause ∧
    (groutIncrement ds s).ring = s.ring ∧ (groutIncrement ds s).cfg = s.cfg ∧
    (groutIncrement ds s).ptb = s.ptb ∧ (groutIncrement ds s).oru = s.oru ∧ (groutIncrement ds s).dsu = s.dsu ∧
    (groutIncrement ds s).thu = s.thu ∧ (groutIncrement ds s).bsq = s.bsq ∧ (groutIncrement ds s).bal = s.bal ∧
    (groutIncrement ds s).lif = s.lif := by
  unfold groutIncrement; dsimp only; (repeat' split) <;> simp

@[simp] theorem creditPulse_frame (s : State) :
    (creditPulse s).pending = s.pending ∧ (creditPulse s).elapsed = s.elapsed ∧
    (creditPulse s).phase = s.phase ∧ (creditPulse s).pauseCause = s.pauseCause ∧
    (creditPulse s).ring = s.ring ∧ (creditPulse s).cfg = s.cfg ∧ (creditPulse s).ptb = s.ptb ∧
    (creditPulse s).oru = s.oru ∧ (creditPulse s).dsu = s.dsu ∧ (creditPulse s).thu = s.thu ∧
    (creditPulse s).bsq = s.bsq ∧ (creditPulse s).bal = s.bal ∧ (creditPulse s).lif = s.lif := by
  simp [creditPulse]

@[simp] theorem restartSetting_frame (s : State) :
    (restartSetting s).pending = s.pending ∧ (restartSetting s).elapsed = s.elapsed ∧
    (restartSetting s).phase = s.phase ∧ (restartSetting s).pauseCause = s.pauseCause ∧
    (restartSetting s).ring = s.ring ∧ (restartSetting s).cfg = s.cfg ∧ (restartSetting s).ptb = s.ptb ∧
    (restartSetting s).oru = s.oru ∧ (restartSetting s).dsu = s.dsu ∧ (restartSetting s).thu = s.thu ∧
    (restartSetting s).bsq = s.bsq ∧ (restartSetting s).bal = s.bal ∧ (restartSetting s).alu = s.alu ∧
    (restartSetting s).fpt = s.fpt ∧ (restartSetting s).lif = s.lif := by
  refine ⟨?_, ?_, ?_, ?_, ?_, ?_, ?_, ?_, ?_, ?_, ?_, ?_, ?_, ?_, ?_⟩ <;> rfl

@[simp] theorem emptiedTest_frame (s : State) :
    (emptiedTest s).pending = s.pending ∧ (emptiedTest s).elapsed = s.elapsed ∧
    (emptiedTest s).phase = s.phase ∧ (emptiedTest s).pauseCause = s.pauseCause ∧
    (emptiedTest s).ring = s.ring ∧ (emptiedTest s).cfg = s.cfg ∧ (emptiedTest s).ptb = s.ptb ∧
    (emptiedTest s).oru = s.oru ∧ (emptiedTest s).dsu = s.dsu ∧ (emptiedTest s).thu = s.thu ∧
    (emptiedTest s).bsq = s.bsq ∧ (emptiedTest s).bal = s.bal ∧ (emptiedTest s).lif = s.lif := by
  unfold emptiedTest; split <;> simp

@[simp] theorem groutPulse_frame (s : State) :
    (groutPulse s).pending = s.pending ∧ (groutPulse s).elapsed = s.elapsed ∧ (groutPulse s).phase = s.phase ∧
    (groutPulse s).pauseCause = s.pauseCause ∧ (groutPulse s).ring = s.ring ∧ (groutPulse s).cfg = s.cfg ∧
    (groutPulse s).ptb = s.ptb ∧ (groutPulse s).oru = s.oru ∧ (groutPulse s).dsu = s.dsu ∧
    (groutPulse s).thu = s.thu ∧ (groutPulse s).bsq = s.bsq ∧ (groutPulse s).bal = s.bal ∧
    (groutPulse s).lif = s.lif := by
  unfold groutPulse; split <;> simp

@[simp] theorem groutPulses_frame (n : Nat) (s : State) :
    (groutPulses n s).pending = s.pending ∧ (groutPulses n s).elapsed = s.elapsed ∧
    (groutPulses n s).phase = s.phase ∧ (groutPulses n s).pauseCause = s.pauseCause ∧
    (groutPulses n s).ring = s.ring ∧ (groutPulses n s).cfg = s.cfg ∧ (groutPulses n s).ptb = s.ptb ∧
    (groutPulses n s).oru = s.oru ∧ (groutPulses n s).dsu = s.dsu ∧ (groutPulses n s).thu = s.thu ∧
    (groutPulses n s).bsq = s.bsq ∧ (groutPulses n s).bal = s.bal ∧ (groutPulses n s).lif = s.lif := by
  induction n generalizing s with
  | zero => simp [groutPulses]
  | succ n ih => simp [groutPulses, ih]

@[simp] theorem enterPressureHold_frame (s : State) :
    (enterPressureHold s).pending = s.pending ∧ (enterPressureHold s).elapsed = s.elapsed ∧
    (enterPressureHold s).phase = s.phase ∧ (enterPressureHold s).pauseCause = s.pauseCause ∧
    (enterPressureHold s).ring = s.ring ∧ (enterPressureHold s).cfg = s.cfg ∧
    (enterPressureHold s).ptb = s.ptb ∧ (enterPressureHold s).oru = s.oru ∧ (enterPressureHold s).dsu = s.dsu ∧
    (enterPressureHold s).thu = s.thu ∧ (enterPressureHold s).bsq = s.bsq ∧ (enterPressureHold s).bal = s.bal ∧
    (enterPressureHold s).lif = s.lif := by
  simp [enterPressureHold]

@[simp] theorem resumeLine_frame (s : State) :
    (resumeLine s).pending = s.pending ∧ (resumeLine s).elapsed = s.elapsed ∧ (resumeLine s).phase = s.phase ∧
    (resumeLine s).pauseCause = s.pauseCause ∧ (resumeLine s).ring = s.ring ∧ (resumeLine s).cfg = s.cfg ∧
    (resumeLine s).ptb = s.ptb ∧ (resumeLine s).oru = s.oru ∧ (resumeLine s).dsu = s.dsu ∧
    (resumeLine s).thu = s.thu ∧ (resumeLine s).bsq = s.bsq ∧ (resumeLine s).bal = s.bal ∧
    (resumeLine s).lif = s.lif := by
  unfold resumeLine; split <;> simp

@[simp] theorem groutPressureArrival_frame (s : State) :
    (groutPressureArrival s).pending = s.pending ∧ (groutPressureArrival s).elapsed = s.elapsed ∧
    (groutPressureArrival s).phase = s.phase ∧ (groutPressureArrival s).pauseCause = s.pauseCause ∧
    (groutPressureArrival s).ring = s.ring ∧ (groutPressureArrival s).cfg = s.cfg ∧
    (groutPressureArrival s).ptb = s.ptb ∧ (groutPressureArrival s).oru = s.oru ∧
    (groutPressureArrival s).dsu = s.dsu ∧ (groutPressureArrival s).thu = s.thu ∧
    (groutPressureArrival s).bsq = s.bsq ∧ (groutPressureArrival s).bal = s.bal ∧
    (groutPressureArrival s).lif = s.lif := by
  unfold groutPressureArrival; (repeat' split) <;> simp

@[simp] theorem groutBlocks_frame (s : State) :
    (groutBlocks s).pending = s.pending ∧ (groutBlocks s).elapsed = s.elapsed ∧
    (groutBlocks s).phase = s.phase ∧ (groutBlocks s).pauseCause = s.pauseCause ∧
    (groutBlocks s).ring = s.ring ∧ (groutBlocks s).cfg = s.cfg ∧ (groutBlocks s).ptb = s.ptb ∧
    (groutBlocks s).oru = s.oru ∧ (groutBlocks s).dsu = s.dsu ∧ (groutBlocks s).thu = s.thu ∧
    (groutBlocks s).bsq = s.bsq ∧ (groutBlocks s).bal = s.bal ∧ (groutBlocks s).lif = s.lif := by
  simp [groutBlocks]

@[simp] theorem groutSets_frame (s : State) :
    (groutSets s).pending = s.pending ∧ (groutSets s).elapsed = s.elapsed ∧ (groutSets s).phase = s.phase ∧
    (groutSets s).pauseCause = s.pauseCause ∧ (groutSets s).ring = s.ring ∧ (groutSets s).cfg = s.cfg ∧
    (groutSets s).ptb = s.ptb ∧ (groutSets s).oru = s.oru ∧ (groutSets s).dsu = s.dsu ∧
    (groutSets s).thu = s.thu ∧ (groutSets s).bsq = s.bsq ∧ (groutSets s).bal = s.bal ∧
    (groutSets s).lif = s.lif := by
  simp [groutSets]

@[simp] theorem beginFlush_frame (s : State) :
    (beginFlush s).pending = s.pending ∧ (beginFlush s).elapsed = s.elapsed ∧ (beginFlush s).phase = s.phase ∧
    (beginFlush s).pauseCause = s.pauseCause ∧ (beginFlush s).ring = s.ring ∧ (beginFlush s).cfg = s.cfg ∧
    (beginFlush s).ptb = s.ptb ∧ (beginFlush s).oru = s.oru ∧ (beginFlush s).dsu = s.dsu ∧
    (beginFlush s).thu = s.thu ∧ (beginFlush s).bsq = s.bsq ∧ (beginFlush s).bal = s.bal ∧
    (beginFlush s).lif = s.lif := by
  simp [beginFlush]

@[simp] theorem endFlush_frame (s : State) :
    (endFlush s).pending = s.pending ∧ (endFlush s).elapsed = s.elapsed ∧ (endFlush s).phase = s.phase ∧
    (endFlush s).pauseCause = s.pauseCause ∧ (endFlush s).ring = s.ring ∧ (endFlush s).cfg = s.cfg ∧
    (endFlush s).ptb = s.ptb ∧ (endFlush s).oru = s.oru ∧ (endFlush s).dsu = s.dsu ∧ (endFlush s).thu = s.thu ∧
    (endFlush s).bsq = s.bsq ∧ (endFlush s).bal = s.bal ∧ (endFlush s).lif = s.lif := by
  simp [endFlush]

@[simp] theorem flushForcing_frame (forced : Bool) (s : State) :
    (flushForcing forced s).pending = s.pending ∧ (flushForcing forced s).elapsed = s.elapsed ∧
    (flushForcing forced s).phase = s.phase ∧ (flushForcing forced s).pauseCause = s.pauseCause ∧
    (flushForcing forced s).ring = s.ring ∧ (flushForcing forced s).cfg = s.cfg ∧
    (flushForcing forced s).ptb = s.ptb ∧ (flushForcing forced s).oru = s.oru ∧
    (flushForcing forced s).dsu = s.dsu ∧ (flushForcing forced s).thu = s.thu ∧
    (flushForcing forced s).bsq = s.bsq ∧ (flushForcing forced s).bal = s.bal ∧
    (flushForcing forced s).alu = s.alu ∧ (flushForcing forced s).fpt = s.fpt ∧
    (flushForcing forced s).lif = s.lif := by
  unfold flushForcing; (repeat' split) <;> simp

@[simp] theorem groutWriteOff_frame (ring : RingNumber) (s : State) :
    (groutWriteOff ring s).pending = s.pending ∧ (groutWriteOff ring s).elapsed = s.elapsed ∧
    (groutWriteOff ring s).phase = s.phase ∧ (groutWriteOff ring s).pauseCause = s.pauseCause ∧
    (groutWriteOff ring s).ring = s.ring ∧ (groutWriteOff ring s).cfg = s.cfg ∧
    (groutWriteOff ring s).ptb = s.ptb ∧ (groutWriteOff ring s).oru = s.oru ∧
    (groutWriteOff ring s).dsu = s.dsu ∧ (groutWriteOff ring s).thu = s.thu ∧
    (groutWriteOff ring s).bsq = s.bsq ∧ (groutWriteOff ring s).bal = s.bal ∧
    (groutWriteOff ring s).lif = s.lif := by
  simp [groutWriteOff]

@[simp] theorem groutRingClose_frame (s : State) :
    (groutRingClose s).pending = s.pending ∧ (groutRingClose s).elapsed = s.elapsed ∧
    (groutRingClose s).phase = s.phase ∧ (groutRingClose s).pauseCause = s.pauseCause ∧
    (groutRingClose s).ring = s.ring ∧ (groutRingClose s).cfg = s.cfg ∧ (groutRingClose s).ptb = s.ptb ∧
    (groutRingClose s).oru = s.oru ∧ (groutRingClose s).dsu = s.dsu ∧ (groutRingClose s).thu = s.thu ∧
    (groutRingClose s).bsq = s.bsq ∧ (groutRingClose s).bal = s.bal ∧ (groutRingClose s).alu = s.alu ∧
    (groutRingClose s).fpt = s.fpt ∧ (groutRingClose s).lif = s.lif := by
  refine ⟨?_, ?_, ?_, ?_, ?_, ?_, ?_, ?_, ?_, ?_, ?_, ?_, ?_, ?_, ?_⟩ <;> rfl

@[simp] theorem groutActivate_frame (s : State) :
    (groutActivate s).pending = s.pending ∧ (groutActivate s).elapsed = s.elapsed ∧
    (groutActivate s).phase = s.phase ∧ (groutActivate s).pauseCause = s.pauseCause ∧
    (groutActivate s).ring = s.ring ∧ (groutActivate s).cfg = s.cfg ∧ (groutActivate s).ptb = s.ptb ∧
    (groutActivate s).oru = s.oru ∧ (groutActivate s).dsu = s.dsu ∧ (groutActivate s).thu = s.thu ∧
    (groutActivate s).bsq = s.bsq ∧ (groutActivate s).bal = s.bal ∧ (groutActivate s).lif = s.lif := by
  unfold groutActivate; split <;> simp

@[simp] theorem setLine_fields (l : GroutLine) (s : State) :
    (setLine l s).gru.active = s.gru.active ∧ (setLine l s).gru.queue = s.gru.queue ∧
    (setLine l s).gru.remG = s.gru.remG ∧ (setLine l s).gru.posted = s.gru.posted ∧
    (setLine l s).gru.delivered = s.gru.delivered ∧ (setLine l s).gru.writtenOff = s.gru.writtenOff ∧
    (setLine l s).gru.overrun = s.gru.overrun ∧ (setLine l s).gru.flushed = s.gru.flushed ∧
    (setLine l s).gru.postedRing = s.gru.postedRing ∧ (setLine l s).gru.deliveredRing = s.gru.deliveredRing ∧
    (setLine l s).gru.lag = s.gru.lag ∧ (setLine l s).gru.settingTimer = s.gru.settingTimer ∧
    (setLine l s).gru.blockTimer = s.gru.blockTimer ∧ (setLine l s).gru.flushTimer = s.gru.flushTimer ∧
    (setLine l s).gru.flushRun = s.gru.flushRun ∧ (setLine l s).gru.flushStop = s.gru.flushStop ∧
    (setLine l s).alu.active = s.alu.active ∧ (setLine l s).alu.entries = s.alu.entries ∧
    (setLine l s).alu.estop = s.alu.estop ∧ (setLine l s).alu.duplicate = s.alu.duplicate ∧
    (setLine l s).fpt.timer = s.fpt.timer ∧ (setLine l s).fpt.fitted = s.fpt.fitted ∧
    (setLine l s).fpt.inputs = s.fpt.inputs ∧ (setLine l s).fpt.estopIn = s.fpt.estopIn ∧
    (setLine l s).fpt.probe = s.fpt.probe ∧ (setLine l s).fpt.forced = s.fpt.forced := by
  simp [setLine]

@[simp] theorem choosePump_fields (s : State) :
    (choosePump s).alu.active = s.alu.active ∧ (choosePump s).alu.entries = s.alu.entries ∧
    (choosePump s).alu.estop = s.alu.estop ∧ (choosePump s).alu.duplicate = s.alu.duplicate ∧
    (choosePump s).fpt.timer = s.fpt.timer ∧ (choosePump s).fpt.fitted = s.fpt.fitted ∧
    (choosePump s).fpt.inputs = s.fpt.inputs ∧ (choosePump s).fpt.estopIn = s.fpt.estopIn ∧
    (choosePump s).fpt.probe = s.fpt.probe ∧ (choosePump s).fpt.forced = s.fpt.forced := by
  unfold choosePump; split <;> simp

@[simp] theorem volumeChanged_fields (s : State) :
    (volumeChanged s).gru.active = s.gru.active ∧ (volumeChanged s).gru.line = s.gru.line ∧
    (volumeChanged s).gru.queue = s.gru.queue ∧ (volumeChanged s).gru.remG = s.gru.remG ∧
    (volumeChanged s).gru.posted = s.gru.posted ∧ (volumeChanged s).gru.delivered = s.gru.delivered ∧
    (volumeChanged s).gru.writtenOff = s.gru.writtenOff ∧ (volumeChanged s).gru.overrun = s.gru.overrun ∧
    (volumeChanged s).gru.flushed = s.gru.flushed ∧ (volumeChanged s).gru.postedRing = s.gru.postedRing ∧
    (volumeChanged s).gru.deliveredRing = s.gru.deliveredRing ∧
    (volumeChanged s).gru.settingTimer = s.gru.settingTimer ∧
    (volumeChanged s).gru.blockTimer = s.gru.blockTimer ∧ (volumeChanged s).gru.flushTimer = s.gru.flushTimer ∧
    (volumeChanged s).gru.flushRun = s.gru.flushRun ∧ (volumeChanged s).gru.flushStop = s.gru.flushStop ∧
    (volumeChanged s).alu.active = s.alu.active ∧ (volumeChanged s).alu.entries = s.alu.entries ∧
    (volumeChanged s).alu.estop = s.alu.estop ∧ (volumeChanged s).alu.duplicate = s.alu.duplicate ∧
    (volumeChanged s).fpt.timer = s.fpt.timer ∧ (volumeChanged s).fpt.fitted = s.fpt.fitted ∧
    (volumeChanged s).fpt.inputs = s.fpt.inputs ∧ (volumeChanged s).fpt.estopIn = s.fpt.estopIn ∧
    (volumeChanged s).fpt.probe = s.fpt.probe ∧ (volumeChanged s).fpt.forced = s.fpt.forced := by
  simp [volumeChanged]

@[simp] theorem startTest_fields (s : State) :
    (startTest s).gru.active = s.gru.active ∧ (startTest s).gru.queue = s.gru.queue ∧
    (startTest s).gru.remG = s.gru.remG ∧ (startTest s).gru.posted = s.gru.posted ∧
    (startTest s).gru.delivered = s.gru.delivered ∧ (startTest s).gru.writtenOff = s.gru.writtenOff ∧
    (startTest s).gru.overrun = s.gru.overrun ∧ (startTest s).gru.flushed = s.gru.flushed ∧
    (startTest s).gru.postedRing = s.gru.postedRing ∧ (startTest s).gru.deliveredRing = s.gru.deliveredRing ∧
    (startTest s).gru.lag = s.gru.lag ∧ (startTest s).gru.settingTimer = s.gru.settingTimer ∧
    (startTest s).gru.blockTimer = s.gru.blockTimer ∧ (startTest s).gru.flushTimer = s.gru.flushTimer ∧
    (startTest s).gru.flushRun = s.gru.flushRun ∧ (startTest s).gru.flushStop = s.gru.flushStop ∧
    (startTest s).alu.active = s.alu.active ∧ (startTest s).alu.entries = s.alu.entries ∧
    (startTest s).alu.estop = s.alu.estop ∧ (startTest s).alu.duplicate = s.alu.duplicate ∧
    (startTest s).fpt.timer = s.fpt.timer ∧ (startTest s).fpt.fitted = s.fpt.fitted ∧
    (startTest s).fpt.inputs = s.fpt.inputs ∧ (startTest s).fpt.estopIn = s.fpt.estopIn ∧
    (startTest s).fpt.probe = s.fpt.probe ∧ (startTest s).fpt.forced = s.fpt.forced := by
  unfold startTest; split <;> simp

@[simp] theorem postDemand_fields (d : Int) (s : State) :
    (postDemand d s).gru.active = s.gru.active ∧ (postDemand d s).gru.remG = s.gru.remG ∧
    (postDemand d s).gru.delivered = s.gru.delivered ∧ (postDemand d s).gru.writtenOff = s.gru.writtenOff ∧
    (postDemand d s).gru.overrun = s.gru.overrun ∧ (postDemand d s).gru.flushed = s.gru.flushed ∧
    (postDemand d s).gru.deliveredRing = s.gru.deliveredRing ∧
    (postDemand d s).gru.settingTimer = s.gru.settingTimer ∧
    (postDemand d s).gru.blockTimer = s.gru.blockTimer ∧ (postDemand d s).gru.flushTimer = s.gru.flushTimer ∧
    (postDemand d s).gru.flushRun = s.gru.flushRun ∧ (postDemand d s).gru.flushStop = s.gru.flushStop ∧
    (postDemand d s).alu.active = s.alu.active ∧ (postDemand d s).alu.entries = s.alu.entries ∧
    (postDemand d s).alu.estop = s.alu.estop ∧ (postDemand d s).alu.duplicate = s.alu.duplicate ∧
    (postDemand d s).fpt.timer = s.fpt.timer ∧ (postDemand d s).fpt.fitted = s.fpt.fitted ∧
    (postDemand d s).fpt.inputs = s.fpt.inputs ∧ (postDemand d s).fpt.estopIn = s.fpt.estopIn ∧
    (postDemand d s).fpt.probe = s.fpt.probe ∧ (postDemand d s).fpt.forced = s.fpt.forced := by
  simp [postDemand]

@[simp] theorem groutIncrement_fields (ds : Int) (s : State) :
    (groutIncrement ds s).gru.active = s.gru.active ∧ (groutIncrement ds s).gru.delivered = s.gru.delivered ∧
    (groutIncrement ds s).gru.writtenOff = s.gru.writtenOff ∧
    (groutIncrement ds s).gru.overrun = s.gru.overrun ∧ (groutIncrement ds s).gru.flushed = s.gru.flushed ∧
    (groutIncrement ds s).gru.deliveredRing = s.gru.deliveredRing ∧
    (groutIncrement ds s).gru.settingTimer = s.gru.settingTimer ∧
    (groutIncrement ds s).gru.blockTimer = s.gru.blockTimer ∧
    (groutIncrement ds s).gru.flushTimer = s.gru.flushTimer ∧
    (groutIncrement ds s).gru.flushRun = s.gru.flushRun ∧
    (groutIncrement ds s).gru.flushStop = s.gru.flushStop ∧ (groutIncrement ds s).alu.active = s.alu.active ∧
    (groutIncrement ds s).alu.entries = s.alu.entries ∧ (groutIncrement ds s).alu.estop = s.alu.estop ∧
    (groutIncrement ds s).alu.duplicate = s.alu.duplicate ∧ (groutIncrement ds s).fpt.timer = s.fpt.timer ∧
    (groutIncrement ds s).fpt.fitted = s.fpt.fitted ∧ (groutIncrement ds s).fpt.inputs = s.fpt.inputs ∧
    (groutIncrement ds s).fpt.estopIn = s.fpt.estopIn ∧ (groutIncrement ds s).fpt.probe = s.fpt.probe ∧
    (groutIncrement ds s).fpt.forced = s.fpt.forced := by
  unfold groutIncrement; dsimp only; (repeat' split) <;> simp

@[simp] theorem creditPulse_fields (s : State) :
    (creditPulse s).gru.active = s.gru.active ∧ (creditPulse s).gru.line = s.gru.line ∧
    (creditPulse s).gru.remG = s.gru.remG ∧ (creditPulse s).gru.posted = s.gru.posted ∧
    (creditPulse s).gru.writtenOff = s.gru.writtenOff ∧ (creditPulse s).gru.flushed = s.gru.flushed ∧
    (creditPulse s).gru.postedRing = s.gru.postedRing ∧ (creditPulse s).gru.settingTimer = s.gru.settingTimer ∧
    (creditPulse s).gru.blockTimer = s.gru.blockTimer ∧ (creditPulse s).gru.flushTimer = s.gru.flushTimer ∧
    (creditPulse s).gru.flushRun = s.gru.flushRun ∧ (creditPulse s).gru.flushStop = s.gru.flushStop ∧
    (creditPulse s).alu.active = s.alu.active ∧ (creditPulse s).alu.entries = s.alu.entries ∧
    (creditPulse s).alu.estop = s.alu.estop ∧ (creditPulse s).alu.duplicate = s.alu.duplicate ∧
    (creditPulse s).fpt.timer = s.fpt.timer ∧ (creditPulse s).fpt.fitted = s.fpt.fitted ∧
    (creditPulse s).fpt.inputs = s.fpt.inputs ∧ (creditPulse s).fpt.estopIn = s.fpt.estopIn ∧
    (creditPulse s).fpt.probe = s.fpt.probe ∧ (creditPulse s).fpt.forced = s.fpt.forced := by
  simp [creditPulse]

@[simp] theorem restartSetting_fields (s : State) :
    (restartSetting s).gru.active = s.gru.active ∧ (restartSetting s).gru.line = s.gru.line ∧
    (restartSetting s).gru.queue = s.gru.queue ∧ (restartSetting s).gru.remG = s.gru.remG ∧
    (restartSetting s).gru.posted = s.gru.posted ∧ (restartSetting s).gru.delivered = s.gru.delivered ∧
    (restartSetting s).gru.writtenOff = s.gru.writtenOff ∧ (restartSetting s).gru.overrun = s.gru.overrun ∧
    (restartSetting s).gru.flushed = s.gru.flushed ∧ (restartSetting s).gru.postedRing = s.gru.postedRing ∧
    (restartSetting s).gru.deliveredRing = s.gru.deliveredRing ∧ (restartSetting s).gru.lag = s.gru.lag ∧
    (restartSetting s).gru.blockTimer = s.gru.blockTimer ∧
    (restartSetting s).gru.flushTimer = s.gru.flushTimer ∧ (restartSetting s).gru.flushRun = s.gru.flushRun ∧
    (restartSetting s).gru.flushStop = s.gru.flushStop := by
  simp [restartSetting]

@[simp] theorem emptiedTest_fields (s : State) :
    (emptiedTest s).gru.active = s.gru.active ∧ (emptiedTest s).gru.queue = s.gru.queue ∧
    (emptiedTest s).gru.remG = s.gru.remG ∧ (emptiedTest s).gru.posted = s.gru.posted ∧
    (emptiedTest s).gru.delivered = s.gru.delivered ∧ (emptiedTest s).gru.writtenOff = s.gru.writtenOff ∧
    (emptiedTest s).gru.overrun = s.gru.overrun ∧ (emptiedTest s).gru.flushed = s.gru.flushed ∧
    (emptiedTest s).gru.postedRing = s.gru.postedRing ∧
    (emptiedTest s).gru.deliveredRing = s.gru.deliveredRing ∧ (emptiedTest s).gru.lag = s.gru.lag ∧
    (emptiedTest s).gru.settingTimer = s.gru.settingTimer ∧ (emptiedTest s).gru.blockTimer = s.gru.blockTimer ∧
    (emptiedTest s).gru.flushTimer = s.gru.flushTimer ∧ (emptiedTest s).gru.flushRun = s.gru.flushRun ∧
    (emptiedTest s).gru.flushStop = s.gru.flushStop ∧ (emptiedTest s).alu.active = s.alu.active ∧
    (emptiedTest s).alu.entries = s.alu.entries ∧ (emptiedTest s).alu.estop = s.alu.estop ∧
    (emptiedTest s).alu.duplicate = s.alu.duplicate ∧ (emptiedTest s).fpt.timer = s.fpt.timer ∧
    (emptiedTest s).fpt.fitted = s.fpt.fitted ∧ (emptiedTest s).fpt.inputs = s.fpt.inputs ∧
    (emptiedTest s).fpt.estopIn = s.fpt.estopIn ∧ (emptiedTest s).fpt.probe = s.fpt.probe ∧
    (emptiedTest s).fpt.forced = s.fpt.forced := by
  unfold emptiedTest; split <;> simp

@[simp] theorem groutPulse_fields (s : State) :
    (groutPulse s).gru.active = s.gru.active ∧ (groutPulse s).gru.remG = s.gru.remG ∧
    (groutPulse s).gru.posted = s.gru.posted ∧ (groutPulse s).gru.writtenOff = s.gru.writtenOff ∧
    (groutPulse s).gru.postedRing = s.gru.postedRing ∧ (groutPulse s).gru.flushTimer = s.gru.flushTimer ∧
    (groutPulse s).gru.flushRun = s.gru.flushRun ∧ (groutPulse s).gru.flushStop = s.gru.flushStop ∧
    (groutPulse s).alu.active = s.alu.active ∧ (groutPulse s).alu.entries = s.alu.entries ∧
    (groutPulse s).alu.estop = s.alu.estop ∧ (groutPulse s).alu.duplicate = s.alu.duplicate ∧
    (groutPulse s).fpt.timer = s.fpt.timer ∧ (groutPulse s).fpt.fitted = s.fpt.fitted ∧
    (groutPulse s).fpt.inputs = s.fpt.inputs ∧ (groutPulse s).fpt.estopIn = s.fpt.estopIn ∧
    (groutPulse s).fpt.probe = s.fpt.probe ∧ (groutPulse s).fpt.forced = s.fpt.forced := by
  unfold groutPulse; split <;> simp

@[simp] theorem groutPulses_fields (n : Nat) (s : State) :
    (groutPulses n s).gru.active = s.gru.active ∧ (groutPulses n s).gru.remG = s.gru.remG ∧
    (groutPulses n s).gru.posted = s.gru.posted ∧ (groutPulses n s).gru.writtenOff = s.gru.writtenOff ∧
    (groutPulses n s).gru.postedRing = s.gru.postedRing ∧ (groutPulses n s).gru.flushTimer = s.gru.flushTimer ∧
    (groutPulses n s).gru.flushRun = s.gru.flushRun ∧ (groutPulses n s).gru.flushStop = s.gru.flushStop ∧
    (groutPulses n s).alu.active = s.alu.active ∧ (groutPulses n s).alu.entries = s.alu.entries ∧
    (groutPulses n s).alu.estop = s.alu.estop ∧ (groutPulses n s).alu.duplicate = s.alu.duplicate ∧
    (groutPulses n s).fpt.timer = s.fpt.timer ∧ (groutPulses n s).fpt.fitted = s.fpt.fitted ∧
    (groutPulses n s).fpt.inputs = s.fpt.inputs ∧ (groutPulses n s).fpt.estopIn = s.fpt.estopIn ∧
    (groutPulses n s).fpt.probe = s.fpt.probe ∧ (groutPulses n s).fpt.forced = s.fpt.forced := by
  induction n generalizing s with
  | zero => simp [groutPulses]
  | succ n ih => simp [groutPulses, ih]

@[simp] theorem enterPressureHold_fields (s : State) :
    (enterPressureHold s).gru.active = s.gru.active ∧ (enterPressureHold s).gru.queue = s.gru.queue ∧
    (enterPressureHold s).gru.remG = s.gru.remG ∧ (enterPressureHold s).gru.posted = s.gru.posted ∧
    (enterPressureHold s).gru.delivered = s.gru.delivered ∧
    (enterPressureHold s).gru.writtenOff = s.gru.writtenOff ∧
    (enterPressureHold s).gru.overrun = s.gru.overrun ∧ (enterPressureHold s).gru.flushed = s.gru.flushed ∧
    (enterPressureHold s).gru.postedRing = s.gru.postedRing ∧
    (enterPressureHold s).gru.deliveredRing = s.gru.deliveredRing ∧ (enterPressureHold s).gru.lag = s.gru.lag ∧
    (enterPressureHold s).gru.settingTimer = s.gru.settingTimer ∧
    (enterPressureHold s).gru.flushTimer = s.gru.flushTimer ∧
    (enterPressureHold s).gru.flushRun = s.gru.flushRun ∧
    (enterPressureHold s).gru.flushStop = s.gru.flushStop ∧ (enterPressureHold s).alu.active = s.alu.active ∧
    (enterPressureHold s).alu.entries = s.alu.entries ∧ (enterPressureHold s).alu.estop = s.alu.estop ∧
    (enterPressureHold s).alu.duplicate = s.alu.duplicate ∧ (enterPressureHold s).fpt.timer = s.fpt.timer ∧
    (enterPressureHold s).fpt.fitted = s.fpt.fitted ∧ (enterPressureHold s).fpt.inputs = s.fpt.inputs ∧
    (enterPressureHold s).fpt.estopIn = s.fpt.estopIn ∧ (enterPressureHold s).fpt.probe = s.fpt.probe ∧
    (enterPressureHold s).fpt.forced = s.fpt.forced := by
  simp [enterPressureHold]

@[simp] theorem resumeLine_fields (s : State) :
    (resumeLine s).gru.active = s.gru.active ∧ (resumeLine s).gru.queue = s.gru.queue ∧
    (resumeLine s).gru.remG = s.gru.remG ∧ (resumeLine s).gru.posted = s.gru.posted ∧
    (resumeLine s).gru.delivered = s.gru.delivered ∧ (resumeLine s).gru.writtenOff = s.gru.writtenOff ∧
    (resumeLine s).gru.overrun = s.gru.overrun ∧ (resumeLine s).gru.flushed = s.gru.flushed ∧
    (resumeLine s).gru.postedRing = s.gru.postedRing ∧ (resumeLine s).gru.deliveredRing = s.gru.deliveredRing ∧
    (resumeLine s).gru.lag = s.gru.lag ∧ (resumeLine s).gru.settingTimer = s.gru.settingTimer ∧
    (resumeLine s).gru.flushTimer = s.gru.flushTimer ∧ (resumeLine s).gru.flushRun = s.gru.flushRun ∧
    (resumeLine s).gru.flushStop = s.gru.flushStop ∧ (resumeLine s).alu.active = s.alu.active ∧
    (resumeLine s).alu.entries = s.alu.entries ∧ (resumeLine s).alu.estop = s.alu.estop ∧
    (resumeLine s).alu.duplicate = s.alu.duplicate ∧ (resumeLine s).fpt.timer = s.fpt.timer ∧
    (resumeLine s).fpt.fitted = s.fpt.fitted ∧ (resumeLine s).fpt.inputs = s.fpt.inputs ∧
    (resumeLine s).fpt.estopIn = s.fpt.estopIn ∧ (resumeLine s).fpt.probe = s.fpt.probe ∧
    (resumeLine s).fpt.forced = s.fpt.forced := by
  unfold resumeLine; split <;> simp

@[simp] theorem groutPressureArrival_fields (s : State) :
    (groutPressureArrival s).gru.active = s.gru.active ∧ (groutPressureArrival s).gru.queue = s.gru.queue ∧
    (groutPressureArrival s).gru.remG = s.gru.remG ∧ (groutPressureArrival s).gru.posted = s.gru.posted ∧
    (groutPressureArrival s).gru.delivered = s.gru.delivered ∧
    (groutPressureArrival s).gru.writtenOff = s.gru.writtenOff ∧
    (groutPressureArrival s).gru.overrun = s.gru.overrun ∧
    (groutPressureArrival s).gru.flushed = s.gru.flushed ∧
    (groutPressureArrival s).gru.postedRing = s.gru.postedRing ∧
    (groutPressureArrival s).gru.deliveredRing = s.gru.deliveredRing ∧
    (groutPressureArrival s).gru.lag = s.gru.lag ∧
    (groutPressureArrival s).gru.settingTimer = s.gru.settingTimer ∧
    (groutPressureArrival s).gru.flushTimer = s.gru.flushTimer ∧
    (groutPressureArrival s).gru.flushRun = s.gru.flushRun ∧
    (groutPressureArrival s).alu.active = s.alu.active ∧ (groutPressureArrival s).alu.entries = s.alu.entries ∧
    (groutPressureArrival s).alu.estop = s.alu.estop ∧
    (groutPressureArrival s).alu.duplicate = s.alu.duplicate ∧
    (groutPressureArrival s).fpt.timer = s.fpt.timer ∧ (groutPressureArrival s).fpt.fitted = s.fpt.fitted ∧
    (groutPressureArrival s).fpt.inputs = s.fpt.inputs ∧ (groutPressureArrival s).fpt.estopIn = s.fpt.estopIn ∧
    (groutPressureArrival s).fpt.probe = s.fpt.probe ∧ (groutPressureArrival s).fpt.forced = s.fpt.forced := by
  unfold groutPressureArrival; (repeat' split) <;> simp

@[simp] theorem groutBlocks_fields (s : State) :
    (groutBlocks s).gru.active = s.gru.active ∧ (groutBlocks s).gru.queue = s.gru.queue ∧
    (groutBlocks s).gru.remG = s.gru.remG ∧ (groutBlocks s).gru.posted = s.gru.posted ∧
    (groutBlocks s).gru.delivered = s.gru.delivered ∧ (groutBlocks s).gru.writtenOff = s.gru.writtenOff ∧
    (groutBlocks s).gru.overrun = s.gru.overrun ∧ (groutBlocks s).gru.flushed = s.gru.flushed ∧
    (groutBlocks s).gru.postedRing = s.gru.postedRing ∧
    (groutBlocks s).gru.deliveredRing = s.gru.deliveredRing ∧ (groutBlocks s).gru.lag = s.gru.lag ∧
    (groutBlocks s).gru.flushTimer = s.gru.flushTimer ∧ (groutBlocks s).gru.flushRun = s.gru.flushRun ∧
    (groutBlocks s).gru.flushStop = s.gru.flushStop ∧ (groutBlocks s).alu.active = s.alu.active ∧
    (groutBlocks s).alu.entries = s.alu.entries ∧ (groutBlocks s).alu.estop = s.alu.estop ∧
    (groutBlocks s).alu.duplicate = s.alu.duplicate ∧ (groutBlocks s).fpt.timer = s.fpt.timer ∧
    (groutBlocks s).fpt.fitted = s.fpt.fitted ∧ (groutBlocks s).fpt.inputs = s.fpt.inputs ∧
    (groutBlocks s).fpt.estopIn = s.fpt.estopIn ∧ (groutBlocks s).fpt.probe = s.fpt.probe ∧
    (groutBlocks s).fpt.forced = s.fpt.forced := by
  simp [groutBlocks]

@[simp] theorem groutSets_fields (s : State) :
    (groutSets s).gru.active = s.gru.active ∧ (groutSets s).gru.queue = s.gru.queue ∧
    (groutSets s).gru.remG = s.gru.remG ∧ (groutSets s).gru.posted = s.gru.posted ∧
    (groutSets s).gru.delivered = s.gru.delivered ∧ (groutSets s).gru.writtenOff = s.gru.writtenOff ∧
    (groutSets s).gru.overrun = s.gru.overrun ∧ (groutSets s).gru.flushed = s.gru.flushed ∧
    (groutSets s).gru.postedRing = s.gru.postedRing ∧ (groutSets s).gru.deliveredRing = s.gru.deliveredRing ∧
    (groutSets s).gru.lag = s.gru.lag ∧ (groutSets s).gru.flushTimer = s.gru.flushTimer ∧
    (groutSets s).gru.flushRun = s.gru.flushRun ∧ (groutSets s).gru.flushStop = s.gru.flushStop ∧
    (groutSets s).alu.active = s.alu.active ∧ (groutSets s).alu.entries = s.alu.entries ∧
    (groutSets s).alu.estop = s.alu.estop ∧ (groutSets s).alu.duplicate = s.alu.duplicate ∧
    (groutSets s).fpt.timer = s.fpt.timer ∧ (groutSets s).fpt.fitted = s.fpt.fitted ∧
    (groutSets s).fpt.inputs = s.fpt.inputs ∧ (groutSets s).fpt.estopIn = s.fpt.estopIn ∧
    (groutSets s).fpt.probe = s.fpt.probe ∧ (groutSets s).fpt.forced = s.fpt.forced := by
  simp [groutSets]

@[simp] theorem beginFlush_fields (s : State) :
    (beginFlush s).gru.active = s.gru.active ∧ (beginFlush s).gru.queue = s.gru.queue ∧
    (beginFlush s).gru.remG = s.gru.remG ∧ (beginFlush s).gru.posted = s.gru.posted ∧
    (beginFlush s).gru.delivered = s.gru.delivered ∧ (beginFlush s).gru.writtenOff = s.gru.writtenOff ∧
    (beginFlush s).gru.overrun = s.gru.overrun ∧ (beginFlush s).gru.flushed = s.gru.flushed ∧
    (beginFlush s).gru.postedRing = s.gru.postedRing ∧ (beginFlush s).gru.deliveredRing = s.gru.deliveredRing ∧
    (beginFlush s).gru.lag = s.gru.lag ∧ (beginFlush s).alu.active = s.alu.active ∧
    (beginFlush s).alu.entries = s.alu.entries ∧ (beginFlush s).alu.estop = s.alu.estop ∧
    (beginFlush s).alu.duplicate = s.alu.duplicate ∧ (beginFlush s).fpt.timer = s.fpt.timer ∧
    (beginFlush s).fpt.fitted = s.fpt.fitted ∧ (beginFlush s).fpt.inputs = s.fpt.inputs ∧
    (beginFlush s).fpt.estopIn = s.fpt.estopIn ∧ (beginFlush s).fpt.probe = s.fpt.probe ∧
    (beginFlush s).fpt.forced = s.fpt.forced := by
  simp [beginFlush]

@[simp] theorem endFlush_fields (s : State) :
    (endFlush s).gru.active = s.gru.active ∧ (endFlush s).gru.queue = s.gru.queue ∧
    (endFlush s).gru.remG = s.gru.remG ∧ (endFlush s).gru.posted = s.gru.posted ∧
    (endFlush s).gru.delivered = s.gru.delivered ∧ (endFlush s).gru.writtenOff = s.gru.writtenOff ∧
    (endFlush s).gru.overrun = s.gru.overrun ∧ (endFlush s).gru.flushed = s.gru.flushed ∧
    (endFlush s).gru.postedRing = s.gru.postedRing ∧ (endFlush s).gru.deliveredRing = s.gru.deliveredRing ∧
    (endFlush s).gru.lag = s.gru.lag ∧ (endFlush s).gru.blockTimer = s.gru.blockTimer ∧
    (endFlush s).alu.active = s.alu.active ∧ (endFlush s).alu.entries = s.alu.entries ∧
    (endFlush s).alu.estop = s.alu.estop ∧ (endFlush s).alu.duplicate = s.alu.duplicate ∧
    (endFlush s).fpt.timer = s.fpt.timer ∧ (endFlush s).fpt.fitted = s.fpt.fitted ∧
    (endFlush s).fpt.inputs = s.fpt.inputs ∧ (endFlush s).fpt.estopIn = s.fpt.estopIn ∧
    (endFlush s).fpt.probe = s.fpt.probe ∧ (endFlush s).fpt.forced = s.fpt.forced := by
  simp [endFlush]

@[simp] theorem flushForcing_fields (forced : Bool) (s : State) :
    (flushForcing forced s).gru.active = s.gru.active ∧ (flushForcing forced s).gru.line = s.gru.line ∧
    (flushForcing forced s).gru.queue = s.gru.queue ∧ (flushForcing forced s).gru.remG = s.gru.remG ∧
    (flushForcing forced s).gru.posted = s.gru.posted ∧
    (flushForcing forced s).gru.delivered = s.gru.delivered ∧
    (flushForcing forced s).gru.writtenOff = s.gru.writtenOff ∧
    (flushForcing forced s).gru.overrun = s.gru.overrun ∧ (flushForcing forced s).gru.flushed = s.gru.flushed ∧
    (flushForcing forced s).gru.postedRing = s.gru.postedRing ∧
    (flushForcing forced s).gru.deliveredRing = s.gru.deliveredRing ∧
    (flushForcing forced s).gru.lag = s.gru.lag ∧
    (flushForcing forced s).gru.settingTimer = s.gru.settingTimer ∧
    (flushForcing forced s).gru.blockTimer = s.gru.blockTimer ∧
    (flushForcing forced s).gru.flushStop = s.gru.flushStop := by
  unfold flushForcing; (repeat' split) <;> simp

@[simp] theorem groutWriteOff_fields (ring : RingNumber) (s : State) :
    (groutWriteOff ring s).gru.active = s.gru.active ∧ (groutWriteOff ring s).gru.remG = s.gru.remG ∧
    (groutWriteOff ring s).gru.posted = s.gru.posted ∧ (groutWriteOff ring s).gru.delivered = s.gru.delivered ∧
    (groutWriteOff ring s).gru.overrun = s.gru.overrun ∧ (groutWriteOff ring s).gru.flushed = s.gru.flushed ∧
    (groutWriteOff ring s).gru.postedRing = s.gru.postedRing ∧
    (groutWriteOff ring s).gru.deliveredRing = s.gru.deliveredRing ∧
    (groutWriteOff ring s).gru.settingTimer = s.gru.settingTimer ∧
    (groutWriteOff ring s).gru.blockTimer = s.gru.blockTimer ∧
    (groutWriteOff ring s).gru.flushTimer = s.gru.flushTimer ∧
    (groutWriteOff ring s).gru.flushRun = s.gru.flushRun ∧
    (groutWriteOff ring s).gru.flushStop = s.gru.flushStop ∧ (groutWriteOff ring s).alu.active = s.alu.active ∧
    (groutWriteOff ring s).alu.entries = s.alu.entries ∧ (groutWriteOff ring s).alu.estop = s.alu.estop ∧
    (groutWriteOff ring s).alu.duplicate = s.alu.duplicate ∧ (groutWriteOff ring s).fpt.timer = s.fpt.timer ∧
    (groutWriteOff ring s).fpt.fitted = s.fpt.fitted ∧ (groutWriteOff ring s).fpt.inputs = s.fpt.inputs ∧
    (groutWriteOff ring s).fpt.estopIn = s.fpt.estopIn ∧ (groutWriteOff ring s).fpt.probe = s.fpt.probe ∧
    (groutWriteOff ring s).fpt.forced = s.fpt.forced := by
  simp [groutWriteOff]

@[simp] theorem groutRingClose_fields (s : State) :
    (groutRingClose s).gru.active = s.gru.active ∧ (groutRingClose s).gru.line = s.gru.line ∧
    (groutRingClose s).gru.remG = s.gru.remG ∧ (groutRingClose s).gru.posted = s.gru.posted ∧
    (groutRingClose s).gru.delivered = s.gru.delivered ∧ (groutRingClose s).gru.writtenOff = s.gru.writtenOff ∧
    (groutRingClose s).gru.overrun = s.gru.overrun ∧ (groutRingClose s).gru.flushed = s.gru.flushed ∧
    (groutRingClose s).gru.lag = s.gru.lag ∧ (groutRingClose s).gru.settingTimer = s.gru.settingTimer ∧
    (groutRingClose s).gru.blockTimer = s.gru.blockTimer ∧
    (groutRingClose s).gru.flushTimer = s.gru.flushTimer ∧ (groutRingClose s).gru.flushRun = s.gru.flushRun ∧
    (groutRingClose s).gru.flushStop = s.gru.flushStop := by
  simp [groutRingClose]

@[simp] theorem groutActivate_fields (s : State) :
    (groutActivate s).alu.active = s.alu.active ∧ (groutActivate s).alu.entries = s.alu.entries ∧
    (groutActivate s).alu.estop = s.alu.estop ∧ (groutActivate s).alu.duplicate = s.alu.duplicate ∧
    (groutActivate s).fpt.timer = s.fpt.timer ∧ (groutActivate s).fpt.fitted = s.fpt.fitted ∧
    (groutActivate s).fpt.inputs = s.fpt.inputs ∧ (groutActivate s).fpt.estopIn = s.fpt.estopIn ∧
    (groutActivate s).fpt.probe = s.fpt.probe ∧ (groutActivate s).fpt.forced = s.fpt.forced := by
  unfold groutActivate; split <;> simp

end Sys2Proof.Machine
end

