-- ==== Sys2Proof/Laws/Thrust.lean ====
section
/-! SUPPORT. What each operation of Machine/Thrust.lean leaves unchanged, block by block and, in the
blocks it changes, field by field. -/

namespace Sys2Proof.Machine

open Sys2Proof

@[simp] theorem writeGroupValve_frame (s : State) :
    (writeGroupValve s).pending = s.pending ∧ (writeGroupValve s).elapsed = s.elapsed ∧
    (writeGroupValve s).phase = s.phase ∧ (writeGroupValve s).pauseCause = s.pauseCause ∧
    (writeGroupValve s).ring = s.ring ∧ (writeGroupValve s).cfg = s.cfg ∧ (writeGroupValve s).ptb = s.ptb ∧
    (writeGroupValve s).oru = s.oru ∧ (writeGroupValve s).dsu = s.dsu ∧ (writeGroupValve s).thu = s.thu ∧
    (writeGroupValve s).bsq = s.bsq ∧ (writeGroupValve s).gru = s.gru ∧ (writeGroupValve s).bal = s.bal ∧
    (writeGroupValve s).lif = s.lif := by
  simp [writeGroupValve]

@[simp] theorem setGroup_frame (g : Group) (s : State) :
    (setGroup g s).pending = s.pending ∧ (setGroup g s).elapsed = s.elapsed ∧ (setGroup g s).phase = s.phase ∧
    (setGroup g s).pauseCause = s.pauseCause ∧ (setGroup g s).ring = s.ring ∧ (setGroup g s).cfg = s.cfg ∧
    (setGroup g s).ptb = s.ptb ∧ (setGroup g s).oru = s.oru ∧ (setGroup g s).dsu = s.dsu ∧
    (setGroup g s).bsq = s.bsq ∧ (setGroup g s).gru = s.gru ∧ (setGroup g s).bal = s.bal ∧
    (setGroup g s).lif = s.lif := by
  simp [setGroup]

@[simp] theorem emptySlot_frame (s : State) :
    (emptySlot s).pending = s.pending ∧ (emptySlot s).elapsed = s.elapsed ∧ (emptySlot s).phase = s.phase ∧
    (emptySlot s).pauseCause = s.pauseCause ∧ (emptySlot s).ring = s.ring ∧ (emptySlot s).cfg = s.cfg ∧
    (emptySlot s).ptb = s.ptb ∧ (emptySlot s).oru = s.oru ∧ (emptySlot s).dsu = s.dsu ∧
    (emptySlot s).bsq = s.bsq ∧ (emptySlot s).gru = s.gru ∧ (emptySlot s).bal = s.bal ∧
    (emptySlot s).alu = s.alu ∧ (emptySlot s).fpt = s.fpt ∧ (emptySlot s).lif = s.lif := by
  refine ⟨?_, ?_, ?_, ?_, ?_, ?_, ?_, ?_, ?_, ?_, ?_, ?_, ?_, ?_, ?_⟩ <;> rfl

@[simp] theorem strokeMeasured_frame (v : Int) (s : State) :
    (strokeMeasured v s).pending = s.pending ∧ (strokeMeasured v s).elapsed = s.elapsed ∧
    (strokeMeasured v s).phase = s.phase ∧ (strokeMeasured v s).pauseCause = s.pauseCause ∧
    (strokeMeasured v s).ring = s.ring ∧ (strokeMeasured v s).cfg = s.cfg ∧ (strokeMeasured v s).ptb = s.ptb ∧
    (strokeMeasured v s).oru = s.oru ∧ (strokeMeasured v s).dsu = s.dsu ∧ (strokeMeasured v s).bsq = s.bsq ∧
    (strokeMeasured v s).gru = s.gru ∧ (strokeMeasured v s).bal = s.bal ∧ (strokeMeasured v s).fpt = s.fpt ∧
    (strokeMeasured v s).lif = s.lif := by
  simp [strokeMeasured]

@[simp] theorem strokeSubstituted_frame (a b : StatusRecord) (s : State) :
    (strokeSubstituted a b s).pending = s.pending ∧ (strokeSubstituted a b s).elapsed = s.elapsed ∧
    (strokeSubstituted a b s).phase = s.phase ∧ (strokeSubstituted a b s).pauseCause = s.pauseCause ∧
    (strokeSubstituted a b s).ring = s.ring ∧ (strokeSubstituted a b s).cfg = s.cfg ∧
    (strokeSubstituted a b s).ptb = s.ptb ∧ (strokeSubstituted a b s).oru = s.oru ∧
    (strokeSubstituted a b s).dsu = s.dsu ∧ (strokeSubstituted a b s).bsq = s.bsq ∧
    (strokeSubstituted a b s).gru = s.gru ∧ (strokeSubstituted a b s).bal = s.bal ∧
    (strokeSubstituted a b s).alu = s.alu ∧ (strokeSubstituted a b s).fpt = s.fpt ∧
    (strokeSubstituted a b s).lif = s.lif := by
  refine ⟨?_, ?_, ?_, ?_, ?_, ?_, ?_, ?_, ?_, ?_, ?_, ?_, ?_, ?_, ?_⟩ <;> rfl

@[simp] theorem strokeInvalid_frame (s : State) :
    (strokeInvalid s).pending = s.pending ∧ (strokeInvalid s).elapsed = s.elapsed ∧
    (strokeInvalid s).phase = s.phase ∧ (strokeInvalid s).pauseCause = s.pauseCause ∧
    (strokeInvalid s).ring = s.ring ∧ (strokeInvalid s).cfg = s.cfg ∧ (strokeInvalid s).ptb = s.ptb ∧
    (strokeInvalid s).oru = s.oru ∧ (strokeInvalid s).dsu = s.dsu ∧ (strokeInvalid s).bsq = s.bsq ∧
    (strokeInvalid s).gru = s.gru ∧ (strokeInvalid s).bal = s.bal ∧ (strokeInvalid s).alu = s.alu ∧
    (strokeInvalid s).fpt = s.fpt ∧ (strokeInvalid s).lif = s.lif := by
  refine ⟨?_, ?_, ?_, ?_, ?_, ?_, ?_, ?_, ?_, ?_, ?_, ?_, ?_, ?_, ?_⟩ <;> rfl

@[simp] theorem takeStroke_frame (s : State) :
    (takeStroke s).pending = s.pending ∧ (takeStroke s).elapsed = s.elapsed ∧ (takeStroke s).phase = s.phase ∧
    (takeStroke s).pauseCause = s.pauseCause ∧ (takeStroke s).ring = s.ring ∧ (takeStroke s).cfg = s.cfg ∧
    (takeStroke s).ptb = s.ptb ∧ (takeStroke s).oru = s.oru ∧ (takeStroke s).dsu = s.dsu ∧
    (takeStroke s).bsq = s.bsq ∧ (takeStroke s).gru = s.gru ∧ (takeStroke s).bal = s.bal ∧
    (takeStroke s).fpt = s.fpt ∧ (takeStroke s).lif = s.lif := by
  unfold takeStroke; (repeat' split) <;> simp

@[simp] theorem rememberCounters_frame (s : State) :
    (rememberCounters s).pending = s.pending ∧ (rememberCounters s).elapsed = s.elapsed ∧
    (rememberCounters s).phase = s.phase ∧ (rememberCounters s).pauseCause = s.pauseCause ∧
    (rememberCounters s).ring = s.ring ∧ (rememberCounters s).cfg = s.cfg ∧ (rememberCounters s).ptb = s.ptb ∧
    (rememberCounters s).oru = s.oru ∧ (rememberCounters s).dsu = s.dsu ∧ (rememberCounters s).bsq = s.bsq ∧
    (rememberCounters s).gru = s.gru ∧ (rememberCounters s).bal = s.bal ∧ (rememberCounters s).alu = s.alu ∧
    (rememberCounters s).fpt = s.fpt ∧ (rememberCounters s).lif = s.lif := by
  refine ⟨?_, ?_, ?_, ?_, ?_, ?_, ?_, ?_, ?_, ?_, ?_, ?_, ?_, ?_, ?_⟩ <;> rfl

@[simp] theorem addIncrement_frame (ds : Int) (s : State) :
    (addIncrement ds s).pending = s.pending ∧ (addIncrement ds s).elapsed = s.elapsed ∧
    (addIncrement ds s).phase = s.phase ∧ (addIncrement ds s).pauseCause = s.pauseCause ∧
    (addIncrement ds s).ring = s.ring ∧ (addIncrement ds s).cfg = s.cfg ∧ (addIncrement ds s).ptb = s.ptb ∧
    (addIncrement ds s).oru = s.oru ∧ (addIncrement ds s).dsu = s.dsu ∧ (addIncrement ds s).bsq = s.bsq ∧
    (addIncrement ds s).bal = s.bal ∧ (addIncrement ds s).lif = s.lif := by
  unfold addIncrement; split <;> simp

@[simp] theorem pressureUpdate_frame (s : State) :
    (pressureUpdate s).pending = s.pending ∧ (pressureUpdate s).elapsed = s.elapsed ∧
    (pressureUpdate s).phase = s.phase ∧ (pressureUpdate s).pauseCause = s.pauseCause ∧
    (pressureUpdate s).ring = s.ring ∧ (pressureUpdate s).cfg = s.cfg ∧ (pressureUpdate s).ptb = s.ptb ∧
    (pressureUpdate s).oru = s.oru ∧ (pressureUpdate s).dsu = s.dsu ∧ (pressureUpdate s).bsq = s.bsq ∧
    (pressureUpdate s).gru = s.gru ∧ (pressureUpdate s).bal = s.bal ∧ (pressureUpdate s).lif = s.lif := by
  unfold pressureUpdate; split <;> simp

@[simp] theorem skewUpdate_frame (s : State) :
    (skewUpdate s).pending = s.pending ∧ (skewUpdate s).elapsed = s.elapsed ∧ (skewUpdate s).phase = s.phase ∧
    (skewUpdate s).pauseCause = s.pauseCause ∧ (skewUpdate s).ring = s.ring ∧ (skewUpdate s).cfg = s.cfg ∧
    (skewUpdate s).ptb = s.ptb ∧ (skewUpdate s).oru = s.oru ∧ (skewUpdate s).dsu = s.dsu ∧
    (skewUpdate s).bsq = s.bsq ∧ (skewUpdate s).gru = s.gru ∧ (skewUpdate s).bal = s.bal ∧
    (skewUpdate s).alu = s.alu ∧ (skewUpdate s).fpt = s.fpt ∧ (skewUpdate s).lif = s.lif := by
  refine ⟨?_, ?_, ?_, ?_, ?_, ?_, ?_, ?_, ?_, ?_, ?_, ?_, ?_, ?_, ?_⟩ <;> rfl

@[simp] theorem strokeEndTest_frame (s : State) :
    (strokeEndTest s).pending = s.pending ∧ (strokeEndTest s).elapsed = s.elapsed ∧
    (strokeEndTest s).phase = s.phase ∧ (strokeEndTest s).pauseCause = s.pauseCause ∧
    (strokeEndTest s).ring = s.ring ∧ (strokeEndTest s).cfg = s.cfg ∧ (strokeEndTest s).ptb = s.ptb ∧
    (strokeEndTest s).oru = s.oru ∧ (strokeEndTest s).dsu = s.dsu ∧ (strokeEndTest s).bsq = s.bsq ∧
    (strokeEndTest s).gru = s.gru ∧ (strokeEndTest s).bal = s.bal ∧ (strokeEndTest s).lif = s.lif := by
  unfold strokeEndTest; split <;> simp

@[simp] theorem completeRetraction_frame (s : State) :
    (completeRetraction s).pending = s.pending ∧ (completeRetraction s).elapsed = s.elapsed ∧
    (completeRetraction s).phase = s.phase ∧ (completeRetraction s).pauseCause = s.pauseCause ∧
    (completeRetraction s).ring = s.ring ∧ (completeRetraction s).cfg = s.cfg ∧
    (completeRetraction s).ptb = s.ptb ∧ (completeRetraction s).oru = s.oru ∧
    (completeRetraction s).dsu = s.dsu ∧ (completeRetraction s).bsq = s.bsq ∧
    (completeRetraction s).gru = s.gru ∧ (completeRetraction s).bal = s.bal ∧
    (completeRetraction s).lif = s.lif := by
  unfold completeRetraction; split <;> simp

@[simp] theorem retractionTest_frame (s : State) :
    (retractionTest s).pending = s.pending ∧ (retractionTest s).elapsed = s.elapsed ∧
    (retractionTest s).phase = s.phase ∧ (retractionTest s).pauseCause = s.pauseCause ∧
    (retractionTest s).ring = s.ring ∧ (retractionTest s).cfg = s.cfg ∧ (retractionTest s).ptb = s.ptb ∧
    (retractionTest s).oru = s.oru ∧ (retractionTest s).dsu = s.dsu ∧ (retractionTest s).bsq = s.bsq ∧
    (retractionTest s).gru = s.gru ∧ (retractionTest s).bal = s.bal ∧ (retractionTest s).lif = s.lif := by
  unfold retractionTest; split <;> simp

@[simp] theorem strokeArrival_frame (s : State) :
    (strokeArrival s).pending = s.pending ∧ (strokeArrival s).elapsed = s.elapsed ∧
    (strokeArrival s).phase = s.phase ∧ (strokeArrival s).pauseCause = s.pauseCause ∧
    (strokeArrival s).ring = s.ring ∧ (strokeArrival s).cfg = s.cfg ∧ (strokeArrival s).ptb = s.ptb ∧
    (strokeArrival s).oru = s.oru ∧ (strokeArrival s).dsu = s.dsu ∧ (strokeArrival s).bsq = s.bsq ∧
    (strokeArrival s).bal = s.bal ∧ (strokeArrival s).lif = s.lif := by
  simp [strokeArrival]

@[simp] theorem groupPressureArrival_frame (s : State) :
    (groupPressureArrival s).pending = s.pending ∧ (groupPressureArrival s).elapsed = s.elapsed ∧
    (groupPressureArrival s).phase = s.phase ∧ (groupPressureArrival s).pauseCause = s.pauseCause ∧
    (groupPressureArrival s).ring = s.ring ∧ (groupPressureArrival s).cfg = s.cfg ∧
    (groupPressureArrival s).ptb = s.ptb ∧ (groupPressureArrival s).oru = s.oru ∧
    (groupPressureArrival s).dsu = s.dsu ∧ (groupPressureArrival s).bsq = s.bsq ∧
    (groupPressureArrival s).gru = s.gru ∧ (groupPressureArrival s).bal = s.bal ∧
    (groupPressureArrival s).lif = s.lif := by
  unfold groupPressureArrival; split <;> simp

@[simp] theorem takeAnswer_frame (source : Nat) (kind : RequestKind) (tag : Tag) (a : Answer)
    (s : State) :
    (takeAnswer source kind tag a s).pending = s.pending ∧
    (takeAnswer source kind tag a s).elapsed = s.elapsed ∧ (takeAnswer source kind tag a s).phase = s.phase ∧
    (takeAnswer source kind tag a s).pauseCause = s.pauseCause ∧
    (takeAnswer source kind tag a s).ring = s.ring ∧ (takeAnswer source kind tag a s).cfg = s.cfg ∧
    (takeAnswer source kind tag a s).ptb = s.ptb ∧ (takeAnswer source kind tag a s).oru = s.oru ∧
    (takeAnswer source kind tag a s).dsu = s.dsu ∧ (takeAnswer source kind tag a s).bsq = s.bsq ∧
    (takeAnswer source kind tag a s).gru = s.gru ∧ (takeAnswer source kind tag a s).bal = s.bal ∧
    (takeAnswer source kind tag a s).lif = s.lif := by
  unfold takeAnswer; split <;> simp

@[simp] theorem answerRequest_frame (source : Nat) (kind : RequestKind) (ring : RingNumber) (tag : Tag)
    (s : State) :
    ((answerRequest source kind ring tag s).1).pending = s.pending ∧
    ((answerRequest source kind ring tag s).1).elapsed = s.elapsed ∧
    ((answerRequest source kind ring tag s).1).phase = s.phase ∧
    ((answerRequest source kind ring tag s).1).pauseCause = s.pauseCause ∧
    ((answerRequest source kind ring tag s).1).ring = s.ring ∧
    ((answerRequest source kind ring tag s).1).cfg = s.cfg ∧
    ((answerRequest source kind ring tag s).1).ptb = s.ptb ∧
    ((answerRequest source kind ring tag s).1).oru = s.oru ∧
    ((answerRequest source kind ring tag s).1).dsu = s.dsu ∧
    ((answerRequest source kind ring tag s).1).bsq = s.bsq ∧
    ((answerRequest source kind ring tag s).1).gru = s.gru ∧
    ((answerRequest source kind ring tag s).1).bal = s.bal ∧
    ((answerRequest source kind ring tag s).1).lif = s.lif := by
  unfold answerRequest; split <;> simp

@[simp] theorem replyRequest_frame (source : Nat) (kind : RequestKind) (ring : RingNumber) (tag : Tag)
    (s : State) :
    (replyRequest source kind ring tag s).pending = s.pending ∧
    (replyRequest source kind ring tag s).elapsed = s.elapsed ∧
    (replyRequest source kind ring tag s).phase = s.phase ∧
    (replyRequest source kind ring tag s).pauseCause = s.pauseCause ∧
    (replyRequest source kind ring tag s).ring = s.ring ∧ (replyRequest source kind ring tag s).cfg = s.cfg ∧
    (replyRequest source kind ring tag s).ptb = s.ptb ∧ (replyRequest source kind ring tag s).oru = s.oru ∧
    (replyRequest source kind ring tag s).dsu = s.dsu ∧ (replyRequest source kind ring tag s).bsq = s.bsq ∧
    (replyRequest source kind ring tag s).gru = s.gru ∧ (replyRequest source kind ring tag s).bal = s.bal := by
  simp [replyRequest]

@[simp] theorem autoClose_frame (s : State) :
    (autoClose s).pending = s.pending ∧ (autoClose s).elapsed = s.elapsed ∧ (autoClose s).phase = s.phase ∧
    (autoClose s).pauseCause = s.pauseCause ∧ (autoClose s).ring = s.ring ∧ (autoClose s).cfg = s.cfg ∧
    (autoClose s).ptb = s.ptb ∧ (autoClose s).oru = s.oru ∧ (autoClose s).dsu = s.dsu ∧
    (autoClose s).bsq = s.bsq ∧ (autoClose s).gru = s.gru ∧ (autoClose s).bal = s.bal ∧
    (autoClose s).lif = s.lif := by
  unfold autoClose; split <;> simp

@[simp] theorem orphanTest_frame (s : State) :
    (orphanTest s).pending = s.pending ∧ (orphanTest s).elapsed = s.elapsed ∧ (orphanTest s).phase = s.phase ∧
    (orphanTest s).pauseCause = s.pauseCause ∧ (orphanTest s).ring = s.ring ∧ (orphanTest s).cfg = s.cfg ∧
    (orphanTest s).ptb = s.ptb ∧ (orphanTest s).oru = s.oru ∧ (orphanTest s).dsu = s.dsu ∧
    (orphanTest s).bsq = s.bsq ∧ (orphanTest s).gru = s.gru ∧ (orphanTest s).bal = s.bal ∧
    (orphanTest s).alu = s.alu ∧ (orphanTest s).fpt = s.fpt ∧ (orphanTest s).lif = s.lif := by
  unfold orphanTest; split <;> simp

@[simp] theorem groupFreeze_frame (s : State) :
    (groupFreeze s).pending = s.pending ∧ (groupFreeze s).elapsed = s.elapsed ∧
    (groupFreeze s).phase = s.phase ∧ (groupFreeze s).pauseCause = s.pauseCause ∧
    (groupFreeze s).ring = s.ring ∧ (groupFreeze s).cfg = s.cfg ∧ (groupFreeze s).ptb = s.ptb ∧
    (groupFreeze s).oru = s.oru ∧ (groupFreeze s).dsu = s.dsu ∧ (groupFreeze s).bsq = s.bsq ∧
    (groupFreeze s).gru = s.gru ∧ (groupFreeze s).bal = s.bal ∧ (groupFreeze s).lif = s.lif := by
  unfold groupFreeze; split <;> simp

@[simp] theorem groupThaw_frame (s : State) :
    (groupThaw s).pending = s.pending ∧ (groupThaw s).elapsed = s.elapsed ∧ (groupThaw s).phase = s.phase ∧
    (groupThaw s).pauseCause = s.pauseCause ∧ (groupThaw s).ring = s.ring ∧ (groupThaw s).cfg = s.cfg ∧
    (groupThaw s).ptb = s.ptb ∧ (groupThaw s).oru = s.oru ∧ (groupThaw s).dsu = s.dsu ∧
    (groupThaw s).bsq = s.bsq ∧ (groupThaw s).gru = s.gru ∧ (groupThaw s).bal = s.bal ∧
    (groupThaw s).lif = s.lif := by
  simp [groupThaw]

@[simp] theorem groupLeaveBuilding_frame (s : State) :
    (groupLeaveBuilding s).pending = s.pending ∧ (groupLeaveBuilding s).elapsed = s.elapsed ∧
    (groupLeaveBuilding s).phase = s.phase ∧ (groupLeaveBuilding s).pauseCause = s.pauseCause ∧
    (groupLeaveBuilding s).ring = s.ring ∧ (groupLeaveBuilding s).cfg = s.cfg ∧
    (groupLeaveBuilding s).ptb = s.ptb ∧ (groupLeaveBuilding s).oru = s.oru ∧
    (groupLeaveBuilding s).dsu = s.dsu ∧ (groupLeaveBuilding s).bsq = s.bsq ∧
    (groupLeaveBuilding s).gru = s.gru ∧ (groupLeaveBuilding s).bal = s.bal ∧
    (groupLeaveBuilding s).lif = s.lif := by
  unfold groupLeaveBuilding; split <;> simp

@[simp] theorem thrustRingClose_frame (s : State) :
    (thrustRingClose s).pending = s.pending ∧ (thrustRingClose s).elapsed = s.elapsed ∧
    (thrustRingClose s).phase = s.phase ∧ (thrustRingClose s).pauseCause = s.pauseCause ∧
    (thrustRingClose s).ring = s.ring ∧ (thrustRingClose s).cfg = s.cfg ∧ (thrustRingClose s).ptb = s.ptb ∧
    (thrustRingClose s).oru = s.oru ∧ (thrustRingClose s).dsu = s.dsu ∧ (thrustRingClose s).bsq = s.bsq ∧
    (thrustRingClose s).gru = s.gru ∧ (thrustRingClose s).bal = s.bal ∧ (thrustRingClose s).alu = s.alu ∧
    (thrustRingClose s).fpt = s.fpt ∧ (thrustRingClose s).lif = s.lif := by
  refine ⟨?_, ?_, ?_, ?_, ?_, ?_, ?_, ?_, ?_, ?_, ?_, ?_, ?_, ?_, ?_⟩ <;> rfl

@[simp] theorem thrustRestart_frame (s : State) :
    (thrustRestart s).pending = s.pending ∧ (thrustRestart s).elapsed = s.elapsed ∧
    (thrustRestart s).phase = s.phase ∧ (thrustRestart s).pauseCause = s.pauseCause ∧
    (thrustRestart s).ring = s.ring ∧ (thrustRestart s).cfg = s.cfg ∧ (thrustRestart s).ptb = s.ptb ∧
    (thrustRestart s).oru = s.oru ∧ (thrustRestart s).dsu = s.dsu ∧ (thrustRestart s).bsq = s.bsq ∧
    (thrustRestart s).gru = s.gru ∧ (thrustRestart s).bal = s.bal ∧ (thrustRestart s).lif = s.lif := by
  simp [thrustRestart]

@[simp] theorem writeGroupValve_fields (s : State) :
    (writeGroupValve s).alu.active = s.alu.active ∧ (writeGroupValve s).alu.entries = s.alu.entries ∧
    (writeGroupValve s).alu.estop = s.alu.estop ∧ (writeGroupValve s).alu.duplicate = s.alu.duplicate ∧
    (writeGroupValve s).fpt.timer = s.fpt.timer ∧ (writeGroupValve s).fpt.fitted = s.fpt.fitted ∧
    (writeGroupValve s).fpt.inputs = s.fpt.inputs ∧ (writeGroupValve s).fpt.estopIn = s.fpt.estopIn ∧
    (writeGroupValve s).fpt.probe = s.fpt.probe ∧ (writeGroupValve s).fpt.forced = s.fpt.forced := by
  simp [writeGroupValve]

@[simp] theorem setGroup_fields (g : Group) (s : State) :
    (setGroup g s).thu.quality = s.thu.quality ∧ (setGroup g s).thu.stroke = s.thu.stroke ∧
    (setGroup g s).thu.rate = s.thu.rate ∧ (setGroup g s).thu.history = s.thu.history ∧
    (setGroup g s).thu.fresh = s.thu.fresh ∧ (setGroup g s).thu.neighbours = s.thu.neighbours ∧
    (setGroup g s).thu.counter = s.thu.counter ∧ (setGroup g s).thu.set = s.thu.set ∧
    (setGroup g s).thu.blind = s.thu.blind ∧ (setGroup g s).thu.strokeEnd = s.thu.strokeEnd ∧
    (setGroup g s).thu.rateTarget = s.thu.rateTarget ∧ (setGroup g s).thu.bias = s.thu.bias ∧
    (setGroup g s).thu.enable = s.thu.enable ∧ (setGroup g s).thu.slot = s.thu.slot ∧
    (setGroup g s).thu.lastAnswer = s.thu.lastAnswer ∧ (setGroup g s).thu.strokeFault = s.thu.strokeFault ∧
    (setGroup g s).thu.denied = s.thu.denied ∧ (setGroup g s).thu.skew = s.thu.skew ∧
    (setGroup g s).thu.orphaned = s.thu.orphaned ∧ (setGroup g s).alu.active = s.alu.active ∧
    (setGroup g s).alu.entries = s.alu.entries ∧ (setGroup g s).alu.estop = s.alu.estop ∧
    (setGroup g s).alu.duplicate = s.alu.duplicate ∧ (setGroup g s).fpt.timer = s.fpt.timer ∧
    (setGroup g s).fpt.fitted = s.fpt.fitted ∧ (setGroup g s).fpt.inputs = s.fpt.inputs ∧
    (setGroup g s).fpt.estopIn = s.fpt.estopIn ∧ (setGroup g s).fpt.probe = s.fpt.probe ∧
    (setGroup g s).fpt.forced = s.fpt.forced := by
  simp [setGroup]

@[simp] theorem emptySlot_fields (s : State) :
    (emptySlot s).thu.group = s.thu.group ∧ (emptySlot s).thu.pRef = s.thu.pRef ∧
    (emptySlot s).thu.quality = s.thu.quality ∧ (emptySlot s).thu.stroke = s.thu.stroke ∧
    (emptySlot s).thu.rate = s.thu.rate ∧ (emptySlot s).thu.history = s.thu.history ∧
    (emptySlot s).thu.fresh = s.thu.fresh ∧ (emptySlot s).thu.neighbours = s.thu.neighbours ∧
    (emptySlot s).thu.counter = s.thu.counter ∧ (emptySlot s).thu.set = s.thu.set ∧
    (emptySlot s).thu.blind = s.thu.blind ∧ (emptySlot s).thu.strokeEnd = s.thu.strokeEnd ∧
    (emptySlot s).thu.rateTarget = s.thu.rateTarget ∧ (emptySlot s).thu.bias = s.thu.bias ∧
    (emptySlot s).thu.enable = s.thu.enable ∧ (emptySlot s).thu.lastAnswer = s.thu.lastAnswer ∧
    (emptySlot s).thu.strokeFault = s.thu.strokeFault ∧ (emptySlot s).thu.denied = s.thu.denied ∧
    (emptySlot s).thu.skew = s.thu.skew ∧ (emptySlot s).thu.orphaned = s.thu.orphaned := by
  simp [emptySlot]

@[simp] theorem strokeMeasured_fields (v : Int) (s : State) :
    (strokeMeasured v s).thu.group = s.thu.group ∧ (strokeMeasured v s).thu.pRef = s.thu.pRef ∧
    (strokeMeasured v s).thu.neighbours = s.thu.neighbours ∧ (strokeMeasured v s).thu.counter = s.thu.counter ∧
    (strokeMeasured v s).thu.set = s.thu.set ∧ (strokeMeasured v s).thu.blind = s.thu.blind ∧
    (strokeMeasured v s).thu.strokeEnd = s.thu.strokeEnd ∧
    (strokeMeasured v s).thu.rateTarget = s.thu.rateTarget ∧ (strokeMeasured v s).thu.bias = s.thu.bias ∧
    (strokeMeasured v s).thu.enable = s.thu.enable ∧ (strokeMeasured v s).thu.slot = s.thu.slot ∧
    (strokeMeasured v s).thu.lastAnswer = s.thu.lastAnswer ∧ (strokeMeasured v s).thu.skew = s.thu.skew ∧
    (strokeMeasured v s).thu.orphaned = s.thu.orphaned ∧ (strokeMeasured v s).alu.active = s.alu.active ∧
    (strokeMeasured v s).alu.entries = s.alu.entries ∧ (strokeMeasured v s).alu.estop = s.alu.estop ∧
    (strokeMeasured v s).alu.duplicate = s.alu.duplicate := by
  simp [strokeMeasured]

@[simp] theorem strokeSubstituted_fields (a b : StatusRecord) (s : State) :
    (strokeSubstituted a b s).thu.group = s.thu.group ∧ (strokeSubstituted a b s).thu.pRef = s.thu.pRef ∧
    (strokeSubstituted a b s).thu.history = s.thu.history ∧ (strokeSubstituted a b s).thu.fresh = s.thu.fresh ∧
    (strokeSubstituted a b s).thu.neighbours = s.thu.neighbours ∧
    (strokeSubstituted a b s).thu.counter = s.thu.counter ∧ (strokeSubstituted a b s).thu.set = s.thu.set ∧
    (strokeSubstituted a b s).thu.blind = s.thu.blind ∧
    (strokeSubstituted a b s).thu.strokeEnd = s.thu.strokeEnd ∧
    (strokeSubstituted a b s).thu.rateTarget = s.thu.rateTarget ∧
    (strokeSubstituted a b s).thu.bias = s.thu.bias ∧ (strokeSubstituted a b s).thu.enable = s.thu.enable ∧
    (strokeSubstituted a b s).thu.slot = s.thu.slot ∧
    (strokeSubstituted a b s).thu.lastAnswer = s.thu.lastAnswer ∧
    (strokeSubstituted a b s).thu.skew = s.thu.skew ∧
    (strokeSubstituted a b s).thu.orphaned = s.thu.orphaned := by
  simp [strokeSubstituted]

@[simp] theorem strokeInvalid_fields (s : State) :
    (strokeInvalid s).thu.group = s.thu.group ∧ (strokeInvalid s).thu.pRef = s.thu.pRef ∧
    (strokeInvalid s).thu.stroke = s.thu.stroke ∧ (strokeInvalid s).thu.history = s.thu.history ∧
    (strokeInvalid s).thu.fresh = s.thu.fresh ∧ (strokeInvalid s).thu.neighbours = s.thu.neighbours ∧
    (strokeInvalid s).thu.counter = s.thu.counter ∧ (strokeInvalid s).thu.set = s.thu.set ∧
    (strokeInvalid s).thu.blind = s.thu.blind ∧ (strokeInvalid s).thu.strokeEnd = s.thu.strokeEnd ∧
    (strokeInvalid s).thu.rateTarget = s.thu.rateTarget ∧ (strokeInvalid s).thu.bias = s.thu.bias ∧
    (strokeInvalid s).thu.enable = s.thu.enable ∧ (strokeInvalid s).thu.slot = s.thu.slot ∧
    (strokeInvalid s).thu.lastAnswer = s.thu.lastAnswer ∧ (strokeInvalid s).thu.skew = s.thu.skew ∧
    (strokeInvalid s).thu.orphaned = s.thu.orphaned := by
  simp [strokeInvalid]

@[simp] theorem takeStroke_fields (s : State) :
    (takeStroke s).thu.group = s.thu.group ∧ (takeStroke s).thu.pRef = s.thu.pRef ∧
    (takeStroke s).thu.neighbours = s.thu.neighbours ∧ (takeStroke s).thu.counter = s.thu.counter ∧
    (takeStroke s).thu.set = s.thu.set ∧ (takeStroke s).thu.blind = s.thu.blind ∧
    (takeStroke s).thu.strokeEnd = s.thu.strokeEnd ∧ (takeStroke s).thu.rateTarget = s.thu.rateTarget ∧
    (takeStroke s).thu.bias = s.thu.bias ∧ (takeStroke s).thu.enable = s.thu.enable ∧
    (takeStroke s).thu.slot = s.thu.slot ∧ (takeStroke s).thu.lastAnswer = s.thu.lastAnswer ∧
    (takeStroke s).thu.skew = s.thu.skew ∧ (takeStroke s).thu.orphaned = s.thu.orphaned ∧
    (takeStroke s).alu.active = s.alu.active ∧ (takeStroke s).alu.entries = s.alu.entries ∧
    (takeStroke s).alu.estop = s.alu.estop ∧ (takeStroke s).alu.duplicate = s.alu.duplicate := by
  unfold takeStroke; (repeat' split) <;> simp

@[simp] theorem rememberCounters_fields (s : State) :
    (rememberCounters s).thu.group = s.thu.group ∧ (rememberCounters s).thu.pRef = s.thu.pRef ∧
    (rememberCounters s).thu.quality = s.thu.quality ∧ (rememberCounters s).thu.stroke = s.thu.stroke ∧
    (rememberCounters s).thu.rate = s.thu.rate ∧ (rememberCounters s).thu.history = s.thu.history ∧
    (rememberCounters s).thu.fresh = s.thu.fresh ∧ (rememberCounters s).thu.counter = s.thu.counter ∧
    (rememberCounters s).thu.strokeEnd = s.thu.strokeEnd ∧
    (rememberCounters s).thu.rateTarget = s.thu.rateTarget ∧ (rememberCounters s).thu.bias = s.thu.bias ∧
    (rememberCounters s).thu.enable = s.thu.enable ∧ (rememberCounters s).thu.slot = s.thu.slot ∧
    (rememberCounters s).thu.lastAnswer = s.thu.lastAnswer ∧
    (rememberCounters s).thu.strokeFault = s.thu.strokeFault ∧ (rememberCounters s).thu.denied = s.thu.denied ∧
    (rememberCounters s).thu.skew = s.thu.skew ∧ (rememberCounters s).thu.orphaned = s.thu.orphaned := by
  simp [rememberCounters]

@[simp] theorem addIncrement_fields (ds : Int) (s : State) :
    (addIncrement ds s).thu.group = s.thu.group ∧ (addIncrement ds s).thu.pRef = s.thu.pRef ∧
    (addIncrement ds s).thu.quality = s.thu.quality ∧ (addIncrement ds s).thu.stroke = s.thu.stroke ∧
    (addIncrement ds s).thu.rate = s.thu.rate ∧ (addIncrement ds s).thu.history = s.thu.history ∧
    (addIncrement ds s).thu.fresh = s.thu.fresh ∧ (addIncrement ds s).thu.neighbours = s.thu.neighbours ∧
    (addIncrement ds s).thu.set = s.thu.set ∧ (addIncrement ds s).thu.blind = s.thu.blind ∧
    (addIncrement ds s).thu.strokeEnd = s.thu.strokeEnd ∧
    (addIncrement ds s).thu.rateTarget = s.thu.rateTarget ∧ (addIncrement ds s).thu.bias = s.thu.bias ∧
    (addIncrement ds s).thu.enable = s.thu.enable ∧ (addIncrement ds s).thu.slot = s.thu.slot ∧
    (addIncrement ds s).thu.lastAnswer = s.thu.lastAnswer ∧
    (addIncrement ds s).thu.strokeFault = s.thu.strokeFault ∧ (addIncrement ds s).thu.denied = s.thu.denied ∧
    (addIncrement ds s).thu.skew = s.thu.skew ∧ (addIncrement ds s).thu.orphaned = s.thu.orphaned ∧
    (addIncrement ds s).gru.active = s.gru.active ∧ (addIncrement ds s).gru.delivered = s.gru.delivered ∧
    (addIncrement ds s).gru.writtenOff = s.gru.writtenOff ∧ (addIncrement ds s).gru.overrun = s.gru.overrun ∧
    (addIncrement ds s).gru.flushed = s.gru.flushed ∧
    (addIncrement ds s).gru.deliveredRing = s.gru.deliveredRing ∧
    (addIncrement ds s).gru.settingTimer = s.gru.settingTimer ∧
    (addIncrement ds s).gru.blockTimer = s.gru.blockTimer ∧
    (addIncrement ds s).gru.flushTimer = s.gru.flushTimer ∧ (addIncrement ds s).gru.flushRun = s.gru.flushRun ∧
    (addIncrement ds s).gru.flushStop = s.gru.flushStop ∧ (addIncrement ds s).alu.active = s.alu.active ∧
    (addIncrement ds s).alu.entries = s.alu.entries ∧ (addIncrement ds s).alu.estop = s.alu.estop ∧
    (addIncrement ds s).alu.duplicate = s.alu.duplicate ∧ (addIncrement ds s).fpt.timer = s.fpt.timer ∧
    (addIncrement ds s).fpt.fitted = s.fpt.fitted ∧ (addIncrement ds s).fpt.inputs = s.fpt.inputs ∧
    (addIncrement ds s).fpt.estopIn = s.fpt.estopIn ∧ (addIncrement ds s).fpt.probe = s.fpt.probe ∧
    (addIncrement ds s).fpt.forced = s.fpt.forced := by
  unfold addIncrement; split <;> simp

@[simp] theorem pressureUpdate_fields (s : State) :
    (pressureUpdate s).thu.group = s.thu.group ∧ (pressureUpdate s).thu.quality = s.thu.quality ∧
    (pressureUpdate s).thu.stroke = s.thu.stroke ∧ (pressureUpdate s).thu.rate = s.thu.rate ∧
    (pressureUpdate s).thu.history = s.thu.history ∧ (pressureUpdate s).thu.fresh = s.thu.fresh ∧
    (pressureUpdate s).thu.neighbours = s.thu.neighbours ∧ (pressureUpdate s).thu.counter = s.thu.counter ∧
    (pressureUpdate s).thu.set = s.thu.set ∧ (pressureUpdate s).thu.blind = s.thu.blind ∧
    (pressureUpdate s).thu.strokeEnd = s.thu.strokeEnd ∧ (pressureUpdate s).thu.rateTarget = s.thu.rateTarget ∧
    (pressureUpdate s).thu.bias = s.thu.bias ∧ (pressureUpdate s).thu.enable = s.thu.enable ∧
    (pressureUpdate s).thu.slot = s.thu.slot ∧ (pressureUpdate s).thu.lastAnswer = s.thu.lastAnswer ∧
    (pressureUpdate s).thu.strokeFault = s.thu.strokeFault ∧ (pressureUpdate s).thu.denied = s.thu.denied ∧
    (pressureUpdate s).thu.skew = s.thu.skew ∧ (pressureUpdate s).thu.orphaned = s.thu.orphaned ∧
    (pressureUpdate s).alu.active = s.alu.active ∧ (pressureUpdate s).alu.entries = s.alu.entries ∧
    (pressureUpdate s).alu.estop = s.alu.estop ∧ (pressureUpdate s).alu.duplicate = s.alu.duplicate ∧
    (pressureUpdate s).fpt.timer = s.fpt.timer ∧ (pressureUpdate s).fpt.fitted = s.fpt.fitted ∧
    (pressureUpdate s).fpt.inputs = s.fpt.inputs ∧ (pressureUpdate s).fpt.estopIn = s.fpt.estopIn ∧
    (pressureUpdate s).fpt.probe = s.fpt.probe ∧ (pressureUpdate s).fpt.forced = s.fpt.forced := by
  unfold pressureUpdate; split <;> simp

@[simp] theorem skewUpdate_fields (s : State) :
    (skewUpdate s).thu.group = s.thu.group ∧ (skewUpdate s).thu.pRef = s.thu.pRef ∧
    (skewUpdate s).thu.quality = s.thu.quality ∧ (skewUpdate s).thu.stroke = s.thu.stroke ∧
    (skewUpdate s).thu.rate = s.thu.rate ∧ (skewUpdate s).thu.history = s.thu.history ∧
    (skewUpdate s).thu.fresh = s.thu.fresh ∧ (skewUpdate s).thu.neighbours = s.thu.neighbours ∧
    (skewUpdate s).thu.counter = s.thu.counter ∧ (skewUpdate s).thu.set = s.thu.set ∧
    (skewUpdate s).thu.blind = s.thu.blind ∧ (skewUpdate s).thu.strokeEnd = s.thu.strokeEnd ∧
    (skewUpdate s).thu.rateTarget = s.thu.rateTarget ∧ (skewUpdate s).thu.bias = s.thu.bias ∧
    (skewUpdate s).thu.enable = s.thu.enable ∧ (skewUpdate s).thu.slot = s.thu.slot ∧
    (skewUpdate s).thu.lastAnswer = s.thu.lastAnswer ∧ (skewUpdate s).thu.strokeFault = s.thu.strokeFault ∧
    (skewUpdate s).thu.denied = s.thu.denied ∧ (skewUpdate s).thu.orphaned = s.thu.orphaned := by
  simp [skewUpdate]

@[simp] theorem strokeEndTest_fields (s : State) :
    (strokeEndTest s).thu.quality = s.thu.quality ∧ (strokeEndTest s).thu.stroke = s.thu.stroke ∧
    (strokeEndTest s).thu.rate = s.thu.rate ∧ (strokeEndTest s).thu.history = s.thu.history ∧
    (strokeEndTest s).thu.fresh = s.thu.fresh ∧ (strokeEndTest s).thu.neighbours = s.thu.neighbours ∧
    (strokeEndTest s).thu.counter = s.thu.counter ∧ (strokeEndTest s).thu.set = s.thu.set ∧
    (strokeEndTest s).thu.blind = s.thu.blind ∧ (strokeEndTest s).thu.rateTarget = s.thu.rateTarget ∧
    (strokeEndTest s).thu.bias = s.thu.bias ∧ (strokeEndTest s).thu.enable = s.thu.enable ∧
    (strokeEndTest s).thu.slot = s.thu.slot ∧ (strokeEndTest s).thu.lastAnswer = s.thu.lastAnswer ∧
    (strokeEndTest s).thu.strokeFault = s.thu.strokeFault ∧ (strokeEndTest s).thu.denied = s.thu.denied ∧
    (strokeEndTest s).thu.skew = s.thu.skew ∧ (strokeEndTest s).thu.orphaned = s.thu.orphaned ∧
    (strokeEndTest s).alu.active = s.alu.active ∧ (strokeEndTest s).alu.entries = s.alu.entries ∧
    (strokeEndTest s).alu.estop = s.alu.estop ∧ (strokeEndTest s).alu.duplicate = s.alu.duplicate ∧
    (strokeEndTest s).fpt.timer = s.fpt.timer ∧ (strokeEndTest s).fpt.fitted = s.fpt.fitted ∧
    (strokeEndTest s).fpt.inputs = s.fpt.inputs ∧ (strokeEndTest s).fpt.estopIn = s.fpt.estopIn ∧
    (strokeEndTest s).fpt.probe = s.fpt.probe ∧ (strokeEndTest s).fpt.forced = s.fpt.forced := by
  unfold strokeEndTest; split <;> simp

@[simp] theorem completeRetraction_fields (s : State) :
    (completeRetraction s).thu.quality = s.thu.quality ∧ (completeRetraction s).thu.stroke = s.thu.stroke ∧
    (completeRetraction s).thu.rate = s.thu.rate ∧ (completeRetraction s).thu.history = s.thu.history ∧
    (completeRetraction s).thu.fresh = s.thu.fresh ∧ (completeRetraction s).thu.neighbours = s.thu.neighbours ∧
    (completeRetraction s).thu.counter = s.thu.counter ∧ (completeRetraction s).thu.set = s.thu.set ∧
    (completeRetraction s).thu.blind = s.thu.blind ∧ (completeRetraction s).thu.strokeEnd = s.thu.strokeEnd ∧
    (completeRetraction s).thu.rateTarget = s.thu.rateTarget ∧ (completeRetraction s).thu.bias = s.thu.bias ∧
    (completeRetraction s).thu.enable = s.thu.enable ∧
    (completeRetraction s).thu.lastAnswer = s.thu.lastAnswer ∧
    (completeRetraction s).thu.strokeFault = s.thu.strokeFault ∧
    (completeRetraction s).thu.denied = s.thu.denied ∧ (completeRetraction s).thu.skew = s.thu.skew ∧
    (completeRetraction s).thu.orphaned = s.thu.orphaned ∧ (completeRetraction s).alu.active = s.alu.active ∧
    (completeRetraction s).alu.entries = s.alu.entries ∧ (completeRetraction s).alu.estop = s.alu.estop ∧
    (completeRetraction s).alu.duplicate = s.alu.duplicate ∧ (completeRetraction s).fpt.timer = s.fpt.timer ∧
    (completeRetraction s).fpt.fitted = s.fpt.fitted ∧ (completeRetraction s).fpt.inputs = s.fpt.inputs ∧
    (completeRetraction s).fpt.estopIn = s.fpt.estopIn ∧ (completeRetraction s).fpt.probe = s.fpt.probe ∧
    (completeRetraction s).fpt.forced = s.fpt.forced := by
  unfold completeRetraction; split <;> simp

@[simp] theorem retractionTest_fields (s : State) :
    (retractionTest s).thu.quality = s.thu.quality ∧ (retractionTest s).thu.stroke = s.thu.stroke ∧
    (retractionTest s).thu.rate = s.thu.rate ∧ (retractionTest s).thu.history = s.thu.history ∧
    (retractionTest s).thu.fresh = s.thu.fresh ∧ (retractionTest s).thu.neighbours = s.thu.neighbours ∧
    (retractionTest s).thu.counter = s.thu.counter ∧ (retractionTest s).thu.set = s.thu.set ∧
    (retractionTest s).thu.blind = s.thu.blind ∧ (retractionTest s).thu.strokeEnd = s.thu.strokeEnd ∧
    (retractionTest s).thu.rateTarget = s.thu.rateTarget ∧ (retractionTest s).thu.bias = s.thu.bias ∧
    (retractionTest s).thu.enable = s.thu.enable ∧ (retractionTest s).thu.lastAnswer = s.thu.lastAnswer ∧
    (retractionTest s).thu.strokeFault = s.thu.strokeFault ∧ (retractionTest s).thu.denied = s.thu.denied ∧
    (retractionTest s).thu.skew = s.thu.skew ∧ (retractionTest s).thu.orphaned = s.thu.orphaned ∧
    (retractionTest s).alu.active = s.alu.active ∧ (retractionTest s).alu.entries = s.alu.entries ∧
    (retractionTest s).alu.estop = s.alu.estop ∧ (retractionTest s).alu.duplicate = s.alu.duplicate ∧
    (retractionTest s).fpt.timer = s.fpt.timer ∧ (retractionTest s).fpt.fitted = s.fpt.fitted ∧
    (retractionTest s).fpt.inputs = s.fpt.inputs ∧ (retractionTest s).fpt.estopIn = s.fpt.estopIn ∧
    (retractionTest s).fpt.probe = s.fpt.probe ∧ (retractionTest s).fpt.forced = s.fpt.forced := by
  unfold retractionTest; split <;> simp

@[simp] theorem strokeArrival_fields (s : State) :
    (strokeArrival s).thu.rateTarget = s.thu.rateTarget ∧ (strokeArrival s).thu.bias = s.thu.bias ∧
    (strokeArrival s).thu.enable = s.thu.enable ∧ (strokeArrival s).thu.lastAnswer = s.thu.lastAnswer ∧
    (strokeArrival s).thu.orphaned = s.thu.orphaned ∧ (strokeArrival s).gru.active = s.gru.active ∧
    (strokeArrival s).gru.delivered = s.gru.delivered ∧ (strokeArrival s).gru.writtenOff = s.gru.writtenOff ∧
    (strokeArrival s).gru.overrun = s.gru.overrun ∧ (strokeArrival s).gru.flushed = s.gru.flushed ∧
    (strokeArrival s).gru.deliveredRing = s.gru.deliveredRing ∧
    (strokeArrival s).gru.settingTimer = s.gru.settingTimer ∧
    (strokeArrival s).gru.blockTimer = s.gru.blockTimer ∧ (strokeArrival s).gru.flushTimer = s.gru.flushTimer ∧
    (strokeArrival s).gru.flushRun = s.gru.flushRun ∧ (strokeArrival s).gru.flushStop = s.gru.flushStop ∧
    (strokeArrival s).alu.active = s.alu.active ∧ (strokeArrival s).alu.entries = s.alu.entries ∧
    (strokeArrival s).alu.estop = s.alu.estop ∧ (strokeArrival s).alu.duplicate = s.alu.duplicate ∧
    (strokeArrival s).fpt.timer = s.fpt.timer ∧ (strokeArrival s).fpt.fitted = s.fpt.fitted ∧
    (strokeArrival s).fpt.inputs = s.fpt.inputs ∧ (strokeArrival s).fpt.estopIn = s.fpt.estopIn ∧
    (strokeArrival s).fpt.probe = s.fpt.probe ∧ (strokeArrival s).fpt.forced = s.fpt.forced := by
  simp [strokeArrival]

@[simp] theorem groupPressureArrival_fields (s : State) :
    (groupPressureArrival s).thu.quality = s.thu.quality ∧ (groupPressureArrival s).thu.stroke = s.thu.stroke ∧
    (groupPressureArrival s).thu.rate = s.thu.rate ∧ (groupPressureArrival s).thu.history = s.thu.history ∧
    (groupPressureArrival s).thu.fresh = s.thu.fresh ∧
    (groupPressureArrival s).thu.neighbours = s.thu.neighbours ∧
    (groupPressureArrival s).thu.counter = s.thu.counter ∧ (groupPressureArrival s).thu.set = s.thu.set ∧
    (groupPressureArrival s).thu.blind = s.thu.blind ∧
    (groupPressureArrival s).thu.strokeEnd = s.thu.strokeEnd ∧
    (groupPressureArrival s).thu.rateTarget = s.thu.rateTarget ∧
    (groupPressureArrival s).thu.bias = s.thu.bias ∧ (groupPressureArrival s).thu.enable = s.thu.enable ∧
    (groupPressureArrival s).thu.lastAnswer = s.thu.lastAnswer ∧
    (groupPressureArrival s).thu.strokeFault = s.thu.strokeFault ∧
    (groupPressureArrival s).thu.denied = s.thu.denied ∧ (groupPressureArrival s).thu.skew = s.thu.skew ∧
    (groupPressureArrival s).thu.orphaned = s.thu.orphaned ∧
    (groupPressureArrival s).alu.active = s.alu.active ∧ (groupPressureArrival s).alu.entries = s.alu.entries ∧
    (groupPressureArrival s).alu.estop = s.alu.estop ∧
    (groupPressureArrival s).alu.duplicate = s.alu.duplicate ∧
    (groupPressureArrival s).fpt.timer = s.fpt.timer ∧ (groupPressureArrival s).fpt.fitted = s.fpt.fitted ∧
    (groupPressureArrival s).fpt.inputs = s.fpt.inputs ∧ (groupPressureArrival s).fpt.estopIn = s.fpt.estopIn ∧
    (groupPressureArrival s).fpt.probe = s.fpt.probe ∧ (groupPressureArrival s).fpt.forced = s.fpt.forced := by
  unfold groupPressureArrival; split <;> simp

@[simp] theorem takeAnswer_fields (source : Nat) (kind : RequestKind) (tag : Tag) (a : Answer)
    (s : State) :
    (takeAnswer source kind tag a s).thu.quality = s.thu.quality ∧
    (takeAnswer source kind tag a s).thu.stroke = s.thu.stroke ∧
    (takeAnswer source kind tag a s).thu.rate = s.thu.rate ∧
    (takeAnswer source kind tag a s).thu.history = s.thu.history ∧
    (takeAnswer source kind tag a s).thu.fresh = s.thu.fresh ∧
    (takeAnswer source kind tag a s).thu.neighbours = s.thu.neighbours ∧
    (takeAnswer source kind tag a s).thu.counter = s.thu.counter ∧
    (takeAnswer source kind tag a s).thu.set = s.thu.set ∧
    (takeAnswer source kind tag a s).thu.blind = s.thu.blind ∧
    (takeAnswer source kind tag a s).thu.strokeEnd = s.thu.strokeEnd ∧
    (takeAnswer source kind tag a s).thu.rateTarget = s.thu.rateTarget ∧
    (takeAnswer source kind tag a s).thu.bias = s.thu.bias ∧
    (takeAnswer source kind tag a s).thu.enable = s.thu.enable ∧
    (takeAnswer source kind tag a s).thu.strokeFault = s.thu.strokeFault ∧
    (takeAnswer source kind tag a s).thu.denied = s.thu.denied ∧
    (takeAnswer source kind tag a s).thu.skew = s.thu.skew ∧
    (takeAnswer source kind tag a s).thu.orphaned = s.thu.orphaned ∧
    (takeAnswer source kind tag a s).alu.active = s.alu.active ∧
    (takeAnswer source kind tag a s).alu.entries = s.alu.entries ∧
    (takeAnswer source kind tag a s).alu.estop = s.alu.estop ∧
    (takeAnswer source kind tag a s).alu.duplicate = s.alu.duplicate ∧
    (takeAnswer source kind tag a s).fpt.timer = s.fpt.timer ∧
    (takeAnswer source kind tag a s).fpt.fitted = s.fpt.fitted ∧
    (takeAnswer source kind tag a s).fpt.inputs = s.fpt.inputs ∧
    (takeAnswer source kind tag a s).fpt.estopIn = s.fpt.estopIn ∧
    (takeAnswer source kind tag a s).fpt.probe = s.fpt.probe ∧
    (takeAnswer source kind tag a s).fpt.forced = s.fpt.forced := by
  unfold takeAnswer; split <;> simp

@[simp] theorem answerRequest_fields (source : Nat) (kind : RequestKind) (ring : RingNumber) (tag : Tag)
    (s : State) :
    ((answerRequest source kind ring tag s).1).thu.quality = s.thu.quality ∧
    ((answerRequest source kind ring tag s).1).thu.stroke = s.thu.stroke ∧
    ((answerRequest source kind ring tag s).1).thu.rate = s.thu.rate ∧
    ((answerRequest source kind ring tag s).1).thu.history = s.thu.history ∧
    ((answerRequest source kind ring tag s).1).thu.fresh = s.thu.fresh ∧
    ((answerRequest source kind ring tag s).1).thu.neighbours = s.thu.neighbours ∧
    ((answerRequest source kind ring tag s).1).thu.counter = s.thu.counter ∧
    ((answerRequest source kind ring tag s).1).thu.set = s.thu.set ∧
    ((answerRequest source kind ring tag s).1).thu.blind = s.thu.blind ∧
    ((answerRequest source kind ring tag s).1).thu.strokeEnd = s.thu.strokeEnd ∧
    ((answerRequest source kind ring tag s).1).thu.rateTarget = s.thu.rateTarget ∧
    ((answerRequest source kind ring tag s).1).thu.bias = s.thu.bias ∧
    ((answerRequest source kind ring tag s).1).thu.enable = s.thu.enable ∧
    ((answerRequest source kind ring tag s).1).thu.strokeFault = s.thu.strokeFault ∧
    ((answerRequest source kind ring tag s).1).thu.denied = s.thu.denied ∧
    ((answerRequest source kind ring tag s).1).thu.skew = s.thu.skew ∧
    ((answerRequest source kind ring tag s).1).thu.orphaned = s.thu.orphaned ∧
    ((answerRequest source kind ring tag s).1).alu.active = s.alu.active ∧
    ((answerRequest source kind ring tag s).1).alu.entries = s.alu.entries ∧
    ((answerRequest source kind ring tag s).1).alu.estop = s.alu.estop ∧
    ((answerRequest source kind ring tag s).1).alu.duplicate = s.alu.duplicate ∧
    ((answerRequest source kind ring tag s).1).fpt.timer = s.fpt.timer ∧
    ((answerRequest source kind ring tag s).1).fpt.fitted = s.fpt.fitted ∧
    ((answerRequest source kind ring tag s).1).fpt.inputs = s.fpt.inputs ∧
    ((answerRequest source kind ring tag s).1).fpt.estopIn = s.fpt.estopIn ∧
    ((answerRequest source kind ring tag s).1).fpt.probe = s.fpt.probe ∧
    ((answerRequest source kind ring tag s).1).fpt.forced = s.fpt.forced := by
  unfold answerRequest; split <;> simp

@[simp] theorem replyRequest_fields (source : Nat) (kind : RequestKind) (ring : RingNumber) (tag : Tag)
    (s : State) :
    (replyRequest source kind ring tag s).thu.quality = s.thu.quality ∧
    (replyRequest source kind ring tag s).thu.stroke = s.thu.stroke ∧
    (replyRequest source kind ring tag s).thu.rate = s.thu.rate ∧
    (replyRequest source kind ring tag s).thu.history = s.thu.history ∧
    (replyRequest source kind ring tag s).thu.fresh = s.thu.fresh ∧
    (replyRequest source kind ring tag s).thu.neighbours = s.thu.neighbours ∧
    (replyRequest source kind ring tag s).thu.counter = s.thu.counter ∧
    (replyRequest source kind ring tag s).thu.set = s.thu.set ∧
    (replyRequest source kind ring tag s).thu.blind = s.thu.blind ∧
    (replyRequest source kind ring tag s).thu.strokeEnd = s.thu.strokeEnd ∧
    (replyRequest source kind ring tag s).thu.rateTarget = s.thu.rateTarget ∧
    (replyRequest source kind ring tag s).thu.bias = s.thu.bias ∧
    (replyRequest source kind ring tag s).thu.enable = s.thu.enable ∧
    (replyRequest source kind ring tag s).thu.strokeFault = s.thu.strokeFault ∧
    (replyRequest source kind ring tag s).thu.denied = s.thu.denied ∧
    (replyRequest source kind ring tag s).thu.skew = s.thu.skew ∧
    (replyRequest source kind ring tag s).thu.orphaned = s.thu.orphaned ∧
    (replyRequest source kind ring tag s).alu.active = s.alu.active ∧
    (replyRequest source kind ring tag s).alu.entries = s.alu.entries ∧
    (replyRequest source kind ring tag s).alu.estop = s.alu.estop ∧
    (replyRequest source kind ring tag s).alu.duplicate = s.alu.duplicate ∧
    (replyRequest source kind ring tag s).fpt.timer = s.fpt.timer ∧
    (replyRequest source kind ring tag s).fpt.fitted = s.fpt.fitted ∧
    (replyRequest source kind ring tag s).fpt.inputs = s.fpt.inputs ∧
    (replyRequest source kind ring tag s).fpt.estopIn = s.fpt.estopIn ∧
    (replyRequest source kind ring tag s).fpt.probe = s.fpt.probe ∧
    (replyRequest source kind ring tag s).fpt.forced = s.fpt.forced ∧
    (replyRequest source kind ring tag s).lif.slot = s.lif.slot ∧
    (replyRequest source kind ring tag s).lif.seq = s.lif.seq ∧
    (replyRequest source kind ring tag s).lif.idle = s.lif.idle ∧
    (replyRequest source kind ring tag s).lif.crcErrors = s.lif.crcErrors ∧
    (replyRequest source kind ring tag s).lif.formatErrors = s.lif.formatErrors ∧
    (replyRequest source kind ring tag s).lif.collisions = s.lif.collisions ∧
    (replyRequest source kind ring tag s).lif.diagCount = s.lif.diagCount ∧
    (replyRequest source kind ring tag s).lif.timer = s.lif.timer ∧
    (replyRequest source kind ring tag s).lif.lineFault = s.lif.lineFault ∧
    (replyRequest source kind ring tag s).lif.abandoned = s.lif.abandoned := by
  simp [replyRequest]

@[simp] theorem autoClose_fields (s : State) :
    (autoClose s).thu.quality = s.thu.quality ∧ (autoClose s).thu.stroke = s.thu.stroke ∧
    (autoClose s).thu.rate = s.thu.rate ∧ (autoClose s).thu.history = s.thu.history ∧
    (autoClose s).thu.fresh = s.thu.fresh ∧ (autoClose s).thu.neighbours = s.thu.neighbours ∧
    (autoClose s).thu.counter = s.thu.counter ∧ (autoClose s).thu.set = s.thu.set ∧
    (autoClose s).thu.blind = s.thu.blind ∧ (autoClose s).thu.strokeEnd = s.thu.strokeEnd ∧
    (autoClose s).thu.rateTarget = s.thu.rateTarget ∧ (autoClose s).thu.bias = s.thu.bias ∧
    (autoClose s).thu.enable = s.thu.enable ∧ (autoClose s).thu.lastAnswer = s.thu.lastAnswer ∧
    (autoClose s).thu.strokeFault = s.thu.strokeFault ∧ (autoClose s).thu.denied = s.thu.denied ∧
    (autoClose s).thu.skew = s.thu.skew ∧ (autoClose s).alu.active = s.alu.active ∧
    (autoClose s).alu.entries = s.alu.entries ∧ (autoClose s).alu.estop = s.alu.estop ∧
    (autoClose s).alu.duplicate = s.alu.duplicate ∧ (autoClose s).fpt.timer = s.fpt.timer ∧
    (autoClose s).fpt.fitted = s.fpt.fitted ∧ (autoClose s).fpt.inputs = s.fpt.inputs ∧
    (autoClose s).fpt.estopIn = s.fpt.estopIn ∧ (autoClose s).fpt.probe = s.fpt.probe ∧
    (autoClose s).fpt.forced = s.fpt.forced := by
  unfold autoClose; split <;> simp

@[simp] theorem orphanTest_fields (s : State) :
    (orphanTest s).thu.group = s.thu.group ∧ (orphanTest s).thu.pRef = s.thu.pRef ∧
    (orphanTest s).thu.quality = s.thu.quality ∧ (orphanTest s).thu.stroke = s.thu.stroke ∧
    (orphanTest s).thu.rate = s.thu.rate ∧ (orphanTest s).thu.history = s.thu.history ∧
    (orphanTest s).thu.fresh = s.thu.fresh ∧ (orphanTest s).thu.neighbours = s.thu.neighbours ∧
    (orphanTest s).thu.counter = s.thu.counter ∧ (orphanTest s).thu.set = s.thu.set ∧
    (orphanTest s).thu.blind = s.thu.blind ∧ (orphanTest s).thu.strokeEnd = s.thu.strokeEnd ∧
    (orphanTest s).thu.rateTarget = s.thu.rateTarget ∧ (orphanTest s).thu.bias = s.thu.bias ∧
    (orphanTest s).thu.enable = s.thu.enable ∧ (orphanTest s).thu.slot = s.thu.slot ∧
    (orphanTest s).thu.lastAnswer = s.thu.lastAnswer ∧ (orphanTest s).thu.strokeFault = s.thu.strokeFault ∧
    (orphanTest s).thu.denied = s.thu.denied ∧ (orphanTest s).thu.skew = s.thu.skew := by
  unfold orphanTest; split <;> simp

@[simp] theorem groupFreeze_fields (s : State) :
    (groupFreeze s).thu.quality = s.thu.quality ∧ (groupFreeze s).thu.stroke = s.thu.stroke ∧
    (groupFreeze s).thu.rate = s.thu.rate ∧ (groupFreeze s).thu.history = s.thu.history ∧
    (groupFreeze s).thu.fresh = s.thu.fresh ∧ (groupFreeze s).thu.neighbours = s.thu.neighbours ∧
    (groupFreeze s).thu.counter = s.thu.counter ∧ (groupFreeze s).thu.set = s.thu.set ∧
    (groupFreeze s).thu.blind = s.thu.blind ∧ (groupFreeze s).thu.strokeEnd = s.thu.strokeEnd ∧
    (groupFreeze s).thu.rateTarget = s.thu.rateTarget ∧ (groupFreeze s).thu.bias = s.thu.bias ∧
    (groupFreeze s).thu.enable = s.thu.enable ∧ (groupFreeze s).thu.slot = s.thu.slot ∧
    (groupFreeze s).thu.lastAnswer = s.thu.lastAnswer ∧ (groupFreeze s).thu.strokeFault = s.thu.strokeFault ∧
    (groupFreeze s).thu.denied = s.thu.denied ∧ (groupFreeze s).thu.skew = s.thu.skew ∧
    (groupFreeze s).thu.orphaned = s.thu.orphaned ∧ (groupFreeze s).alu.active = s.alu.active ∧
    (groupFreeze s).alu.entries = s.alu.entries ∧ (groupFreeze s).alu.estop = s.alu.estop ∧
    (groupFreeze s).alu.duplicate = s.alu.duplicate ∧ (groupFreeze s).fpt.timer = s.fpt.timer ∧
    (groupFreeze s).fpt.fitted = s.fpt.fitted ∧ (groupFreeze s).fpt.inputs = s.fpt.inputs ∧
    (groupFreeze s).fpt.estopIn = s.fpt.estopIn ∧ (groupFreeze s).fpt.probe = s.fpt.probe ∧
    (groupFreeze s).fpt.forced = s.fpt.forced := by
  unfold groupFreeze; split <;> simp

@[simp] theorem groupThaw_fields (s : State) :
    (groupThaw s).thu.quality = s.thu.quality ∧ (groupThaw s).thu.stroke = s.thu.stroke ∧
    (groupThaw s).thu.rate = s.thu.rate ∧ (groupThaw s).thu.history = s.thu.history ∧
    (groupThaw s).thu.fresh = s.thu.fresh ∧ (groupThaw s).thu.neighbours = s.thu.neighbours ∧
    (groupThaw s).thu.counter = s.thu.counter ∧ (groupThaw s).thu.set = s.thu.set ∧
    (groupThaw s).thu.blind = s.thu.blind ∧ (groupThaw s).thu.strokeEnd = s.thu.strokeEnd ∧
    (groupThaw s).thu.rateTarget = s.thu.rateTarget ∧ (groupThaw s).thu.bias = s.thu.bias ∧
    (groupThaw s).thu.enable = s.thu.enable ∧ (groupThaw s).thu.lastAnswer = s.thu.lastAnswer ∧
    (groupThaw s).thu.strokeFault = s.thu.strokeFault ∧ (groupThaw s).thu.denied = s.thu.denied ∧
    (groupThaw s).thu.skew = s.thu.skew ∧ (groupThaw s).thu.orphaned = s.thu.orphaned ∧
    (groupThaw s).alu.active = s.alu.active ∧ (groupThaw s).alu.entries = s.alu.entries ∧
    (groupThaw s).alu.estop = s.alu.estop ∧ (groupThaw s).alu.duplicate = s.alu.duplicate ∧
    (groupThaw s).fpt.timer = s.fpt.timer ∧ (groupThaw s).fpt.fitted = s.fpt.fitted ∧
    (groupThaw s).fpt.inputs = s.fpt.inputs ∧ (groupThaw s).fpt.estopIn = s.fpt.estopIn ∧
    (groupThaw s).fpt.probe = s.fpt.probe ∧ (groupThaw s).fpt.forced = s.fpt.forced := by
  simp [groupThaw]

@[simp] theorem groupLeaveBuilding_fields (s : State) :
    (groupLeaveBuilding s).thu.quality = s.thu.quality ∧ (groupLeaveBuilding s).thu.stroke = s.thu.stroke ∧
    (groupLeaveBuilding s).thu.rate = s.thu.rate ∧ (groupLeaveBuilding s).thu.history = s.thu.history ∧
    (groupLeaveBuilding s).thu.fresh = s.thu.fresh ∧ (groupLeaveBuilding s).thu.neighbours = s.thu.neighbours ∧
    (groupLeaveBuilding s).thu.counter = s.thu.counter ∧ (groupLeaveBuilding s).thu.set = s.thu.set ∧
    (groupLeaveBuilding s).thu.blind = s.thu.blind ∧ (groupLeaveBuilding s).thu.strokeEnd = s.thu.strokeEnd ∧
    (groupLeaveBuilding s).thu.rateTarget = s.thu.rateTarget ∧ (groupLeaveBuilding s).thu.bias = s.thu.bias ∧
    (groupLeaveBuilding s).thu.enable = s.thu.enable ∧
    (groupLeaveBuilding s).thu.lastAnswer = s.thu.lastAnswer ∧
    (groupLeaveBuilding s).thu.strokeFault = s.thu.strokeFault ∧
    (groupLeaveBuilding s).thu.denied = s.thu.denied ∧ (groupLeaveBuilding s).thu.skew = s.thu.skew ∧
    (groupLeaveBuilding s).thu.orphaned = s.thu.orphaned ∧ (groupLeaveBuilding s).alu.active = s.alu.active ∧
    (groupLeaveBuilding s).alu.entries = s.alu.entries ∧ (groupLeaveBuilding s).alu.estop = s.alu.estop ∧
    (groupLeaveBuilding s).alu.duplicate = s.alu.duplicate ∧ (groupLeaveBuilding s).fpt.timer = s.fpt.timer ∧
    (groupLeaveBuilding s).fpt.fitted = s.fpt.fitted ∧ (groupLeaveBuilding s).fpt.inputs = s.fpt.inputs ∧
    (groupLeaveBuilding s).fpt.estopIn = s.fpt.estopIn ∧ (groupLeaveBuilding s).fpt.probe = s.fpt.probe ∧
    (groupLeaveBuilding s).fpt.forced = s.fpt.forced := by
  unfold groupLeaveBuilding; split <;> simp

@[simp] theorem thrustRingClose_fields (s : State) :
    (thrustRingClose s).thu.group = s.thu.group ∧ (thrustRingClose s).thu.pRef = s.thu.pRef ∧
    (thrustRingClose s).thu.quality = s.thu.quality ∧ (thrustRingClose s).thu.stroke = s.thu.stroke ∧
    (thrustRingClose s).thu.rate = s.thu.rate ∧ (thrustRingClose s).thu.history = s.thu.history ∧
    (thrustRingClose s).thu.fresh = s.thu.fresh ∧ (thrustRingClose s).thu.neighbours = s.thu.neighbours ∧
    (thrustRingClose s).thu.set = s.thu.set ∧ (thrustRingClose s).thu.blind = s.thu.blind ∧
    (thrustRingClose s).thu.rateTarget = s.thu.rateTarget ∧ (thrustRingClose s).thu.bias = s.thu.bias ∧
    (thrustRingClose s).thu.enable = s.thu.enable ∧ (thrustRingClose s).thu.slot = s.thu.slot ∧
    (thrustRingClose s).thu.lastAnswer = s.thu.lastAnswer ∧
    (thrustRingClose s).thu.strokeFault = s.thu.strokeFault ∧ (thrustRingClose s).thu.denied = s.thu.denied ∧
    (thrustRingClose s).thu.skew = s.thu.skew ∧ (thrustRingClose s).thu.orphaned = s.thu.orphaned := by
  simp [thrustRingClose]

@[simp] theorem thrustRestart_fields (s : State) :
    (thrustRestart s).thu.quality = s.thu.quality ∧ (thrustRestart s).thu.stroke = s.thu.stroke ∧
    (thrustRestart s).thu.rate = s.thu.rate ∧ (thrustRestart s).thu.history = s.thu.history ∧
    (thrustRestart s).thu.counter = s.thu.counter ∧ (thrustRestart s).thu.strokeEnd = s.thu.strokeEnd ∧
    (thrustRestart s).thu.strokeFault = s.thu.strokeFault ∧ (thrustRestart s).thu.denied = s.thu.denied ∧
    (thrustRestart s).thu.orphaned = s.thu.orphaned ∧ (thrustRestart s).alu.active = s.alu.active ∧
    (thrustRestart s).alu.entries = s.alu.entries ∧ (thrustRestart s).alu.estop = s.alu.estop ∧
    (thrustRestart s).alu.duplicate = s.alu.duplicate ∧ (thrustRestart s).fpt.timer = s.fpt.timer ∧
    (thrustRestart s).fpt.fitted = s.fpt.fitted ∧ (thrustRestart s).fpt.inputs = s.fpt.inputs ∧
    (thrustRestart s).fpt.estopIn = s.fpt.estopIn ∧ (thrustRestart s).fpt.probe = s.fpt.probe ∧
    (thrustRestart s).fpt.forced = s.fpt.forced := by
  simp [thrustRestart]

end Sys2Proof.Machine
end

