-- ==== Sys2Proof/Laws/Build.lean ====
section
/-! SUPPORT. What each operation of Machine/Build.lean leaves unchanged, block by block and, in the
blocks it changes, field by field. -/

namespace Sys2Proof.Machine

open Sys2Proof

@[simp] theorem setBuild_frame (b : BuildState) (s : State) :
    (setBuild b s).pending = s.pending ∧ (setBuild b s).elapsed = s.elapsed ∧ (setBuild b s).phase = s.phase ∧
    (setBuild b s).pauseCause = s.pauseCause ∧ (setBuild b s).ring = s.ring ∧ (setBuild b s).cfg = s.cfg ∧
    (setBuild b s).ptb = s.ptb ∧ (setBuild b s).oru = s.oru ∧ (setBuild b s).dsu = s.dsu ∧
    (setBuild b s).thu = s.thu ∧ (setBuild b s).gru = s.gru ∧ (setBuild b s).bal = s.bal ∧
    (setBuild b s).alu = s.alu ∧ (setBuild b s).lif = s.lif := by
  refine ⟨?_, ?_, ?_, ?_, ?_, ?_, ?_, ?_, ?_, ?_, ?_, ?_, ?_, ?_⟩ <;> rfl

@[simp] theorem markAccepted_frame (s : State) :
    (markAccepted s).pending = s.pending ∧ (markAccepted s).elapsed = s.elapsed ∧
    (markAccepted s).phase = s.phase ∧ (markAccepted s).pauseCause = s.pauseCause ∧
    (markAccepted s).ring = s.ring ∧ (markAccepted s).cfg = s.cfg ∧ (markAccepted s).ptb = s.ptb ∧
    (markAccepted s).oru = s.oru ∧ (markAccepted s).dsu = s.dsu ∧ (markAccepted s).thu = s.thu ∧
    (markAccepted s).gru = s.gru ∧ (markAccepted s).bal = s.bal ∧ (markAccepted s).alu = s.alu ∧
    (markAccepted s).fpt = s.fpt ∧ (markAccepted s).lif = s.lif := by
  refine ⟨?_, ?_, ?_, ?_, ?_, ?_, ?_, ?_, ?_, ?_, ?_, ?_, ?_, ?_, ?_⟩ <;> rfl

@[simp] theorem settleRefused_frame (s : State) :
    (settleRefused s).pending = s.pending ∧ (settleRefused s).elapsed = s.elapsed ∧
    (settleRefused s).phase = s.phase ∧ (settleRefused s).pauseCause = s.pauseCause ∧
    (settleRefused s).ring = s.ring ∧ (settleRefused s).cfg = s.cfg ∧ (settleRefused s).ptb = s.ptb ∧
    (settleRefused s).oru = s.oru ∧ (settleRefused s).dsu = s.dsu ∧ (settleRefused s).thu = s.thu ∧
    (settleRefused s).gru = s.gru ∧ (settleRefused s).bal = s.bal ∧ (settleRefused s).alu = s.alu ∧
    (settleRefused s).fpt = s.fpt ∧ (settleRefused s).lif = s.lif := by
  refine ⟨?_, ?_, ?_, ?_, ?_, ?_, ?_, ?_, ?_, ?_, ?_, ?_, ?_, ?_, ?_⟩ <;> rfl

@[simp] theorem markAnswer_frame (a : Answer) (s : State) :
    (markAnswer a s).pending = s.pending ∧ (markAnswer a s).elapsed = s.elapsed ∧
    (markAnswer a s).phase = s.phase ∧ (markAnswer a s).pauseCause = s.pauseCause ∧
    (markAnswer a s).ring = s.ring ∧ (markAnswer a s).cfg = s.cfg ∧ (markAnswer a s).ptb = s.ptb ∧
    (markAnswer a s).oru = s.oru ∧ (markAnswer a s).dsu = s.dsu ∧ (markAnswer a s).thu = s.thu ∧
    (markAnswer a s).gru = s.gru ∧ (markAnswer a s).bal = s.bal ∧ (markAnswer a s).alu = s.alu ∧
    (markAnswer a s).fpt = s.fpt ∧ (markAnswer a s).lif = s.lif := by
  unfold markAnswer; split <;> simp

@[simp] theorem issueLocal_frame (kind : RequestKind) (s : State) :
    ((issueLocal kind s).1).pending = s.pending ∧ ((issueLocal kind s).1).elapsed = s.elapsed ∧
    ((issueLocal kind s).1).phase = s.phase ∧ ((issueLocal kind s).1).pauseCause = s.pauseCause ∧
    ((issueLocal kind s).1).ring = s.ring ∧ ((issueLocal kind s).1).cfg = s.cfg ∧
    ((issueLocal kind s).1).ptb = s.ptb ∧ ((issueLocal kind s).1).oru = s.oru ∧
    ((issueLocal kind s).1).dsu = s.dsu ∧ ((issueLocal kind s).1).gru = s.gru ∧
    ((issueLocal kind s).1).bal = s.bal ∧ ((issueLocal kind s).1).lif = s.lif := by
  simp [issueLocal]

@[simp] theorem issueFrame_frame (kind : RequestKind) (target : Nat) (s : State) :
    (issueFrame kind target s).pending = s.pending ∧ (issueFrame kind target s).elapsed = s.elapsed ∧
    (issueFrame kind target s).phase = s.phase ∧ (issueFrame kind target s).pauseCause = s.pauseCause ∧
    (issueFrame kind target s).ring = s.ring ∧ (issueFrame kind target s).cfg = s.cfg ∧
    (issueFrame kind target s).ptb = s.ptb ∧ (issueFrame kind target s).oru = s.oru ∧
    (issueFrame kind target s).dsu = s.dsu ∧ (issueFrame kind target s).thu = s.thu ∧
    (issueFrame kind target s).gru = s.gru ∧ (issueFrame kind target s).bal = s.bal ∧
    (issueFrame kind target s).fpt = s.fpt := by
  simp [issueFrame]

@[simp] theorem sendBack_frame (s : State) :
    (sendBack s).pending = s.pending ∧ (sendBack s).elapsed = s.elapsed ∧ (sendBack s).phase = s.phase ∧
    (sendBack s).pauseCause = s.pauseCause ∧ (sendBack s).ring = s.ring ∧ (sendBack s).cfg = s.cfg ∧
    (sendBack s).ptb = s.ptb ∧ (sendBack s).oru = s.oru ∧ (sendBack s).dsu = s.dsu ∧ (sendBack s).gru = s.gru ∧
    (sendBack s).bal = s.bal := by
  unfold sendBack; (repeat' split) <;> simp

@[simp] theorem suspend_frame (s : State) :
    (suspend s).pending = s.pending ∧ (suspend s).elapsed = s.elapsed ∧ (suspend s).phase = s.phase ∧
    (suspend s).pauseCause = s.pauseCause ∧ (suspend s).ring = s.ring ∧ (suspend s).cfg = s.cfg ∧
    (suspend s).ptb = s.ptb ∧ (suspend s).oru = s.oru ∧ (suspend s).dsu = s.dsu ∧ (suspend s).gru = s.gru ∧
    (suspend s).bal = s.bal := by
  unfold suspend; split <;> simp

@[simp] theorem suspendTimedOut_frame (s : State) :
    (suspendTimedOut s).pending = s.pending ∧ (suspendTimedOut s).elapsed = s.elapsed ∧
    (suspendTimedOut s).phase = s.phase ∧ (suspendTimedOut s).pauseCause = s.pauseCause ∧
    (suspendTimedOut s).ring = s.ring ∧ (suspendTimedOut s).cfg = s.cfg ∧ (suspendTimedOut s).ptb = s.ptb ∧
    (suspendTimedOut s).oru = s.oru ∧ (suspendTimedOut s).dsu = s.dsu ∧ (suspendTimedOut s).gru = s.gru ∧
    (suspendTimedOut s).bal = s.bal := by
  simp [suspendTimedOut]

@[simp] theorem stepAnswer_frame (a : Answer) (s : State) :
    (stepAnswer a s).pending = s.pending ∧ (stepAnswer a s).elapsed = s.elapsed ∧
    (stepAnswer a s).phase = s.phase ∧ (stepAnswer a s).pauseCause = s.pauseCause ∧
    (stepAnswer a s).ring = s.ring ∧ (stepAnswer a s).cfg = s.cfg ∧ (stepAnswer a s).ptb = s.ptb ∧
    (stepAnswer a s).oru = s.oru ∧ (stepAnswer a s).dsu = s.dsu ∧ (stepAnswer a s).gru = s.gru ∧
    (stepAnswer a s).bal = s.bal := by
  unfold stepAnswer; (repeat' split) <;> simp

@[simp] theorem pickTest_frame (s : State) :
    (pickTest s).pending = s.pending ∧ (pickTest s).elapsed = s.elapsed ∧ (pickTest s).phase = s.phase ∧
    (pickTest s).pauseCause = s.pauseCause ∧ (pickTest s).ring = s.ring ∧ (pickTest s).cfg = s.cfg ∧
    (pickTest s).ptb = s.ptb ∧ (pickTest s).oru = s.oru ∧ (pickTest s).dsu = s.dsu ∧ (pickTest s).thu = s.thu ∧
    (pickTest s).gru = s.gru ∧ (pickTest s).bal = s.bal ∧ (pickTest s).alu = s.alu ∧
    (pickTest s).lif = s.lif := by
  unfold pickTest; split <;> simp

@[simp] theorem enterPick_frame (s : State) :
    (enterPick s).pending = s.pending ∧ (enterPick s).elapsed = s.elapsed ∧ (enterPick s).phase = s.phase ∧
    (enterPick s).pauseCause = s.pauseCause ∧ (enterPick s).ring = s.ring ∧ (enterPick s).cfg = s.cfg ∧
    (enterPick s).ptb = s.ptb ∧ (enterPick s).oru = s.oru ∧ (enterPick s).dsu = s.dsu ∧
    (enterPick s).thu = s.thu ∧ (enterPick s).gru = s.gru ∧ (enterPick s).bal = s.bal ∧
    (enterPick s).alu = s.alu ∧ (enterPick s).lif = s.lif := by
  simp [enterPick]

@[simp] theorem buildWaitTest_frame (s : State) :
    (buildWaitTest s).pending = s.pending ∧ (buildWaitTest s).elapsed = s.elapsed ∧
    (buildWaitTest s).phase = s.phase ∧ (buildWaitTest s).pauseCause = s.pauseCause ∧
    (buildWaitTest s).ring = s.ring ∧ (buildWaitTest s).cfg = s.cfg ∧ (buildWaitTest s).ptb = s.ptb ∧
    (buildWaitTest s).oru = s.oru ∧ (buildWaitTest s).dsu = s.dsu ∧ (buildWaitTest s).thu = s.thu ∧
    (buildWaitTest s).gru = s.gru ∧ (buildWaitTest s).bal = s.bal ∧ (buildWaitTest s).alu = s.alu ∧
    (buildWaitTest s).lif = s.lif := by
  unfold buildWaitTest; (repeat' split) <;> simp

@[simp] theorem enterBuildWait_frame (s : State) :
    (enterBuildWait s).pending = s.pending ∧ (enterBuildWait s).elapsed = s.elapsed ∧
    (enterBuildWait s).phase = s.phase ∧ (enterBuildWait s).pauseCause = s.pauseCause ∧
    (enterBuildWait s).ring = s.ring ∧ (enterBuildWait s).cfg = s.cfg ∧ (enterBuildWait s).ptb = s.ptb ∧
    (enterBuildWait s).oru = s.oru ∧ (enterBuildWait s).dsu = s.dsu ∧ (enterBuildWait s).thu = s.thu ∧
    (enterBuildWait s).gru = s.gru ∧ (enterBuildWait s).bal = s.bal ∧ (enterBuildWait s).alu = s.alu ∧
    (enterBuildWait s).lif = s.lif := by
  simp [enterBuildWait]

@[simp] theorem travelTest_frame (s : State) :
    (travelTest s).pending = s.pending ∧ (travelTest s).elapsed = s.elapsed ∧ (travelTest s).phase = s.phase ∧
    (travelTest s).pauseCause = s.pauseCause ∧ (travelTest s).ring = s.ring ∧ (travelTest s).cfg = s.cfg ∧
    (travelTest s).ptb = s.ptb ∧ (travelTest s).oru = s.oru ∧ (travelTest s).dsu = s.dsu ∧
    (travelTest s).thu = s.thu ∧ (travelTest s).gru = s.gru ∧ (travelTest s).bal = s.bal ∧
    (travelTest s).alu = s.alu ∧ (travelTest s).lif = s.lif := by
  unfold travelTest; split <;> simp

@[simp] theorem issueRetract_frame (s : State) :
    (issueRetract s).pending = s.pending ∧ (issueRetract s).elapsed = s.elapsed ∧
    (issueRetract s).phase = s.phase ∧ (issueRetract s).pauseCause = s.pauseCause ∧
    (issueRetract s).ring = s.ring ∧ (issueRetract s).cfg = s.cfg ∧ (issueRetract s).ptb = s.ptb ∧
    (issueRetract s).oru = s.oru ∧ (issueRetract s).dsu = s.dsu ∧ (issueRetract s).gru = s.gru ∧
    (issueRetract s).bal = s.bal := by
  unfold issueRetract; split <;> simp

@[simp] theorem retractTest_frame (s : State) :
    (retractTest s).pending = s.pending ∧ (retractTest s).elapsed = s.elapsed ∧
    (retractTest s).phase = s.phase ∧ (retractTest s).pauseCause = s.pauseCause ∧
    (retractTest s).ring = s.ring ∧ (retractTest s).cfg = s.cfg ∧ (retractTest s).ptb = s.ptb ∧
    (retractTest s).oru = s.oru ∧ (retractTest s).dsu = s.dsu ∧ (retractTest s).gru = s.gru ∧
    (retractTest s).bal = s.bal := by
  unfold retractTest; (repeat' split) <;> simp

@[simp] theorem enterAwaitExtend_frame (s : State) :
    (enterAwaitExtend s).pending = s.pending ∧ (enterAwaitExtend s).elapsed = s.elapsed ∧
    (enterAwaitExtend s).phase = s.phase ∧ (enterAwaitExtend s).pauseCause = s.pauseCause ∧
    (enterAwaitExtend s).ring = s.ring ∧ (enterAwaitExtend s).cfg = s.cfg ∧ (enterAwaitExtend s).ptb = s.ptb ∧
    (enterAwaitExtend s).oru = s.oru ∧ (enterAwaitExtend s).dsu = s.dsu ∧ (enterAwaitExtend s).gru = s.gru ∧
    (enterAwaitExtend s).bal = s.bal := by
  unfold enterAwaitExtend; (repeat' split) <;> simp

@[simp] theorem placeTest_frame (s : State) :
    (placeTest s).pending = s.pending ∧ (placeTest s).elapsed = s.elapsed ∧ (placeTest s).phase = s.phase ∧
    (placeTest s).pauseCause = s.pauseCause ∧ (placeTest s).ring = s.ring ∧ (placeTest s).cfg = s.cfg ∧
    (placeTest s).ptb = s.ptb ∧ (placeTest s).oru = s.oru ∧ (placeTest s).dsu = s.dsu ∧
    (placeTest s).gru = s.gru ∧ (placeTest s).bal = s.bal := by
  unfold placeTest; split <;> simp

@[simp] theorem clearRetraction_frame (s : State) :
    (clearRetraction s).pending = s.pending ∧ (clearRetraction s).elapsed = s.elapsed ∧
    (clearRetraction s).phase = s.phase ∧ (clearRetraction s).pauseCause = s.pauseCause ∧
    (clearRetraction s).ring = s.ring ∧ (clearRetraction s).cfg = s.cfg ∧ (clearRetraction s).ptb = s.ptb ∧
    (clearRetraction s).oru = s.oru ∧ (clearRetraction s).dsu = s.dsu ∧ (clearRetraction s).thu = s.thu ∧
    (clearRetraction s).gru = s.gru ∧ (clearRetraction s).bal = s.bal ∧ (clearRetraction s).alu = s.alu ∧
    (clearRetraction s).lif = s.lif := by
  unfold clearRetraction; split <;> simp

@[simp] theorem retractedSeen_frame (j : Nat) (g : Group) (s : State) :
    (retractedSeen j g s).pending = s.pending ∧ (retractedSeen j g s).elapsed = s.elapsed ∧
    (retractedSeen j g s).phase = s.phase ∧ (retractedSeen j g s).pauseCause = s.pauseCause ∧
    (retractedSeen j g s).ring = s.ring ∧ (retractedSeen j g s).cfg = s.cfg ∧
    (retractedSeen j g s).ptb = s.ptb ∧ (retractedSeen j g s).oru = s.oru ∧ (retractedSeen j g s).dsu = s.dsu ∧
    (retractedSeen j g s).thu = s.thu ∧ (retractedSeen j g s).gru = s.gru ∧ (retractedSeen j g s).bal = s.bal ∧
    (retractedSeen j g s).alu = s.alu ∧ (retractedSeen j g s).lif = s.lif := by
  unfold retractedSeen; (repeat' split) <;> simp

@[simp] theorem holdingSeen_frame (j : Nat) (g : Group) (s : State) :
    (holdingSeen j g s).pending = s.pending ∧ (holdingSeen j g s).elapsed = s.elapsed ∧
    (holdingSeen j g s).phase = s.phase ∧ (holdingSeen j g s).pauseCause = s.pauseCause ∧
    (holdingSeen j g s).ring = s.ring ∧ (holdingSeen j g s).cfg = s.cfg ∧ (holdingSeen j g s).ptb = s.ptb ∧
    (holdingSeen j g s).oru = s.oru ∧ (holdingSeen j g s).dsu = s.dsu ∧ (holdingSeen j g s).thu = s.thu ∧
    (holdingSeen j g s).gru = s.gru ∧ (holdingSeen j g s).bal = s.bal ∧ (holdingSeen j g s).alu = s.alu ∧
    (holdingSeen j g s).lif = s.lif := by
  unfold holdingSeen; (repeat' split) <;> simp

@[simp] theorem targetSeen_frame (j : Nat) (r : StatusRecord) (s : State) :
    (targetSeen j r s).pending = s.pending ∧ (targetSeen j r s).elapsed = s.elapsed ∧
    (targetSeen j r s).phase = s.phase ∧ (targetSeen j r s).pauseCause = s.pauseCause ∧
    (targetSeen j r s).ring = s.ring ∧ (targetSeen j r s).cfg = s.cfg ∧ (targetSeen j r s).ptb = s.ptb ∧
    (targetSeen j r s).oru = s.oru ∧ (targetSeen j r s).dsu = s.dsu ∧ (targetSeen j r s).thu = s.thu ∧
    (targetSeen j r s).gru = s.gru ∧ (targetSeen j r s).bal = s.bal ∧ (targetSeen j r s).alu = s.alu ∧
    (targetSeen j r s).lif = s.lif := by
  unfold targetSeen; split <;> simp

@[simp] theorem ownGroupSeen_frame (s : State) :
    (ownGroupSeen s).pending = s.pending ∧ (ownGroupSeen s).elapsed = s.elapsed ∧
    (ownGroupSeen s).phase = s.phase ∧ (ownGroupSeen s).pauseCause = s.pauseCause ∧
    (ownGroupSeen s).ring = s.ring ∧ (ownGroupSeen s).cfg = s.cfg ∧ (ownGroupSeen s).ptb = s.ptb ∧
    (ownGroupSeen s).oru = s.oru ∧ (ownGroupSeen s).dsu = s.dsu ∧ (ownGroupSeen s).thu = s.thu ∧
    (ownGroupSeen s).gru = s.gru ∧ (ownGroupSeen s).bal = s.bal ∧ (ownGroupSeen s).alu = s.alu ∧
    (ownGroupSeen s).lif = s.lif := by
  unfold ownGroupSeen; split <;> simp

@[simp] theorem markSubstituted_frame (j : Nat) (s : State) :
    (markSubstituted j s).pending = s.pending ∧ (markSubstituted j s).elapsed = s.elapsed ∧
    (markSubstituted j s).phase = s.phase ∧ (markSubstituted j s).pauseCause = s.pauseCause ∧
    (markSubstituted j s).ring = s.ring ∧ (markSubstituted j s).cfg = s.cfg ∧
    (markSubstituted j s).ptb = s.ptb ∧ (markSubstituted j s).oru = s.oru ∧ (markSubstituted j s).dsu = s.dsu ∧
    (markSubstituted j s).thu = s.thu ∧ (markSubstituted j s).gru = s.gru ∧ (markSubstituted j s).bal = s.bal ∧
    (markSubstituted j s).alu = s.alu ∧ (markSubstituted j s).fpt = s.fpt ∧
    (markSubstituted j s).lif = s.lif := by
  refine ⟨?_, ?_, ?_, ?_, ?_, ?_, ?_, ?_, ?_, ?_, ?_, ?_, ?_, ?_, ?_⟩ <;> rfl

@[simp] theorem buildCountedStatus_frame (j : Nat) (r : StatusRecord) (s : State) :
    (buildCountedStatus j r s).pending = s.pending ∧ (buildCountedStatus j r s).elapsed = s.elapsed ∧
    (buildCountedStatus j r s).phase = s.phase ∧ (buildCountedStatus j r s).pauseCause = s.pauseCause ∧
    (buildCountedStatus j r s).ring = s.ring ∧ (buildCountedStatus j r s).cfg = s.cfg ∧
    (buildCountedStatus j r s).ptb = s.ptb ∧ (buildCountedStatus j r s).oru = s.oru ∧
    (buildCountedStatus j r s).dsu = s.dsu ∧ (buildCountedStatus j r s).thu = s.thu ∧
    (buildCountedStatus j r s).gru = s.gru ∧ (buildCountedStatus j r s).bal = s.bal ∧
    (buildCountedStatus j r s).alu = s.alu ∧ (buildCountedStatus j r s).lif = s.lif := by
  unfold buildCountedStatus; (repeat' split) <;> simp

@[simp] theorem buildPresence_frame (j : Nat) (s : State) :
    (buildPresence j s).pending = s.pending ∧ (buildPresence j s).elapsed = s.elapsed ∧
    (buildPresence j s).phase = s.phase ∧ (buildPresence j s).pauseCause = s.pauseCause ∧
    (buildPresence j s).ring = s.ring ∧ (buildPresence j s).cfg = s.cfg ∧ (buildPresence j s).ptb = s.ptb ∧
    (buildPresence j s).oru = s.oru ∧ (buildPresence j s).dsu = s.dsu ∧ (buildPresence j s).gru = s.gru ∧
    (buildPresence j s).bal = s.bal := by
  unfold buildPresence; (repeat' split) <;> simp

@[simp] theorem replyArrival_frame (source : Nat) (tag : Tag) (a : Answer) (s : State) :
    (replyArrival source tag a s).pending = s.pending ∧ (replyArrival source tag a s).elapsed = s.elapsed ∧
    (replyArrival source tag a s).phase = s.phase ∧ (replyArrival source tag a s).pauseCause = s.pauseCause ∧
    (replyArrival source tag a s).ring = s.ring ∧ (replyArrival source tag a s).cfg = s.cfg ∧
    (replyArrival source tag a s).ptb = s.ptb ∧ (replyArrival source tag a s).oru = s.oru ∧
    (replyArrival source tag a s).dsu = s.dsu ∧ (replyArrival source tag a s).gru = s.gru ∧
    (replyArrival source tag a s).bal = s.bal := by
  unfold replyArrival; (repeat' split) <;> simp

@[simp] theorem answerExpires_frame (s : State) :
    (answerExpires s).pending = s.pending ∧ (answerExpires s).elapsed = s.elapsed ∧
    (answerExpires s).phase = s.phase ∧ (answerExpires s).pauseCause = s.pauseCause ∧
    (answerExpires s).ring = s.ring ∧ (answerExpires s).cfg = s.cfg ∧ (answerExpires s).ptb = s.ptb ∧
    (answerExpires s).oru = s.oru ∧ (answerExpires s).dsu = s.dsu ∧ (answerExpires s).gru = s.gru ∧
    (answerExpires s).bal = s.bal := by
  unfold answerExpires; dsimp only; (repeat' split) <;> simp

@[simp] theorem cursorCheck_frame (s : State) :
    (cursorCheck s).pending = s.pending ∧ (cursorCheck s).elapsed = s.elapsed ∧
    (cursorCheck s).phase = s.phase ∧ (cursorCheck s).pauseCause = s.pauseCause ∧
    (cursorCheck s).ring = s.ring ∧ (cursorCheck s).cfg = s.cfg ∧ (cursorCheck s).ptb = s.ptb ∧
    (cursorCheck s).oru = s.oru ∧ (cursorCheck s).dsu = s.dsu ∧ (cursorCheck s).thu = s.thu ∧
    (cursorCheck s).gru = s.gru ∧ (cursorCheck s).bal = s.bal ∧ (cursorCheck s).alu = s.alu ∧
    (cursorCheck s).fpt = s.fpt ∧ (cursorCheck s).lif = s.lif := by
  unfold cursorCheck; split <;> simp

@[simp] theorem beginBuild_frame (s : State) :
    (beginBuild s).pending = s.pending ∧ (beginBuild s).elapsed = s.elapsed ∧ (beginBuild s).phase = s.phase ∧
    (beginBuild s).pauseCause = s.pauseCause ∧ (beginBuild s).ring = s.ring ∧ (beginBuild s).cfg = s.cfg ∧
    (beginBuild s).ptb = s.ptb ∧ (beginBuild s).oru = s.oru ∧ (beginBuild s).dsu = s.dsu ∧
    (beginBuild s).thu = s.thu ∧ (beginBuild s).gru = s.gru ∧ (beginBuild s).bal = s.bal ∧
    (beginBuild s).alu = s.alu ∧ (beginBuild s).lif = s.lif := by
  unfold beginBuild; split <;> simp

@[simp] theorem buildActivate_frame (s : State) :
    (buildActivate s).pending = s.pending ∧ (buildActivate s).elapsed = s.elapsed ∧
    (buildActivate s).phase = s.phase ∧ (buildActivate s).pauseCause = s.pauseCause ∧
    (buildActivate s).ring = s.ring ∧ (buildActivate s).cfg = s.cfg ∧ (buildActivate s).ptb = s.ptb ∧
    (buildActivate s).oru = s.oru ∧ (buildActivate s).dsu = s.dsu ∧ (buildActivate s).thu = s.thu ∧
    (buildActivate s).gru = s.gru ∧ (buildActivate s).bal = s.bal ∧ (buildActivate s).alu = s.alu ∧
    (buildActivate s).lif = s.lif := by
  refine ⟨?_, ?_, ?_, ?_, ?_, ?_, ?_, ?_, ?_, ?_, ?_, ?_, ?_, ?_⟩ <;> rfl

@[simp] theorem buildDeactivate_frame (s : State) :
    (buildDeactivate s).pending = s.pending ∧ (buildDeactivate s).elapsed = s.elapsed ∧
    (buildDeactivate s).phase = s.phase ∧ (buildDeactivate s).pauseCause = s.pauseCause ∧
    (buildDeactivate s).ring = s.ring ∧ (buildDeactivate s).cfg = s.cfg ∧ (buildDeactivate s).ptb = s.ptb ∧
    (buildDeactivate s).oru = s.oru ∧ (buildDeactivate s).dsu = s.dsu ∧ (buildDeactivate s).thu = s.thu ∧
    (buildDeactivate s).gru = s.gru ∧ (buildDeactivate s).bal = s.bal ∧ (buildDeactivate s).alu = s.alu ∧
    (buildDeactivate s).lif = s.lif := by
  refine ⟨?_, ?_, ?_, ?_, ?_, ?_, ?_, ?_, ?_, ?_, ?_, ?_, ?_, ?_⟩ <;> rfl

@[simp] theorem buildRestart_frame (s : State) :
    (buildRestart s).pending = s.pending ∧ (buildRestart s).elapsed = s.elapsed ∧
    (buildRestart s).phase = s.phase ∧ (buildRestart s).pauseCause = s.pauseCause ∧
    (buildRestart s).ring = s.ring ∧ (buildRestart s).cfg = s.cfg ∧ (buildRestart s).ptb = s.ptb ∧
    (buildRestart s).oru = s.oru ∧ (buildRestart s).dsu = s.dsu ∧ (buildRestart s).thu = s.thu ∧
    (buildRestart s).gru = s.gru ∧ (buildRestart s).bal = s.bal ∧ (buildRestart s).alu = s.alu ∧
    (buildRestart s).lif = s.lif := by
  refine ⟨?_, ?_, ?_, ?_, ?_, ?_, ?_, ?_, ?_, ?_, ?_, ?_, ?_, ?_⟩ <;> rfl

@[simp] theorem setBuild_fields (b : BuildState) (s : State) :
    (setBuild b s).bsq.cursor = s.bsq.cursor ∧ (setBuild b s).bsq.cursorRing = s.bsq.cursorRing ∧
    (setBuild b s).bsq.progress = s.bsq.progress ∧ (setBuild b s).bsq.nextTag = s.bsq.nextTag ∧
    (setBuild b s).bsq.buildStart = s.bsq.buildStart ∧ (setBuild b s).bsq.placed = s.bsq.placed ∧
    (setBuild b s).bsq.substituted = s.bsq.substituted ∧ (setBuild b s).bsq.holderSeen = s.bsq.holderSeen ∧
    (setBuild b s).fpt.timer = s.fpt.timer ∧ (setBuild b s).fpt.fitted = s.fpt.fitted ∧
    (setBuild b s).fpt.inputs = s.fpt.inputs ∧ (setBuild b s).fpt.estopIn = s.fpt.estopIn ∧
    (setBuild b s).fpt.probe = s.fpt.probe ∧ (setBuild b s).fpt.forced = s.fpt.forced := by
  refine ⟨?_, ?_, ?_, ?_, ?_, ?_, ?_, ?_, ?_, ?_, ?_, ?_, ?_, ?_⟩ <;> rfl

@[simp] theorem issueLocal_fields (kind : RequestKind) (s : State) :
    ((issueLocal kind s).1).thu.quality = s.thu.quality ∧ ((issueLocal kind s).1).thu.stroke = s.thu.stroke ∧
    ((issueLocal kind s).1).thu.rate = s.thu.rate ∧ ((issueLocal kind s).1).thu.history = s.thu.history ∧
    ((issueLocal kind s).1).thu.fresh = s.thu.fresh ∧
    ((issueLocal kind s).1).thu.neighbours = s.thu.neighbours ∧
    ((issueLocal kind s).1).thu.counter = s.thu.counter ∧ ((issueLocal kind s).1).thu.set = s.thu.set ∧
    ((issueLocal kind s).1).thu.blind = s.thu.blind ∧ ((issueLocal kind s).1).thu.strokeEnd = s.thu.strokeEnd ∧
    ((issueLocal kind s).1).thu.rateTarget = s.thu.rateTarget ∧ ((issueLocal kind s).1).thu.bias = s.thu.bias ∧
    ((issueLocal kind s).1).thu.enable = s.thu.enable ∧
    ((issueLocal kind s).1).thu.strokeFault = s.thu.strokeFault ∧
    ((issueLocal kind s).1).thu.denied = s.thu.denied ∧ ((issueLocal kind s).1).thu.skew = s.thu.skew ∧
    ((issueLocal kind s).1).thu.orphaned = s.thu.orphaned ∧ ((issueLocal kind s).1).alu.active = s.alu.active ∧
    ((issueLocal kind s).1).alu.entries = s.alu.entries ∧ ((issueLocal kind s).1).alu.estop = s.alu.estop ∧
    ((issueLocal kind s).1).alu.duplicate = s.alu.duplicate ∧ ((issueLocal kind s).1).fpt.timer = s.fpt.timer ∧
    ((issueLocal kind s).1).fpt.fitted = s.fpt.fitted ∧ ((issueLocal kind s).1).fpt.inputs = s.fpt.inputs ∧
    ((issueLocal kind s).1).fpt.estopIn = s.fpt.estopIn ∧ ((issueLocal kind s).1).fpt.probe = s.fpt.probe ∧
    ((issueLocal kind s).1).fpt.forced = s.fpt.forced := by
  simp [issueLocal]

@[simp] theorem issueFrame_fields (kind : RequestKind) (target : Nat) (s : State) :
    (issueFrame kind target s).bsq.state = s.bsq.state ∧ (issueFrame kind target s).bsq.cursor = s.bsq.cursor ∧
    (issueFrame kind target s).bsq.cursorRing = s.bsq.cursorRing ∧
    (issueFrame kind target s).bsq.progress = s.bsq.progress ∧
    (issueFrame kind target s).bsq.issued = s.bsq.issued ∧
    (issueFrame kind target s).bsq.buildStart = s.bsq.buildStart ∧
    (issueFrame kind target s).bsq.placed = s.bsq.placed ∧
    (issueFrame kind target s).bsq.substituted = s.bsq.substituted ∧
    (issueFrame kind target s).bsq.stepTimer = s.bsq.stepTimer ∧
    (issueFrame kind target s).bsq.gripTimer = s.bsq.gripTimer ∧
    (issueFrame kind target s).bsq.retractTimer = s.bsq.retractTimer ∧
    (issueFrame kind target s).bsq.extendTimer = s.bsq.extendTimer ∧
    (issueFrame kind target s).bsq.releaseTimer = s.bsq.releaseTimer ∧
    (issueFrame kind target s).bsq.timedOut = s.bsq.timedOut ∧
    (issueFrame kind target s).bsq.unanswered = s.bsq.unanswered ∧
    (issueFrame kind target s).bsq.holderSeen = s.bsq.holderSeen ∧
    (issueFrame kind target s).alu.active = s.alu.active ∧
    (issueFrame kind target s).alu.entries = s.alu.entries ∧
    (issueFrame kind target s).alu.estop = s.alu.estop ∧
    (issueFrame kind target s).alu.duplicate = s.alu.duplicate ∧
    (issueFrame kind target s).lif.slot = s.lif.slot ∧ (issueFrame kind target s).lif.seq = s.lif.seq ∧
    (issueFrame kind target s).lif.idle = s.lif.idle ∧
    (issueFrame kind target s).lif.crcErrors = s.lif.crcErrors ∧
    (issueFrame kind target s).lif.formatErrors = s.lif.formatErrors ∧
    (issueFrame kind target s).lif.collisions = s.lif.collisions ∧
    (issueFrame kind target s).lif.diagCount = s.lif.diagCount ∧
    (issueFrame kind target s).lif.timer = s.lif.timer ∧
    (issueFrame kind target s).lif.lineFault = s.lif.lineFault ∧
    (issueFrame kind target s).lif.abandoned = s.lif.abandoned := by
  refine ⟨?_, ?_, ?_, ?_, ?_, ?_, ?_, ?_, ?_, ?_, ?_, ?_, ?_, ?_, ?_, ?_, ?_, ?_, ?_, ?_, ?_, ?_, ?_, ?_, ?_, ?_, ?_, ?_, ?_, ?_⟩ <;> (simp [issueFrame]; try rfl)

@[simp] theorem sendBack_fields (s : State) :
    (sendBack s).thu.quality = s.thu.quality ∧ (sendBack s).thu.stroke = s.thu.stroke ∧
    (sendBack s).thu.rate = s.thu.rate ∧ (sendBack s).thu.history = s.thu.history ∧
    (sendBack s).thu.fresh = s.thu.fresh ∧ (sendBack s).thu.neighbours = s.thu.neighbours ∧
    (sendBack s).thu.counter = s.thu.counter ∧ (sendBack s).thu.set = s.thu.set ∧
    (sendBack s).thu.blind = s.thu.blind ∧ (sendBack s).thu.strokeEnd = s.thu.strokeEnd ∧
    (sendBack s).thu.rateTarget = s.thu.rateTarget ∧ (sendBack s).thu.bias = s.thu.bias ∧
    (sendBack s).thu.enable = s.thu.enable ∧ (sendBack s).thu.strokeFault = s.thu.strokeFault ∧
    (sendBack s).thu.denied = s.thu.denied ∧ (sendBack s).thu.skew = s.thu.skew ∧
    (sendBack s).thu.orphaned = s.thu.orphaned ∧ (sendBack s).alu.active = s.alu.active ∧
    (sendBack s).alu.entries = s.alu.entries ∧ (sendBack s).alu.estop = s.alu.estop ∧
    (sendBack s).alu.duplicate = s.alu.duplicate ∧ (sendBack s).fpt.timer = s.fpt.timer ∧
    (sendBack s).fpt.fitted = s.fpt.fitted ∧ (sendBack s).fpt.inputs = s.fpt.inputs ∧
    (sendBack s).fpt.estopIn = s.fpt.estopIn ∧ (sendBack s).fpt.probe = s.fpt.probe ∧
    (sendBack s).fpt.forced = s.fpt.forced ∧ (sendBack s).lif.slot = s.lif.slot ∧
    (sendBack s).lif.seq = s.lif.seq ∧ (sendBack s).lif.idle = s.lif.idle ∧
    (sendBack s).lif.crcErrors = s.lif.crcErrors ∧ (sendBack s).lif.formatErrors = s.lif.formatErrors ∧
    (sendBack s).lif.collisions = s.lif.collisions ∧ (sendBack s).lif.diagCount = s.lif.diagCount ∧
    (sendBack s).lif.timer = s.lif.timer ∧ (sendBack s).lif.lineFault = s.lif.lineFault ∧
    (sendBack s).lif.abandoned = s.lif.abandoned := by
  unfold sendBack; (repeat' split) <;> simp

@[simp] theorem suspend_fields (s : State) :
    (suspend s).thu.quality = s.thu.quality ∧ (suspend s).thu.stroke = s.thu.stroke ∧
    (suspend s).thu.rate = s.thu.rate ∧ (suspend s).thu.history = s.thu.history ∧
    (suspend s).thu.fresh = s.thu.fresh ∧ (suspend s).thu.neighbours = s.thu.neighbours ∧
    (suspend s).thu.counter = s.thu.counter ∧ (suspend s).thu.set = s.thu.set ∧
    (suspend s).thu.blind = s.thu.blind ∧ (suspend s).thu.strokeEnd = s.thu.strokeEnd ∧
    (suspend s).thu.rateTarget = s.thu.rateTarget ∧ (suspend s).thu.bias = s.thu.bias ∧
    (suspend s).thu.enable = s.thu.enable ∧ (suspend s).thu.strokeFault = s.thu.strokeFault ∧
    (suspend s).thu.denied = s.thu.denied ∧ (suspend s).thu.skew = s.thu.skew ∧
    (suspend s).thu.orphaned = s.thu.orphaned ∧ (suspend s).alu.active = s.alu.active ∧
    (suspend s).alu.entries = s.alu.entries ∧ (suspend s).alu.estop = s.alu.estop ∧
    (suspend s).alu.duplicate = s.alu.duplicate ∧ (suspend s).fpt.timer = s.fpt.timer ∧
    (suspend s).fpt.fitted = s.fpt.fitted ∧ (suspend s).fpt.inputs = s.fpt.inputs ∧
    (suspend s).fpt.estopIn = s.fpt.estopIn ∧ (suspend s).fpt.probe = s.fpt.probe ∧
    (suspend s).fpt.forced = s.fpt.forced ∧ (suspend s).lif.slot = s.lif.slot ∧
    (suspend s).lif.seq = s.lif.seq ∧ (suspend s).lif.idle = s.lif.idle ∧
    (suspend s).lif.crcErrors = s.lif.crcErrors ∧ (suspend s).lif.formatErrors = s.lif.formatErrors ∧
    (suspend s).lif.collisions = s.lif.collisions ∧ (suspend s).lif.diagCount = s.lif.diagCount ∧
    (suspend s).lif.timer = s.lif.timer ∧ (suspend s).lif.lineFault = s.lif.lineFault ∧
    (suspend s).lif.abandoned = s.lif.abandoned := by
  unfold suspend; split <;> simp

@[simp] theorem suspendTimedOut_fields (s : State) :
    (suspendTimedOut s).thu.quality = s.thu.quality ∧ (suspendTimedOut s).thu.stroke = s.thu.stroke ∧
    (suspendTimedOut s).thu.rate = s.thu.rate ∧ (suspendTimedOut s).thu.history = s.thu.history ∧
    (suspendTimedOut s).thu.fresh = s.thu.fresh ∧ (suspendTimedOut s).thu.neighbours = s.thu.neighbours ∧
    (suspendTimedOut s).thu.counter = s.thu.counter ∧ (suspendTimedOut s).thu.set = s.thu.set ∧
    (suspendTimedOut s).thu.blind = s.thu.blind ∧ (suspendTimedOut s).thu.strokeEnd = s.thu.strokeEnd ∧
    (suspendTimedOut s).thu.rateTarget = s.thu.rateTarget ∧ (suspendTimedOut s).thu.bias = s.thu.bias ∧
    (suspendTimedOut s).thu.enable = s.thu.enable ∧ (suspendTimedOut s).thu.strokeFault = s.thu.strokeFault ∧
    (suspendTimedOut s).thu.denied = s.thu.denied ∧ (suspendTimedOut s).thu.skew = s.thu.skew ∧
    (suspendTimedOut s).thu.orphaned = s.thu.orphaned ∧ (suspendTimedOut s).alu.active = s.alu.active ∧
    (suspendTimedOut s).alu.entries = s.alu.entries ∧ (suspendTimedOut s).alu.estop = s.alu.estop ∧
    (suspendTimedOut s).alu.duplicate = s.alu.duplicate ∧ (suspendTimedOut s).fpt.timer = s.fpt.timer ∧
    (suspendTimedOut s).fpt.fitted = s.fpt.fitted ∧ (suspendTimedOut s).fpt.inputs = s.fpt.inputs ∧
    (suspendTimedOut s).fpt.estopIn = s.fpt.estopIn ∧ (suspendTimedOut s).fpt.probe = s.fpt.probe ∧
    (suspendTimedOut s).fpt.forced = s.fpt.forced ∧ (suspendTimedOut s).lif.slot = s.lif.slot ∧
    (suspendTimedOut s).lif.seq = s.lif.seq ∧ (suspendTimedOut s).lif.idle = s.lif.idle ∧
    (suspendTimedOut s).lif.crcErrors = s.lif.crcErrors ∧
    (suspendTimedOut s).lif.formatErrors = s.lif.formatErrors ∧
    (suspendTimedOut s).lif.collisions = s.lif.collisions ∧
    (suspendTimedOut s).lif.diagCount = s.lif.diagCount ∧ (suspendTimedOut s).lif.timer = s.lif.timer ∧
    (suspendTimedOut s).lif.lineFault = s.lif.lineFault ∧
    (suspendTimedOut s).lif.abandoned = s.lif.abandoned := by
  simp [suspendTimedOut]

@[simp] theorem stepAnswer_fields (a : Answer) (s : State) :
    (stepAnswer a s).thu.quality = s.thu.quality ∧ (stepAnswer a s).thu.stroke = s.thu.stroke ∧
    (stepAnswer a s).thu.rate = s.thu.rate ∧ (stepAnswer a s).thu.history = s.thu.history ∧
    (stepAnswer a s).thu.fresh = s.thu.fresh ∧ (stepAnswer a s).thu.neighbours = s.thu.neighbours ∧
    (stepAnswer a s).thu.counter = s.thu.counter ∧ (stepAnswer a s).thu.set = s.thu.set ∧
    (stepAnswer a s).thu.blind = s.thu.blind ∧ (stepAnswer a s).thu.strokeEnd = s.thu.strokeEnd ∧
    (stepAnswer a s).thu.rateTarget = s.thu.rateTarget ∧ (stepAnswer a s).thu.bias = s.thu.bias ∧
    (stepAnswer a s).thu.enable = s.thu.enable ∧ (stepAnswer a s).thu.strokeFault = s.thu.strokeFault ∧
    (stepAnswer a s).thu.denied = s.thu.denied ∧ (stepAnswer a s).thu.skew = s.thu.skew ∧
    (stepAnswer a s).thu.orphaned = s.thu.orphaned ∧ (stepAnswer a s).alu.active = s.alu.active ∧
    (stepAnswer a s).alu.entries = s.alu.entries ∧ (stepAnswer a s).alu.estop = s.alu.estop ∧
    (stepAnswer a s).alu.duplicate = s.alu.duplicate ∧ (stepAnswer a s).fpt.timer = s.fpt.timer ∧
    (stepAnswer a s).fpt.fitted = s.fpt.fitted ∧ (stepAnswer a s).fpt.inputs = s.fpt.inputs ∧
    (stepAnswer a s).fpt.estopIn = s.fpt.estopIn ∧ (stepAnswer a s).fpt.probe = s.fpt.probe ∧
    (stepAnswer a s).fpt.forced = s.fpt.forced ∧ (stepAnswer a s).lif.slot = s.lif.slot ∧
    (stepAnswer a s).lif.seq = s.lif.seq ∧ (stepAnswer a s).lif.idle = s.lif.idle ∧
    (stepAnswer a s).lif.crcErrors = s.lif.crcErrors ∧ (stepAnswer a s).lif.formatErrors = s.lif.formatErrors ∧
    (stepAnswer a s).lif.collisions = s.lif.collisions ∧ (stepAnswer a s).lif.diagCount = s.lif.diagCount ∧
    (stepAnswer a s).lif.timer = s.lif.timer ∧ (stepAnswer a s).lif.lineFault = s.lif.lineFault ∧
    (stepAnswer a s).lif.abandoned = s.lif.abandoned := by
  unfold stepAnswer; (repeat' split) <;> simp

@[simp] theorem pickTest_fields (s : State) :
    (pickTest s).bsq.state = s.bsq.state ∧ (pickTest s).bsq.cursor = s.bsq.cursor ∧
    (pickTest s).bsq.cursorRing = s.bsq.cursorRing ∧ (pickTest s).bsq.request = s.bsq.request ∧
    (pickTest s).bsq.issued = s.bsq.issued ∧ (pickTest s).bsq.retraction = s.bsq.retraction ∧
    (pickTest s).bsq.nextTag = s.bsq.nextTag ∧ (pickTest s).bsq.buildStart = s.bsq.buildStart ∧
    (pickTest s).bsq.placed = s.bsq.placed ∧ (pickTest s).bsq.substituted = s.bsq.substituted ∧
    (pickTest s).bsq.stepTimer = s.bsq.stepTimer ∧ (pickTest s).bsq.retractTimer = s.bsq.retractTimer ∧
    (pickTest s).bsq.extendTimer = s.bsq.extendTimer ∧ (pickTest s).bsq.releaseTimer = s.bsq.releaseTimer ∧
    (pickTest s).bsq.answerWait = s.bsq.answerWait ∧ (pickTest s).bsq.timedOut = s.bsq.timedOut ∧
    (pickTest s).bsq.unanswered = s.bsq.unanswered ∧ (pickTest s).bsq.holderSeen = s.bsq.holderSeen ∧
    (pickTest s).fpt.timer = s.fpt.timer ∧ (pickTest s).fpt.fitted = s.fpt.fitted ∧
    (pickTest s).fpt.inputs = s.fpt.inputs ∧ (pickTest s).fpt.estopIn = s.fpt.estopIn ∧
    (pickTest s).fpt.probe = s.fpt.probe ∧ (pickTest s).fpt.forced = s.fpt.forced := by
  unfold pickTest; split <;> simp

@[simp] theorem enterPick_fields (s : State) :
    (enterPick s).bsq.cursor = s.bsq.cursor ∧ (enterPick s).bsq.cursorRing = s.bsq.cursorRing ∧
    (enterPick s).bsq.request = s.bsq.request ∧ (enterPick s).bsq.retraction = s.bsq.retraction ∧
    (enterPick s).bsq.nextTag = s.bsq.nextTag ∧ (enterPick s).bsq.buildStart = s.bsq.buildStart ∧
    (enterPick s).bsq.placed = s.bsq.placed ∧ (enterPick s).bsq.substituted = s.bsq.substituted ∧
    (enterPick s).bsq.answerWait = s.bsq.answerWait ∧ (enterPick s).bsq.holderSeen = s.bsq.holderSeen ∧
    (enterPick s).fpt.timer = s.fpt.timer ∧ (enterPick s).fpt.fitted = s.fpt.fitted ∧
    (enterPick s).fpt.inputs = s.fpt.inputs ∧ (enterPick s).fpt.estopIn = s.fpt.estopIn ∧
    (enterPick s).fpt.probe = s.fpt.probe ∧ (enterPick s).fpt.forced = s.fpt.forced := by
  refine ⟨?_, ?_, ?_, ?_, ?_, ?_, ?_, ?_, ?_, ?_, ?_, ?_, ?_, ?_, ?_, ?_⟩ <;> (simp [enterPick]; try rfl)

@[simp] theorem buildWaitTest_fields (s : State) :
    (buildWaitTest s).bsq.cursor = s.bsq.cursor ∧ (buildWaitTest s).bsq.cursorRing = s.bsq.cursorRing ∧
    (buildWaitTest s).bsq.request = s.bsq.request ∧ (buildWaitTest s).bsq.retraction = s.bsq.retraction ∧
    (buildWaitTest s).bsq.nextTag = s.bsq.nextTag ∧ (buildWaitTest s).bsq.buildStart = s.bsq.buildStart ∧
    (buildWaitTest s).bsq.placed = s.bsq.placed ∧ (buildWaitTest s).bsq.substituted = s.bsq.substituted ∧
    (buildWaitTest s).bsq.answerWait = s.bsq.answerWait ∧ (buildWaitTest s).bsq.holderSeen = s.bsq.holderSeen ∧
    (buildWaitTest s).fpt.timer = s.fpt.timer ∧ (buildWaitTest s).fpt.fitted = s.fpt.fitted ∧
    (buildWaitTest s).fpt.inputs = s.fpt.inputs ∧ (buildWaitTest s).fpt.estopIn = s.fpt.estopIn ∧
    (buildWaitTest s).fpt.probe = s.fpt.probe ∧ (buildWaitTest s).fpt.forced = s.fpt.forced := by
  refine ⟨?_, ?_, ?_, ?_, ?_, ?_, ?_, ?_, ?_, ?_, ?_, ?_, ?_, ?_, ?_, ?_⟩ <;> (unfold buildWaitTest; (repeat' split) <;> (try simp) <;> rfl)

@[simp] theorem enterBuildWait_fields (s : State) :
    (enterBuildWait s).bsq.cursor = s.bsq.cursor ∧ (enterBuildWait s).bsq.cursorRing = s.bsq.cursorRing ∧
    (enterBuildWait s).bsq.request = s.bsq.request ∧ (enterBuildWait s).bsq.retraction = s.bsq.retraction ∧
    (enterBuildWait s).bsq.nextTag = s.bsq.nextTag ∧ (enterBuildWait s).bsq.buildStart = s.bsq.buildStart ∧
    (enterBuildWait s).bsq.placed = s.bsq.placed ∧ (enterBuildWait s).bsq.substituted = s.bsq.substituted ∧
    (enterBuildWait s).bsq.answerWait = s.bsq.answerWait ∧
    (enterBuildWait s).bsq.holderSeen = s.bsq.holderSeen ∧ (enterBuildWait s).fpt.timer = s.fpt.timer ∧
    (enterBuildWait s).fpt.fitted = s.fpt.fitted ∧ (enterBuildWait s).fpt.inputs = s.fpt.inputs ∧
    (enterBuildWait s).fpt.estopIn = s.fpt.estopIn ∧ (enterBuildWait s).fpt.probe = s.fpt.probe ∧
    (enterBuildWait s).fpt.forced = s.fpt.forced := by
  refine ⟨?_, ?_, ?_, ?_, ?_, ?_, ?_, ?_, ?_, ?_, ?_, ?_, ?_, ?_, ?_, ?_⟩ <;> (simp [enterBuildWait]; try rfl)

@[simp] theorem travelTest_fields (s : State) :
    (travelTest s).bsq.cursor = s.bsq.cursor ∧ (travelTest s).bsq.cursorRing = s.bsq.cursorRing ∧
    (travelTest s).bsq.progress = s.bsq.progress ∧ (travelTest s).bsq.request = s.bsq.request ∧
    (travelTest s).bsq.retraction = s.bsq.retraction ∧ (travelTest s).bsq.nextTag = s.bsq.nextTag ∧
    (travelTest s).bsq.buildStart = s.bsq.buildStart ∧ (travelTest s).bsq.placed = s.bsq.placed ∧
    (travelTest s).bsq.substituted = s.bsq.substituted ∧ (travelTest s).bsq.answerWait = s.bsq.answerWait ∧
    (travelTest s).bsq.holderSeen = s.bsq.holderSeen ∧ (travelTest s).fpt.timer = s.fpt.timer ∧
    (travelTest s).fpt.fitted = s.fpt.fitted ∧ (travelTest s).fpt.inputs = s.fpt.inputs ∧
    (travelTest s).fpt.estopIn = s.fpt.estopIn ∧ (travelTest s).fpt.probe = s.fpt.probe ∧
    (travelTest s).fpt.forced = s.fpt.forced := by
  unfold travelTest; split <;> exact ⟨rfl, rfl, rfl, rfl, rfl, rfl, rfl, rfl, rfl, rfl, rfl, rfl, rfl, rfl, rfl, rfl, rfl⟩

@[simp] theorem issueRetract_fields (s : State) :
    (issueRetract s).thu.quality = s.thu.quality ∧ (issueRetract s).thu.stroke = s.thu.stroke ∧
    (issueRetract s).thu.rate = s.thu.rate ∧ (issueRetract s).thu.history = s.thu.history ∧
    (issueRetract s).thu.fresh = s.thu.fresh ∧ (issueRetract s).thu.neighbours = s.thu.neighbours ∧
    (issueRetract s).thu.counter = s.thu.counter ∧ (issueRetract s).thu.set = s.thu.set ∧
    (issueRetract s).thu.blind = s.thu.blind ∧ (issueRetract s).thu.strokeEnd = s.thu.strokeEnd ∧
    (issueRetract s).thu.rateTarget = s.thu.rateTarget ∧ (issueRetract s).thu.bias = s.thu.bias ∧
    (issueRetract s).thu.enable = s.thu.enable ∧ (issueRetract s).thu.strokeFault = s.thu.strokeFault ∧
    (issueRetract s).thu.denied = s.thu.denied ∧ (issueRetract s).thu.skew = s.thu.skew ∧
    (issueRetract s).thu.orphaned = s.thu.orphaned ∧ (issueRetract s).alu.active = s.alu.active ∧
    (issueRetract s).alu.entries = s.alu.entries ∧ (issueRetract s).alu.estop = s.alu.estop ∧
    (issueRetract s).alu.duplicate = s.alu.duplicate ∧ (issueRetract s).fpt.timer = s.fpt.timer ∧
    (issueRetract s).fpt.fitted = s.fpt.fitted ∧ (issueRetract s).fpt.inputs = s.fpt.inputs ∧
    (issueRetract s).fpt.estopIn = s.fpt.estopIn ∧ (issueRetract s).fpt.probe = s.fpt.probe ∧
    (issueRetract s).fpt.forced = s.fpt.forced ∧ (issueRetract s).lif.slot = s.lif.slot ∧
    (issueRetract s).lif.seq = s.lif.seq ∧ (issueRetract s).lif.idle = s.lif.idle ∧
    (issueRetract s).lif.crcErrors = s.lif.crcErrors ∧ (issueRetract s).lif.formatErrors = s.lif.formatErrors ∧
    (issueRetract s).lif.collisions = s.lif.collisions ∧ (issueRetract s).lif.diagCount = s.lif.diagCount ∧
    (issueRetract s).lif.timer = s.lif.timer ∧ (issueRetract s).lif.lineFault = s.lif.lineFault ∧
    (issueRetract s).lif.abandoned = s.lif.abandoned := by
  unfold issueRetract; split <;> simp

@[simp] theorem retractTest_fields (s : State) :
    (retractTest s).thu.quality = s.thu.quality ∧ (retractTest s).thu.stroke = s.thu.stroke ∧
    (retractTest s).thu.rate = s.thu.rate ∧ (retractTest s).thu.history = s.thu.history ∧
    (retractTest s).thu.fresh = s.thu.fresh ∧ (retractTest s).thu.neighbours = s.thu.neighbours ∧
    (retractTest s).thu.counter = s.thu.counter ∧ (retractTest s).thu.set = s.thu.set ∧
    (retractTest s).thu.blind = s.thu.blind ∧ (retractTest s).thu.strokeEnd = s.thu.strokeEnd ∧
    (retractTest s).thu.rateTarget = s.thu.rateTarget ∧ (retractTest s).thu.bias = s.thu.bias ∧
    (retractTest s).thu.enable = s.thu.enable ∧ (retractTest s).thu.strokeFault = s.thu.strokeFault ∧
    (retractTest s).thu.denied = s.thu.denied ∧ (retractTest s).thu.skew = s.thu.skew ∧
    (retractTest s).thu.orphaned = s.thu.orphaned ∧ (retractTest s).alu.active = s.alu.active ∧
    (retractTest s).alu.entries = s.alu.entries ∧ (retractTest s).alu.estop = s.alu.estop ∧
    (retractTest s).alu.duplicate = s.alu.duplicate ∧ (retractTest s).fpt.timer = s.fpt.timer ∧
    (retractTest s).fpt.fitted = s.fpt.fitted ∧ (retractTest s).fpt.inputs = s.fpt.inputs ∧
    (retractTest s).fpt.estopIn = s.fpt.estopIn ∧ (retractTest s).fpt.probe = s.fpt.probe ∧
    (retractTest s).fpt.forced = s.fpt.forced ∧ (retractTest s).lif.slot = s.lif.slot ∧
    (retractTest s).lif.seq = s.lif.seq ∧ (retractTest s).lif.idle = s.lif.idle ∧
    (retractTest s).lif.crcErrors = s.lif.crcErrors ∧ (retractTest s).lif.formatErrors = s.lif.formatErrors ∧
    (retractTest s).lif.collisions = s.lif.collisions ∧ (retractTest s).lif.diagCount = s.lif.diagCount ∧
    (retractTest s).lif.timer = s.lif.timer ∧ (retractTest s).lif.lineFault = s.lif.lineFault ∧
    (retractTest s).lif.abandoned = s.lif.abandoned := by
  unfold retractTest; (repeat' split) <;> simp

@[simp] theorem enterAwaitExtend_fields (s : State) :
    (enterAwaitExtend s).thu.quality = s.thu.quality ∧ (enterAwaitExtend s).thu.stroke = s.thu.stroke ∧
    (enterAwaitExtend s).thu.rate = s.thu.rate ∧ (enterAwaitExtend s).thu.history = s.thu.history ∧
    (enterAwaitExtend s).thu.fresh = s.thu.fresh ∧ (enterAwaitExtend s).thu.neighbours = s.thu.neighbours ∧
    (enterAwaitExtend s).thu.counter = s.thu.counter ∧ (enterAwaitExtend s).thu.set = s.thu.set ∧
    (enterAwaitExtend s).thu.blind = s.thu.blind ∧ (enterAwaitExtend s).thu.strokeEnd = s.thu.strokeEnd ∧
    (enterAwaitExtend s).thu.rateTarget = s.thu.rateTarget ∧ (enterAwaitExtend s).thu.bias = s.thu.bias ∧
    (enterAwaitExtend s).thu.enable = s.thu.enable ∧ (enterAwaitExtend s).thu.strokeFault = s.thu.strokeFault ∧
    (enterAwaitExtend s).thu.denied = s.thu.denied ∧ (enterAwaitExtend s).thu.skew = s.thu.skew ∧
    (enterAwaitExtend s).thu.orphaned = s.thu.orphaned ∧ (enterAwaitExtend s).alu.active = s.alu.active ∧
    (enterAwaitExtend s).alu.entries = s.alu.entries ∧ (enterAwaitExtend s).alu.estop = s.alu.estop ∧
    (enterAwaitExtend s).alu.duplicate = s.alu.duplicate ∧ (enterAwaitExtend s).fpt.timer = s.fpt.timer ∧
    (enterAwaitExtend s).fpt.fitted = s.fpt.fitted ∧ (enterAwaitExtend s).fpt.inputs = s.fpt.inputs ∧
    (enterAwaitExtend s).fpt.estopIn = s.fpt.estopIn ∧ (enterAwaitExtend s).fpt.probe = s.fpt.probe ∧
    (enterAwaitExtend s).fpt.forced = s.fpt.forced ∧ (enterAwaitExtend s).lif.slot = s.lif.slot ∧
    (enterAwaitExtend s).lif.seq = s.lif.seq ∧ (enterAwaitExtend s).lif.idle = s.lif.idle ∧
    (enterAwaitExtend s).lif.crcErrors = s.lif.crcErrors ∧
    (enterAwaitExtend s).lif.formatErrors = s.lif.formatErrors ∧
    (enterAwaitExtend s).lif.collisions = s.lif.collisions ∧
    (enterAwaitExtend s).lif.diagCount = s.lif.diagCount ∧ (enterAwaitExtend s).lif.timer = s.lif.timer ∧
    (enterAwaitExtend s).lif.lineFault = s.lif.lineFault ∧
    (enterAwaitExtend s).lif.abandoned = s.lif.abandoned := by
  unfold enterAwaitExtend; (repeat' split) <;> simp

@[simp] theorem placeTest_fields (s : State) :
    (placeTest s).thu.quality = s.thu.quality ∧ (placeTest s).thu.stroke = s.thu.stroke ∧
    (placeTest s).thu.rate = s.thu.rate ∧ (placeTest s).thu.history = s.thu.history ∧
    (placeTest s).thu.fresh = s.thu.fresh ∧ (placeTest s).thu.neighbours = s.thu.neighbours ∧
    (placeTest s).thu.counter = s.thu.counter ∧ (placeTest s).thu.set = s.thu.set ∧
    (placeTest s).thu.blind = s.thu.blind ∧ (placeTest s).thu.strokeEnd = s.thu.strokeEnd ∧
    (placeTest s).thu.rateTarget = s.thu.rateTarget ∧ (placeTest s).thu.bias = s.thu.bias ∧
    (placeTest s).thu.enable = s.thu.enable ∧ (placeTest s).thu.strokeFault = s.thu.strokeFault ∧
    (placeTest s).thu.denied = s.thu.denied ∧ (placeTest s).thu.skew = s.thu.skew ∧
    (placeTest s).thu.orphaned = s.thu.orphaned ∧ (placeTest s).alu.active = s.alu.active ∧
    (placeTest s).alu.entries = s.alu.entries ∧ (placeTest s).alu.estop = s.alu.estop ∧
    (placeTest s).alu.duplicate = s.alu.duplicate ∧ (placeTest s).fpt.timer = s.fpt.timer ∧
    (placeTest s).fpt.fitted = s.fpt.fitted ∧ (placeTest s).fpt.inputs = s.fpt.inputs ∧
    (placeTest s).fpt.estopIn = s.fpt.estopIn ∧ (placeTest s).fpt.probe = s.fpt.probe ∧
    (placeTest s).fpt.forced = s.fpt.forced ∧ (placeTest s).lif.slot = s.lif.slot ∧
    (placeTest s).lif.seq = s.lif.seq ∧ (placeTest s).lif.idle = s.lif.idle ∧
    (placeTest s).lif.crcErrors = s.lif.crcErrors ∧ (placeTest s).lif.formatErrors = s.lif.formatErrors ∧
    (placeTest s).lif.collisions = s.lif.collisions ∧ (placeTest s).lif.diagCount = s.lif.diagCount ∧
    (placeTest s).lif.timer = s.lif.timer ∧ (placeTest s).lif.lineFault = s.lif.lineFault ∧
    (placeTest s).lif.abandoned = s.lif.abandoned := by
  unfold placeTest; split <;> simp

@[simp] theorem clearRetraction_fields (s : State) :
    (clearRetraction s).fpt.timer = s.fpt.timer ∧ (clearRetraction s).fpt.fitted = s.fpt.fitted ∧
    (clearRetraction s).fpt.inputs = s.fpt.inputs ∧ (clearRetraction s).fpt.estopIn = s.fpt.estopIn ∧
    (clearRetraction s).fpt.probe = s.fpt.probe ∧ (clearRetraction s).fpt.forced = s.fpt.forced := by
  unfold clearRetraction; split <;> simp

@[simp] theorem retractedSeen_fields (j : Nat) (g : Group) (s : State) :
    (retractedSeen j g s).bsq.cursor = s.bsq.cursor ∧ (retractedSeen j g s).bsq.cursorRing = s.bsq.cursorRing ∧
    (retractedSeen j g s).bsq.progress = s.bsq.progress ∧
    (retractedSeen j g s).bsq.retraction = s.bsq.retraction ∧
    (retractedSeen j g s).bsq.nextTag = s.bsq.nextTag ∧
    (retractedSeen j g s).bsq.buildStart = s.bsq.buildStart ∧ (retractedSeen j g s).bsq.placed = s.bsq.placed ∧
    (retractedSeen j g s).bsq.substituted = s.bsq.substituted ∧
    (retractedSeen j g s).bsq.answerWait = s.bsq.answerWait ∧
    (retractedSeen j g s).bsq.holderSeen = s.bsq.holderSeen ∧ (retractedSeen j g s).fpt.timer = s.fpt.timer ∧
    (retractedSeen j g s).fpt.fitted = s.fpt.fitted ∧ (retractedSeen j g s).fpt.inputs = s.fpt.inputs ∧
    (retractedSeen j g s).fpt.estopIn = s.fpt.estopIn ∧ (retractedSeen j g s).fpt.probe = s.fpt.probe ∧
    (retractedSeen j g s).fpt.forced = s.fpt.forced := by
  refine ⟨?_, ?_, ?_, ?_, ?_, ?_, ?_, ?_, ?_, ?_, ?_, ?_, ?_, ?_, ?_, ?_⟩ <;> (unfold retractedSeen; (repeat' split) <;> (try simp) <;> rfl)

@[simp] theorem holdingSeen_fields (j : Nat) (g : Group) (s : State) :
    (holdingSeen j g s).fpt.timer = s.fpt.timer ∧ (holdingSeen j g s).fpt.fitted = s.fpt.fitted ∧
    (holdingSeen j g s).fpt.inputs = s.fpt.inputs ∧ (holdingSeen j g s).fpt.estopIn = s.fpt.estopIn ∧
    (holdingSeen j g s).fpt.probe = s.fpt.probe ∧ (holdingSeen j g s).fpt.forced = s.fpt.forced := by
  unfold holdingSeen; (repeat' split) <;> simp

@[simp] theorem targetSeen_fields (j : Nat) (r : StatusRecord) (s : State) :
    (targetSeen j r s).fpt.timer = s.fpt.timer ∧ (targetSeen j r s).fpt.fitted = s.fpt.fitted ∧
    (targetSeen j r s).fpt.inputs = s.fpt.inputs ∧ (targetSeen j r s).fpt.estopIn = s.fpt.estopIn ∧
    (targetSeen j r s).fpt.probe = s.fpt.probe ∧ (targetSeen j r s).fpt.forced = s.fpt.forced := by
  unfold targetSeen; split <;> simp

@[simp] theorem ownGroupSeen_fields (s : State) :
    (ownGroupSeen s).fpt.timer = s.fpt.timer ∧ (ownGroupSeen s).fpt.fitted = s.fpt.fitted ∧
    (ownGroupSeen s).fpt.inputs = s.fpt.inputs ∧ (ownGroupSeen s).fpt.estopIn = s.fpt.estopIn ∧
    (ownGroupSeen s).fpt.probe = s.fpt.probe ∧ (ownGroupSeen s).fpt.forced = s.fpt.forced := by
  unfold ownGroupSeen; split <;> simp

@[simp] theorem markSubstituted_fields (j : Nat) (s : State) :
    (markSubstituted j s).bsq.state = s.bsq.state ∧ (markSubstituted j s).bsq.cursor = s.bsq.cursor ∧
    (markSubstituted j s).bsq.cursorRing = s.bsq.cursorRing ∧
    (markSubstituted j s).bsq.progress = s.bsq.progress ∧ (markSubstituted j s).bsq.request = s.bsq.request ∧
    (markSubstituted j s).bsq.issued = s.bsq.issued ∧ (markSubstituted j s).bsq.retraction = s.bsq.retraction ∧
    (markSubstituted j s).bsq.nextTag = s.bsq.nextTag ∧
    (markSubstituted j s).bsq.buildStart = s.bsq.buildStart ∧ (markSubstituted j s).bsq.placed = s.bsq.placed ∧
    (markSubstituted j s).bsq.stepTimer = s.bsq.stepTimer ∧
    (markSubstituted j s).bsq.gripTimer = s.bsq.gripTimer ∧
    (markSubstituted j s).bsq.retractTimer = s.bsq.retractTimer ∧
    (markSubstituted j s).bsq.extendTimer = s.bsq.extendTimer ∧
    (markSubstituted j s).bsq.releaseTimer = s.bsq.releaseTimer ∧
    (markSubstituted j s).bsq.answerWait = s.bsq.answerWait ∧
    (markSubstituted j s).bsq.timedOut = s.bsq.timedOut ∧
    (markSubstituted j s).bsq.unanswered = s.bsq.unanswered ∧
    (markSubstituted j s).bsq.holderSeen = s.bsq.holderSeen := by
  simp [markSubstituted]

@[simp] theorem buildCountedStatus_fields (j : Nat) (r : StatusRecord) (s : State) :
    (buildCountedStatus j r s).fpt.timer = s.fpt.timer ∧ (buildCountedStatus j r s).fpt.fitted = s.fpt.fitted ∧
    (buildCountedStatus j r s).fpt.inputs = s.fpt.inputs ∧
    (buildCountedStatus j r s).fpt.estopIn = s.fpt.estopIn ∧
    (buildCountedStatus j r s).fpt.probe = s.fpt.probe ∧
    (buildCountedStatus j r s).fpt.forced = s.fpt.forced := by
  unfold buildCountedStatus; (repeat' split) <;> simp

@[simp] theorem buildPresence_fields (j : Nat) (s : State) :
    (buildPresence j s).thu.quality = s.thu.quality ∧ (buildPresence j s).thu.stroke = s.thu.stroke ∧
    (buildPresence j s).thu.rate = s.thu.rate ∧ (buildPresence j s).thu.history = s.thu.history ∧
    (buildPresence j s).thu.fresh = s.thu.fresh ∧ (buildPresence j s).thu.neighbours = s.thu.neighbours ∧
    (buildPresence j s).thu.counter = s.thu.counter ∧ (buildPresence j s).thu.set = s.thu.set ∧
    (buildPresence j s).thu.blind = s.thu.blind ∧ (buildPresence j s).thu.strokeEnd = s.thu.strokeEnd ∧
    (buildPresence j s).thu.rateTarget = s.thu.rateTarget ∧ (buildPresence j s).thu.bias = s.thu.bias ∧
    (buildPresence j s).thu.enable = s.thu.enable ∧ (buildPresence j s).thu.strokeFault = s.thu.strokeFault ∧
    (buildPresence j s).thu.denied = s.thu.denied ∧ (buildPresence j s).thu.skew = s.thu.skew ∧
    (buildPresence j s).thu.orphaned = s.thu.orphaned ∧ (buildPresence j s).alu.active = s.alu.active ∧
    (buildPresence j s).alu.entries = s.alu.entries ∧ (buildPresence j s).alu.estop = s.alu.estop ∧
    (buildPresence j s).alu.duplicate = s.alu.duplicate ∧ (buildPresence j s).fpt.timer = s.fpt.timer ∧
    (buildPresence j s).fpt.fitted = s.fpt.fitted ∧ (buildPresence j s).fpt.inputs = s.fpt.inputs ∧
    (buildPresence j s).fpt.estopIn = s.fpt.estopIn ∧ (buildPresence j s).fpt.probe = s.fpt.probe ∧
    (buildPresence j s).fpt.forced = s.fpt.forced ∧ (buildPresence j s).lif.slot = s.lif.slot ∧
    (buildPresence j s).lif.seq = s.lif.seq ∧ (buildPresence j s).lif.idle = s.lif.idle ∧
    (buildPresence j s).lif.crcErrors = s.lif.crcErrors ∧
    (buildPresence j s).lif.formatErrors = s.lif.formatErrors ∧
    (buildPresence j s).lif.collisions = s.lif.collisions ∧
    (buildPresence j s).lif.diagCount = s.lif.diagCount ∧ (buildPresence j s).lif.timer = s.lif.timer ∧
    (buildPresence j s).lif.lineFault = s.lif.lineFault ∧
    (buildPresence j s).lif.abandoned = s.lif.abandoned := by
  unfold buildPresence; (repeat' split) <;> simp

@[simp] theorem replyArrival_fields (source : Nat) (tag : Tag) (a : Answer) (s : State) :
    (replyArrival source tag a s).thu.quality = s.thu.quality ∧
    (replyArrival source tag a s).thu.stroke = s.thu.stroke ∧
    (replyArrival source tag a s).thu.rate = s.thu.rate ∧
    (replyArrival source tag a s).thu.history = s.thu.history ∧
    (replyArrival source tag a s).thu.fresh = s.thu.fresh ∧
    (replyArrival source tag a s).thu.neighbours = s.thu.neighbours ∧
    (replyArrival source tag a s).thu.counter = s.thu.counter ∧
    (replyArrival source tag a s).thu.set = s.thu.set ∧ (replyArrival source tag a s).thu.blind = s.thu.blind ∧
    (replyArrival source tag a s).thu.strokeEnd = s.thu.strokeEnd ∧
    (replyArrival source tag a s).thu.rateTarget = s.thu.rateTarget ∧
    (replyArrival source tag a s).thu.bias = s.thu.bias ∧
    (replyArrival source tag a s).thu.enable = s.thu.enable ∧
    (replyArrival source tag a s).thu.strokeFault = s.thu.strokeFault ∧
    (replyArrival source tag a s).thu.denied = s.thu.denied ∧
    (replyArrival source tag a s).thu.skew = s.thu.skew ∧
    (replyArrival source tag a s).thu.orphaned = s.thu.orphaned ∧
    (replyArrival source tag a s).alu.active = s.alu.active ∧
    (replyArrival source tag a s).alu.entries = s.alu.entries ∧
    (replyArrival source tag a s).alu.estop = s.alu.estop ∧
    (replyArrival source tag a s).alu.duplicate = s.alu.duplicate ∧
    (replyArrival source tag a s).fpt.timer = s.fpt.timer ∧
    (replyArrival source tag a s).fpt.fitted = s.fpt.fitted ∧
    (replyArrival source tag a s).fpt.inputs = s.fpt.inputs ∧
    (replyArrival source tag a s).fpt.estopIn = s.fpt.estopIn ∧
    (replyArrival source tag a s).fpt.probe = s.fpt.probe ∧
    (replyArrival source tag a s).fpt.forced = s.fpt.forced ∧
    (replyArrival source tag a s).lif.slot = s.lif.slot ∧ (replyArrival source tag a s).lif.seq = s.lif.seq ∧
    (replyArrival source tag a s).lif.idle = s.lif.idle ∧
    (replyArrival source tag a s).lif.crcErrors = s.lif.crcErrors ∧
    (replyArrival source tag a s).lif.formatErrors = s.lif.formatErrors ∧
    (replyArrival source tag a s).lif.collisions = s.lif.collisions ∧
    (replyArrival source tag a s).lif.diagCount = s.lif.diagCount ∧
    (replyArrival source tag a s).lif.timer = s.lif.timer ∧
    (replyArrival source tag a s).lif.lineFault = s.lif.lineFault ∧
    (replyArrival source tag a s).lif.abandoned = s.lif.abandoned := by
  unfold replyArrival; (repeat' split) <;> simp

@[simp] theorem answerExpires_fields (s : State) :
    (answerExpires s).thu.quality = s.thu.quality ∧ (answerExpires s).thu.stroke = s.thu.stroke ∧
    (answerExpires s).thu.rate = s.thu.rate ∧ (answerExpires s).thu.history = s.thu.history ∧
    (answerExpires s).thu.fresh = s.thu.fresh ∧ (answerExpires s).thu.neighbours = s.thu.neighbours ∧
    (answerExpires s).thu.counter = s.thu.counter ∧ (answerExpires s).thu.set = s.thu.set ∧
    (answerExpires s).thu.blind = s.thu.blind ∧ (answerExpires s).thu.strokeEnd = s.thu.strokeEnd ∧
    (answerExpires s).thu.rateTarget = s.thu.rateTarget ∧ (answerExpires s).thu.bias = s.thu.bias ∧
    (answerExpires s).thu.enable = s.thu.enable ∧ (answerExpires s).thu.strokeFault = s.thu.strokeFault ∧
    (answerExpires s).thu.denied = s.thu.denied ∧ (answerExpires s).thu.skew = s.thu.skew ∧
    (answerExpires s).thu.orphaned = s.thu.orphaned ∧ (answerExpires s).alu.active = s.alu.active ∧
    (answerExpires s).alu.entries = s.alu.entries ∧ (answerExpires s).alu.estop = s.alu.estop ∧
    (answerExpires s).alu.duplicate = s.alu.duplicate ∧ (answerExpires s).fpt.timer = s.fpt.timer ∧
    (answerExpires s).fpt.fitted = s.fpt.fitted ∧ (answerExpires s).fpt.inputs = s.fpt.inputs ∧
    (answerExpires s).fpt.estopIn = s.fpt.estopIn ∧ (answerExpires s).fpt.probe = s.fpt.probe ∧
    (answerExpires s).fpt.forced = s.fpt.forced ∧ (answerExpires s).lif.slot = s.lif.slot ∧
    (answerExpires s).lif.seq = s.lif.seq ∧ (answerExpires s).lif.idle = s.lif.idle ∧
    (answerExpires s).lif.crcErrors = s.lif.crcErrors ∧
    (answerExpires s).lif.formatErrors = s.lif.formatErrors ∧
    (answerExpires s).lif.collisions = s.lif.collisions ∧ (answerExpires s).lif.diagCount = s.lif.diagCount ∧
    (answerExpires s).lif.timer = s.lif.timer ∧ (answerExpires s).lif.lineFault = s.lif.lineFault ∧
    (answerExpires s).lif.abandoned = s.lif.abandoned := by
  unfold answerExpires; dsimp only; (repeat' split) <;> simp

@[simp] theorem cursorCheck_fields (s : State) :
    (cursorCheck s).bsq.state = s.bsq.state ∧ (cursorCheck s).bsq.request = s.bsq.request ∧
    (cursorCheck s).bsq.issued = s.bsq.issued ∧ (cursorCheck s).bsq.retraction = s.bsq.retraction ∧
    (cursorCheck s).bsq.nextTag = s.bsq.nextTag ∧ (cursorCheck s).bsq.stepTimer = s.bsq.stepTimer ∧
    (cursorCheck s).bsq.gripTimer = s.bsq.gripTimer ∧ (cursorCheck s).bsq.retractTimer = s.bsq.retractTimer ∧
    (cursorCheck s).bsq.extendTimer = s.bsq.extendTimer ∧
    (cursorCheck s).bsq.releaseTimer = s.bsq.releaseTimer ∧ (cursorCheck s).bsq.answerWait = s.bsq.answerWait ∧
    (cursorCheck s).bsq.timedOut = s.bsq.timedOut ∧ (cursorCheck s).bsq.unanswered = s.bsq.unanswered ∧
    (cursorCheck s).bsq.holderSeen = s.bsq.holderSeen := by
  unfold cursorCheck; split <;> simp

@[simp] theorem beginBuild_fields (s : State) :
    (beginBuild s).bsq.request = s.bsq.request ∧ (beginBuild s).bsq.retraction = s.bsq.retraction ∧
    (beginBuild s).bsq.nextTag = s.bsq.nextTag ∧ (beginBuild s).bsq.answerWait = s.bsq.answerWait ∧
    (beginBuild s).bsq.holderSeen = s.bsq.holderSeen ∧ (beginBuild s).fpt.timer = s.fpt.timer ∧
    (beginBuild s).fpt.fitted = s.fpt.fitted ∧ (beginBuild s).fpt.inputs = s.fpt.inputs ∧
    (beginBuild s).fpt.estopIn = s.fpt.estopIn ∧ (beginBuild s).fpt.probe = s.fpt.probe ∧
    (beginBuild s).fpt.forced = s.fpt.forced := by
  unfold beginBuild; split <;> simp

@[simp] theorem buildActivate_fields (s : State) :
    (buildActivate s).bsq.cursor = s.bsq.cursor ∧ (buildActivate s).bsq.cursorRing = s.bsq.cursorRing ∧
    (buildActivate s).bsq.progress = s.bsq.progress ∧ (buildActivate s).bsq.nextTag = s.bsq.nextTag ∧
    (buildActivate s).bsq.buildStart = s.bsq.buildStart ∧ (buildActivate s).bsq.placed = s.bsq.placed ∧
    (buildActivate s).bsq.substituted = s.bsq.substituted ∧
    (buildActivate s).bsq.holderSeen = s.bsq.holderSeen ∧ (buildActivate s).fpt.timer = s.fpt.timer ∧
    (buildActivate s).fpt.fitted = s.fpt.fitted ∧ (buildActivate s).fpt.inputs = s.fpt.inputs ∧
    (buildActivate s).fpt.estopIn = s.fpt.estopIn ∧ (buildActivate s).fpt.probe = s.fpt.probe ∧
    (buildActivate s).fpt.forced = s.fpt.forced := by
  simp [buildActivate]

@[simp] theorem buildDeactivate_fields (s : State) :
    (buildDeactivate s).bsq.cursor = s.bsq.cursor ∧ (buildDeactivate s).bsq.cursorRing = s.bsq.cursorRing ∧
    (buildDeactivate s).bsq.progress = s.bsq.progress ∧ (buildDeactivate s).bsq.nextTag = s.bsq.nextTag ∧
    (buildDeactivate s).bsq.buildStart = s.bsq.buildStart ∧ (buildDeactivate s).bsq.placed = s.bsq.placed ∧
    (buildDeactivate s).bsq.substituted = s.bsq.substituted ∧
    (buildDeactivate s).bsq.holderSeen = s.bsq.holderSeen ∧ (buildDeactivate s).fpt.timer = s.fpt.timer ∧
    (buildDeactivate s).fpt.fitted = s.fpt.fitted ∧ (buildDeactivate s).fpt.inputs = s.fpt.inputs ∧
    (buildDeactivate s).fpt.estopIn = s.fpt.estopIn ∧ (buildDeactivate s).fpt.probe = s.fpt.probe ∧
    (buildDeactivate s).fpt.forced = s.fpt.forced := by
  simp [buildDeactivate]

@[simp] theorem buildRestart_fields (s : State) :
    (buildRestart s).bsq.cursor = s.bsq.cursor ∧ (buildRestart s).bsq.cursorRing = s.bsq.cursorRing ∧
    (buildRestart s).bsq.progress = s.bsq.progress ∧ (buildRestart s).bsq.nextTag = s.bsq.nextTag ∧
    (buildRestart s).bsq.buildStart = s.bsq.buildStart ∧ (buildRestart s).bsq.placed = s.bsq.placed ∧
    (buildRestart s).bsq.substituted = s.bsq.substituted ∧ (buildRestart s).fpt.timer = s.fpt.timer ∧
    (buildRestart s).fpt.fitted = s.fpt.fitted ∧ (buildRestart s).fpt.inputs = s.fpt.inputs ∧
    (buildRestart s).fpt.estopIn = s.fpt.estopIn ∧ (buildRestart s).fpt.probe = s.fpt.probe ∧
    (buildRestart s).fpt.forced = s.fpt.forced := by
  simp [buildRestart]

end Sys2Proof.Machine
end

