-- ==== Sys2Proof/Laws/Balance.lean ====
section
/-! SUPPORT. What each operation of Machine/Balance.lean leaves unchanged, block by block and, in the
blocks it changes, field by field. -/

namespace Sys2Proof.Machine

open Sys2Proof

@[simp] theorem writeConveyor_frame (s : State) :
    (writeConveyor s).pending = s.pending ∧ (writeConveyor s).elapsed = s.elapsed ∧
    (writeConveyor s).phase = s.phase ∧ (writeConveyor s).pauseCause = s.pauseCause ∧
    (writeConveyor s).ring = s.ring ∧ (writeConveyor s).cfg = s.cfg ∧ (writeConveyor s).ptb = s.ptb ∧
    (writeConveyor s).oru = s.oru ∧ (writeConveyor s).dsu = s.dsu ∧ (writeConveyor s).thu = s.thu ∧
    (writeConveyor s).bsq = s.bsq ∧ (writeConveyor s).gru = s.gru ∧ (writeConveyor s).bal = s.bal ∧
    (writeConveyor s).lif = s.lif := by
  simp [writeConveyor]

@[simp] theorem setConveyor_frame (c : Conveyor) (s : State) :
    (setConveyor c s).pending = s.pending ∧ (setConveyor c s).elapsed = s.elapsed ∧
    (setConveyor c s).phase = s.phase ∧ (setConveyor c s).pauseCause = s.pauseCause ∧
    (setConveyor c s).ring = s.ring ∧ (setConveyor c s).cfg = s.cfg ∧ (setConveyor c s).ptb = s.ptb ∧
    (setConveyor c s).oru = s.oru ∧ (setConveyor c s).dsu = s.dsu ∧ (setConveyor c s).thu = s.thu ∧
    (setConveyor c s).bsq = s.bsq ∧ (setConveyor c s).gru = s.gru ∧ (setConveyor c s).lif = s.lif := by
  simp [setConveyor]

@[simp] theorem holdTest_frame (s : State) :
    (holdTest s).pending = s.pending ∧ (holdTest s).elapsed = s.elapsed ∧ (holdTest s).phase = s.phase ∧
    (holdTest s).pauseCause = s.pauseCause ∧ (holdTest s).ring = s.ring ∧ (holdTest s).cfg = s.cfg ∧
    (holdTest s).ptb = s.ptb ∧ (holdTest s).oru = s.oru ∧ (holdTest s).dsu = s.dsu ∧ (holdTest s).thu = s.thu ∧
    (holdTest s).bsq = s.bsq ∧ (holdTest s).gru = s.gru ∧ (holdTest s).lif = s.lif := by
  unfold holdTest; (repeat' split) <;> simp

@[simp] theorem encoderTest_frame (s : State) :
    (encoderTest s).pending = s.pending ∧ (encoderTest s).elapsed = s.elapsed ∧
    (encoderTest s).phase = s.phase ∧ (encoderTest s).pauseCause = s.pauseCause ∧
    (encoderTest s).ring = s.ring ∧ (encoderTest s).cfg = s.cfg ∧ (encoderTest s).ptb = s.ptb ∧
    (encoderTest s).oru = s.oru ∧ (encoderTest s).dsu = s.dsu ∧ (encoderTest s).thu = s.thu ∧
    (encoderTest s).bsq = s.bsq ∧ (encoderTest s).gru = s.gru ∧ (encoderTest s).lif = s.lif := by
  unfold encoderTest; split <;> simp

@[simp] theorem clearUnread_frame (s : State) :
    (clearUnread s).pending = s.pending ∧ (clearUnread s).elapsed = s.elapsed ∧
    (clearUnread s).phase = s.phase ∧ (clearUnread s).pauseCause = s.pauseCause ∧
    (clearUnread s).ring = s.ring ∧ (clearUnread s).cfg = s.cfg ∧ (clearUnread s).ptb = s.ptb ∧
    (clearUnread s).oru = s.oru ∧ (clearUnread s).dsu = s.dsu ∧ (clearUnread s).thu = s.thu ∧
    (clearUnread s).bsq = s.bsq ∧ (clearUnread s).gru = s.gru ∧ (clearUnread s).alu = s.alu ∧
    (clearUnread s).fpt = s.fpt ∧ (clearUnread s).lif = s.lif := by
  unfold clearUnread; split <;> simp

@[simp] theorem encoderReport_frame (s : State) :
    (encoderReport s).pending = s.pending ∧ (encoderReport s).elapsed = s.elapsed ∧
    (encoderReport s).phase = s.phase ∧ (encoderReport s).pauseCause = s.pauseCause ∧
    (encoderReport s).ring = s.ring ∧ (encoderReport s).cfg = s.cfg ∧ (encoderReport s).ptb = s.ptb ∧
    (encoderReport s).oru = s.oru ∧ (encoderReport s).dsu = s.dsu ∧ (encoderReport s).thu = s.thu ∧
    (encoderReport s).bsq = s.bsq ∧ (encoderReport s).gru = s.gru ∧ (encoderReport s).lif = s.lif := by
  unfold encoderReport; split <;> simp

@[simp] theorem encoderArrival_frame (count : Int) (s : State) :
    (encoderArrival count s).pending = s.pending ∧ (encoderArrival count s).elapsed = s.elapsed ∧
    (encoderArrival count s).phase = s.phase ∧ (encoderArrival count s).pauseCause = s.pauseCause ∧
    (encoderArrival count s).ring = s.ring ∧ (encoderArrival count s).cfg = s.cfg ∧
    (encoderArrival count s).ptb = s.ptb ∧ (encoderArrival count s).oru = s.oru ∧
    (encoderArrival count s).dsu = s.dsu ∧ (encoderArrival count s).thu = s.thu ∧
    (encoderArrival count s).bsq = s.bsq ∧ (encoderArrival count s).gru = s.gru ∧
    (encoderArrival count s).alu = s.alu ∧ (encoderArrival count s).fpt = s.fpt ∧
    (encoderArrival count s).lif = s.lif := by
  unfold encoderArrival; split <;> simp

@[simp] theorem balanceActivate_frame (s : State) :
    (balanceActivate s).pending = s.pending ∧ (balanceActivate s).elapsed = s.elapsed ∧
    (balanceActivate s).phase = s.phase ∧ (balanceActivate s).pauseCause = s.pauseCause ∧
    (balanceActivate s).ring = s.ring ∧ (balanceActivate s).cfg = s.cfg ∧ (balanceActivate s).ptb = s.ptb ∧
    (balanceActivate s).oru = s.oru ∧ (balanceActivate s).dsu = s.dsu ∧ (balanceActivate s).thu = s.thu ∧
    (balanceActivate s).bsq = s.bsq ∧ (balanceActivate s).gru = s.gru ∧ (balanceActivate s).lif = s.lif := by
  simp [balanceActivate]

@[simp] theorem balanceDeactivate_frame (s : State) :
    (balanceDeactivate s).pending = s.pending ∧ (balanceDeactivate s).elapsed = s.elapsed ∧
    (balanceDeactivate s).phase = s.phase ∧ (balanceDeactivate s).pauseCause = s.pauseCause ∧
    (balanceDeactivate s).ring = s.ring ∧ (balanceDeactivate s).cfg = s.cfg ∧
    (balanceDeactivate s).ptb = s.ptb ∧ (balanceDeactivate s).oru = s.oru ∧ (balanceDeactivate s).dsu = s.dsu ∧
    (balanceDeactivate s).thu = s.thu ∧ (balanceDeactivate s).bsq = s.bsq ∧ (balanceDeactivate s).gru = s.gru ∧
    (balanceDeactivate s).lif = s.lif := by
  simp [balanceDeactivate]

@[simp] theorem evalInputs_frame (s : State) :
    (evalInputs s).pending = s.pending ∧ (evalInputs s).elapsed = s.elapsed ∧ (evalInputs s).phase = s.phase ∧
    (evalInputs s).pauseCause = s.pauseCause ∧ (evalInputs s).ring = s.ring ∧ (evalInputs s).cfg = s.cfg ∧
    (evalInputs s).ptb = s.ptb ∧ (evalInputs s).oru = s.oru ∧ (evalInputs s).dsu = s.dsu ∧
    (evalInputs s).thu = s.thu ∧ (evalInputs s).bsq = s.bsq ∧ (evalInputs s).gru = s.gru ∧
    (evalInputs s).fpt = s.fpt ∧ (evalInputs s).lif = s.lif := by
  simp [evalInputs]

@[simp] theorem postAccount_frame (dA dc : Int) (s : State) :
    (postAccount dA dc s).pending = s.pending ∧ (postAccount dA dc s).elapsed = s.elapsed ∧
    (postAccount dA dc s).phase = s.phase ∧ (postAccount dA dc s).pauseCause = s.pauseCause ∧
    (postAccount dA dc s).ring = s.ring ∧ (postAccount dA dc s).cfg = s.cfg ∧
    (postAccount dA dc s).ptb = s.ptb ∧ (postAccount dA dc s).oru = s.oru ∧ (postAccount dA dc s).dsu = s.dsu ∧
    (postAccount dA dc s).thu = s.thu ∧ (postAccount dA dc s).bsq = s.bsq ∧ (postAccount dA dc s).gru = s.gru ∧
    (postAccount dA dc s).fpt = s.fpt ∧ (postAccount dA dc s).lif = s.lif := by
  simp [postAccount]

@[simp] theorem pressureStage_frame (s : State) :
    (pressureStage s).pending = s.pending ∧ (pressureStage s).elapsed = s.elapsed ∧
    (pressureStage s).phase = s.phase ∧ (pressureStage s).pauseCause = s.pauseCause ∧
    (pressureStage s).ring = s.ring ∧ (pressureStage s).cfg = s.cfg ∧ (pressureStage s).ptb = s.ptb ∧
    (pressureStage s).oru = s.oru ∧ (pressureStage s).dsu = s.dsu ∧ (pressureStage s).thu = s.thu ∧
    (pressureStage s).bsq = s.bsq ∧ (pressureStage s).gru = s.gru ∧ (pressureStage s).alu = s.alu ∧
    (pressureStage s).fpt = s.fpt ∧ (pressureStage s).lif = s.lif := by
  unfold pressureStage; split <;> simp

@[simp] theorem writeChangedScrew_frame (s : State) :
    (writeChangedScrew s).pending = s.pending ∧ (writeChangedScrew s).elapsed = s.elapsed ∧
    (writeChangedScrew s).phase = s.phase ∧ (writeChangedScrew s).pauseCause = s.pauseCause ∧
    (writeChangedScrew s).ring = s.ring ∧ (writeChangedScrew s).cfg = s.cfg ∧
    (writeChangedScrew s).ptb = s.ptb ∧ (writeChangedScrew s).oru = s.oru ∧ (writeChangedScrew s).dsu = s.dsu ∧
    (writeChangedScrew s).thu = s.thu ∧ (writeChangedScrew s).bsq = s.bsq ∧ (writeChangedScrew s).gru = s.gru ∧
    (writeChangedScrew s).bal = s.bal ∧ (writeChangedScrew s).lif = s.lif := by
  unfold writeChangedScrew; split <;> simp

@[simp] theorem screwStage_frame (s : State) :
    (screwStage s).pending = s.pending ∧ (screwStage s).elapsed = s.elapsed ∧ (screwStage s).phase = s.phase ∧
    (screwStage s).pauseCause = s.pauseCause ∧ (screwStage s).ring = s.ring ∧ (screwStage s).cfg = s.cfg ∧
    (screwStage s).ptb = s.ptb ∧ (screwStage s).oru = s.oru ∧ (screwStage s).dsu = s.dsu ∧
    (screwStage s).thu = s.thu ∧ (screwStage s).bsq = s.bsq ∧ (screwStage s).gru = s.gru ∧
    (screwStage s).lif = s.lif := by
  unfold screwStage; split <;> simp

@[simp] theorem balanceEvaluation_frame (s : State) :
    (balanceEvaluation s).pending = s.pending ∧ (balanceEvaluation s).elapsed = s.elapsed ∧
    (balanceEvaluation s).phase = s.phase ∧ (balanceEvaluation s).pauseCause = s.pauseCause ∧
    (balanceEvaluation s).ring = s.ring ∧ (balanceEvaluation s).cfg = s.cfg ∧
    (balanceEvaluation s).ptb = s.ptb ∧ (balanceEvaluation s).oru = s.oru ∧ (balanceEvaluation s).dsu = s.dsu ∧
    (balanceEvaluation s).thu = s.thu ∧ (balanceEvaluation s).bsq = s.bsq ∧ (balanceEvaluation s).gru = s.gru ∧
    (balanceEvaluation s).lif = s.lif := by
  simp [balanceEvaluation]

@[simp] theorem setStopHold_frame (s : State) :
    (setStopHold s).pending = s.pending ∧ (setStopHold s).elapsed = s.elapsed ∧
    (setStopHold s).phase = s.phase ∧ (setStopHold s).pauseCause = s.pauseCause ∧
    (setStopHold s).ring = s.ring ∧ (setStopHold s).cfg = s.cfg ∧ (setStopHold s).ptb = s.ptb ∧
    (setStopHold s).oru = s.oru ∧ (setStopHold s).dsu = s.dsu ∧ (setStopHold s).thu = s.thu ∧
    (setStopHold s).bsq = s.bsq ∧ (setStopHold s).gru = s.gru ∧ (setStopHold s).lif = s.lif := by
  unfold setStopHold; split <;> simp

@[simp] theorem clearStopHold_frame (s : State) :
    (clearStopHold s).pending = s.pending ∧ (clearStopHold s).elapsed = s.elapsed ∧
    (clearStopHold s).phase = s.phase ∧ (clearStopHold s).pauseCause = s.pauseCause ∧
    (clearStopHold s).ring = s.ring ∧ (clearStopHold s).cfg = s.cfg ∧ (clearStopHold s).ptb = s.ptb ∧
    (clearStopHold s).oru = s.oru ∧ (clearStopHold s).dsu = s.dsu ∧ (clearStopHold s).thu = s.thu ∧
    (clearStopHold s).bsq = s.bsq ∧ (clearStopHold s).gru = s.gru ∧ (clearStopHold s).lif = s.lif := by
  unfold clearStopHold; split <;> simp

@[simp] theorem balanceRingClose_frame (s : State) :
    (balanceRingClose s).pending = s.pending ∧ (balanceRingClose s).elapsed = s.elapsed ∧
    (balanceRingClose s).phase = s.phase ∧ (balanceRingClose s).pauseCause = s.pauseCause ∧
    (balanceRingClose s).ring = s.ring ∧ (balanceRingClose s).cfg = s.cfg ∧ (balanceRingClose s).ptb = s.ptb ∧
    (balanceRingClose s).oru = s.oru ∧ (balanceRingClose s).dsu = s.dsu ∧ (balanceRingClose s).thu = s.thu ∧
    (balanceRingClose s).bsq = s.bsq ∧ (balanceRingClose s).gru = s.gru ∧ (balanceRingClose s).alu = s.alu ∧
    (balanceRingClose s).fpt = s.fpt ∧ (balanceRingClose s).lif = s.lif := by
  refine ⟨?_, ?_, ?_, ?_, ?_, ?_, ?_, ?_, ?_, ?_, ?_, ?_, ?_, ?_, ?_⟩ <;> rfl

@[simp] theorem balanceRestart_frame (s : State) :
    (balanceRestart s).pending = s.pending ∧ (balanceRestart s).elapsed = s.elapsed ∧
    (balanceRestart s).phase = s.phase ∧ (balanceRestart s).pauseCause = s.pauseCause ∧
    (balanceRestart s).ring = s.ring ∧ (balanceRestart s).cfg = s.cfg ∧ (balanceRestart s).ptb = s.ptb ∧
    (balanceRestart s).oru = s.oru ∧ (balanceRestart s).dsu = s.dsu ∧ (balanceRestart s).thu = s.thu ∧
    (balanceRestart s).bsq = s.bsq ∧ (balanceRestart s).gru = s.gru ∧ (balanceRestart s).lif = s.lif := by
  simp [balanceRestart]

@[simp] theorem writeConveyor_fields (s : State) :
    (writeConveyor s).alu.active = s.alu.active ∧ (writeConveyor s).alu.entries = s.alu.entries ∧
    (writeConveyor s).alu.estop = s.alu.estop ∧ (writeConveyor s).alu.duplicate = s.alu.duplicate ∧
    (writeConveyor s).fpt.timer = s.fpt.timer ∧ (writeConveyor s).fpt.fitted = s.fpt.fitted ∧
    (writeConveyor s).fpt.inputs = s.fpt.inputs ∧ (writeConveyor s).fpt.estopIn = s.fpt.estopIn ∧
    (writeConveyor s).fpt.probe = s.fpt.probe ∧ (writeConveyor s).fpt.forced = s.fpt.forced := by
  simp [writeConveyor]

@[simp] theorem setConveyor_fields (c : Conveyor) (s : State) :
    (setConveyor c s).bal.active = s.bal.active ∧ (setConveyor c s).bal.timer = s.bal.timer ∧
    (setConveyor c s).bal.manual = s.bal.manual ∧ (setConveyor c s).bal.manualRef = s.bal.manualRef ∧
    (setConveyor c s).bal.gateOpen = s.bal.gateOpen ∧ (setConveyor c s).bal.stopHold = s.bal.stopHold ∧
    (setConveyor c s).bal.acc = s.bal.acc ∧ (setConveyor c s).bal.set = s.bal.set ∧
    (setConveyor c s).bal.blind = s.bal.blind ∧ (setConveyor c s).bal.account = s.bal.account ∧
    (setConveyor c s).bal.remE = s.bal.remE ∧ (setConveyor c s).bal.remX = s.bal.remX ∧
    (setConveyor c s).bal.eRing = s.bal.eRing ∧ (setConveyor c s).bal.xRing = s.bal.xRing ∧
    (setConveyor c s).bal.restarted = s.bal.restarted ∧ (setConveyor c s).bal.pTarget = s.bal.pTarget ∧
    (setConveyor c s).bal.band = s.bal.band ∧ (setConveyor c s).bal.pMean = s.bal.pMean ∧
    (setConveyor c s).bal.nP = s.bal.nP ∧ (setConveyor c s).bal.overCount = s.bal.overCount ∧
    (setConveyor c s).bal.recoverCount = s.bal.recoverCount ∧
    (setConveyor c s).bal.overdrawn = s.bal.overdrawn ∧ (setConveyor c s).bal.owed = s.bal.owed ∧
    (setConveyor c s).bal.pLow = s.bal.pLow ∧ (setConveyor c s).bal.pHigh = s.bal.pHigh ∧
    (setConveyor c s).bal.pressureBlind = s.bal.pressureBlind ∧ (setConveyor c s).alu.active = s.alu.active ∧
    (setConveyor c s).alu.entries = s.alu.entries ∧ (setConveyor c s).alu.estop = s.alu.estop ∧
    (setConveyor c s).alu.duplicate = s.alu.duplicate ∧ (setConveyor c s).fpt.timer = s.fpt.timer ∧
    (setConveyor c s).fpt.fitted = s.fpt.fitted ∧ (setConveyor c s).fpt.inputs = s.fpt.inputs ∧
    (setConveyor c s).fpt.estopIn = s.fpt.estopIn ∧ (setConveyor c s).fpt.probe = s.fpt.probe ∧
    (setConveyor c s).fpt.forced = s.fpt.forced := by
  simp [setConveyor]

@[simp] theorem holdTest_fields (s : State) :
    (holdTest s).bal.active = s.bal.active ∧ (holdTest s).bal.timer = s.bal.timer ∧
    (holdTest s).bal.manual = s.bal.manual ∧ (holdTest s).bal.manualRef = s.bal.manualRef ∧
    (holdTest s).bal.gateOpen = s.bal.gateOpen ∧ (holdTest s).bal.stopHold = s.bal.stopHold ∧
    (holdTest s).bal.acc = s.bal.acc ∧ (holdTest s).bal.set = s.bal.set ∧ (holdTest s).bal.blind = s.bal.blind ∧
    (holdTest s).bal.account = s.bal.account ∧ (holdTest s).bal.remE = s.bal.remE ∧
    (holdTest s).bal.remX = s.bal.remX ∧ (holdTest s).bal.eRing = s.bal.eRing ∧
    (holdTest s).bal.xRing = s.bal.xRing ∧ (holdTest s).bal.restarted = s.bal.restarted ∧
    (holdTest s).bal.pTarget = s.bal.pTarget ∧ (holdTest s).bal.band = s.bal.band ∧
    (holdTest s).bal.pMean = s.bal.pMean ∧ (holdTest s).bal.nP = s.bal.nP ∧
    (holdTest s).bal.overCount = s.bal.overCount ∧ (holdTest s).bal.recoverCount = s.bal.recoverCount ∧
    (holdTest s).bal.overdrawn = s.bal.overdrawn ∧ (holdTest s).bal.owed = s.bal.owed ∧
    (holdTest s).bal.pLow = s.bal.pLow ∧ (holdTest s).bal.pHigh = s.bal.pHigh ∧
    (holdTest s).bal.pressureBlind = s.bal.pressureBlind ∧ (holdTest s).alu.active = s.alu.active ∧
    (holdTest s).alu.entries = s.alu.entries ∧ (holdTest s).alu.estop = s.alu.estop ∧
    (holdTest s).alu.duplicate = s.alu.duplicate ∧ (holdTest s).fpt.timer = s.fpt.timer ∧
    (holdTest s).fpt.fitted = s.fpt.fitted ∧ (holdTest s).fpt.inputs = s.fpt.inputs ∧
    (holdTest s).fpt.estopIn = s.fpt.estopIn ∧ (holdTest s).fpt.probe = s.fpt.probe ∧
    (holdTest s).fpt.forced = s.fpt.forced := by
  unfold holdTest; (repeat' split) <;> simp

@[simp] theorem encoderTest_fields (s : State) :
    (encoderTest s).bal.active = s.bal.active ∧ (encoderTest s).bal.timer = s.bal.timer ∧
    (encoderTest s).bal.manual = s.bal.manual ∧ (encoderTest s).bal.manualRef = s.bal.manualRef ∧
    (encoderTest s).bal.gateOpen = s.bal.gateOpen ∧ (encoderTest s).bal.stopHold = s.bal.stopHold ∧
    (encoderTest s).bal.acc = s.bal.acc ∧ (encoderTest s).bal.set = s.bal.set ∧
    (encoderTest s).bal.blind = s.bal.blind ∧ (encoderTest s).bal.account = s.bal.account ∧
    (encoderTest s).bal.remE = s.bal.remE ∧ (encoderTest s).bal.remX = s.bal.remX ∧
    (encoderTest s).bal.eRing = s.bal.eRing ∧ (encoderTest s).bal.xRing = s.bal.xRing ∧
    (encoderTest s).bal.restarted = s.bal.restarted ∧ (encoderTest s).bal.pTarget = s.bal.pTarget ∧
    (encoderTest s).bal.band = s.bal.band ∧ (encoderTest s).bal.pMean = s.bal.pMean ∧
    (encoderTest s).bal.nP = s.bal.nP ∧ (encoderTest s).bal.overCount = s.bal.overCount ∧
    (encoderTest s).bal.recoverCount = s.bal.recoverCount ∧ (encoderTest s).bal.overdrawn = s.bal.overdrawn ∧
    (encoderTest s).bal.owed = s.bal.owed ∧ (encoderTest s).bal.pLow = s.bal.pLow ∧
    (encoderTest s).bal.pHigh = s.bal.pHigh ∧ (encoderTest s).bal.pressureBlind = s.bal.pressureBlind ∧
    (encoderTest s).alu.active = s.alu.active ∧ (encoderTest s).alu.entries = s.alu.entries ∧
    (encoderTest s).alu.estop = s.alu.estop ∧ (encoderTest s).alu.duplicate = s.alu.duplicate ∧
    (encoderTest s).fpt.timer = s.fpt.timer ∧ (encoderTest s).fpt.fitted = s.fpt.fitted ∧
    (encoderTest s).fpt.inputs = s.fpt.inputs ∧ (encoderTest s).fpt.estopIn = s.fpt.estopIn ∧
    (encoderTest s).fpt.probe = s.fpt.probe ∧ (encoderTest s).fpt.forced = s.fpt.forced := by
  unfold encoderTest; split <;> simp

@[simp] theorem clearUnread_fields (s : State) :
    (clearUnread s).bal.active = s.bal.active ∧ (clearUnread s).bal.timer = s.bal.timer ∧
    (clearUnread s).bal.conveyor = s.bal.conveyor ∧ (clearUnread s).bal.manual = s.bal.manual ∧
    (clearUnread s).bal.manualRef = s.bal.manualRef ∧ (clearUnread s).bal.gateOpen = s.bal.gateOpen ∧
    (clearUnread s).bal.stopHold = s.bal.stopHold ∧ (clearUnread s).bal.nCmd = s.bal.nCmd ∧
    (clearUnread s).bal.set = s.bal.set ∧ (clearUnread s).bal.blind = s.bal.blind ∧
    (clearUnread s).bal.account = s.bal.account ∧ (clearUnread s).bal.remE = s.bal.remE ∧
    (clearUnread s).bal.remX = s.bal.remX ∧ (clearUnread s).bal.eRing = s.bal.eRing ∧
    (clearUnread s).bal.xRing = s.bal.xRing ∧ (clearUnread s).bal.restarted = s.bal.restarted ∧
    (clearUnread s).bal.pTarget = s.bal.pTarget ∧ (clearUnread s).bal.band = s.bal.band ∧
    (clearUnread s).bal.pMean = s.bal.pMean ∧ (clearUnread s).bal.nP = s.bal.nP ∧
    (clearUnread s).bal.overCount = s.bal.overCount ∧ (clearUnread s).bal.recoverCount = s.bal.recoverCount ∧
    (clearUnread s).bal.overdrawn = s.bal.overdrawn ∧ (clearUnread s).bal.owed = s.bal.owed ∧
    (clearUnread s).bal.pLow = s.bal.pLow ∧ (clearUnread s).bal.pHigh = s.bal.pHigh ∧
    (clearUnread s).bal.pressureBlind = s.bal.pressureBlind := by
  unfold clearUnread; split <;> simp

@[simp] theorem encoderReport_fields (s : State) :
    (encoderReport s).bal.active = s.bal.active ∧ (encoderReport s).bal.timer = s.bal.timer ∧
    (encoderReport s).bal.manual = s.bal.manual ∧ (encoderReport s).bal.manualRef = s.bal.manualRef ∧
    (encoderReport s).bal.gateOpen = s.bal.gateOpen ∧ (encoderReport s).bal.stopHold = s.bal.stopHold ∧
    (encoderReport s).bal.set = s.bal.set ∧ (encoderReport s).bal.blind = s.bal.blind ∧
    (encoderReport s).bal.account = s.bal.account ∧ (encoderReport s).bal.remE = s.bal.remE ∧
    (encoderReport s).bal.remX = s.bal.remX ∧ (encoderReport s).bal.eRing = s.bal.eRing ∧
    (encoderReport s).bal.xRing = s.bal.xRing ∧ (encoderReport s).bal.restarted = s.bal.restarted ∧
    (encoderReport s).bal.pTarget = s.bal.pTarget ∧ (encoderReport s).bal.band = s.bal.band ∧
    (encoderReport s).bal.pMean = s.bal.pMean ∧ (encoderReport s).bal.nP = s.bal.nP ∧
    (encoderReport s).bal.overCount = s.bal.overCount ∧
    (encoderReport s).bal.recoverCount = s.bal.recoverCount ∧
    (encoderReport s).bal.overdrawn = s.bal.overdrawn ∧ (encoderReport s).bal.owed = s.bal.owed ∧
    (encoderReport s).bal.pLow = s.bal.pLow ∧ (encoderReport s).bal.pHigh = s.bal.pHigh ∧
    (encoderReport s).bal.pressureBlind = s.bal.pressureBlind ∧ (encoderReport s).alu.active = s.alu.active ∧
    (encoderReport s).alu.entries = s.alu.entries ∧ (encoderReport s).alu.estop = s.alu.estop ∧
    (encoderReport s).alu.duplicate = s.alu.duplicate ∧ (encoderReport s).fpt.timer = s.fpt.timer ∧
    (encoderReport s).fpt.fitted = s.fpt.fitted ∧ (encoderReport s).fpt.inputs = s.fpt.inputs ∧
    (encoderReport s).fpt.estopIn = s.fpt.estopIn ∧ (encoderReport s).fpt.probe = s.fpt.probe ∧
    (encoderReport s).fpt.forced = s.fpt.forced := by
  unfold encoderReport; split <;> simp

@[simp] theorem encoderArrival_fields (count : Int) (s : State) :
    (encoderArrival count s).bal.active = s.bal.active ∧ (encoderArrival count s).bal.timer = s.bal.timer ∧
    (encoderArrival count s).bal.conveyor = s.bal.conveyor ∧
    (encoderArrival count s).bal.manual = s.bal.manual ∧
    (encoderArrival count s).bal.manualRef = s.bal.manualRef ∧
    (encoderArrival count s).bal.gateOpen = s.bal.gateOpen ∧
    (encoderArrival count s).bal.stopHold = s.bal.stopHold ∧ (encoderArrival count s).bal.nCmd = s.bal.nCmd ∧
    (encoderArrival count s).bal.set = s.bal.set ∧ (encoderArrival count s).bal.blind = s.bal.blind ∧
    (encoderArrival count s).bal.account = s.bal.account ∧ (encoderArrival count s).bal.remE = s.bal.remE ∧
    (encoderArrival count s).bal.remX = s.bal.remX ∧ (encoderArrival count s).bal.eRing = s.bal.eRing ∧
    (encoderArrival count s).bal.xRing = s.bal.xRing ∧
    (encoderArrival count s).bal.restarted = s.bal.restarted ∧
    (encoderArrival count s).bal.pTarget = s.bal.pTarget ∧ (encoderArrival count s).bal.band = s.bal.band ∧
    (encoderArrival count s).bal.pMean = s.bal.pMean ∧ (encoderArrival count s).bal.nP = s.bal.nP ∧
    (encoderArrival count s).bal.overCount = s.bal.overCount ∧
    (encoderArrival count s).bal.recoverCount = s.bal.recoverCount ∧
    (encoderArrival count s).bal.overdrawn = s.bal.overdrawn ∧ (encoderArrival count s).bal.owed = s.bal.owed ∧
    (encoderArrival count s).bal.pLow = s.bal.pLow ∧ (encoderArrival count s).bal.pHigh = s.bal.pHigh ∧
    (encoderArrival count s).bal.pressureBlind = s.bal.pressureBlind := by
  unfold encoderArrival; split <;> simp

@[simp] theorem balanceActivate_fields (s : State) :
    (balanceActivate s).bal.manual = s.bal.manual ∧ (balanceActivate s).bal.manualRef = s.bal.manualRef ∧
    (balanceActivate s).bal.gateOpen = s.bal.gateOpen ∧ (balanceActivate s).bal.account = s.bal.account ∧
    (balanceActivate s).bal.remE = s.bal.remE ∧ (balanceActivate s).bal.remX = s.bal.remX ∧
    (balanceActivate s).bal.eRing = s.bal.eRing ∧ (balanceActivate s).bal.xRing = s.bal.xRing ∧
    (balanceActivate s).bal.restarted = s.bal.restarted ∧ (balanceActivate s).bal.pTarget = s.bal.pTarget ∧
    (balanceActivate s).bal.band = s.bal.band ∧ (balanceActivate s).bal.pMean = s.bal.pMean ∧
    (balanceActivate s).bal.nP = s.bal.nP ∧ (balanceActivate s).bal.overCount = s.bal.overCount ∧
    (balanceActivate s).bal.recoverCount = s.bal.recoverCount ∧
    (balanceActivate s).bal.overdrawn = s.bal.overdrawn ∧ (balanceActivate s).bal.owed = s.bal.owed ∧
    (balanceActivate s).bal.pLow = s.bal.pLow ∧ (balanceActivate s).bal.pHigh = s.bal.pHigh ∧
    (balanceActivate s).bal.pressureBlind = s.bal.pressureBlind ∧
    (balanceActivate s).alu.active = s.alu.active ∧ (balanceActivate s).alu.entries = s.alu.entries ∧
    (balanceActivate s).alu.estop = s.alu.estop ∧ (balanceActivate s).alu.duplicate = s.alu.duplicate ∧
    (balanceActivate s).fpt.timer = s.fpt.timer ∧ (balanceActivate s).fpt.fitted = s.fpt.fitted ∧
    (balanceActivate s).fpt.inputs = s.fpt.inputs ∧ (balanceActivate s).fpt.estopIn = s.fpt.estopIn ∧
    (balanceActivate s).fpt.probe = s.fpt.probe ∧ (balanceActivate s).fpt.forced = s.fpt.forced := by
  simp [balanceActivate]

@[simp] theorem balanceDeactivate_fields (s : State) :
    (balanceDeactivate s).bal.manual = s.bal.manual ∧ (balanceDeactivate s).bal.manualRef = s.bal.manualRef ∧
    (balanceDeactivate s).bal.gateOpen = s.bal.gateOpen ∧ (balanceDeactivate s).bal.stopHold = s.bal.stopHold ∧
    (balanceDeactivate s).bal.set = s.bal.set ∧ (balanceDeactivate s).bal.blind = s.bal.blind ∧
    (balanceDeactivate s).bal.account = s.bal.account ∧ (balanceDeactivate s).bal.remE = s.bal.remE ∧
    (balanceDeactivate s).bal.remX = s.bal.remX ∧ (balanceDeactivate s).bal.eRing = s.bal.eRing ∧
    (balanceDeactivate s).bal.xRing = s.bal.xRing ∧ (balanceDeactivate s).bal.restarted = s.bal.restarted ∧
    (balanceDeactivate s).bal.pTarget = s.bal.pTarget ∧ (balanceDeactivate s).bal.band = s.bal.band ∧
    (balanceDeactivate s).alu.active = s.alu.active ∧ (balanceDeactivate s).alu.entries = s.alu.entries ∧
    (balanceDeactivate s).alu.estop = s.alu.estop ∧ (balanceDeactivate s).alu.duplicate = s.alu.duplicate ∧
    (balanceDeactivate s).fpt.timer = s.fpt.timer ∧ (balanceDeactivate s).fpt.fitted = s.fpt.fitted ∧
    (balanceDeactivate s).fpt.inputs = s.fpt.inputs ∧ (balanceDeactivate s).fpt.estopIn = s.fpt.estopIn ∧
    (balanceDeactivate s).fpt.probe = s.fpt.probe ∧ (balanceDeactivate s).fpt.forced = s.fpt.forced := by
  simp [balanceDeactivate]

@[simp] theorem evalInputs_fields (s : State) :
    (evalInputs s).bal.active = s.bal.active ∧ (evalInputs s).bal.timer = s.bal.timer ∧
    (evalInputs s).bal.conveyor = s.bal.conveyor ∧ (evalInputs s).bal.manual = s.bal.manual ∧
    (evalInputs s).bal.manualRef = s.bal.manualRef ∧ (evalInputs s).bal.gateOpen = s.bal.gateOpen ∧
    (evalInputs s).bal.stopHold = s.bal.stopHold ∧ (evalInputs s).bal.nCmd = s.bal.nCmd ∧
    (evalInputs s).bal.account = s.bal.account ∧ (evalInputs s).bal.remE = s.bal.remE ∧
    (evalInputs s).bal.remX = s.bal.remX ∧ (evalInputs s).bal.eRing = s.bal.eRing ∧
    (evalInputs s).bal.xRing = s.bal.xRing ∧ (evalInputs s).bal.restarted = s.bal.restarted ∧
    (evalInputs s).bal.pTarget = s.bal.pTarget ∧ (evalInputs s).bal.band = s.bal.band ∧
    (evalInputs s).bal.pMean = s.bal.pMean ∧ (evalInputs s).bal.nP = s.bal.nP ∧
    (evalInputs s).bal.overCount = s.bal.overCount ∧ (evalInputs s).bal.recoverCount = s.bal.recoverCount ∧
    (evalInputs s).bal.overdrawn = s.bal.overdrawn ∧ (evalInputs s).bal.owed = s.bal.owed ∧
    (evalInputs s).bal.pLow = s.bal.pLow ∧ (evalInputs s).bal.pHigh = s.bal.pHigh ∧
    (evalInputs s).bal.pressureBlind = s.bal.pressureBlind ∧ (evalInputs s).alu.active = s.alu.active ∧
    (evalInputs s).alu.entries = s.alu.entries ∧ (evalInputs s).alu.estop = s.alu.estop ∧
    (evalInputs s).alu.duplicate = s.alu.duplicate := by
  simp [evalInputs]

@[simp] theorem postAccount_fields (dA dc : Int) (s : State) :
    (postAccount dA dc s).bal.active = s.bal.active ∧ (postAccount dA dc s).bal.timer = s.bal.timer ∧
    (postAccount dA dc s).bal.conveyor = s.bal.conveyor ∧ (postAccount dA dc s).bal.manual = s.bal.manual ∧
    (postAccount dA dc s).bal.manualRef = s.bal.manualRef ∧
    (postAccount dA dc s).bal.gateOpen = s.bal.gateOpen ∧ (postAccount dA dc s).bal.stopHold = s.bal.stopHold ∧
    (postAccount dA dc s).bal.nCmd = s.bal.nCmd ∧ (postAccount dA dc s).bal.acc = s.bal.acc ∧
    (postAccount dA dc s).bal.set = s.bal.set ∧ (postAccount dA dc s).bal.blind = s.bal.blind ∧
    (postAccount dA dc s).bal.restarted = s.bal.restarted ∧ (postAccount dA dc s).bal.pTarget = s.bal.pTarget ∧
    (postAccount dA dc s).bal.band = s.bal.band ∧ (postAccount dA dc s).bal.pMean = s.bal.pMean ∧
    (postAccount dA dc s).bal.nP = s.bal.nP ∧ (postAccount dA dc s).bal.overCount = s.bal.overCount ∧
    (postAccount dA dc s).bal.recoverCount = s.bal.recoverCount ∧
    (postAccount dA dc s).bal.overdrawn = s.bal.overdrawn ∧ (postAccount dA dc s).bal.owed = s.bal.owed ∧
    (postAccount dA dc s).bal.pLow = s.bal.pLow ∧ (postAccount dA dc s).bal.pHigh = s.bal.pHigh ∧
    (postAccount dA dc s).bal.pressureBlind = s.bal.pressureBlind ∧
    (postAccount dA dc s).alu.active = s.alu.active ∧ (postAccount dA dc s).alu.entries = s.alu.entries ∧
    (postAccount dA dc s).alu.estop = s.alu.estop ∧ (postAccount dA dc s).alu.duplicate = s.alu.duplicate := by
  simp [postAccount]

@[simp] theorem pressureStage_fields (s : State) :
    (pressureStage s).bal.active = s.bal.active ∧ (pressureStage s).bal.timer = s.bal.timer ∧
    (pressureStage s).bal.conveyor = s.bal.conveyor ∧ (pressureStage s).bal.manual = s.bal.manual ∧
    (pressureStage s).bal.manualRef = s.bal.manualRef ∧ (pressureStage s).bal.gateOpen = s.bal.gateOpen ∧
    (pressureStage s).bal.stopHold = s.bal.stopHold ∧ (pressureStage s).bal.nCmd = s.bal.nCmd ∧
    (pressureStage s).bal.acc = s.bal.acc ∧ (pressureStage s).bal.set = s.bal.set ∧
    (pressureStage s).bal.blind = s.bal.blind ∧ (pressureStage s).bal.account = s.bal.account ∧
    (pressureStage s).bal.remE = s.bal.remE ∧ (pressureStage s).bal.remX = s.bal.remX ∧
    (pressureStage s).bal.eRing = s.bal.eRing ∧ (pressureStage s).bal.xRing = s.bal.xRing ∧
    (pressureStage s).bal.restarted = s.bal.restarted ∧ (pressureStage s).bal.pTarget = s.bal.pTarget ∧
    (pressureStage s).bal.band = s.bal.band ∧ (pressureStage s).bal.overCount = s.bal.overCount ∧
    (pressureStage s).bal.recoverCount = s.bal.recoverCount ∧
    (pressureStage s).bal.overdrawn = s.bal.overdrawn ∧ (pressureStage s).bal.owed = s.bal.owed := by
  unfold pressureStage; split <;> exact ⟨rfl, rfl, rfl, rfl, rfl, rfl, rfl, rfl, rfl, rfl, rfl, rfl, rfl, rfl, rfl, rfl, rfl, rfl, rfl, rfl, rfl, rfl, rfl⟩

@[simp] theorem writeChangedScrew_fields (s : State) :
    (writeChangedScrew s).alu.active = s.alu.active ∧ (writeChangedScrew s).alu.entries = s.alu.entries ∧
    (writeChangedScrew s).alu.estop = s.alu.estop ∧ (writeChangedScrew s).alu.duplicate = s.alu.duplicate ∧
    (writeChangedScrew s).fpt.timer = s.fpt.timer ∧ (writeChangedScrew s).fpt.fitted = s.fpt.fitted ∧
    (writeChangedScrew s).fpt.inputs = s.fpt.inputs ∧ (writeChangedScrew s).fpt.estopIn = s.fpt.estopIn ∧
    (writeChangedScrew s).fpt.probe = s.fpt.probe ∧ (writeChangedScrew s).fpt.forced = s.fpt.forced := by
  unfold writeChangedScrew; split <;> simp

@[simp] theorem screwStage_fields (s : State) :
    (screwStage s).bal.active = s.bal.active ∧ (screwStage s).bal.timer = s.bal.timer ∧
    (screwStage s).bal.conveyor = s.bal.conveyor ∧ (screwStage s).bal.manual = s.bal.manual ∧
    (screwStage s).bal.manualRef = s.bal.manualRef ∧ (screwStage s).bal.gateOpen = s.bal.gateOpen ∧
    (screwStage s).bal.stopHold = s.bal.stopHold ∧ (screwStage s).bal.acc = s.bal.acc ∧
    (screwStage s).bal.set = s.bal.set ∧ (screwStage s).bal.blind = s.bal.blind ∧
    (screwStage s).bal.account = s.bal.account ∧ (screwStage s).bal.remE = s.bal.remE ∧
    (screwStage s).bal.remX = s.bal.remX ∧ (screwStage s).bal.eRing = s.bal.eRing ∧
    (screwStage s).bal.xRing = s.bal.xRing ∧ (screwStage s).bal.restarted = s.bal.restarted ∧
    (screwStage s).bal.pTarget = s.bal.pTarget ∧ (screwStage s).bal.band = s.bal.band ∧
    (screwStage s).bal.pMean = s.bal.pMean ∧ (screwStage s).bal.nP = s.bal.nP ∧
    (screwStage s).bal.overCount = s.bal.overCount ∧ (screwStage s).bal.recoverCount = s.bal.recoverCount ∧
    (screwStage s).bal.overdrawn = s.bal.overdrawn ∧ (screwStage s).bal.owed = s.bal.owed ∧
    (screwStage s).bal.pLow = s.bal.pLow ∧ (screwStage s).bal.pHigh = s.bal.pHigh ∧
    (screwStage s).bal.pressureBlind = s.bal.pressureBlind ∧ (screwStage s).alu.active = s.alu.active ∧
    (screwStage s).alu.entries = s.alu.entries ∧ (screwStage s).alu.estop = s.alu.estop ∧
    (screwStage s).alu.duplicate = s.alu.duplicate ∧ (screwStage s).fpt.timer = s.fpt.timer ∧
    (screwStage s).fpt.fitted = s.fpt.fitted ∧ (screwStage s).fpt.inputs = s.fpt.inputs ∧
    (screwStage s).fpt.estopIn = s.fpt.estopIn ∧ (screwStage s).fpt.probe = s.fpt.probe ∧
    (screwStage s).fpt.forced = s.fpt.forced := by
  unfold screwStage; split <;> simp

@[simp] theorem balanceEvaluation_fields (s : State) :
    (balanceEvaluation s).alu.active = s.alu.active ∧ (balanceEvaluation s).alu.entries = s.alu.entries ∧
    (balanceEvaluation s).alu.estop = s.alu.estop ∧ (balanceEvaluation s).alu.duplicate = s.alu.duplicate ∧
    (balanceEvaluation s).fpt.timer = s.fpt.timer ∧ (balanceEvaluation s).fpt.fitted = s.fpt.fitted ∧
    (balanceEvaluation s).fpt.inputs = s.fpt.inputs ∧ (balanceEvaluation s).fpt.estopIn = s.fpt.estopIn ∧
    (balanceEvaluation s).fpt.probe = s.fpt.probe ∧ (balanceEvaluation s).fpt.forced = s.fpt.forced := by
  simp [balanceEvaluation]

@[simp] theorem setStopHold_fields (s : State) :
    (setStopHold s).bal.active = s.bal.active ∧ (setStopHold s).bal.timer = s.bal.timer ∧
    (setStopHold s).bal.manual = s.bal.manual ∧ (setStopHold s).bal.manualRef = s.bal.manualRef ∧
    (setStopHold s).bal.gateOpen = s.bal.gateOpen ∧ (setStopHold s).bal.acc = s.bal.acc ∧
    (setStopHold s).bal.set = s.bal.set ∧ (setStopHold s).bal.blind = s.bal.blind ∧
    (setStopHold s).bal.account = s.bal.account ∧ (setStopHold s).bal.remE = s.bal.remE ∧
    (setStopHold s).bal.remX = s.bal.remX ∧ (setStopHold s).bal.eRing = s.bal.eRing ∧
    (setStopHold s).bal.xRing = s.bal.xRing ∧ (setStopHold s).bal.restarted = s.bal.restarted ∧
    (setStopHold s).bal.pTarget = s.bal.pTarget ∧ (setStopHold s).bal.band = s.bal.band ∧
    (setStopHold s).bal.pMean = s.bal.pMean ∧ (setStopHold s).bal.nP = s.bal.nP ∧
    (setStopHold s).bal.overCount = s.bal.overCount ∧ (setStopHold s).bal.recoverCount = s.bal.recoverCount ∧
    (setStopHold s).bal.overdrawn = s.bal.overdrawn ∧ (setStopHold s).bal.owed = s.bal.owed ∧
    (setStopHold s).bal.pLow = s.bal.pLow ∧ (setStopHold s).bal.pHigh = s.bal.pHigh ∧
    (setStopHold s).bal.pressureBlind = s.bal.pressureBlind ∧ (setStopHold s).alu.active = s.alu.active ∧
    (setStopHold s).alu.entries = s.alu.entries ∧ (setStopHold s).alu.estop = s.alu.estop ∧
    (setStopHold s).alu.duplicate = s.alu.duplicate ∧ (setStopHold s).fpt.timer = s.fpt.timer ∧
    (setStopHold s).fpt.fitted = s.fpt.fitted ∧ (setStopHold s).fpt.inputs = s.fpt.inputs ∧
    (setStopHold s).fpt.estopIn = s.fpt.estopIn ∧ (setStopHold s).fpt.probe = s.fpt.probe ∧
    (setStopHold s).fpt.forced = s.fpt.forced := by
  unfold setStopHold; split <;> simp

@[simp] theorem clearStopHold_fields (s : State) :
    (clearStopHold s).bal.active = s.bal.active ∧ (clearStopHold s).bal.timer = s.bal.timer ∧
    (clearStopHold s).bal.manual = s.bal.manual ∧ (clearStopHold s).bal.manualRef = s.bal.manualRef ∧
    (clearStopHold s).bal.gateOpen = s.bal.gateOpen ∧ (clearStopHold s).bal.acc = s.bal.acc ∧
    (clearStopHold s).bal.set = s.bal.set ∧ (clearStopHold s).bal.blind = s.bal.blind ∧
    (clearStopHold s).bal.account = s.bal.account ∧ (clearStopHold s).bal.remE = s.bal.remE ∧
    (clearStopHold s).bal.remX = s.bal.remX ∧ (clearStopHold s).bal.eRing = s.bal.eRing ∧
    (clearStopHold s).bal.xRing = s.bal.xRing ∧ (clearStopHold s).bal.restarted = s.bal.restarted ∧
    (clearStopHold s).bal.pTarget = s.bal.pTarget ∧ (clearStopHold s).bal.band = s.bal.band ∧
    (clearStopHold s).bal.pMean = s.bal.pMean ∧ (clearStopHold s).bal.nP = s.bal.nP ∧
    (clearStopHold s).bal.overCount = s.bal.overCount ∧
    (clearStopHold s).bal.recoverCount = s.bal.recoverCount ∧
    (clearStopHold s).bal.overdrawn = s.bal.overdrawn ∧ (clearStopHold s).bal.owed = s.bal.owed ∧
    (clearStopHold s).bal.pLow = s.bal.pLow ∧ (clearStopHold s).bal.pHigh = s.bal.pHigh ∧
    (clearStopHold s).bal.pressureBlind = s.bal.pressureBlind ∧ (clearStopHold s).alu.active = s.alu.active ∧
    (clearStopHold s).alu.entries = s.alu.entries ∧ (clearStopHold s).alu.estop = s.alu.estop ∧
    (clearStopHold s).alu.duplicate = s.alu.duplicate ∧ (clearStopHold s).fpt.timer = s.fpt.timer ∧
    (clearStopHold s).fpt.fitted = s.fpt.fitted ∧ (clearStopHold s).fpt.inputs = s.fpt.inputs ∧
    (clearStopHold s).fpt.estopIn = s.fpt.estopIn ∧ (clearStopHold s).fpt.probe = s.fpt.probe ∧
    (clearStopHold s).fpt.forced = s.fpt.forced := by
  unfold clearStopHold; split <;> simp

@[simp] theorem balanceRingClose_fields (s : State) :
    (balanceRingClose s).bal.active = s.bal.active ∧ (balanceRingClose s).bal.timer = s.bal.timer ∧
    (balanceRingClose s).bal.conveyor = s.bal.conveyor ∧ (balanceRingClose s).bal.manual = s.bal.manual ∧
    (balanceRingClose s).bal.manualRef = s.bal.manualRef ∧ (balanceRingClose s).bal.gateOpen = s.bal.gateOpen ∧
    (balanceRingClose s).bal.stopHold = s.bal.stopHold ∧ (balanceRingClose s).bal.nCmd = s.bal.nCmd ∧
    (balanceRingClose s).bal.acc = s.bal.acc ∧ (balanceRingClose s).bal.set = s.bal.set ∧
    (balanceRingClose s).bal.blind = s.bal.blind ∧ (balanceRingClose s).bal.account = s.bal.account ∧
    (balanceRingClose s).bal.remE = s.bal.remE ∧ (balanceRingClose s).bal.remX = s.bal.remX ∧
    (balanceRingClose s).bal.pTarget = s.bal.pTarget ∧ (balanceRingClose s).bal.band = s.bal.band ∧
    (balanceRingClose s).bal.pMean = s.bal.pMean ∧ (balanceRingClose s).bal.nP = s.bal.nP ∧
    (balanceRingClose s).bal.overCount = s.bal.overCount ∧
    (balanceRingClose s).bal.recoverCount = s.bal.recoverCount ∧
    (balanceRingClose s).bal.overdrawn = s.bal.overdrawn ∧ (balanceRingClose s).bal.owed = s.bal.owed ∧
    (balanceRingClose s).bal.pLow = s.bal.pLow ∧ (balanceRingClose s).bal.pHigh = s.bal.pHigh ∧
    (balanceRingClose s).bal.pressureBlind = s.bal.pressureBlind := by
  simp [balanceRingClose]

@[simp] theorem balanceRestart_fields (s : State) :
    (balanceRestart s).bal.active = s.bal.active ∧ (balanceRestart s).bal.eRing = s.bal.eRing ∧
    (balanceRestart s).bal.xRing = s.bal.xRing ∧ (balanceRestart s).alu.active = s.alu.active ∧
    (balanceRestart s).alu.entries = s.alu.entries ∧ (balanceRestart s).alu.estop = s.alu.estop ∧
    (balanceRestart s).alu.duplicate = s.alu.duplicate ∧ (balanceRestart s).fpt.timer = s.fpt.timer ∧
    (balanceRestart s).fpt.fitted = s.fpt.fitted ∧ (balanceRestart s).fpt.inputs = s.fpt.inputs ∧
    (balanceRestart s).fpt.estopIn = s.fpt.estopIn ∧ (balanceRestart s).fpt.probe = s.fpt.probe ∧
    (balanceRestart s).fpt.forced = s.fpt.forced := by
  simp [balanceRestart]

end Sys2Proof.Machine
end

