-- ==== Sys2Proof/Laws/Phases.lean ====
section
/-! SUPPORT. What each operation of Machine/Phases.lean leaves unchanged, block by block and, in the
blocks it changes, field by field. -/

namespace Sys2Proof.Machine

open Sys2Proof

@[simp] theorem clearHolderSeen_frame (s : State) :
    (clearHolderSeen s).pending = s.pending ∧ (clearHolderSeen s).elapsed = s.elapsed ∧
    (clearHolderSeen s).phase = s.phase ∧ (clearHolderSeen s).pauseCause = s.pauseCause ∧
    (clearHolderSeen s).ring = s.ring ∧ (clearHolderSeen s).cfg = s.cfg ∧ (clearHolderSeen s).ptb = s.ptb ∧
    (clearHolderSeen s).oru = s.oru ∧ (clearHolderSeen s).dsu = s.dsu ∧ (clearHolderSeen s).thu = s.thu ∧
    (clearHolderSeen s).gru = s.gru ∧ (clearHolderSeen s).bal = s.bal ∧ (clearHolderSeen s).alu = s.alu ∧
    (clearHolderSeen s).fpt = s.fpt ∧ (clearHolderSeen s).lif = s.lif := by
  refine ⟨?_, ?_, ?_, ?_, ?_, ?_, ?_, ?_, ?_, ?_, ?_, ?_, ?_, ?_, ?_⟩ <;> rfl

@[simp] theorem plainPhase_frame (p : Phase) (s : State) :
    (plainPhase p s).pending = s.pending ∧ (plainPhase p s).elapsed = s.elapsed ∧
    (plainPhase p s).ring = s.ring ∧ (plainPhase p s).cfg = s.cfg ∧ (plainPhase p s).ptb = s.ptb ∧
    (plainPhase p s).oru = s.oru ∧ (plainPhase p s).dsu = s.dsu ∧ (plainPhase p s).thu = s.thu ∧
    (plainPhase p s).bsq = s.bsq ∧ (plainPhase p s).gru = s.gru ∧ (plainPhase p s).bal = s.bal ∧
    (plainPhase p s).alu = s.alu ∧ (plainPhase p s).fpt = s.fpt ∧ (plainPhase p s).lif = s.lif := by
  refine ⟨?_, ?_, ?_, ?_, ?_, ?_, ?_, ?_, ?_, ?_, ?_, ?_, ?_, ?_⟩ <;> rfl

@[simp] theorem endBuilding_frame (s : State) :
    (endBuilding s).pending = s.pending ∧ (endBuilding s).elapsed = s.elapsed ∧ (endBuilding s).ring = s.ring ∧
    (endBuilding s).cfg = s.cfg ∧ (endBuilding s).ptb = s.ptb ∧ (endBuilding s).oru = s.oru ∧
    (endBuilding s).dsu = s.dsu ∧ (endBuilding s).gru = s.gru ∧ (endBuilding s).bal = s.bal ∧
    (endBuilding s).lif = s.lif := by
  simp [endBuilding]

@[simp] theorem enterBuilding_frame (s : State) :
    (enterBuilding s).pending = s.pending ∧ (enterBuilding s).elapsed = s.elapsed ∧
    (enterBuilding s).ring = s.ring ∧ (enterBuilding s).cfg = s.cfg ∧ (enterBuilding s).ptb = s.ptb ∧
    (enterBuilding s).oru = s.oru ∧ (enterBuilding s).thu = s.thu ∧ (enterBuilding s).gru = s.gru ∧
    (enterBuilding s).bal = s.bal ∧ (enterBuilding s).lif = s.lif := by
  simp [enterBuilding]

@[simp] theorem enterHalted_frame (s : State) :
    (enterHalted s).pending = s.pending ∧ (enterHalted s).elapsed = s.elapsed ∧ (enterHalted s).ring = s.ring ∧
    (enterHalted s).cfg = s.cfg ∧ (enterHalted s).ptb = s.ptb ∧ (enterHalted s).oru = s.oru ∧
    (enterHalted s).gru = s.gru := by
  simp [enterHalted]

@[simp] theorem enterAdvancing_frame (s : State) :
    (enterAdvancing s).pending = s.pending ∧ (enterAdvancing s).elapsed = s.elapsed ∧
    (enterAdvancing s).ring = s.ring ∧ (enterAdvancing s).cfg = s.cfg ∧ (enterAdvancing s).ptb = s.ptb ∧
    (enterAdvancing s).oru = s.oru ∧ (enterAdvancing s).dsu = s.dsu ∧ (enterAdvancing s).bsq = s.bsq ∧
    (enterAdvancing s).gru = s.gru ∧ (enterAdvancing s).bal = s.bal ∧ (enterAdvancing s).lif = s.lif := by
  unfold enterAdvancing; split <;> simp

@[simp] theorem groupStop_frame (s : State) :
    (groupStop s).pending = s.pending ∧ (groupStop s).elapsed = s.elapsed ∧ (groupStop s).phase = s.phase ∧
    (groupStop s).pauseCause = s.pauseCause ∧ (groupStop s).ring = s.ring ∧ (groupStop s).cfg = s.cfg ∧
    (groupStop s).ptb = s.ptb ∧ (groupStop s).oru = s.oru ∧ (groupStop s).dsu = s.dsu ∧
    (groupStop s).bsq = s.bsq ∧ (groupStop s).gru = s.gru ∧ (groupStop s).bal = s.bal ∧
    (groupStop s).lif = s.lif := by
  unfold groupStop; split <;> simp

@[simp] theorem enterPaused_frame (c : PauseCause) (s : State) :
    (enterPaused c s).pending = s.pending ∧ (enterPaused c s).elapsed = s.elapsed ∧
    (enterPaused c s).ring = s.ring ∧ (enterPaused c s).cfg = s.cfg ∧ (enterPaused c s).ptb = s.ptb ∧
    (enterPaused c s).oru = s.oru ∧ (enterPaused c s).dsu = s.dsu ∧ (enterPaused c s).bsq = s.bsq ∧
    (enterPaused c s).gru = s.gru ∧ (enterPaused c s).bal = s.bal ∧ (enterPaused c s).lif = s.lif := by
  simp [enterPaused]

@[simp] theorem leaveHalted_frame (s : State) :
    (leaveHalted s).pending = s.pending ∧ (leaveHalted s).elapsed = s.elapsed ∧ (leaveHalted s).ring = s.ring ∧
    (leaveHalted s).cfg = s.cfg ∧ (leaveHalted s).ptb = s.ptb ∧ (leaveHalted s).oru = s.oru ∧
    (leaveHalted s).gru = s.gru := by
  simp [leaveHalted]

@[simp] theorem closeRing_frame (s : State) :
    (closeRing s).pending = s.pending ∧ (closeRing s).elapsed = s.elapsed ∧ (closeRing s).ring = s.ring ∧
    (closeRing s).cfg = s.cfg ∧ (closeRing s).ptb = s.ptb ∧ (closeRing s).oru = s.oru ∧
    (closeRing s).lif = s.lif := by
  unfold closeRing; (repeat' split) <;> simp

@[simp] theorem recordDuties_frame (s : State) :
    (recordDuties s).pending = s.pending ∧ (recordDuties s).elapsed = s.elapsed ∧
    (recordDuties s).phase = s.phase ∧ (recordDuties s).pauseCause = s.pauseCause ∧
    (recordDuties s).ring = s.ring ∧ (recordDuties s).cfg = s.cfg ∧ (recordDuties s).oru = s.oru ∧
    (recordDuties s).dsu = s.dsu ∧ (recordDuties s).thu = s.thu ∧ (recordDuties s).bsq = s.bsq ∧
    (recordDuties s).gru = s.gru ∧ (recordDuties s).bal = s.bal ∧ (recordDuties s).alu = s.alu ∧
    (recordDuties s).fpt = s.fpt ∧ (recordDuties s).lif = s.lif := by
  refine ⟨?_, ?_, ?_, ?_, ?_, ?_, ?_, ?_, ?_, ?_, ?_, ?_, ?_, ?_, ?_⟩ <;> rfl

@[simp] theorem followErector_frame (was : Bool) (s : State) :
    (followErector was s).pending = s.pending ∧ (followErector was s).elapsed = s.elapsed ∧
    (followErector was s).phase = s.phase ∧ (followErector was s).pauseCause = s.pauseCause ∧
    (followErector was s).ring = s.ring ∧ (followErector was s).cfg = s.cfg ∧
    (followErector was s).ptb = s.ptb ∧ (followErector was s).oru = s.oru ∧ (followErector was s).dsu = s.dsu ∧
    (followErector was s).thu = s.thu ∧ (followErector was s).gru = s.gru ∧ (followErector was s).bal = s.bal ∧
    (followErector was s).alu = s.alu ∧ (followErector was s).lif = s.lif := by
  unfold followErector; (repeat' split) <;> simp

@[simp] theorem followConveyor_frame (was : Bool) (s : State) :
    (followConveyor was s).pending = s.pending ∧ (followConveyor was s).elapsed = s.elapsed ∧
    (followConveyor was s).phase = s.phase ∧ (followConveyor was s).pauseCause = s.pauseCause ∧
    (followConveyor was s).ring = s.ring ∧ (followConveyor was s).cfg = s.cfg ∧
    (followConveyor was s).ptb = s.ptb ∧ (followConveyor was s).oru = s.oru ∧
    (followConveyor was s).dsu = s.dsu ∧ (followConveyor was s).thu = s.thu ∧
    (followConveyor was s).bsq = s.bsq ∧ (followConveyor was s).gru = s.gru ∧
    (followConveyor was s).lif = s.lif := by
  unfold followConveyor; (repeat' split) <;> simp

@[simp] theorem followHolder_frame (was : Option Nat) (s : State) :
    (followHolder was s).pending = s.pending ∧ (followHolder was s).elapsed = s.elapsed ∧
    (followHolder was s).phase = s.phase ∧ (followHolder was s).pauseCause = s.pauseCause ∧
    (followHolder was s).ring = s.ring ∧ (followHolder was s).cfg = s.cfg ∧ (followHolder was s).ptb = s.ptb ∧
    (followHolder was s).oru = s.oru ∧ (followHolder was s).dsu = s.dsu ∧ (followHolder was s).bsq = s.bsq ∧
    (followHolder was s).gru = s.gru ∧ (followHolder was s).bal = s.bal ∧ (followHolder was s).lif = s.lif := by
  unfold followHolder; split <;> simp

@[simp] theorem evalDuties_frame (s : State) :
    (evalDuties s).pending = s.pending ∧ (evalDuties s).elapsed = s.elapsed ∧ (evalDuties s).phase = s.phase ∧
    (evalDuties s).pauseCause = s.pauseCause ∧ (evalDuties s).ring = s.ring ∧ (evalDuties s).cfg = s.cfg ∧
    (evalDuties s).oru = s.oru ∧ (evalDuties s).dsu = s.dsu ∧ (evalDuties s).gru = s.gru ∧
    (evalDuties s).lif = s.lif := by
  simp [evalDuties]

@[simp] theorem clearHolderSeen_fields (s : State) :
    (clearHolderSeen s).bsq.state = s.bsq.state ∧ (clearHolderSeen s).bsq.cursor = s.bsq.cursor ∧
    (clearHolderSeen s).bsq.cursorRing = s.bsq.cursorRing ∧ (clearHolderSeen s).bsq.progress = s.bsq.progress ∧
    (clearHolderSeen s).bsq.request = s.bsq.request ∧ (clearHolderSeen s).bsq.issued = s.bsq.issued ∧
    (clearHolderSeen s).bsq.retraction = s.bsq.retraction ∧ (clearHolderSeen s).bsq.nextTag = s.bsq.nextTag ∧
    (clearHolderSeen s).bsq.buildStart = s.bsq.buildStart ∧ (clearHolderSeen s).bsq.placed = s.bsq.placed ∧
    (clearHolderSeen s).bsq.substituted = s.bsq.substituted ∧
    (clearHolderSeen s).bsq.stepTimer = s.bsq.stepTimer ∧ (clearHolderSeen s).bsq.gripTimer = s.bsq.gripTimer ∧
    (clearHolderSeen s).bsq.retractTimer = s.bsq.retractTimer ∧
    (clearHolderSeen s).bsq.extendTimer = s.bsq.extendTimer ∧
    (clearHolderSeen s).bsq.releaseTimer = s.bsq.releaseTimer ∧
    (clearHolderSeen s).bsq.answerWait = s.bsq.answerWait ∧ (clearHolderSeen s).bsq.timedOut = s.bsq.timedOut ∧
    (clearHolderSeen s).bsq.unanswered = s.bsq.unanswered := by
  simp [clearHolderSeen]

@[simp] theorem endBuilding_fields (s : State) :
    (endBuilding s).thu.quality = s.thu.quality ∧ (endBuilding s).thu.stroke = s.thu.stroke ∧
    (endBuilding s).thu.rate = s.thu.rate ∧ (endBuilding s).thu.history = s.thu.history ∧
    (endBuilding s).thu.fresh = s.thu.fresh ∧ (endBuilding s).thu.neighbours = s.thu.neighbours ∧
    (endBuilding s).thu.counter = s.thu.counter ∧ (endBuilding s).thu.set = s.thu.set ∧
    (endBuilding s).thu.blind = s.thu.blind ∧ (endBuilding s).thu.strokeEnd = s.thu.strokeEnd ∧
    (endBuilding s).thu.rateTarget = s.thu.rateTarget ∧ (endBuilding s).thu.bias = s.thu.bias ∧
    (endBuilding s).thu.enable = s.thu.enable ∧ (endBuilding s).thu.lastAnswer = s.thu.lastAnswer ∧
    (endBuilding s).thu.strokeFault = s.thu.strokeFault ∧ (endBuilding s).thu.denied = s.thu.denied ∧
    (endBuilding s).thu.skew = s.thu.skew ∧ (endBuilding s).thu.orphaned = s.thu.orphaned ∧
    (endBuilding s).bsq.state = s.bsq.state ∧ (endBuilding s).bsq.cursor = s.bsq.cursor ∧
    (endBuilding s).bsq.cursorRing = s.bsq.cursorRing ∧ (endBuilding s).bsq.progress = s.bsq.progress ∧
    (endBuilding s).bsq.request = s.bsq.request ∧ (endBuilding s).bsq.issued = s.bsq.issued ∧
    (endBuilding s).bsq.retraction = s.bsq.retraction ∧ (endBuilding s).bsq.nextTag = s.bsq.nextTag ∧
    (endBuilding s).bsq.buildStart = s.bsq.buildStart ∧ (endBuilding s).bsq.placed = s.bsq.placed ∧
    (endBuilding s).bsq.substituted = s.bsq.substituted ∧ (endBuilding s).bsq.stepTimer = s.bsq.stepTimer ∧
    (endBuilding s).bsq.gripTimer = s.bsq.gripTimer ∧ (endBuilding s).bsq.retractTimer = s.bsq.retractTimer ∧
    (endBuilding s).bsq.extendTimer = s.bsq.extendTimer ∧
    (endBuilding s).bsq.releaseTimer = s.bsq.releaseTimer ∧ (endBuilding s).bsq.answerWait = s.bsq.answerWait ∧
    (endBuilding s).bsq.timedOut = s.bsq.timedOut ∧ (endBuilding s).bsq.unanswered = s.bsq.unanswered ∧
    (endBuilding s).alu.active = s.alu.active ∧ (endBuilding s).alu.entries = s.alu.entries ∧
    (endBuilding s).alu.estop = s.alu.estop ∧ (endBuilding s).alu.duplicate = s.alu.duplicate ∧
    (endBuilding s).fpt.timer = s.fpt.timer ∧ (endBuilding s).fpt.fitted = s.fpt.fitted ∧
    (endBuilding s).fpt.inputs = s.fpt.inputs ∧ (endBuilding s).fpt.estopIn = s.fpt.estopIn ∧
    (endBuilding s).fpt.probe = s.fpt.probe ∧ (endBuilding s).fpt.forced = s.fpt.forced := by
  simp [endBuilding]

@[simp] theorem enterBuilding_fields (s : State) :
    (enterBuilding s).dsu.choice = s.dsu.choice ∧ (enterBuilding s).dsu.throttle = s.dsu.throttle ∧
    (enterBuilding s).dsu.consoleMax = s.dsu.consoleMax ∧ (enterBuilding s).dsu.proposed = s.dsu.proposed ∧
    (enterBuilding s).dsu.applied = s.dsu.applied ∧ (enterBuilding s).dsu.candidate = s.dsu.candidate ∧
    (enterBuilding s).dsu.rampCap = s.dsu.rampCap ∧ (enterBuilding s).dsu.startedAt = s.dsu.startedAt ∧
    (enterBuilding s).dsu.stoppedSince = s.dsu.stoppedSince ∧
    (enterBuilding s).dsu.overtorque = s.dsu.overtorque ∧ (enterBuilding s).dsu.jam = s.dsu.jam ∧
    (enterBuilding s).dsu.ringMax = s.dsu.ringMax ∧ (enterBuilding s).dsu.residency = s.dsu.residency ∧
    (enterBuilding s).dsu.timer = s.dsu.timer ∧ (enterBuilding s).bsq.state = s.bsq.state ∧
    (enterBuilding s).bsq.cursor = s.bsq.cursor ∧ (enterBuilding s).bsq.cursorRing = s.bsq.cursorRing ∧
    (enterBuilding s).bsq.progress = s.bsq.progress ∧ (enterBuilding s).bsq.request = s.bsq.request ∧
    (enterBuilding s).bsq.issued = s.bsq.issued ∧ (enterBuilding s).bsq.retraction = s.bsq.retraction ∧
    (enterBuilding s).bsq.nextTag = s.bsq.nextTag ∧ (enterBuilding s).bsq.buildStart = s.bsq.buildStart ∧
    (enterBuilding s).bsq.placed = s.bsq.placed ∧ (enterBuilding s).bsq.substituted = s.bsq.substituted ∧
    (enterBuilding s).bsq.stepTimer = s.bsq.stepTimer ∧ (enterBuilding s).bsq.gripTimer = s.bsq.gripTimer ∧
    (enterBuilding s).bsq.retractTimer = s.bsq.retractTimer ∧
    (enterBuilding s).bsq.extendTimer = s.bsq.extendTimer ∧
    (enterBuilding s).bsq.releaseTimer = s.bsq.releaseTimer ∧
    (enterBuilding s).bsq.answerWait = s.bsq.answerWait ∧ (enterBuilding s).bsq.timedOut = s.bsq.timedOut ∧
    (enterBuilding s).bsq.unanswered = s.bsq.unanswered ∧ (enterBuilding s).alu.active = s.alu.active ∧
    (enterBuilding s).alu.entries = s.alu.entries ∧ (enterBuilding s).alu.estop = s.alu.estop ∧
    (enterBuilding s).alu.duplicate = s.alu.duplicate ∧ (enterBuilding s).fpt.timer = s.fpt.timer ∧
    (enterBuilding s).fpt.fitted = s.fpt.fitted ∧ (enterBuilding s).fpt.inputs = s.fpt.inputs ∧
    (enterBuilding s).fpt.estopIn = s.fpt.estopIn ∧ (enterBuilding s).fpt.probe = s.fpt.probe ∧
    (enterBuilding s).fpt.forced = s.fpt.forced := by
  simp [enterBuilding]

@[simp] theorem enterHalted_fields (s : State) :
    (enterHalted s).dsu.choice = s.dsu.choice ∧ (enterHalted s).dsu.throttle = s.dsu.throttle ∧
    (enterHalted s).dsu.consoleMax = s.dsu.consoleMax ∧ (enterHalted s).dsu.proposed = s.dsu.proposed ∧
    (enterHalted s).dsu.applied = s.dsu.applied ∧ (enterHalted s).dsu.candidate = s.dsu.candidate ∧
    (enterHalted s).dsu.rampCap = s.dsu.rampCap ∧ (enterHalted s).dsu.startedAt = s.dsu.startedAt ∧
    (enterHalted s).dsu.stoppedSince = s.dsu.stoppedSince ∧ (enterHalted s).dsu.overtorque = s.dsu.overtorque ∧
    (enterHalted s).dsu.jam = s.dsu.jam ∧ (enterHalted s).dsu.ringMax = s.dsu.ringMax ∧
    (enterHalted s).dsu.residency = s.dsu.residency ∧ (enterHalted s).dsu.timer = s.dsu.timer ∧
    (enterHalted s).thu.quality = s.thu.quality ∧ (enterHalted s).thu.stroke = s.thu.stroke ∧
    (enterHalted s).thu.rate = s.thu.rate ∧ (enterHalted s).thu.history = s.thu.history ∧
    (enterHalted s).thu.fresh = s.thu.fresh ∧ (enterHalted s).thu.neighbours = s.thu.neighbours ∧
    (enterHalted s).thu.counter = s.thu.counter ∧ (enterHalted s).thu.set = s.thu.set ∧
    (enterHalted s).thu.blind = s.thu.blind ∧ (enterHalted s).thu.strokeEnd = s.thu.strokeEnd ∧
    (enterHalted s).thu.rateTarget = s.thu.rateTarget ∧ (enterHalted s).thu.bias = s.thu.bias ∧
    (enterHalted s).thu.enable = s.thu.enable ∧ (enterHalted s).thu.strokeFault = s.thu.strokeFault ∧
    (enterHalted s).thu.denied = s.thu.denied ∧ (enterHalted s).thu.skew = s.thu.skew ∧
    (enterHalted s).thu.orphaned = s.thu.orphaned ∧ (enterHalted s).bal.active = s.bal.active ∧
    (enterHalted s).bal.timer = s.bal.timer ∧ (enterHalted s).bal.manual = s.bal.manual ∧
    (enterHalted s).bal.manualRef = s.bal.manualRef ∧ (enterHalted s).bal.gateOpen = s.bal.gateOpen ∧
    (enterHalted s).bal.acc = s.bal.acc ∧ (enterHalted s).bal.set = s.bal.set ∧
    (enterHalted s).bal.blind = s.bal.blind ∧ (enterHalted s).bal.account = s.bal.account ∧
    (enterHalted s).bal.remE = s.bal.remE ∧ (enterHalted s).bal.remX = s.bal.remX ∧
    (enterHalted s).bal.eRing = s.bal.eRing ∧ (enterHalted s).bal.xRing = s.bal.xRing ∧
    (enterHalted s).bal.restarted = s.bal.restarted ∧ (enterHalted s).bal.pTarget = s.bal.pTarget ∧
    (enterHalted s).bal.band = s.bal.band ∧ (enterHalted s).bal.pMean = s.bal.pMean ∧
    (enterHalted s).bal.nP = s.bal.nP ∧ (enterHalted s).bal.overCount = s.bal.overCount ∧
    (enterHalted s).bal.recoverCount = s.bal.recoverCount ∧ (enterHalted s).bal.overdrawn = s.bal.overdrawn ∧
    (enterHalted s).bal.owed = s.bal.owed ∧ (enterHalted s).bal.pLow = s.bal.pLow ∧
    (enterHalted s).bal.pHigh = s.bal.pHigh ∧ (enterHalted s).bal.pressureBlind = s.bal.pressureBlind ∧
    (enterHalted s).alu.active = s.alu.active ∧ (enterHalted s).alu.entries = s.alu.entries ∧
    (enterHalted s).alu.estop = s.alu.estop ∧ (enterHalted s).alu.duplicate = s.alu.duplicate ∧
    (enterHalted s).fpt.timer = s.fpt.timer ∧ (enterHalted s).fpt.fitted = s.fpt.fitted ∧
    (enterHalted s).fpt.inputs = s.fpt.inputs ∧ (enterHalted s).fpt.estopIn = s.fpt.estopIn ∧
    (enterHalted s).fpt.probe = s.fpt.probe ∧ (enterHalted s).fpt.forced = s.fpt.forced ∧
    (enterHalted s).lif.slot = s.lif.slot ∧ (enterHalted s).lif.seq = s.lif.seq ∧
    (enterHalted s).lif.idle = s.lif.idle ∧ (enterHalted s).lif.crcErrors = s.lif.crcErrors ∧
    (enterHalted s).lif.formatErrors = s.lif.formatErrors ∧ (enterHalted s).lif.collisions = s.lif.collisions ∧
    (enterHalted s).lif.diagCount = s.lif.diagCount ∧ (enterHalted s).lif.timer = s.lif.timer ∧
    (enterHalted s).lif.lineFault = s.lif.lineFault ∧
    (enterHalted s).lif.abandoned = s.lif.abandoned := by
  simp [enterHalted]

@[simp] theorem enterAdvancing_fields (s : State) :
    (enterAdvancing s).thu.quality = s.thu.quality ∧ (enterAdvancing s).thu.stroke = s.thu.stroke ∧
    (enterAdvancing s).thu.rate = s.thu.rate ∧ (enterAdvancing s).thu.history = s.thu.history ∧
    (enterAdvancing s).thu.fresh = s.thu.fresh ∧ (enterAdvancing s).thu.neighbours = s.thu.neighbours ∧
    (enterAdvancing s).thu.counter = s.thu.counter ∧ (enterAdvancing s).thu.set = s.thu.set ∧
    (enterAdvancing s).thu.blind = s.thu.blind ∧ (enterAdvancing s).thu.strokeEnd = s.thu.strokeEnd ∧
    (enterAdvancing s).thu.rateTarget = s.thu.rateTarget ∧ (enterAdvancing s).thu.bias = s.thu.bias ∧
    (enterAdvancing s).thu.enable = s.thu.enable ∧ (enterAdvancing s).thu.slot = s.thu.slot ∧
    (enterAdvancing s).thu.lastAnswer = s.thu.lastAnswer ∧
    (enterAdvancing s).thu.strokeFault = s.thu.strokeFault ∧ (enterAdvancing s).thu.denied = s.thu.denied ∧
    (enterAdvancing s).thu.skew = s.thu.skew ∧ (enterAdvancing s).thu.orphaned = s.thu.orphaned ∧
    (enterAdvancing s).alu.active = s.alu.active ∧ (enterAdvancing s).alu.entries = s.alu.entries ∧
    (enterAdvancing s).alu.estop = s.alu.estop ∧ (enterAdvancing s).alu.duplicate = s.alu.duplicate ∧
    (enterAdvancing s).fpt.timer = s.fpt.timer ∧ (enterAdvancing s).fpt.fitted = s.fpt.fitted ∧
    (enterAdvancing s).fpt.inputs = s.fpt.inputs ∧ (enterAdvancing s).fpt.estopIn = s.fpt.estopIn ∧
    (enterAdvancing s).fpt.probe = s.fpt.probe ∧ (enterAdvancing s).fpt.forced = s.fpt.forced := by
  unfold enterAdvancing; split <;> simp

@[simp] theorem groupStop_fields (s : State) :
    (groupStop s).thu.quality = s.thu.quality ∧ (groupStop s).thu.stroke = s.thu.stroke ∧
    (groupStop s).thu.rate = s.thu.rate ∧ (groupStop s).thu.history = s.thu.history ∧
    (groupStop s).thu.fresh = s.thu.fresh ∧ (groupStop s).thu.neighbours = s.thu.neighbours ∧
    (groupStop s).thu.counter = s.thu.counter ∧ (groupStop s).thu.set = s.thu.set ∧
    (groupStop s).thu.blind = s.thu.blind ∧ (groupStop s).thu.strokeEnd = s.thu.strokeEnd ∧
    (groupStop s).thu.rateTarget = s.thu.rateTarget ∧ (groupStop s).thu.bias = s.thu.bias ∧
    (groupStop s).thu.enable = s.thu.enable ∧ (groupStop s).thu.slot = s.thu.slot ∧
    (groupStop s).thu.lastAnswer = s.thu.lastAnswer ∧ (groupStop s).thu.strokeFault = s.thu.strokeFault ∧
    (groupStop s).thu.denied = s.thu.denied ∧ (groupStop s).thu.skew = s.thu.skew ∧
    (groupStop s).thu.orphaned = s.thu.orphaned ∧ (groupStop s).alu.active = s.alu.active ∧
    (groupStop s).alu.entries = s.alu.entries ∧ (groupStop s).alu.estop = s.alu.estop ∧
    (groupStop s).alu.duplicate = s.alu.duplicate ∧ (groupStop s).fpt.timer = s.fpt.timer ∧
    (groupStop s).fpt.fitted = s.fpt.fitted ∧ (groupStop s).fpt.inputs = s.fpt.inputs ∧
    (groupStop s).fpt.estopIn = s.fpt.estopIn ∧ (groupStop s).fpt.probe = s.fpt.probe ∧
    (groupStop s).fpt.forced = s.fpt.forced := by
  unfold groupStop; split <;> simp

@[simp] theorem enterPaused_fields (c : PauseCause) (s : State) :
    (enterPaused c s).thu.quality = s.thu.quality ∧ (enterPaused c s).thu.stroke = s.thu.stroke ∧
    (enterPaused c s).thu.rate = s.thu.rate ∧ (enterPaused c s).thu.history = s.thu.history ∧
    (enterPaused c s).thu.fresh = s.thu.fresh ∧ (enterPaused c s).thu.neighbours = s.thu.neighbours ∧
    (enterPaused c s).thu.counter = s.thu.counter ∧ (enterPaused c s).thu.set = s.thu.set ∧
    (enterPaused c s).thu.blind = s.thu.blind ∧ (enterPaused c s).thu.strokeEnd = s.thu.strokeEnd ∧
    (enterPaused c s).thu.rateTarget = s.thu.rateTarget ∧ (enterPaused c s).thu.bias = s.thu.bias ∧
    (enterPaused c s).thu.enable = s.thu.enable ∧ (enterPaused c s).thu.slot = s.thu.slot ∧
    (enterPaused c s).thu.lastAnswer = s.thu.lastAnswer ∧
    (enterPaused c s).thu.strokeFault = s.thu.strokeFault ∧ (enterPaused c s).thu.denied = s.thu.denied ∧
    (enterPaused c s).thu.skew = s.thu.skew ∧ (enterPaused c s).thu.orphaned = s.thu.orphaned ∧
    (enterPaused c s).alu.active = s.alu.active ∧ (enterPaused c s).alu.entries = s.alu.entries ∧
    (enterPaused c s).alu.estop = s.alu.estop ∧ (enterPaused c s).alu.duplicate = s.alu.duplicate ∧
    (enterPaused c s).fpt.timer = s.fpt.timer ∧ (enterPaused c s).fpt.fitted = s.fpt.fitted ∧
    (enterPaused c s).fpt.inputs = s.fpt.inputs ∧ (enterPaused c s).fpt.estopIn = s.fpt.estopIn ∧
    (enterPaused c s).fpt.probe = s.fpt.probe ∧ (enterPaused c s).fpt.forced = s.fpt.forced := by
  simp [enterPaused]

@[simp] theorem leaveHalted_fields (s : State) :
    (leaveHalted s).dsu.nr = s.dsu.nr ∧ (leaveHalted s).dsu.choice = s.dsu.choice ∧
    (leaveHalted s).dsu.downCount = s.dsu.downCount ∧ (leaveHalted s).dsu.upCount = s.dsu.upCount ∧
    (leaveHalted s).dsu.throttle = s.dsu.throttle ∧ (leaveHalted s).dsu.consoleMax = s.dsu.consoleMax ∧
    (leaveHalted s).dsu.proposed = s.dsu.proposed ∧ (leaveHalted s).dsu.applied = s.dsu.applied ∧
    (leaveHalted s).dsu.candidate = s.dsu.candidate ∧ (leaveHalted s).dsu.changing = s.dsu.changing ∧
    (leaveHalted s).dsu.rampCap = s.dsu.rampCap ∧ (leaveHalted s).dsu.startedAt = s.dsu.startedAt ∧
    (leaveHalted s).dsu.stoppedSince = s.dsu.stoppedSince ∧ (leaveHalted s).dsu.overtorque = s.dsu.overtorque ∧
    (leaveHalted s).dsu.jam = s.dsu.jam ∧ (leaveHalted s).dsu.ringMax = s.dsu.ringMax ∧
    (leaveHalted s).dsu.residency = s.dsu.residency ∧ (leaveHalted s).dsu.timer = s.dsu.timer ∧
    (leaveHalted s).thu.quality = s.thu.quality ∧ (leaveHalted s).thu.stroke = s.thu.stroke ∧
    (leaveHalted s).thu.rate = s.thu.rate ∧ (leaveHalted s).thu.history = s.thu.history ∧
    (leaveHalted s).thu.fresh = s.thu.fresh ∧ (leaveHalted s).thu.neighbours = s.thu.neighbours ∧
    (leaveHalted s).thu.counter = s.thu.counter ∧ (leaveHalted s).thu.set = s.thu.set ∧
    (leaveHalted s).thu.blind = s.thu.blind ∧ (leaveHalted s).thu.strokeEnd = s.thu.strokeEnd ∧
    (leaveHalted s).thu.rateTarget = s.thu.rateTarget ∧ (leaveHalted s).thu.bias = s.thu.bias ∧
    (leaveHalted s).thu.enable = s.thu.enable ∧ (leaveHalted s).thu.strokeFault = s.thu.strokeFault ∧
    (leaveHalted s).thu.denied = s.thu.denied ∧ (leaveHalted s).thu.skew = s.thu.skew ∧
    (leaveHalted s).thu.orphaned = s.thu.orphaned ∧ (leaveHalted s).bal.active = s.bal.active ∧
    (leaveHalted s).bal.timer = s.bal.timer ∧ (leaveHalted s).bal.manual = s.bal.manual ∧
    (leaveHalted s).bal.manualRef = s.bal.manualRef ∧ (leaveHalted s).bal.gateOpen = s.bal.gateOpen ∧
    (leaveHalted s).bal.acc = s.bal.acc ∧ (leaveHalted s).bal.set = s.bal.set ∧
    (leaveHalted s).bal.blind = s.bal.blind ∧ (leaveHalted s).bal.account = s.bal.account ∧
    (leaveHalted s).bal.remE = s.bal.remE ∧ (leaveHalted s).bal.remX = s.bal.remX ∧
    (leaveHalted s).bal.eRing = s.bal.eRing ∧ (leaveHalted s).bal.xRing = s.bal.xRing ∧
    (leaveHalted s).bal.restarted = s.bal.restarted ∧ (leaveHalted s).bal.pTarget = s.bal.pTarget ∧
    (leaveHalted s).bal.band = s.bal.band ∧ (leaveHalted s).bal.pMean = s.bal.pMean ∧
    (leaveHalted s).bal.nP = s.bal.nP ∧ (leaveHalted s).bal.overCount = s.bal.overCount ∧
    (leaveHalted s).bal.recoverCount = s.bal.recoverCount ∧ (leaveHalted s).bal.overdrawn = s.bal.overdrawn ∧
    (leaveHalted s).bal.owed = s.bal.owed ∧ (leaveHalted s).bal.pLow = s.bal.pLow ∧
    (leaveHalted s).bal.pHigh = s.bal.pHigh ∧ (leaveHalted s).bal.pressureBlind = s.bal.pressureBlind ∧
    (leaveHalted s).alu.active = s.alu.active ∧ (leaveHalted s).alu.entries = s.alu.entries ∧
    (leaveHalted s).alu.duplicate = s.alu.duplicate ∧ (leaveHalted s).fpt.timer = s.fpt.timer ∧
    (leaveHalted s).fpt.fitted = s.fpt.fitted ∧ (leaveHalted s).fpt.inputs = s.fpt.inputs ∧
    (leaveHalted s).fpt.estopIn = s.fpt.estopIn ∧ (leaveHalted s).fpt.probe = s.fpt.probe ∧
    (leaveHalted s).fpt.forced = s.fpt.forced ∧ (leaveHalted s).lif.slot = s.lif.slot ∧
    (leaveHalted s).lif.seq = s.lif.seq ∧ (leaveHalted s).lif.idle = s.lif.idle ∧
    (leaveHalted s).lif.crcErrors = s.lif.crcErrors ∧ (leaveHalted s).lif.formatErrors = s.lif.formatErrors ∧
    (leaveHalted s).lif.collisions = s.lif.collisions ∧ (leaveHalted s).lif.diagCount = s.lif.diagCount ∧
    (leaveHalted s).lif.timer = s.lif.timer ∧ (leaveHalted s).lif.lineFault = s.lif.lineFault ∧
    (leaveHalted s).lif.abandoned = s.lif.abandoned := by
  simp [leaveHalted]

@[simp] theorem closeRing_fields (s : State) :
    (closeRing s).dsu.cutterhead = s.dsu.cutterhead ∧ (closeRing s).dsu.nr = s.dsu.nr ∧
    (closeRing s).dsu.choice = s.dsu.choice ∧ (closeRing s).dsu.downCount = s.dsu.downCount ∧
    (closeRing s).dsu.upCount = s.dsu.upCount ∧ (closeRing s).dsu.throttle = s.dsu.throttle ∧
    (closeRing s).dsu.consoleMax = s.dsu.consoleMax ∧ (closeRing s).dsu.proposed = s.dsu.proposed ∧
    (closeRing s).dsu.applied = s.dsu.applied ∧ (closeRing s).dsu.candidate = s.dsu.candidate ∧
    (closeRing s).dsu.changing = s.dsu.changing ∧ (closeRing s).dsu.rampCap = s.dsu.rampCap ∧
    (closeRing s).dsu.startedAt = s.dsu.startedAt ∧ (closeRing s).dsu.stoppedSince = s.dsu.stoppedSince ∧
    (closeRing s).dsu.overtorque = s.dsu.overtorque ∧ (closeRing s).dsu.jam = s.dsu.jam ∧
    (closeRing s).dsu.timer = s.dsu.timer ∧ (closeRing s).thu.quality = s.thu.quality ∧
    (closeRing s).thu.stroke = s.thu.stroke ∧ (closeRing s).thu.rate = s.thu.rate ∧
    (closeRing s).thu.history = s.thu.history ∧ (closeRing s).thu.fresh = s.thu.fresh ∧
    (closeRing s).thu.neighbours = s.thu.neighbours ∧ (closeRing s).thu.set = s.thu.set ∧
    (closeRing s).thu.blind = s.thu.blind ∧ (closeRing s).thu.rateTarget = s.thu.rateTarget ∧
    (closeRing s).thu.bias = s.thu.bias ∧ (closeRing s).thu.enable = s.thu.enable ∧
    (closeRing s).thu.lastAnswer = s.thu.lastAnswer ∧ (closeRing s).thu.strokeFault = s.thu.strokeFault ∧
    (closeRing s).thu.denied = s.thu.denied ∧ (closeRing s).thu.skew = s.thu.skew ∧
    (closeRing s).thu.orphaned = s.thu.orphaned ∧ (closeRing s).bsq.state = s.bsq.state ∧
    (closeRing s).bsq.cursor = s.bsq.cursor ∧ (closeRing s).bsq.cursorRing = s.bsq.cursorRing ∧
    (closeRing s).bsq.progress = s.bsq.progress ∧ (closeRing s).bsq.request = s.bsq.request ∧
    (closeRing s).bsq.issued = s.bsq.issued ∧ (closeRing s).bsq.retraction = s.bsq.retraction ∧
    (closeRing s).bsq.nextTag = s.bsq.nextTag ∧ (closeRing s).bsq.buildStart = s.bsq.buildStart ∧
    (closeRing s).bsq.placed = s.bsq.placed ∧ (closeRing s).bsq.substituted = s.bsq.substituted ∧
    (closeRing s).bsq.stepTimer = s.bsq.stepTimer ∧ (closeRing s).bsq.gripTimer = s.bsq.gripTimer ∧
    (closeRing s).bsq.retractTimer = s.bsq.retractTimer ∧ (closeRing s).bsq.extendTimer = s.bsq.extendTimer ∧
    (closeRing s).bsq.releaseTimer = s.bsq.releaseTimer ∧ (closeRing s).bsq.answerWait = s.bsq.answerWait ∧
    (closeRing s).bsq.timedOut = s.bsq.timedOut ∧ (closeRing s).bsq.unanswered = s.bsq.unanswered ∧
    (closeRing s).gru.active = s.gru.active ∧ (closeRing s).gru.line = s.gru.line ∧
    (closeRing s).gru.remG = s.gru.remG ∧ (closeRing s).gru.posted = s.gru.posted ∧
    (closeRing s).gru.delivered = s.gru.delivered ∧ (closeRing s).gru.writtenOff = s.gru.writtenOff ∧
    (closeRing s).gru.overrun = s.gru.overrun ∧ (closeRing s).gru.flushed = s.gru.flushed ∧
    (closeRing s).gru.lag = s.gru.lag ∧ (closeRing s).gru.settingTimer = s.gru.settingTimer ∧
    (closeRing s).gru.blockTimer = s.gru.blockTimer ∧ (closeRing s).gru.flushTimer = s.gru.flushTimer ∧
    (closeRing s).gru.flushRun = s.gru.flushRun ∧ (closeRing s).gru.flushStop = s.gru.flushStop ∧
    (closeRing s).bal.active = s.bal.active ∧ (closeRing s).bal.timer = s.bal.timer ∧
    (closeRing s).bal.conveyor = s.bal.conveyor ∧ (closeRing s).bal.manual = s.bal.manual ∧
    (closeRing s).bal.manualRef = s.bal.manualRef ∧ (closeRing s).bal.gateOpen = s.bal.gateOpen ∧
    (closeRing s).bal.stopHold = s.bal.stopHold ∧ (closeRing s).bal.nCmd = s.bal.nCmd ∧
    (closeRing s).bal.acc = s.bal.acc ∧ (closeRing s).bal.set = s.bal.set ∧
    (closeRing s).bal.blind = s.bal.blind ∧ (closeRing s).bal.account = s.bal.account ∧
    (closeRing s).bal.remE = s.bal.remE ∧ (closeRing s).bal.remX = s.bal.remX ∧
    (closeRing s).bal.pTarget = s.bal.pTarget ∧ (closeRing s).bal.band = s.bal.band ∧
    (closeRing s).bal.pMean = s.bal.pMean ∧ (closeRing s).bal.nP = s.bal.nP ∧
    (closeRing s).bal.overCount = s.bal.overCount ∧ (closeRing s).bal.recoverCount = s.bal.recoverCount ∧
    (closeRing s).bal.overdrawn = s.bal.overdrawn ∧ (closeRing s).bal.owed = s.bal.owed ∧
    (closeRing s).bal.pLow = s.bal.pLow ∧ (closeRing s).bal.pHigh = s.bal.pHigh ∧
    (closeRing s).bal.pressureBlind = s.bal.pressureBlind ∧ (closeRing s).alu.active = s.alu.active ∧
    (closeRing s).alu.entries = s.alu.entries ∧ (closeRing s).alu.estop = s.alu.estop ∧
    (closeRing s).alu.duplicate = s.alu.duplicate ∧ (closeRing s).fpt.timer = s.fpt.timer ∧
    (closeRing s).fpt.fitted = s.fpt.fitted ∧ (closeRing s).fpt.inputs = s.fpt.inputs ∧
    (closeRing s).fpt.estopIn = s.fpt.estopIn ∧ (closeRing s).fpt.probe = s.fpt.probe ∧
    (closeRing s).fpt.forced = s.fpt.forced := by
  unfold closeRing; (repeat' split) <;> simp

@[simp] theorem recordDuties_fields (s : State) :
    (recordDuties s).ptb.peers = s.ptb.peers ∧ (recordDuties s).ptb.console = s.ptb.console ∧
    (recordDuties s).ptb.endOfListen = s.ptb.endOfListen ∧
    (recordDuties s).ptb.listenEnd = s.ptb.listenEnd := by
  simp [recordDuties]

@[simp] theorem followErector_fields (was : Bool) (s : State) :
    (followErector was s).bsq.cursor = s.bsq.cursor ∧ (followErector was s).bsq.cursorRing = s.bsq.cursorRing ∧
    (followErector was s).bsq.progress = s.bsq.progress ∧ (followErector was s).bsq.nextTag = s.bsq.nextTag ∧
    (followErector was s).bsq.buildStart = s.bsq.buildStart ∧ (followErector was s).bsq.placed = s.bsq.placed ∧
    (followErector was s).bsq.substituted = s.bsq.substituted ∧
    (followErector was s).bsq.holderSeen = s.bsq.holderSeen ∧ (followErector was s).fpt.timer = s.fpt.timer ∧
    (followErector was s).fpt.fitted = s.fpt.fitted ∧ (followErector was s).fpt.inputs = s.fpt.inputs ∧
    (followErector was s).fpt.estopIn = s.fpt.estopIn ∧ (followErector was s).fpt.probe = s.fpt.probe ∧
    (followErector was s).fpt.forced = s.fpt.forced := by
  unfold followErector; (repeat' split) <;> simp

@[simp] theorem followConveyor_fields (was : Bool) (s : State) :
    (followConveyor was s).bal.manual = s.bal.manual ∧ (followConveyor was s).bal.manualRef = s.bal.manualRef ∧
    (followConveyor was s).bal.gateOpen = s.bal.gateOpen ∧ (followConveyor was s).bal.account = s.bal.account ∧
    (followConveyor was s).bal.remE = s.bal.remE ∧ (followConveyor was s).bal.remX = s.bal.remX ∧
    (followConveyor was s).bal.eRing = s.bal.eRing ∧ (followConveyor was s).bal.xRing = s.bal.xRing ∧
    (followConveyor was s).bal.restarted = s.bal.restarted ∧
    (followConveyor was s).bal.pTarget = s.bal.pTarget ∧ (followConveyor was s).bal.band = s.bal.band ∧
    (followConveyor was s).alu.active = s.alu.active ∧ (followConveyor was s).alu.entries = s.alu.entries ∧
    (followConveyor was s).alu.estop = s.alu.estop ∧ (followConveyor was s).alu.duplicate = s.alu.duplicate ∧
    (followConveyor was s).fpt.timer = s.fpt.timer ∧ (followConveyor was s).fpt.fitted = s.fpt.fitted ∧
    (followConveyor was s).fpt.inputs = s.fpt.inputs ∧ (followConveyor was s).fpt.estopIn = s.fpt.estopIn ∧
    (followConveyor was s).fpt.probe = s.fpt.probe ∧ (followConveyor was s).fpt.forced = s.fpt.forced := by
  unfold followConveyor; (repeat' split) <;> simp

@[simp] theorem followHolder_fields (was : Option Nat) (s : State) :
    (followHolder was s).thu.quality = s.thu.quality ∧ (followHolder was s).thu.stroke = s.thu.stroke ∧
    (followHolder was s).thu.rate = s.thu.rate ∧ (followHolder was s).thu.history = s.thu.history ∧
    (followHolder was s).thu.fresh = s.thu.fresh ∧ (followHolder was s).thu.neighbours = s.thu.neighbours ∧
    (followHolder was s).thu.counter = s.thu.counter ∧ (followHolder was s).thu.set = s.thu.set ∧
    (followHolder was s).thu.blind = s.thu.blind ∧ (followHolder was s).thu.strokeEnd = s.thu.strokeEnd ∧
    (followHolder was s).thu.rateTarget = s.thu.rateTarget ∧ (followHolder was s).thu.bias = s.thu.bias ∧
    (followHolder was s).thu.enable = s.thu.enable ∧ (followHolder was s).thu.lastAnswer = s.thu.lastAnswer ∧
    (followHolder was s).thu.strokeFault = s.thu.strokeFault ∧ (followHolder was s).thu.denied = s.thu.denied ∧
    (followHolder was s).thu.skew = s.thu.skew ∧ (followHolder was s).alu.active = s.alu.active ∧
    (followHolder was s).alu.entries = s.alu.entries ∧ (followHolder was s).alu.estop = s.alu.estop ∧
    (followHolder was s).alu.duplicate = s.alu.duplicate ∧ (followHolder was s).fpt.timer = s.fpt.timer ∧
    (followHolder was s).fpt.fitted = s.fpt.fitted ∧ (followHolder was s).fpt.inputs = s.fpt.inputs ∧
    (followHolder was s).fpt.estopIn = s.fpt.estopIn ∧ (followHolder was s).fpt.probe = s.fpt.probe ∧
    (followHolder was s).fpt.forced = s.fpt.forced := by
  unfold followHolder; split <;> simp

@[simp] theorem evalDuties_fields (s : State) :
    (evalDuties s).ptb.peers = s.ptb.peers ∧ (evalDuties s).ptb.console = s.ptb.console ∧
    (evalDuties s).ptb.endOfListen = s.ptb.endOfListen ∧ (evalDuties s).ptb.listenEnd = s.ptb.listenEnd ∧
    (evalDuties s).thu.quality = s.thu.quality ∧ (evalDuties s).thu.stroke = s.thu.stroke ∧
    (evalDuties s).thu.rate = s.thu.rate ∧ (evalDuties s).thu.history = s.thu.history ∧
    (evalDuties s).thu.fresh = s.thu.fresh ∧ (evalDuties s).thu.neighbours = s.thu.neighbours ∧
    (evalDuties s).thu.counter = s.thu.counter ∧ (evalDuties s).thu.set = s.thu.set ∧
    (evalDuties s).thu.blind = s.thu.blind ∧ (evalDuties s).thu.strokeEnd = s.thu.strokeEnd ∧
    (evalDuties s).thu.rateTarget = s.thu.rateTarget ∧ (evalDuties s).thu.bias = s.thu.bias ∧
    (evalDuties s).thu.enable = s.thu.enable ∧ (evalDuties s).thu.lastAnswer = s.thu.lastAnswer ∧
    (evalDuties s).thu.strokeFault = s.thu.strokeFault ∧ (evalDuties s).thu.denied = s.thu.denied ∧
    (evalDuties s).thu.skew = s.thu.skew ∧ (evalDuties s).bsq.cursor = s.bsq.cursor ∧
    (evalDuties s).bsq.cursorRing = s.bsq.cursorRing ∧ (evalDuties s).bsq.progress = s.bsq.progress ∧
    (evalDuties s).bsq.nextTag = s.bsq.nextTag ∧ (evalDuties s).bsq.buildStart = s.bsq.buildStart ∧
    (evalDuties s).bsq.placed = s.bsq.placed ∧ (evalDuties s).bsq.substituted = s.bsq.substituted ∧
    (evalDuties s).bsq.holderSeen = s.bsq.holderSeen ∧ (evalDuties s).bal.manual = s.bal.manual ∧
    (evalDuties s).bal.manualRef = s.bal.manualRef ∧ (evalDuties s).bal.gateOpen = s.bal.gateOpen ∧
    (evalDuties s).bal.account = s.bal.account ∧ (evalDuties s).bal.remE = s.bal.remE ∧
    (evalDuties s).bal.remX = s.bal.remX ∧ (evalDuties s).bal.eRing = s.bal.eRing ∧
    (evalDuties s).bal.xRing = s.bal.xRing ∧ (evalDuties s).bal.restarted = s.bal.restarted ∧
    (evalDuties s).bal.pTarget = s.bal.pTarget ∧ (evalDuties s).bal.band = s.bal.band ∧
    (evalDuties s).alu.active = s.alu.active ∧ (evalDuties s).alu.entries = s.alu.entries ∧
    (evalDuties s).alu.estop = s.alu.estop ∧ (evalDuties s).alu.duplicate = s.alu.duplicate ∧
    (evalDuties s).fpt.timer = s.fpt.timer ∧ (evalDuties s).fpt.fitted = s.fpt.fitted ∧
    (evalDuties s).fpt.inputs = s.fpt.inputs ∧ (evalDuties s).fpt.estopIn = s.fpt.estopIn ∧
    (evalDuties s).fpt.probe = s.fpt.probe ∧ (evalDuties s).fpt.forced = s.fpt.forced := by
  simp [evalDuties]

end Sys2Proof.Machine
end

