-- ==== Sys2Proof/Laws/Alarms.lean ====
section
/-! SUPPORT. What each operation of Machine/Alarms.lean leaves unchanged, block by block and, in the
blocks it changes, field by field. -/

namespace Sys2Proof.Machine

open Sys2Proof

@[simp] theorem moveEntry_frame (k : AlarmKind) (e : AlarmEntry) (s : State) :
    (moveEntry k e s).pending = s.pending ∧ (moveEntry k e s).elapsed = s.elapsed ∧
    (moveEntry k e s).phase = s.phase ∧ (moveEntry k e s).pauseCause = s.pauseCause ∧
    (moveEntry k e s).ring = s.ring ∧ (moveEntry k e s).cfg = s.cfg ∧ (moveEntry k e s).ptb = s.ptb ∧
    (moveEntry k e s).oru = s.oru ∧ (moveEntry k e s).thu = s.thu ∧ (moveEntry k e s).bsq = s.bsq ∧
    (moveEntry k e s).gru = s.gru ∧ (moveEntry k e s).bal = s.bal := by
  unfold moveEntry; (repeat' split) <;> simp

@[simp] theorem syncKind_frame (k : AlarmKind) (s : State) :
    (syncKind k s).pending = s.pending ∧ (syncKind k s).elapsed = s.elapsed ∧ (syncKind k s).phase = s.phase ∧
    (syncKind k s).pauseCause = s.pauseCause ∧ (syncKind k s).ring = s.ring ∧ (syncKind k s).cfg = s.cfg ∧
    (syncKind k s).ptb = s.ptb ∧ (syncKind k s).oru = s.oru ∧ (syncKind k s).thu = s.thu ∧
    (syncKind k s).bsq = s.bsq ∧ (syncKind k s).gru = s.gru ∧ (syncKind k s).bal = s.bal := by
  unfold syncKind; split <;> simp

@[simp] theorem syncKinds_frame (ks : List AlarmKind) (s : State) :
    (syncKinds ks s).pending = s.pending ∧ (syncKinds ks s).elapsed = s.elapsed ∧
    (syncKinds ks s).phase = s.phase ∧ (syncKinds ks s).pauseCause = s.pauseCause ∧
    (syncKinds ks s).ring = s.ring ∧ (syncKinds ks s).cfg = s.cfg ∧ (syncKinds ks s).ptb = s.ptb ∧
    (syncKinds ks s).oru = s.oru ∧ (syncKinds ks s).thu = s.thu ∧ (syncKinds ks s).bsq = s.bsq ∧
    (syncKinds ks s).gru = s.gru ∧ (syncKinds ks s).bal = s.bal := by
  induction ks generalizing s with
  | nil => simp [syncKinds]
  | cons a l ih => simp [syncKinds, ih]

@[simp] theorem haltTest_frame (s : State) :
    (haltTest s).pending = s.pending ∧ (haltTest s).elapsed = s.elapsed ∧ (haltTest s).ring = s.ring ∧
    (haltTest s).cfg = s.cfg ∧ (haltTest s).ptb = s.ptb ∧ (haltTest s).oru = s.oru ∧
    (haltTest s).gru = s.gru := by
  unfold haltTest; split <;> simp

@[simp] theorem forcingSync_frame (s : State) :
    (forcingSync s).pending = s.pending ∧ (forcingSync s).elapsed = s.elapsed ∧
    (forcingSync s).phase = s.phase ∧ (forcingSync s).pauseCause = s.pauseCause ∧
    (forcingSync s).ring = s.ring ∧ (forcingSync s).cfg = s.cfg ∧ (forcingSync s).ptb = s.ptb ∧
    (forcingSync s).oru = s.oru ∧ (forcingSync s).dsu = s.dsu ∧ (forcingSync s).thu = s.thu ∧
    (forcingSync s).bsq = s.bsq ∧ (forcingSync s).bal = s.bal ∧ (forcingSync s).lif = s.lif := by
  unfold forcingSync; split <;> simp

@[simp] theorem enableSync_frame (s : State) :
    (enableSync s).pending = s.pending ∧ (enableSync s).elapsed = s.elapsed ∧ (enableSync s).phase = s.phase ∧
    (enableSync s).pauseCause = s.pauseCause ∧ (enableSync s).ring = s.ring ∧ (enableSync s).cfg = s.cfg ∧
    (enableSync s).ptb = s.ptb ∧ (enableSync s).oru = s.oru ∧ (enableSync s).dsu = s.dsu ∧
    (enableSync s).bsq = s.bsq ∧ (enableSync s).gru = s.gru ∧ (enableSync s).bal = s.bal ∧
    (enableSync s).alu = s.alu ∧ (enableSync s).fpt = s.fpt ∧ (enableSync s).lif = s.lif := by
  refine ⟨?_, ?_, ?_, ?_, ?_, ?_, ?_, ?_, ?_, ?_, ?_, ?_, ?_, ?_, ?_⟩ <;> rfl

@[simp] theorem gateTest_frame (s : State) :
    (gateTest s).pending = s.pending ∧ (gateTest s).elapsed = s.elapsed ∧ (gateTest s).ring = s.ring ∧
    (gateTest s).cfg = s.cfg ∧ (gateTest s).ptb = s.ptb ∧ (gateTest s).oru = s.oru ∧ (gateTest s).dsu = s.dsu ∧
    (gateTest s).bsq = s.bsq ∧ (gateTest s).gru = s.gru ∧ (gateTest s).bal = s.bal ∧
    (gateTest s).lif = s.lif := by
  unfold gateTest; (repeat' split) <;> simp

@[simp] theorem excavationTest_frame (s : State) :
    (excavationTest s).pending = s.pending ∧ (excavationTest s).elapsed = s.elapsed ∧
    (excavationTest s).ring = s.ring ∧ (excavationTest s).cfg = s.cfg ∧ (excavationTest s).ptb = s.ptb ∧
    (excavationTest s).oru = s.oru ∧ (excavationTest s).dsu = s.dsu ∧ (excavationTest s).thu = s.thu ∧
    (excavationTest s).bsq = s.bsq ∧ (excavationTest s).gru = s.gru ∧ (excavationTest s).bal = s.bal ∧
    (excavationTest s).alu = s.alu ∧ (excavationTest s).fpt = s.fpt ∧ (excavationTest s).lif = s.lif := by
  unfold excavationTest; split <;> simp

@[simp] theorem settleOnce_frame (s : State) :
    (settleOnce s).pending = s.pending ∧ (settleOnce s).elapsed = s.elapsed ∧ (settleOnce s).ring = s.ring ∧
    (settleOnce s).cfg = s.cfg ∧ (settleOnce s).ptb = s.ptb ∧ (settleOnce s).oru = s.oru := by
  simp [settleOnce]

@[simp] theorem settle_frame (s : State) :
    (settle s).pending = s.pending ∧ (settle s).elapsed = s.elapsed ∧ (settle s).ring = s.ring ∧
    (settle s).cfg = s.cfg ∧ (settle s).ptb = s.ptb ∧ (settle s).oru = s.oru := by
  simp [settle]

@[simp] theorem activateEstop_frame (s : State) :
    (activateEstop s).pending = s.pending ∧ (activateEstop s).elapsed = s.elapsed ∧
    (activateEstop s).phase = s.phase ∧ (activateEstop s).pauseCause = s.pauseCause ∧
    (activateEstop s).ring = s.ring ∧ (activateEstop s).cfg = s.cfg ∧ (activateEstop s).ptb = s.ptb ∧
    (activateEstop s).oru = s.oru ∧ (activateEstop s).dsu = s.dsu ∧ (activateEstop s).thu = s.thu ∧
    (activateEstop s).bsq = s.bsq ∧ (activateEstop s).gru = s.gru ∧ (activateEstop s).lif = s.lif := by
  unfold activateEstop; split <;> simp

@[simp] theorem duplicateNotice_frame (s : State) :
    (duplicateNotice s).pending = s.pending ∧ (duplicateNotice s).elapsed = s.elapsed ∧
    (duplicateNotice s).phase = s.phase ∧ (duplicateNotice s).pauseCause = s.pauseCause ∧
    (duplicateNotice s).ring = s.ring ∧ (duplicateNotice s).cfg = s.cfg ∧ (duplicateNotice s).ptb = s.ptb ∧
    (duplicateNotice s).oru = s.oru ∧ (duplicateNotice s).dsu = s.dsu ∧ (duplicateNotice s).thu = s.thu ∧
    (duplicateNotice s).bsq = s.bsq ∧ (duplicateNotice s).gru = s.gru ∧ (duplicateNotice s).bal = s.bal ∧
    (duplicateNotice s).fpt = s.fpt ∧ (duplicateNotice s).lif = s.lif := by
  refine ⟨?_, ?_, ?_, ?_, ?_, ?_, ?_, ?_, ?_, ?_, ?_, ?_, ?_, ?_, ?_⟩ <;> rfl

@[simp] theorem alarmsRestart_frame (s : State) :
    (alarmsRestart s).pending = s.pending ∧ (alarmsRestart s).elapsed = s.elapsed ∧
    (alarmsRestart s).phase = s.phase ∧ (alarmsRestart s).pauseCause = s.pauseCause ∧
    (alarmsRestart s).ring = s.ring ∧ (alarmsRestart s).cfg = s.cfg ∧ (alarmsRestart s).ptb = s.ptb ∧
    (alarmsRestart s).oru = s.oru ∧ (alarmsRestart s).dsu = s.dsu ∧ (alarmsRestart s).thu = s.thu ∧
    (alarmsRestart s).bsq = s.bsq ∧ (alarmsRestart s).gru = s.gru ∧ (alarmsRestart s).bal = s.bal ∧
    (alarmsRestart s).fpt = s.fpt ∧ (alarmsRestart s).lif = s.lif := by
  refine ⟨?_, ?_, ?_, ?_, ?_, ?_, ?_, ?_, ?_, ?_, ?_, ?_, ?_, ?_, ?_⟩ <;> rfl

@[simp] theorem moveEntry_fields (k : AlarmKind) (e : AlarmEntry) (s : State) :
    (moveEntry k e s).dsu.choice = s.dsu.choice ∧ (moveEntry k e s).dsu.throttle = s.dsu.throttle ∧
    (moveEntry k e s).dsu.consoleMax = s.dsu.consoleMax ∧ (moveEntry k e s).dsu.proposed = s.dsu.proposed ∧
    (moveEntry k e s).dsu.applied = s.dsu.applied ∧ (moveEntry k e s).dsu.candidate = s.dsu.candidate ∧
    (moveEntry k e s).dsu.rampCap = s.dsu.rampCap ∧ (moveEntry k e s).dsu.startedAt = s.dsu.startedAt ∧
    (moveEntry k e s).dsu.stoppedSince = s.dsu.stoppedSince ∧
    (moveEntry k e s).dsu.overtorque = s.dsu.overtorque ∧ (moveEntry k e s).dsu.jam = s.dsu.jam ∧
    (moveEntry k e s).dsu.ringMax = s.dsu.ringMax ∧ (moveEntry k e s).dsu.residency = s.dsu.residency ∧
    (moveEntry k e s).dsu.timer = s.dsu.timer ∧ (moveEntry k e s).alu.active = s.alu.active ∧
    (moveEntry k e s).alu.estop = s.alu.estop ∧ (moveEntry k e s).alu.duplicate = s.alu.duplicate ∧
    (moveEntry k e s).fpt.timer = s.fpt.timer ∧ (moveEntry k e s).fpt.fitted = s.fpt.fitted ∧
    (moveEntry k e s).fpt.inputs = s.fpt.inputs ∧ (moveEntry k e s).fpt.estopIn = s.fpt.estopIn ∧
    (moveEntry k e s).fpt.probe = s.fpt.probe ∧ (moveEntry k e s).fpt.forced = s.fpt.forced ∧
    (moveEntry k e s).lif.slot = s.lif.slot ∧ (moveEntry k e s).lif.seq = s.lif.seq ∧
    (moveEntry k e s).lif.idle = s.lif.idle ∧ (moveEntry k e s).lif.crcErrors = s.lif.crcErrors ∧
    (moveEntry k e s).lif.formatErrors = s.lif.formatErrors ∧
    (moveEntry k e s).lif.collisions = s.lif.collisions ∧ (moveEntry k e s).lif.diagCount = s.lif.diagCount ∧
    (moveEntry k e s).lif.timer = s.lif.timer ∧ (moveEntry k e s).lif.lineFault = s.lif.lineFault ∧
    (moveEntry k e s).lif.abandoned = s.lif.abandoned := by
  unfold moveEntry; (repeat' split) <;> simp

@[simp] theorem syncKind_fields (k : AlarmKind) (s : State) :
    (syncKind k s).dsu.choice = s.dsu.choice ∧ (syncKind k s).dsu.throttle = s.dsu.throttle ∧
    (syncKind k s).dsu.consoleMax = s.dsu.consoleMax ∧ (syncKind k s).dsu.proposed = s.dsu.proposed ∧
    (syncKind k s).dsu.applied = s.dsu.applied ∧ (syncKind k s).dsu.candidate = s.dsu.candidate ∧
    (syncKind k s).dsu.rampCap = s.dsu.rampCap ∧ (syncKind k s).dsu.startedAt = s.dsu.startedAt ∧
    (syncKind k s).dsu.stoppedSince = s.dsu.stoppedSince ∧ (syncKind k s).dsu.overtorque = s.dsu.overtorque ∧
    (syncKind k s).dsu.jam = s.dsu.jam ∧ (syncKind k s).dsu.ringMax = s.dsu.ringMax ∧
    (syncKind k s).dsu.residency = s.dsu.residency ∧ (syncKind k s).dsu.timer = s.dsu.timer ∧
    (syncKind k s).alu.active = s.alu.active ∧ (syncKind k s).alu.estop = s.alu.estop ∧
    (syncKind k s).alu.duplicate = s.alu.duplicate ∧ (syncKind k s).fpt.timer = s.fpt.timer ∧
    (syncKind k s).fpt.fitted = s.fpt.fitted ∧ (syncKind k s).fpt.inputs = s.fpt.inputs ∧
    (syncKind k s).fpt.estopIn = s.fpt.estopIn ∧ (syncKind k s).fpt.probe = s.fpt.probe ∧
    (syncKind k s).fpt.forced = s.fpt.forced ∧ (syncKind k s).lif.slot = s.lif.slot ∧
    (syncKind k s).lif.seq = s.lif.seq ∧ (syncKind k s).lif.idle = s.lif.idle ∧
    (syncKind k s).lif.crcErrors = s.lif.crcErrors ∧ (syncKind k s).lif.formatErrors = s.lif.formatErrors ∧
    (syncKind k s).lif.collisions = s.lif.collisions ∧ (syncKind k s).lif.diagCount = s.lif.diagCount ∧
    (syncKind k s).lif.timer = s.lif.timer ∧ (syncKind k s).lif.lineFault = s.lif.lineFault ∧
    (syncKind k s).lif.abandoned = s.lif.abandoned := by
  unfold syncKind; split <;> simp

@[simp] theorem syncKinds_fields (ks : List AlarmKind) (s : State) :
    (syncKinds ks s).dsu.choice = s.dsu.choice ∧ (syncKinds ks s).dsu.throttle = s.dsu.throttle ∧
    (syncKinds ks s).dsu.consoleMax = s.dsu.consoleMax ∧ (syncKinds ks s).dsu.proposed = s.dsu.proposed ∧
    (syncKinds ks s).dsu.applied = s.dsu.applied ∧ (syncKinds ks s).dsu.candidate = s.dsu.candidate ∧
    (syncKinds ks s).dsu.rampCap = s.dsu.rampCap ∧ (syncKinds ks s).dsu.startedAt = s.dsu.startedAt ∧
    (syncKinds ks s).dsu.stoppedSince = s.dsu.stoppedSince ∧
    (syncKinds ks s).dsu.overtorque = s.dsu.overtorque ∧ (syncKinds ks s).dsu.jam = s.dsu.jam ∧
    (syncKinds ks s).dsu.ringMax = s.dsu.ringMax ∧ (syncKinds ks s).dsu.residency = s.dsu.residency ∧
    (syncKinds ks s).dsu.timer = s.dsu.timer ∧ (syncKinds ks s).alu.active = s.alu.active ∧
    (syncKinds ks s).alu.estop = s.alu.estop ∧ (syncKinds ks s).alu.duplicate = s.alu.duplicate ∧
    (syncKinds ks s).fpt.timer = s.fpt.timer ∧ (syncKinds ks s).fpt.fitted = s.fpt.fitted ∧
    (syncKinds ks s).fpt.inputs = s.fpt.inputs ∧ (syncKinds ks s).fpt.estopIn = s.fpt.estopIn ∧
    (syncKinds ks s).fpt.probe = s.fpt.probe ∧ (syncKinds ks s).fpt.forced = s.fpt.forced ∧
    (syncKinds ks s).lif.slot = s.lif.slot ∧ (syncKinds ks s).lif.seq = s.lif.seq ∧
    (syncKinds ks s).lif.idle = s.lif.idle ∧ (syncKinds ks s).lif.crcErrors = s.lif.crcErrors ∧
    (syncKinds ks s).lif.formatErrors = s.lif.formatErrors ∧
    (syncKinds ks s).lif.collisions = s.lif.collisions ∧ (syncKinds ks s).lif.diagCount = s.lif.diagCount ∧
    (syncKinds ks s).lif.timer = s.lif.timer ∧ (syncKinds ks s).lif.lineFault = s.lif.lineFault ∧
    (syncKinds ks s).lif.abandoned = s.lif.abandoned := by
  induction ks generalizing s with
  | nil => simp [syncKinds]
  | cons a l ih => simp [syncKinds, ih]

@[simp] theorem haltTest_fields (s : State) :
    (haltTest s).dsu.choice = s.dsu.choice ∧ (haltTest s).dsu.throttle = s.dsu.throttle ∧
    (haltTest s).dsu.consoleMax = s.dsu.consoleMax ∧ (haltTest s).dsu.proposed = s.dsu.proposed ∧
    (haltTest s).dsu.applied = s.dsu.applied ∧ (haltTest s).dsu.candidate = s.dsu.candidate ∧
    (haltTest s).dsu.rampCap = s.dsu.rampCap ∧ (haltTest s).dsu.startedAt = s.dsu.startedAt ∧
    (haltTest s).dsu.stoppedSince = s.dsu.stoppedSince ∧ (haltTest s).dsu.overtorque = s.dsu.overtorque ∧
    (haltTest s).dsu.jam = s.dsu.jam ∧ (haltTest s).dsu.ringMax = s.dsu.ringMax ∧
    (haltTest s).dsu.residency = s.dsu.residency ∧ (haltTest s).dsu.timer = s.dsu.timer ∧
    (haltTest s).thu.quality = s.thu.quality ∧ (haltTest s).thu.stroke = s.thu.stroke ∧
    (haltTest s).thu.rate = s.thu.rate ∧ (haltTest s).thu.history = s.thu.history ∧
    (haltTest s).thu.fresh = s.thu.fresh ∧ (haltTest s).thu.neighbours = s.thu.neighbours ∧
    (haltTest s).thu.counter = s.thu.counter ∧ (haltTest s).thu.set = s.thu.set ∧
    (haltTest s).thu.blind = s.thu.blind ∧ (haltTest s).thu.strokeEnd = s.thu.strokeEnd ∧
    (haltTest s).thu.rateTarget = s.thu.rateTarget ∧ (haltTest s).thu.bias = s.thu.bias ∧
    (haltTest s).thu.enable = s.thu.enable ∧ (haltTest s).thu.strokeFault = s.thu.strokeFault ∧
    (haltTest s).thu.denied = s.thu.denied ∧ (haltTest s).thu.skew = s.thu.skew ∧
    (haltTest s).thu.orphaned = s.thu.orphaned ∧ (haltTest s).bal.active = s.bal.active ∧
    (haltTest s).bal.timer = s.bal.timer ∧ (haltTest s).bal.manual = s.bal.manual ∧
    (haltTest s).bal.manualRef = s.bal.manualRef ∧ (haltTest s).bal.gateOpen = s.bal.gateOpen ∧
    (haltTest s).bal.acc = s.bal.acc ∧ (haltTest s).bal.set = s.bal.set ∧ (haltTest s).bal.blind = s.bal.blind ∧
    (haltTest s).bal.account = s.bal.account ∧ (haltTest s).bal.remE = s.bal.remE ∧
    (haltTest s).bal.remX = s.bal.remX ∧ (haltTest s).bal.eRing = s.bal.eRing ∧
    (haltTest s).bal.xRing = s.bal.xRing ∧ (haltTest s).bal.restarted = s.bal.restarted ∧
    (haltTest s).bal.pTarget = s.bal.pTarget ∧ (haltTest s).bal.band = s.bal.band ∧
    (haltTest s).bal.pMean = s.bal.pMean ∧ (haltTest s).bal.nP = s.bal.nP ∧
    (haltTest s).bal.overCount = s.bal.overCount ∧ (haltTest s).bal.recoverCount = s.bal.recoverCount ∧
    (haltTest s).bal.overdrawn = s.bal.overdrawn ∧ (haltTest s).bal.owed = s.bal.owed ∧
    (haltTest s).bal.pLow = s.bal.pLow ∧ (haltTest s).bal.pHigh = s.bal.pHigh ∧
    (haltTest s).bal.pressureBlind = s.bal.pressureBlind ∧ (haltTest s).alu.active = s.alu.active ∧
    (haltTest s).alu.entries = s.alu.entries ∧ (haltTest s).alu.estop = s.alu.estop ∧
    (haltTest s).alu.duplicate = s.alu.duplicate ∧ (haltTest s).fpt.timer = s.fpt.timer ∧
    (haltTest s).fpt.fitted = s.fpt.fitted ∧ (haltTest s).fpt.inputs = s.fpt.inputs ∧
    (haltTest s).fpt.estopIn = s.fpt.estopIn ∧ (haltTest s).fpt.probe = s.fpt.probe ∧
    (haltTest s).fpt.forced = s.fpt.forced ∧ (haltTest s).lif.slot = s.lif.slot ∧
    (haltTest s).lif.seq = s.lif.seq ∧ (haltTest s).lif.idle = s.lif.idle ∧
    (haltTest s).lif.crcErrors = s.lif.crcErrors ∧ (haltTest s).lif.formatErrors = s.lif.formatErrors ∧
    (haltTest s).lif.collisions = s.lif.collisions ∧ (haltTest s).lif.diagCount = s.lif.diagCount ∧
    (haltTest s).lif.timer = s.lif.timer ∧ (haltTest s).lif.lineFault = s.lif.lineFault ∧
    (haltTest s).lif.abandoned = s.lif.abandoned := by
  unfold haltTest; split <;> simp

@[simp] theorem forcingSync_fields (s : State) :
    (forcingSync s).gru.active = s.gru.active ∧ (forcingSync s).gru.line = s.gru.line ∧
    (forcingSync s).gru.queue = s.gru.queue ∧ (forcingSync s).gru.remG = s.gru.remG ∧
    (forcingSync s).gru.posted = s.gru.posted ∧ (forcingSync s).gru.delivered = s.gru.delivered ∧
    (forcingSync s).gru.writtenOff = s.gru.writtenOff ∧ (forcingSync s).gru.overrun = s.gru.overrun ∧
    (forcingSync s).gru.flushed = s.gru.flushed ∧ (forcingSync s).gru.postedRing = s.gru.postedRing ∧
    (forcingSync s).gru.deliveredRing = s.gru.deliveredRing ∧ (forcingSync s).gru.lag = s.gru.lag ∧
    (forcingSync s).gru.settingTimer = s.gru.settingTimer ∧ (forcingSync s).gru.blockTimer = s.gru.blockTimer ∧
    (forcingSync s).gru.flushStop = s.gru.flushStop ∧ (forcingSync s).alu.active = s.alu.active ∧
    (forcingSync s).alu.entries = s.alu.entries ∧ (forcingSync s).alu.estop = s.alu.estop ∧
    (forcingSync s).alu.duplicate = s.alu.duplicate ∧ (forcingSync s).fpt.timer = s.fpt.timer ∧
    (forcingSync s).fpt.fitted = s.fpt.fitted ∧ (forcingSync s).fpt.inputs = s.fpt.inputs ∧
    (forcingSync s).fpt.estopIn = s.fpt.estopIn ∧ (forcingSync s).fpt.probe = s.fpt.probe ∧
    (forcingSync s).fpt.written = s.fpt.written := by
  unfold forcingSync; split <;> simp

@[simp] theorem enableSync_fields (s : State) :
    (enableSync s).thu.group = s.thu.group ∧ (enableSync s).thu.pRef = s.thu.pRef ∧
    (enableSync s).thu.quality = s.thu.quality ∧ (enableSync s).thu.stroke = s.thu.stroke ∧
    (enableSync s).thu.rate = s.thu.rate ∧ (enableSync s).thu.history = s.thu.history ∧
    (enableSync s).thu.fresh = s.thu.fresh ∧ (enableSync s).thu.neighbours = s.thu.neighbours ∧
    (enableSync s).thu.counter = s.thu.counter ∧ (enableSync s).thu.set = s.thu.set ∧
    (enableSync s).thu.blind = s.thu.blind ∧ (enableSync s).thu.strokeEnd = s.thu.strokeEnd ∧
    (enableSync s).thu.rateTarget = s.thu.rateTarget ∧ (enableSync s).thu.bias = s.thu.bias ∧
    (enableSync s).thu.slot = s.thu.slot ∧ (enableSync s).thu.lastAnswer = s.thu.lastAnswer ∧
    (enableSync s).thu.strokeFault = s.thu.strokeFault ∧ (enableSync s).thu.denied = s.thu.denied ∧
    (enableSync s).thu.skew = s.thu.skew ∧ (enableSync s).thu.orphaned = s.thu.orphaned := by
  simp [enableSync]

@[simp] theorem gateTest_fields (s : State) :
    (gateTest s).thu.quality = s.thu.quality ∧ (gateTest s).thu.stroke = s.thu.stroke ∧
    (gateTest s).thu.rate = s.thu.rate ∧ (gateTest s).thu.history = s.thu.history ∧
    (gateTest s).thu.fresh = s.thu.fresh ∧ (gateTest s).thu.neighbours = s.thu.neighbours ∧
    (gateTest s).thu.counter = s.thu.counter ∧ (gateTest s).thu.set = s.thu.set ∧
    (gateTest s).thu.blind = s.thu.blind ∧ (gateTest s).thu.strokeEnd = s.thu.strokeEnd ∧
    (gateTest s).thu.rateTarget = s.thu.rateTarget ∧ (gateTest s).thu.bias = s.thu.bias ∧
    (gateTest s).thu.enable = s.thu.enable ∧ (gateTest s).thu.slot = s.thu.slot ∧
    (gateTest s).thu.lastAnswer = s.thu.lastAnswer ∧ (gateTest s).thu.strokeFault = s.thu.strokeFault ∧
    (gateTest s).thu.denied = s.thu.denied ∧ (gateTest s).thu.skew = s.thu.skew ∧
    (gateTest s).thu.orphaned = s.thu.orphaned ∧ (gateTest s).alu.active = s.alu.active ∧
    (gateTest s).alu.entries = s.alu.entries ∧ (gateTest s).alu.estop = s.alu.estop ∧
    (gateTest s).alu.duplicate = s.alu.duplicate ∧ (gateTest s).fpt.timer = s.fpt.timer ∧
    (gateTest s).fpt.fitted = s.fpt.fitted ∧ (gateTest s).fpt.inputs = s.fpt.inputs ∧
    (gateTest s).fpt.estopIn = s.fpt.estopIn ∧ (gateTest s).fpt.probe = s.fpt.probe ∧
    (gateTest s).fpt.forced = s.fpt.forced := by
  unfold gateTest; (repeat' split) <;> simp

@[simp] theorem settleOnce_fields (s : State) :
    (settleOnce s).dsu.choice = s.dsu.choice ∧ (settleOnce s).dsu.throttle = s.dsu.throttle ∧
    (settleOnce s).dsu.consoleMax = s.dsu.consoleMax ∧ (settleOnce s).dsu.proposed = s.dsu.proposed ∧
    (settleOnce s).dsu.applied = s.dsu.applied ∧ (settleOnce s).dsu.candidate = s.dsu.candidate ∧
    (settleOnce s).dsu.rampCap = s.dsu.rampCap ∧ (settleOnce s).dsu.startedAt = s.dsu.startedAt ∧
    (settleOnce s).dsu.stoppedSince = s.dsu.stoppedSince ∧ (settleOnce s).dsu.overtorque = s.dsu.overtorque ∧
    (settleOnce s).dsu.jam = s.dsu.jam ∧ (settleOnce s).dsu.ringMax = s.dsu.ringMax ∧
    (settleOnce s).dsu.residency = s.dsu.residency ∧ (settleOnce s).dsu.timer = s.dsu.timer ∧
    (settleOnce s).thu.quality = s.thu.quality ∧ (settleOnce s).thu.stroke = s.thu.stroke ∧
    (settleOnce s).thu.rate = s.thu.rate ∧ (settleOnce s).thu.history = s.thu.history ∧
    (settleOnce s).thu.fresh = s.thu.fresh ∧ (settleOnce s).thu.neighbours = s.thu.neighbours ∧
    (settleOnce s).thu.counter = s.thu.counter ∧ (settleOnce s).thu.set = s.thu.set ∧
    (settleOnce s).thu.blind = s.thu.blind ∧ (settleOnce s).thu.strokeEnd = s.thu.strokeEnd ∧
    (settleOnce s).thu.rateTarget = s.thu.rateTarget ∧ (settleOnce s).thu.bias = s.thu.bias ∧
    (settleOnce s).thu.strokeFault = s.thu.strokeFault ∧ (settleOnce s).thu.denied = s.thu.denied ∧
    (settleOnce s).thu.skew = s.thu.skew ∧ (settleOnce s).gru.active = s.gru.active ∧
    (settleOnce s).gru.line = s.gru.line ∧ (settleOnce s).gru.queue = s.gru.queue ∧
    (settleOnce s).gru.remG = s.gru.remG ∧ (settleOnce s).gru.posted = s.gru.posted ∧
    (settleOnce s).gru.delivered = s.gru.delivered ∧ (settleOnce s).gru.writtenOff = s.gru.writtenOff ∧
    (settleOnce s).gru.overrun = s.gru.overrun ∧ (settleOnce s).gru.flushed = s.gru.flushed ∧
    (settleOnce s).gru.postedRing = s.gru.postedRing ∧ (settleOnce s).gru.deliveredRing = s.gru.deliveredRing ∧
    (settleOnce s).gru.lag = s.gru.lag ∧ (settleOnce s).gru.settingTimer = s.gru.settingTimer ∧
    (settleOnce s).gru.blockTimer = s.gru.blockTimer ∧ (settleOnce s).gru.flushStop = s.gru.flushStop ∧
    (settleOnce s).bal.active = s.bal.active ∧ (settleOnce s).bal.timer = s.bal.timer ∧
    (settleOnce s).bal.manual = s.bal.manual ∧ (settleOnce s).bal.manualRef = s.bal.manualRef ∧
    (settleOnce s).bal.gateOpen = s.bal.gateOpen ∧ (settleOnce s).bal.acc = s.bal.acc ∧
    (settleOnce s).bal.set = s.bal.set ∧ (settleOnce s).bal.blind = s.bal.blind ∧
    (settleOnce s).bal.account = s.bal.account ∧ (settleOnce s).bal.remE = s.bal.remE ∧
    (settleOnce s).bal.remX = s.bal.remX ∧ (settleOnce s).bal.eRing = s.bal.eRing ∧
    (settleOnce s).bal.xRing = s.bal.xRing ∧ (settleOnce s).bal.restarted = s.bal.restarted ∧
    (settleOnce s).bal.pTarget = s.bal.pTarget ∧ (settleOnce s).bal.band = s.bal.band ∧
    (settleOnce s).bal.pMean = s.bal.pMean ∧ (settleOnce s).bal.nP = s.bal.nP ∧
    (settleOnce s).bal.overCount = s.bal.overCount ∧ (settleOnce s).bal.recoverCount = s.bal.recoverCount ∧
    (settleOnce s).bal.overdrawn = s.bal.overdrawn ∧ (settleOnce s).bal.owed = s.bal.owed ∧
    (settleOnce s).bal.pLow = s.bal.pLow ∧ (settleOnce s).bal.pHigh = s.bal.pHigh ∧
    (settleOnce s).bal.pressureBlind = s.bal.pressureBlind ∧ (settleOnce s).alu.active = s.alu.active ∧
    (settleOnce s).alu.estop = s.alu.estop ∧ (settleOnce s).alu.duplicate = s.alu.duplicate ∧
    (settleOnce s).fpt.timer = s.fpt.timer ∧ (settleOnce s).fpt.fitted = s.fpt.fitted ∧
    (settleOnce s).fpt.inputs = s.fpt.inputs ∧ (settleOnce s).fpt.estopIn = s.fpt.estopIn ∧
    (settleOnce s).fpt.probe = s.fpt.probe ∧ (settleOnce s).lif.slot = s.lif.slot ∧
    (settleOnce s).lif.seq = s.lif.seq ∧ (settleOnce s).lif.idle = s.lif.idle ∧
    (settleOnce s).lif.crcErrors = s.lif.crcErrors ∧ (settleOnce s).lif.formatErrors = s.lif.formatErrors ∧
    (settleOnce s).lif.collisions = s.lif.collisions ∧ (settleOnce s).lif.diagCount = s.lif.diagCount ∧
    (settleOnce s).lif.timer = s.lif.timer ∧ (settleOnce s).lif.lineFault = s.lif.lineFault ∧
    (settleOnce s).lif.abandoned = s.lif.abandoned := by
  simp [settleOnce]

@[simp] theorem settle_fields (s : State) :
    (settle s).dsu.choice = s.dsu.choice ∧ (settle s).dsu.throttle = s.dsu.throttle ∧
    (settle s).dsu.consoleMax = s.dsu.consoleMax ∧ (settle s).dsu.proposed = s.dsu.proposed ∧
    (settle s).dsu.applied = s.dsu.applied ∧ (settle s).dsu.candidate = s.dsu.candidate ∧
    (settle s).dsu.rampCap = s.dsu.rampCap ∧ (settle s).dsu.startedAt = s.dsu.startedAt ∧
    (settle s).dsu.stoppedSince = s.dsu.stoppedSince ∧ (settle s).dsu.overtorque = s.dsu.overtorque ∧
    (settle s).dsu.jam = s.dsu.jam ∧ (settle s).dsu.ringMax = s.dsu.ringMax ∧
    (settle s).dsu.residency = s.dsu.residency ∧ (settle s).dsu.timer = s.dsu.timer ∧
    (settle s).thu.quality = s.thu.quality ∧ (settle s).thu.stroke = s.thu.stroke ∧
    (settle s).thu.rate = s.thu.rate ∧ (settle s).thu.history = s.thu.history ∧
    (settle s).thu.fresh = s.thu.fresh ∧ (settle s).thu.neighbours = s.thu.neighbours ∧
    (settle s).thu.counter = s.thu.counter ∧ (settle s).thu.set = s.thu.set ∧
    (settle s).thu.blind = s.thu.blind ∧ (settle s).thu.strokeEnd = s.thu.strokeEnd ∧
    (settle s).thu.rateTarget = s.thu.rateTarget ∧ (settle s).thu.bias = s.thu.bias ∧
    (settle s).thu.strokeFault = s.thu.strokeFault ∧ (settle s).thu.denied = s.thu.denied ∧
    (settle s).thu.skew = s.thu.skew ∧ (settle s).gru.active = s.gru.active ∧ (settle s).gru.line = s.gru.line ∧
    (settle s).gru.queue = s.gru.queue ∧ (settle s).gru.remG = s.gru.remG ∧
    (settle s).gru.posted = s.gru.posted ∧ (settle s).gru.delivered = s.gru.delivered ∧
    (settle s).gru.writtenOff = s.gru.writtenOff ∧ (settle s).gru.overrun = s.gru.overrun ∧
    (settle s).gru.flushed = s.gru.flushed ∧ (settle s).gru.postedRing = s.gru.postedRing ∧
    (settle s).gru.deliveredRing = s.gru.deliveredRing ∧ (settle s).gru.lag = s.gru.lag ∧
    (settle s).gru.settingTimer = s.gru.settingTimer ∧ (settle s).gru.blockTimer = s.gru.blockTimer ∧
    (settle s).gru.flushStop = s.gru.flushStop ∧ (settle s).bal.active = s.bal.active ∧
    (settle s).bal.timer = s.bal.timer ∧ (settle s).bal.manual = s.bal.manual ∧
    (settle s).bal.manualRef = s.bal.manualRef ∧ (settle s).bal.gateOpen = s.bal.gateOpen ∧
    (settle s).bal.acc = s.bal.acc ∧ (settle s).bal.set = s.bal.set ∧ (settle s).bal.blind = s.bal.blind ∧
    (settle s).bal.account = s.bal.account ∧ (settle s).bal.remE = s.bal.remE ∧
    (settle s).bal.remX = s.bal.remX ∧ (settle s).bal.eRing = s.bal.eRing ∧ (settle s).bal.xRing = s.bal.xRing ∧
    (settle s).bal.restarted = s.bal.restarted ∧ (settle s).bal.pTarget = s.bal.pTarget ∧
    (settle s).bal.band = s.bal.band ∧ (settle s).bal.pMean = s.bal.pMean ∧ (settle s).bal.nP = s.bal.nP ∧
    (settle s).bal.overCount = s.bal.overCount ∧ (settle s).bal.recoverCount = s.bal.recoverCount ∧
    (settle s).bal.overdrawn = s.bal.overdrawn ∧ (settle s).bal.owed = s.bal.owed ∧
    (settle s).bal.pLow = s.bal.pLow ∧ (settle s).bal.pHigh = s.bal.pHigh ∧
    (settle s).bal.pressureBlind = s.bal.pressureBlind ∧ (settle s).alu.active = s.alu.active ∧
    (settle s).alu.estop = s.alu.estop ∧ (settle s).alu.duplicate = s.alu.duplicate ∧
    (settle s).fpt.timer = s.fpt.timer ∧ (settle s).fpt.fitted = s.fpt.fitted ∧
    (settle s).fpt.inputs = s.fpt.inputs ∧ (settle s).fpt.estopIn = s.fpt.estopIn ∧
    (settle s).fpt.probe = s.fpt.probe ∧ (settle s).lif.slot = s.lif.slot ∧ (settle s).lif.seq = s.lif.seq ∧
    (settle s).lif.idle = s.lif.idle ∧ (settle s).lif.crcErrors = s.lif.crcErrors ∧
    (settle s).lif.formatErrors = s.lif.formatErrors ∧ (settle s).lif.collisions = s.lif.collisions ∧
    (settle s).lif.diagCount = s.lif.diagCount ∧ (settle s).lif.timer = s.lif.timer ∧
    (settle s).lif.lineFault = s.lif.lineFault ∧
    (settle s).lif.abandoned = s.lif.abandoned := by
  simp [settle]

@[simp] theorem activateEstop_fields (s : State) :
    (activateEstop s).bal.active = s.bal.active ∧ (activateEstop s).bal.timer = s.bal.timer ∧
    (activateEstop s).bal.manual = s.bal.manual ∧ (activateEstop s).bal.manualRef = s.bal.manualRef ∧
    (activateEstop s).bal.gateOpen = s.bal.gateOpen ∧ (activateEstop s).bal.acc = s.bal.acc ∧
    (activateEstop s).bal.set = s.bal.set ∧ (activateEstop s).bal.blind = s.bal.blind ∧
    (activateEstop s).bal.account = s.bal.account ∧ (activateEstop s).bal.remE = s.bal.remE ∧
    (activateEstop s).bal.remX = s.bal.remX ∧ (activateEstop s).bal.eRing = s.bal.eRing ∧
    (activateEstop s).bal.xRing = s.bal.xRing ∧ (activateEstop s).bal.restarted = s.bal.restarted ∧
    (activateEstop s).bal.pTarget = s.bal.pTarget ∧ (activateEstop s).bal.band = s.bal.band ∧
    (activateEstop s).bal.pMean = s.bal.pMean ∧ (activateEstop s).bal.nP = s.bal.nP ∧
    (activateEstop s).bal.overCount = s.bal.overCount ∧
    (activateEstop s).bal.recoverCount = s.bal.recoverCount ∧
    (activateEstop s).bal.overdrawn = s.bal.overdrawn ∧ (activateEstop s).bal.owed = s.bal.owed ∧
    (activateEstop s).bal.pLow = s.bal.pLow ∧ (activateEstop s).bal.pHigh = s.bal.pHigh ∧
    (activateEstop s).bal.pressureBlind = s.bal.pressureBlind ∧ (activateEstop s).alu.active = s.alu.active ∧
    (activateEstop s).alu.entries = s.alu.entries ∧ (activateEstop s).alu.duplicate = s.alu.duplicate ∧
    (activateEstop s).fpt.timer = s.fpt.timer ∧ (activateEstop s).fpt.fitted = s.fpt.fitted ∧
    (activateEstop s).fpt.inputs = s.fpt.inputs ∧ (activateEstop s).fpt.estopIn = s.fpt.estopIn ∧
    (activateEstop s).fpt.probe = s.fpt.probe ∧ (activateEstop s).fpt.forced = s.fpt.forced := by
  unfold activateEstop; split <;> simp

@[simp] theorem duplicateNotice_fields (s : State) :
    (duplicateNotice s).alu.active = s.alu.active ∧ (duplicateNotice s).alu.entries = s.alu.entries ∧
    (duplicateNotice s).alu.flags = s.alu.flags ∧ (duplicateNotice s).alu.estop = s.alu.estop := by
  simp [duplicateNotice]

@[simp] theorem alarmsRestart_fields (s : State) :
    (alarmsRestart s).alu.active = s.alu.active ∧ (alarmsRestart s).alu.estop = s.alu.estop := by
  simp [alarmsRestart]

end Sys2Proof.Machine
end

