-- ==== Sys2Proof/Laws/PerInstr.lean ====
section
/-! SUPPORT. The family F: a well-formed frame command's characters, if they spell a valid frame at all, spell
one of the row's own kind. One lemma per command, and what follows: no well-formed command is turned away. -/

namespace Sys2Proof.Laws

open Sys2Proof Sys2Proof.Machine

/-- The characters a frame command carries; none for every other command, and for RECEPTION_EARLY_END, whose
characters are no whole frame. -/
def frameOf : Instr → Option Chars
  | .powerUp _ => none | .loadEnd _ => none | .faultJoinTimerExpiry => none
  | .listenJoinTimerExpiry => none | .listenEnd => none | .fieldSampleExpiry _ => none
  | .alarmPersistenceExpiry _ => none | .duplicateStationExpiry => none | .dutyEvaluationExpiry => none
  | .startWatchExpiry _ => none | .residencyTick => none | .balanceEvaluationExpiry => none
  | .statusTimerExpiry => none | .transmitStart _ => none | .frameSent => none | .collision => none
  | .receptionEarlyEnd _ => none
  | .status c => some c | .join c => some c | .retractGroup c => some c | .extendGroup c => some c
  | .reply c => some c | .alarm c => some c | .ringReport c => some c
  | .peerLiveTimeout _ => none | .peerSilentTimeout _ => none | .peerJoiningTimeout _ => none
  | .consoleSilentExpiry => none | .consoleLostExpiry => none | .stepTimerExpiry => none
  | .gripTimerExpiry => none | .retractTimerExpiry => none | .extendTimerExpiry => none
  | .answerWaitExpiry => none | .releaseTimerExpiry => none | .blockTimerExpiry => none
  | .settingTimerExpiry => none | .flushTimerExpiry => none
  | .keepalive c => some c | .setAdvance c => some c | .startAdvance c => some c | .pause c => some c
  | .startCutterhead c => some c | .stopCutterhead c => some c | .setMaxLevel c => some c
  | .build c => some c | .abortBuild c => some c | .resumeBuild c => some c
  | .setFacePressure c => some c | .screwStart c => some c | .screwStop c => some c
  | .screwMode c => some c | .gate c => some c | .groutFlush c => some c | .groutWriteOff c => some c
  | .ackAlarms c => some c | .clearFlags c => some c | .clearCounters c => some c | .resume c => some c
  | .restartStation c => some c | .setRing c => some c | .orderUndefinedKind c => some c

/-- What a frame carries is an ORDER of one kind code. -/
def isOrder (code : Nat) : Body → Bool
  | .order _ c _ => c == code
  | .status _ => false | .join _ => false | .request _ _ _ => false | .reply _ _ => false
  | .alarm _ _ _ => false | .ringReport _ _ _ _ => false

/-- What a frame carries is a REQUEST of one kind. -/
def isRequest (kind : RequestKind) : Body → Bool
  | .request k _ _ => decide (k = kind)
  | .status _ => false | .join _ => false | .order _ _ _ => false | .reply _ _ => false
  | .alarm _ _ _ => false | .ringReport _ _ _ _ => false

/-- What a frame carries is an ORDER that R187's first check refuses. -/
def isUndefinedOrder : Body → Bool
  | .order _ c params => undefinedOrder c params.length
  | .status _ => false | .join _ => false | .request _ _ _ => false | .reply _ _ => false
  | .alarm _ _ _ => false | .ringReport _ _ _ _ => false

/-- What a frame carries is of the row's own kind. -/
def rowOf : Instr → Body → Bool
  | .powerUp _, _ => true | .loadEnd _, _ => true | .faultJoinTimerExpiry, _ => true
  | .listenJoinTimerExpiry, _ => true | .listenEnd, _ => true | .fieldSampleExpiry _, _ => true
  | .alarmPersistenceExpiry _, _ => true | .duplicateStationExpiry, _ => true
  | .dutyEvaluationExpiry, _ => true | .startWatchExpiry _, _ => true | .residencyTick, _ => true
  | .balanceEvaluationExpiry, _ => true | .statusTimerExpiry, _ => true | .transmitStart _, _ => true
  | .frameSent, _ => true | .collision, _ => true | .receptionEarlyEnd _, _ => true
  | .status _, b => b.kindCode == 1 | .join _, b => b.kindCode == 2
  | .retractGroup _, b => isRequest .retract b | .extendGroup _, b => isRequest .extend b
  | .reply _, b => b.kindCode == 5 | .alarm _, b => b.kindCode == 6 | .ringReport _, b => b.kindCode == 7
  | .peerLiveTimeout _, _ => true | .peerSilentTimeout _, _ => true | .peerJoiningTimeout _, _ => true
  | .consoleSilentExpiry, _ => true | .consoleLostExpiry, _ => true | .stepTimerExpiry, _ => true
  | .gripTimerExpiry, _ => true | .retractTimerExpiry, _ => true | .extendTimerExpiry, _ => true
  | .answerWaitExpiry, _ => true | .releaseTimerExpiry, _ => true | .blockTimerExpiry, _ => true
  | .settingTimerExpiry, _ => true | .flushTimerExpiry, _ => true
  | .keepalive _, b => isOrder 1 b | .setAdvance _, b => isOrder 2 b | .startAdvance _, b => isOrder 3 b
  | .pause _, b => isOrder 4 b | .startCutterhead _, b => isOrder 5 b | .stopCutterhead _, b => isOrder 6 b
  | .setMaxLevel _, b => isOrder 7 b | .build _, b => isOrder 8 b | .abortBuild _, b => isOrder 9 b
  | .resumeBuild _, b => isOrder 10 b | .setFacePressure _, b => isOrder 11 b
  | .screwStart _, b => isOrder 12 b | .screwStop _, b => isOrder 13 b | .screwMode _, b => isOrder 14 b
  | .gate _, b => isOrder 15 b | .groutFlush _, b => isOrder 16 b | .groutWriteOff _, b => isOrder 17 b
  | .ackAlarms _, b => isOrder 18 b | .clearFlags _, b => isOrder 19 b | .clearCounters _, b => isOrder 20 b
  | .resume _, b => isOrder 21 b | .restartStation _, b => isOrder 22 b | .setRing _, b => isOrder 23 b
  | .orderUndefinedKind _, b => isUndefinedOrder b

/-- The statement of the family: a well-formed frame command judged valid carries its row's own kind. -/
def F.Statement (i : Instr) : Prop :=
  i.wellFormed = true → ∀ c, frameOf i = some c → ∀ nS h b, judge nS c = .valid h b → rowOf i b = true

/-- What a valid frame's judgement says: its body is read from its payload under the kind code of its header,
one of the seven. -/
theorem judge_valid {nS : Nat} {c : Chars} {h : Header} {b : Body} (hv : judge nS c = .valid h b) :
    frameKindCode c ≠ 0 ∧ frameKindCode c ≤ 7 ∧
      readBody nS (bits (byteAt c 1) 0 4) (frameKindCode c) ((c.take (5 + byteAt c 4)).drop 5) = some b ∧
      lengthAllowed nS (frameKindCode c) ((c.take (5 + byteAt c 4)).drop 5) = true ∧
      ((c.take (5 + byteAt c 4)).drop 5).length = byteAt c 4 := by
  have hk : frameKindCode c = bits (byteAt c 2) 0 4 := by simp [frameKindCode, bits, byteAt]
  unfold judge at hv
  split at hv
  · cases hv
  split at hv
  · cases hv
  rename_i hlen
  split at hv
  · cases hv
  simp only [checkForm] at hv
  split at hv
  · cases hv
  split at hv
  · cases hv
  split at hv
  · cases hv
  split at hv
  · cases hv
  rename_i hkind
  split at hv
  · cases hv
  split at hv
  · cases hv
  rename_i hallowed
  split at hv
  · cases hv
  rename_i hb
  simp only [Heard.valid.injEq] at hv
  obtain ⟨-, rfl⟩ := hv
  rw [hk]
  refine ⟨by omega, by omega, hb, by simpa using hallowed, ?_⟩
  simp only [frameLength] at hlen
  simp only [List.length_drop, List.length_take]
  omega

/-- The kind code under which a body is read is its own. -/
theorem readBody_kindCode {nS src k : Nat} {p : List Byte} {b : Body} (h : readBody nS src k p = some b) :
    b.kindCode = k := by
  unfold readBody at h
  split at h
  · simp at h; obtain ⟨_, _, rfl⟩ := h; rfl
  · simp at h; obtain ⟨_, _, rfl⟩ := h; rfl
  · simp only [readOrder] at h; split at h <;> cases h; rfl
  · simp [readRequest] at h; obtain ⟨_, _, rfl⟩ := h; rfl
  · simp [readReply] at h; obtain ⟨_, _, rfl⟩ := h; rfl
  · simp only [readAlarm] at h; split at h <;> cases h; rfl
  · simp only [readRingReport] at h
    split at h
    · simp at h; obtain ⟨_, _, rfl⟩ := h; rfl
    · cases h
  · cases h

/-- A byte of the payload is the frame's, five characters on. -/
theorem byteAt_payload (c : Chars) (k : Nat) (hk : k < byteAt c 4) :
    byteAt ((c.take (5 + byteAt c 4)).drop 5) k = byteAt c (5 + k) := by
  simp only [byteAt, List.getD_eq_getElem?_getD, List.getElem?_drop, List.getElem?_take]
  rw [if_pos (by simpa [byteAt] using hk)]

/-- A kind code of the seven that fits a row's is the row's. -/
theorem fitsKind_eq {code : Nat} {c : Chars} (hf : fitsKind code c = true) (h0 : frameKindCode c ≠ 0)
    (h7 : frameKindCode c ≤ 7) : frameKindCode c = code := by
  simp only [fitsKind, Bool.or_eq_true, beq_iff_eq, decide_eq_true_eq] at hf
  omega

/-- A valid frame that fits a kind carries it. -/
theorem valid_kind {code nS : Nat} {c : Chars} {h : Header} {b : Body} (hf : fitsKind code c = true)
    (hv : judge nS c = .valid h b) : b.kindCode = code := by
  obtain ⟨h0, h7, hb, -⟩ := judge_valid hv
  rw [readBody_kindCode hb, fitsKind_eq hf h0 h7]

/-- A valid frame that fits a request kind carries it. -/
theorem valid_request {k nS : Nat} {kind : RequestKind} {c : Chars} {h : Header} {b : Body}
    (hk : kind.code = k) (hf : fitsRequest k c = true) (hv : judge nS c = .valid h b) :
    isRequest kind b = true := by
  simp only [fitsRequest, Bool.and_eq_true] at hf
  obtain ⟨hf, hr⟩ := hf
  obtain ⟨h0, h7, hb, hl, hp⟩ := judge_valid hv
  have h4 := fitsKind_eq hf h0 h7
  rw [h4] at hb hl hr
  simp only [lengthAllowed, beq_iff_eq] at hl
  have hbyte := byteAt_payload c 0 (by omega)
  simp only [readBody, readRequest, hbyte, Option.map_eq_some_iff] at hb
  obtain ⟨a, ha, rfl⟩ := hb
  have hq : requestKindCode c = byteAt c (5 + 0) := rfl
  rw [← hq] at ha
  have hn : requestKindCode c = a.code := by
    revert ha
    unfold requestKindOfCode
    split <;> intro ha <;> simp at ha
    · subst ha; assumption
    · subst ha; assumption
  simp only [bne_self_eq_false, Bool.false_or, Bool.or_eq_true, beq_iff_eq, decide_eq_true_eq, hn,
    ← hk] at hr
  revert hr
  cases a <;> cases kind <;> simp [isRequest, RequestKind.code]

/-- What a valid ORDER carries, in terms of the frame's characters. -/
theorem valid_order {nS : Nat} {c : Chars} {h : Header} {b : Body} (hf : fitsKind 3 c = true)
    (hv : judge nS c = .valid h b) :
    frameKindCode c = 3 ∧ ∃ tag params, b = .order tag (orderKindCode c) params ∧
      params.length = (byteAt c 4 - 2) / 4 := by
  obtain ⟨h0, h7, hb, hl, hp⟩ := judge_valid hv
  have h3 := fitsKind_eq hf h0 h7
  rw [h3] at hb hl
  simp only [lengthAllowed, Bool.or_eq_true, beq_iff_eq] at hl
  have hbyte := byteAt_payload c 1 (by omega)
  simp only [readBody, readOrder, hbyte] at hb
  split at hb
  · cases hb
  · have hc : bits (byteAt c (5 + 1)) 0 5 = orderKindCode c := by simp [orderKindCode, bits, byteAt]
    rw [hc] at hb
    cases hb
    exact ⟨h3, _, _, rfl, by simp [readParams, hp]⟩

/-- A valid frame that fits an order kind carries it. -/
theorem valid_orderKind {code nS : Nat} {c : Chars} {h : Header} {b : Body} (hf : fitsOrder code c = true)
    (hv : judge nS c = .valid h b) : isOrder code b = true := by
  simp only [fitsOrder, Bool.and_eq_true] at hf
  obtain ⟨h3, tag, params, rfl, -⟩ := valid_order hf.1 hv
  simpa [h3, isOrder] using hf.2

/-- A valid frame that fits the row of undefined orders carries one. -/
theorem valid_undefinedOrder {nS : Nat} {c : Chars} {h : Header} {b : Body}
    (hf : fitsUndefinedOrder c = true) (hv : judge nS c = .valid h b) : isUndefinedOrder b = true := by
  simp only [fitsUndefinedOrder, Bool.and_eq_true] at hf
  obtain ⟨h3, tag, params, rfl, hlen⟩ := valid_order hf.1 hv
  simp only [h3, bne_self_eq_false, Bool.false_or] at hf
  simp only [isUndefinedOrder, hlen]
  exact hf.2

/-! ## One lemma per command -/

namespace F

theorem powerUp (straps : Straps) : Statement (.powerUp straps) :=
  fun _ _ hc => by cases hc

theorem loadEnd (read : Option ImageRead) : Statement (.loadEnd read) :=
  fun _ _ hc => by cases hc

theorem faultJoinTimerExpiry : Statement .faultJoinTimerExpiry :=
  fun _ _ hc => by cases hc

theorem listenJoinTimerExpiry : Statement .listenJoinTimerExpiry :=
  fun _ _ hc => by cases hc

theorem listenEnd : Statement .listenEnd :=
  fun _ _ hc => by cases hc

theorem fieldSampleExpiry (inputs : FieldInputs) : Statement (.fieldSampleExpiry inputs) :=
  fun _ _ hc => by cases hc

theorem alarmPersistenceExpiry (kind : AlarmKind) : Statement (.alarmPersistenceExpiry kind) :=
  fun _ _ hc => by cases hc

theorem duplicateStationExpiry : Statement .duplicateStationExpiry :=
  fun _ _ hc => by cases hc

theorem dutyEvaluationExpiry : Statement .dutyEvaluationExpiry :=
  fun _ _ hc => by cases hc

theorem startWatchExpiry (peer : Nat) : Statement (.startWatchExpiry peer) :=
  fun _ _ hc => by cases hc

theorem residencyTick : Statement .residencyTick :=
  fun _ _ hc => by cases hc

theorem balanceEvaluationExpiry : Statement .balanceEvaluationExpiry :=
  fun _ _ hc => by cases hc

theorem statusTimerExpiry : Statement .statusTimerExpiry :=
  fun _ _ hc => by cases hc

theorem transmitStart (idle : Nat) : Statement (.transmitStart idle) :=
  fun _ _ hc => by cases hc

theorem frameSent : Statement .frameSent :=
  fun _ _ hc => by cases hc

theorem collision : Statement .collision :=
  fun _ _ hc => by cases hc

theorem receptionEarlyEnd (chars : Chars) : Statement (.receptionEarlyEnd chars) :=
  fun _ _ hc => by cases hc

theorem status (chars : Chars) : Statement (.status chars) :=
  fun hf _ hc _ _ _ hv => by cases hc; exact beq_iff_eq.2 (valid_kind hf hv)

theorem join (chars : Chars) : Statement (.join chars) :=
  fun hf _ hc _ _ _ hv => by cases hc; exact beq_iff_eq.2 (valid_kind hf hv)

theorem retractGroup (chars : Chars) : Statement (.retractGroup chars) :=
  fun hf _ hc _ _ _ hv => by cases hc; exact valid_request rfl hf hv

theorem extendGroup (chars : Chars) : Statement (.extendGroup chars) :=
  fun hf _ hc _ _ _ hv => by cases hc; exact valid_request rfl hf hv

theorem reply (chars : Chars) : Statement (.reply chars) :=
  fun hf _ hc _ _ _ hv => by cases hc; exact beq_iff_eq.2 (valid_kind hf hv)

theorem alarm (chars : Chars) : Statement (.alarm chars) :=
  fun hf _ hc _ _ _ hv => by cases hc; exact beq_iff_eq.2 (valid_kind hf hv)

theorem ringReport (chars : Chars) : Statement (.ringReport chars) :=
  fun hf _ hc _ _ _ hv => by cases hc; exact beq_iff_eq.2 (valid_kind hf hv)

theorem peerLiveTimeout (peer : Nat) : Statement (.peerLiveTimeout peer) :=
  fun _ _ hc => by cases hc

theorem peerSilentTimeout (peer : Nat) : Statement (.peerSilentTimeout peer) :=
  fun _ _ hc => by cases hc

theorem peerJoiningTimeout (peer : Nat) : Statement (.peerJoiningTimeout peer) :=
  fun _ _ hc => by cases hc

theorem consoleSilentExpiry : Statement .consoleSilentExpiry :=
  fun _ _ hc => by cases hc

theorem consoleLostExpiry : Statement .consoleLostExpiry :=
  fun _ _ hc => by cases hc

theorem stepTimerExpiry : Statement .stepTimerExpiry :=
  fun _ _ hc => by cases hc

theorem gripTimerExpiry : Statement .gripTimerExpiry :=
  fun _ _ hc => by cases hc

theorem retractTimerExpiry : Statement .retractTimerExpiry :=
  fun _ _ hc => by cases hc

theorem extendTimerExpiry : Statement .extendTimerExpiry :=
  fun _ _ hc => by cases hc

theorem answerWaitExpiry : Statement .answerWaitExpiry :=
  fun _ _ hc => by cases hc

theorem releaseTimerExpiry : Statement .releaseTimerExpiry :=
  fun _ _ hc => by cases hc

theorem blockTimerExpiry : Statement .blockTimerExpiry :=
  fun _ _ hc => by cases hc

theorem settingTimerExpiry : Statement .settingTimerExpiry :=
  fun _ _ hc => by cases hc

theorem flushTimerExpiry : Statement .flushTimerExpiry :=
  fun _ _ hc => by cases hc

theorem keepalive (chars : Chars) : Statement (.keepalive chars) :=
  fun hf _ hc _ _ _ hv => by cases hc; exact valid_orderKind hf hv

theorem setAdvance (chars : Chars) : Statement (.setAdvance chars) :=
  fun hf _ hc _ _ _ hv => by cases hc; exact valid_orderKind hf hv

theorem startAdvance (chars : Chars) : Statement (.startAdvance chars) :=
  fun hf _ hc _ _ _ hv => by cases hc; exact valid_orderKind hf hv

theorem pause (chars : Chars) : Statement (.pause chars) :=
  fun hf _ hc _ _ _ hv => by cases hc; exact valid_orderKind hf hv

theorem startCutterhead (chars : Chars) : Statement (.startCutterhead chars) :=
  fun hf _ hc _ _ _ hv => by cases hc; exact valid_orderKind hf hv

theorem stopCutterhead (chars : Chars) : Statement (.stopCutterhead chars) :=
  fun hf _ hc _ _ _ hv => by cases hc; exact valid_orderKind hf hv

theorem setMaxLevel (chars : Chars) : Statement (.setMaxLevel chars) :=
  fun hf _ hc _ _ _ hv => by cases hc; exact valid_orderKind hf hv

theorem build (chars : Chars) : Statement (.build chars) :=
  fun hf _ hc _ _ _ hv => by cases hc; exact valid_orderKind hf hv

theorem abortBuild (chars : Chars) : Statement (.abortBuild chars) :=
  fun hf _ hc _ _ _ hv => by cases hc; exact valid_orderKind hf hv

theorem resumeBuild (chars : Chars) : Statement (.resumeBuild chars) :=
  fun hf _ hc _ _ _ hv => by cases hc; exact valid_orderKind hf hv

theorem setFacePressure (chars : Chars) : Statement (.setFacePressure chars) :=
  fun hf _ hc _ _ _ hv => by cases hc; exact valid_orderKind hf hv

theorem screwStart (chars : Chars) : Statement (.screwStart chars) :=
  fun hf _ hc _ _ _ hv => by cases hc; exact valid_orderKind hf hv

theorem screwStop (chars : Chars) : Statement (.screwStop chars) :=
  fun hf _ hc _ _ _ hv => by cases hc; exact valid_orderKind hf hv

theorem screwMode (chars : Chars) : Statement (.screwMode chars) :=
  fun hf _ hc _ _ _ hv => by cases hc; exact valid_orderKind hf hv

theorem gate (chars : Chars) : Statement (.gate chars) :=
  fun hf _ hc _ _ _ hv => by cases hc; exact valid_orderKind hf hv

theorem groutFlush (chars : Chars) : Statement (.groutFlush chars) :=
  fun hf _ hc _ _ _ hv => by cases hc; exact valid_orderKind hf hv

theorem groutWriteOff (chars : Chars) : Statement (.groutWriteOff chars) :=
  fun hf _ hc _ _ _ hv => by cases hc; exact valid_orderKind hf hv

theorem ackAlarms (chars : Chars) : Statement (.ackAlarms chars) :=
  fun hf _ hc _ _ _ hv => by cases hc; exact valid_orderKind hf hv

theorem clearFlags (chars : Chars) : Statement (.clearFlags chars) :=
  fun hf _ hc _ _ _ hv => by cases hc; exact valid_orderKind hf hv

theorem clearCounters (chars : Chars) : Statement (.clearCounters chars) :=
  fun hf _ hc _ _ _ hv => by cases hc; exact valid_orderKind hf hv

theorem resume (chars : Chars) : Statement (.resume chars) :=
  fun hf _ hc _ _ _ hv => by cases hc; exact valid_orderKind hf hv

theorem restartStation (chars : Chars) : Statement (.restartStation chars) :=
  fun hf _ hc _ _ _ hv => by cases hc; exact valid_orderKind hf hv

theorem setRing (chars : Chars) : Statement (.setRing chars) :=
  fun hf _ hc _ _ _ hv => by cases hc; exact valid_orderKind hf hv

theorem orderUndefinedKind (chars : Chars) : Statement (.orderUndefinedKind chars) :=
  fun hf _ hc _ _ _ hv => by cases hc; exact valid_undefinedOrder hf hv

end F

end Sys2Proof.Laws
end

