-- ==== Sys2Proof/Laws/Peers.lean ====
section
/-! SUPPORT. What each operation of Machine/Peers.lean leaves unchanged, block by block and, in the
blocks it changes, field by field. -/

namespace Sys2Proof.Machine

open Sys2Proof

@[simp] theorem holderLeaves_frame (j : Nat) (s : State) :
    (holderLeaves j s).pending = s.pending ∧ (holderLeaves j s).elapsed = s.elapsed ∧
    (holderLeaves j s).phase = s.phase ∧ (holderLeaves j s).pauseCause = s.pauseCause ∧
    (holderLeaves j s).ring = s.ring ∧ (holderLeaves j s).cfg = s.cfg ∧ (holderLeaves j s).ptb = s.ptb ∧
    (holderLeaves j s).oru = s.oru ∧ (holderLeaves j s).dsu = s.dsu ∧ (holderLeaves j s).bsq = s.bsq ∧
    (holderLeaves j s).gru = s.gru ∧ (holderLeaves j s).bal = s.bal ∧ (holderLeaves j s).lif = s.lif := by
  unfold holderLeaves; split <;> simp

@[simp] theorem presenceNotice_frame (j : Nat) (s : State) :
    (presenceNotice j s).pending = s.pending ∧ (presenceNotice j s).elapsed = s.elapsed ∧
    (presenceNotice j s).phase = s.phase ∧ (presenceNotice j s).pauseCause = s.pauseCause ∧
    (presenceNotice j s).ring = s.ring ∧ (presenceNotice j s).cfg = s.cfg ∧ (presenceNotice j s).oru = s.oru ∧
    (presenceNotice j s).gru = s.gru := by
  simp [presenceNotice]

@[simp] theorem changePeer_frame (j : Nat) (e : PeerEntry) (s : State) :
    (changePeer j e s).pending = s.pending ∧ (changePeer j e s).elapsed = s.elapsed ∧
    (changePeer j e s).phase = s.phase ∧ (changePeer j e s).pauseCause = s.pauseCause ∧
    (changePeer j e s).ring = s.ring ∧ (changePeer j e s).cfg = s.cfg ∧ (changePeer j e s).oru = s.oru ∧
    (changePeer j e s).gru = s.gru := by
  unfold changePeer; dsimp only; (repeat' split) <;> simp

@[simp] theorem compareRings_frame (h : RingNumber) (s : State) :
    (compareRings h s).pending = s.pending ∧ (compareRings h s).elapsed = s.elapsed ∧
    (compareRings h s).cfg = s.cfg ∧ (compareRings h s).ptb = s.ptb ∧ (compareRings h s).oru = s.oru ∧
    (compareRings h s).lif = s.lif := by
  unfold compareRings; (repeat' split) <;> simp

@[simp] theorem markHolderSeen_frame (r : StatusRecord) (s : State) :
    (markHolderSeen r s).pending = s.pending ∧ (markHolderSeen r s).elapsed = s.elapsed ∧
    (markHolderSeen r s).phase = s.phase ∧ (markHolderSeen r s).pauseCause = s.pauseCause ∧
    (markHolderSeen r s).ring = s.ring ∧ (markHolderSeen r s).cfg = s.cfg ∧ (markHolderSeen r s).ptb = s.ptb ∧
    (markHolderSeen r s).oru = s.oru ∧ (markHolderSeen r s).dsu = s.dsu ∧ (markHolderSeen r s).thu = s.thu ∧
    (markHolderSeen r s).gru = s.gru ∧ (markHolderSeen r s).bal = s.bal ∧ (markHolderSeen r s).alu = s.alu ∧
    (markHolderSeen r s).fpt = s.fpt ∧ (markHolderSeen r s).lif = s.lif := by
  unfold markHolderSeen; (repeat' split) <;> simp

@[simp] theorem buildEndHeard_frame (r : StatusRecord) (s : State) :
    (buildEndHeard r s).pending = s.pending ∧ (buildEndHeard r s).elapsed = s.elapsed ∧
    (buildEndHeard r s).ring = s.ring ∧ (buildEndHeard r s).cfg = s.cfg ∧ (buildEndHeard r s).ptb = s.ptb ∧
    (buildEndHeard r s).oru = s.oru ∧ (buildEndHeard r s).dsu = s.dsu ∧ (buildEndHeard r s).gru = s.gru ∧
    (buildEndHeard r s).bal = s.bal ∧ (buildEndHeard r s).lif = s.lif := by
  unfold buildEndHeard; split <;> simp

@[simp] theorem holderHeard_frame (j : Nat) (r : StatusRecord) (s : State) :
    (holderHeard j r s).pending = s.pending ∧ (holderHeard j r s).elapsed = s.elapsed ∧
    (holderHeard j r s).cfg = s.cfg ∧ (holderHeard j r s).ptb = s.ptb ∧ (holderHeard j r s).oru = s.oru ∧
    (holderHeard j r s).lif = s.lif := by
  unfold holderHeard; (repeat' split) <;> simp

@[simp] theorem countedNotice_frame (j : Nat) (r : StatusRecord) (s : State) :
    (countedNotice j r s).pending = s.pending ∧ (countedNotice j r s).elapsed = s.elapsed ∧
    (countedNotice j r s).cfg = s.cfg ∧ (countedNotice j r s).oru = s.oru ∧
    (countedNotice j r s).lif = s.lif := by
  simp [countedNotice]

@[simp] theorem peerStatus_frame (j : Nat) (seq : Tag) (r : StatusRecord) (s : State) :
    (peerStatus j seq r s).pending = s.pending ∧ (peerStatus j seq r s).elapsed = s.elapsed ∧
    (peerStatus j seq r s).cfg = s.cfg ∧ (peerStatus j seq r s).oru = s.oru := by
  unfold peerStatus; dsimp only; (repeat' split) <;> simp

@[simp] theorem peerJoin_frame (j : Nat) (seq : Tag) (r : JoinRecord) (s : State) :
    (peerJoin j seq r s).pending = s.pending ∧ (peerJoin j seq r s).elapsed = s.elapsed ∧
    (peerJoin j seq r s).phase = s.phase ∧ (peerJoin j seq r s).pauseCause = s.pauseCause ∧
    (peerJoin j seq r s).ring = s.ring ∧ (peerJoin j seq r s).cfg = s.cfg ∧ (peerJoin j seq r s).oru = s.oru ∧
    (peerJoin j seq r s).gru = s.gru := by
  simp [peerJoin]

@[simp] theorem peerOther_frame (j : Nat) (seq : Tag) (s : State) :
    (peerOther j seq s).pending = s.pending ∧ (peerOther j seq s).elapsed = s.elapsed ∧
    (peerOther j seq s).phase = s.phase ∧ (peerOther j seq s).pauseCause = s.pauseCause ∧
    (peerOther j seq s).ring = s.ring ∧ (peerOther j seq s).cfg = s.cfg ∧ (peerOther j seq s).oru = s.oru ∧
    (peerOther j seq s).gru = s.gru := by
  simp [peerOther]

@[simp] theorem consoleHeard_frame (s : State) :
    (consoleHeard s).pending = s.pending ∧ (consoleHeard s).elapsed = s.elapsed ∧
    (consoleHeard s).phase = s.phase ∧ (consoleHeard s).pauseCause = s.pauseCause ∧
    (consoleHeard s).ring = s.ring ∧ (consoleHeard s).cfg = s.cfg ∧ (consoleHeard s).oru = s.oru ∧
    (consoleHeard s).dsu = s.dsu ∧ (consoleHeard s).thu = s.thu ∧ (consoleHeard s).bsq = s.bsq ∧
    (consoleHeard s).gru = s.gru ∧ (consoleHeard s).bal = s.bal ∧ (consoleHeard s).alu = s.alu ∧
    (consoleHeard s).fpt = s.fpt ∧ (consoleHeard s).lif = s.lif := by
  refine ⟨?_, ?_, ?_, ?_, ?_, ?_, ?_, ?_, ?_, ?_, ?_, ?_, ?_, ?_, ?_⟩ <;> rfl

@[simp] theorem consoleLost_frame (s : State) :
    (consoleLost s).pending = s.pending ∧ (consoleLost s).elapsed = s.elapsed ∧
    (consoleLost s).phase = s.phase ∧ (consoleLost s).pauseCause = s.pauseCause ∧
    (consoleLost s).ring = s.ring ∧ (consoleLost s).cfg = s.cfg ∧ (consoleLost s).oru = s.oru ∧
    (consoleLost s).dsu = s.dsu ∧ (consoleLost s).gru = s.gru ∧ (consoleLost s).bal = s.bal := by
  unfold consoleLost; split <;> simp

@[simp] theorem peersRestart_frame (s : State) :
    (peersRestart s).pending = s.pending ∧ (peersRestart s).elapsed = s.elapsed ∧
    (peersRestart s).phase = s.phase ∧ (peersRestart s).pauseCause = s.pauseCause ∧
    (peersRestart s).ring = s.ring ∧ (peersRestart s).cfg = s.cfg ∧ (peersRestart s).oru = s.oru ∧
    (peersRestart s).dsu = s.dsu ∧ (peersRestart s).thu = s.thu ∧ (peersRestart s).bsq = s.bsq ∧
    (peersRestart s).gru = s.gru ∧ (peersRestart s).bal = s.bal ∧ (peersRestart s).alu = s.alu ∧
    (peersRestart s).fpt = s.fpt ∧ (peersRestart s).lif = s.lif := by
  refine ⟨?_, ?_, ?_, ?_, ?_, ?_, ?_, ?_, ?_, ?_, ?_, ?_, ?_, ?_, ?_⟩ <;> rfl

@[simp] theorem holderLeaves_fields (j : Nat) (s : State) :
    (holderLeaves j s).thu.quality = s.thu.quality ∧ (holderLeaves j s).thu.stroke = s.thu.stroke ∧
    (holderLeaves j s).thu.rate = s.thu.rate ∧ (holderLeaves j s).thu.history = s.thu.history ∧
    (holderLeaves j s).thu.fresh = s.thu.fresh ∧ (holderLeaves j s).thu.neighbours = s.thu.neighbours ∧
    (holderLeaves j s).thu.counter = s.thu.counter ∧ (holderLeaves j s).thu.set = s.thu.set ∧
    (holderLeaves j s).thu.blind = s.thu.blind ∧ (holderLeaves j s).thu.strokeEnd = s.thu.strokeEnd ∧
    (holderLeaves j s).thu.rateTarget = s.thu.rateTarget ∧ (holderLeaves j s).thu.bias = s.thu.bias ∧
    (holderLeaves j s).thu.enable = s.thu.enable ∧ (holderLeaves j s).thu.lastAnswer = s.thu.lastAnswer ∧
    (holderLeaves j s).thu.strokeFault = s.thu.strokeFault ∧ (holderLeaves j s).thu.denied = s.thu.denied ∧
    (holderLeaves j s).thu.skew = s.thu.skew ∧ (holderLeaves j s).alu.active = s.alu.active ∧
    (holderLeaves j s).alu.entries = s.alu.entries ∧ (holderLeaves j s).alu.estop = s.alu.estop ∧
    (holderLeaves j s).alu.duplicate = s.alu.duplicate ∧ (holderLeaves j s).fpt.timer = s.fpt.timer ∧
    (holderLeaves j s).fpt.fitted = s.fpt.fitted ∧ (holderLeaves j s).fpt.inputs = s.fpt.inputs ∧
    (holderLeaves j s).fpt.estopIn = s.fpt.estopIn ∧ (holderLeaves j s).fpt.probe = s.fpt.probe ∧
    (holderLeaves j s).fpt.forced = s.fpt.forced := by
  unfold holderLeaves; split <;> simp

@[simp] theorem presenceNotice_fields (j : Nat) (s : State) :
    (presenceNotice j s).ptb.console = s.ptb.console ∧
    (presenceNotice j s).ptb.endOfListen = s.ptb.endOfListen ∧
    (presenceNotice j s).ptb.listenEnd = s.ptb.listenEnd ∧
    (presenceNotice j s).dsu.cutterhead = s.dsu.cutterhead ∧ (presenceNotice j s).dsu.nr = s.dsu.nr ∧
    (presenceNotice j s).dsu.choice = s.dsu.choice ∧ (presenceNotice j s).dsu.downCount = s.dsu.downCount ∧
    (presenceNotice j s).dsu.upCount = s.dsu.upCount ∧ (presenceNotice j s).dsu.throttle = s.dsu.throttle ∧
    (presenceNotice j s).dsu.consoleMax = s.dsu.consoleMax ∧
    (presenceNotice j s).dsu.proposed = s.dsu.proposed ∧ (presenceNotice j s).dsu.startedAt = s.dsu.startedAt ∧
    (presenceNotice j s).dsu.overtorque = s.dsu.overtorque ∧ (presenceNotice j s).dsu.jam = s.dsu.jam ∧
    (presenceNotice j s).dsu.ringMax = s.dsu.ringMax ∧ (presenceNotice j s).dsu.residency = s.dsu.residency ∧
    (presenceNotice j s).dsu.timer = s.dsu.timer ∧ (presenceNotice j s).thu.quality = s.thu.quality ∧
    (presenceNotice j s).thu.stroke = s.thu.stroke ∧ (presenceNotice j s).thu.rate = s.thu.rate ∧
    (presenceNotice j s).thu.history = s.thu.history ∧ (presenceNotice j s).thu.fresh = s.thu.fresh ∧
    (presenceNotice j s).thu.neighbours = s.thu.neighbours ∧ (presenceNotice j s).thu.counter = s.thu.counter ∧
    (presenceNotice j s).thu.set = s.thu.set ∧ (presenceNotice j s).thu.blind = s.thu.blind ∧
    (presenceNotice j s).thu.strokeEnd = s.thu.strokeEnd ∧
    (presenceNotice j s).thu.rateTarget = s.thu.rateTarget ∧ (presenceNotice j s).thu.bias = s.thu.bias ∧
    (presenceNotice j s).thu.enable = s.thu.enable ∧ (presenceNotice j s).thu.strokeFault = s.thu.strokeFault ∧
    (presenceNotice j s).thu.denied = s.thu.denied ∧ (presenceNotice j s).thu.skew = s.thu.skew ∧
    (presenceNotice j s).bal.manual = s.bal.manual ∧ (presenceNotice j s).bal.manualRef = s.bal.manualRef ∧
    (presenceNotice j s).bal.gateOpen = s.bal.gateOpen ∧ (presenceNotice j s).bal.account = s.bal.account ∧
    (presenceNotice j s).bal.remE = s.bal.remE ∧ (presenceNotice j s).bal.remX = s.bal.remX ∧
    (presenceNotice j s).bal.eRing = s.bal.eRing ∧ (presenceNotice j s).bal.xRing = s.bal.xRing ∧
    (presenceNotice j s).bal.restarted = s.bal.restarted ∧ (presenceNotice j s).bal.pTarget = s.bal.pTarget ∧
    (presenceNotice j s).bal.band = s.bal.band ∧ (presenceNotice j s).alu.active = s.alu.active ∧
    (presenceNotice j s).alu.entries = s.alu.entries ∧ (presenceNotice j s).alu.estop = s.alu.estop ∧
    (presenceNotice j s).alu.duplicate = s.alu.duplicate ∧ (presenceNotice j s).fpt.timer = s.fpt.timer ∧
    (presenceNotice j s).fpt.fitted = s.fpt.fitted ∧ (presenceNotice j s).fpt.inputs = s.fpt.inputs ∧
    (presenceNotice j s).fpt.estopIn = s.fpt.estopIn ∧ (presenceNotice j s).fpt.probe = s.fpt.probe ∧
    (presenceNotice j s).fpt.forced = s.fpt.forced ∧ (presenceNotice j s).lif.slot = s.lif.slot ∧
    (presenceNotice j s).lif.seq = s.lif.seq ∧ (presenceNotice j s).lif.idle = s.lif.idle ∧
    (presenceNotice j s).lif.crcErrors = s.lif.crcErrors ∧
    (presenceNotice j s).lif.formatErrors = s.lif.formatErrors ∧
    (presenceNotice j s).lif.collisions = s.lif.collisions ∧
    (presenceNotice j s).lif.diagCount = s.lif.diagCount ∧ (presenceNotice j s).lif.timer = s.lif.timer ∧
    (presenceNotice j s).lif.lineFault = s.lif.lineFault ∧
    (presenceNotice j s).lif.abandoned = s.lif.abandoned := by
  simp [presenceNotice]

@[simp] theorem changePeer_fields (j : Nat) (e : PeerEntry) (s : State) :
    (changePeer j e s).ptb.console = s.ptb.console ∧ (changePeer j e s).ptb.endOfListen = s.ptb.endOfListen ∧
    (changePeer j e s).ptb.listenEnd = s.ptb.listenEnd ∧ (changePeer j e s).dsu.cutterhead = s.dsu.cutterhead ∧
    (changePeer j e s).dsu.nr = s.dsu.nr ∧ (changePeer j e s).dsu.choice = s.dsu.choice ∧
    (changePeer j e s).dsu.downCount = s.dsu.downCount ∧ (changePeer j e s).dsu.upCount = s.dsu.upCount ∧
    (changePeer j e s).dsu.throttle = s.dsu.throttle ∧ (changePeer j e s).dsu.consoleMax = s.dsu.consoleMax ∧
    (changePeer j e s).dsu.proposed = s.dsu.proposed ∧ (changePeer j e s).dsu.startedAt = s.dsu.startedAt ∧
    (changePeer j e s).dsu.overtorque = s.dsu.overtorque ∧ (changePeer j e s).dsu.jam = s.dsu.jam ∧
    (changePeer j e s).dsu.ringMax = s.dsu.ringMax ∧ (changePeer j e s).dsu.residency = s.dsu.residency ∧
    (changePeer j e s).dsu.timer = s.dsu.timer ∧ (changePeer j e s).thu.quality = s.thu.quality ∧
    (changePeer j e s).thu.stroke = s.thu.stroke ∧ (changePeer j e s).thu.rate = s.thu.rate ∧
    (changePeer j e s).thu.history = s.thu.history ∧ (changePeer j e s).thu.fresh = s.thu.fresh ∧
    (changePeer j e s).thu.neighbours = s.thu.neighbours ∧ (changePeer j e s).thu.counter = s.thu.counter ∧
    (changePeer j e s).thu.set = s.thu.set ∧ (changePeer j e s).thu.blind = s.thu.blind ∧
    (changePeer j e s).thu.strokeEnd = s.thu.strokeEnd ∧ (changePeer j e s).thu.rateTarget = s.thu.rateTarget ∧
    (changePeer j e s).thu.bias = s.thu.bias ∧ (changePeer j e s).thu.enable = s.thu.enable ∧
    (changePeer j e s).thu.strokeFault = s.thu.strokeFault ∧ (changePeer j e s).thu.denied = s.thu.denied ∧
    (changePeer j e s).thu.skew = s.thu.skew ∧ (changePeer j e s).bal.manual = s.bal.manual ∧
    (changePeer j e s).bal.manualRef = s.bal.manualRef ∧ (changePeer j e s).bal.gateOpen = s.bal.gateOpen ∧
    (changePeer j e s).bal.account = s.bal.account ∧ (changePeer j e s).bal.remE = s.bal.remE ∧
    (changePeer j e s).bal.remX = s.bal.remX ∧ (changePeer j e s).bal.eRing = s.bal.eRing ∧
    (changePeer j e s).bal.xRing = s.bal.xRing ∧ (changePeer j e s).bal.restarted = s.bal.restarted ∧
    (changePeer j e s).bal.pTarget = s.bal.pTarget ∧ (changePeer j e s).bal.band = s.bal.band ∧
    (changePeer j e s).alu.active = s.alu.active ∧ (changePeer j e s).alu.entries = s.alu.entries ∧
    (changePeer j e s).alu.estop = s.alu.estop ∧ (changePeer j e s).alu.duplicate = s.alu.duplicate ∧
    (changePeer j e s).fpt.timer = s.fpt.timer ∧ (changePeer j e s).fpt.fitted = s.fpt.fitted ∧
    (changePeer j e s).fpt.inputs = s.fpt.inputs ∧ (changePeer j e s).fpt.estopIn = s.fpt.estopIn ∧
    (changePeer j e s).fpt.probe = s.fpt.probe ∧ (changePeer j e s).fpt.forced = s.fpt.forced ∧
    (changePeer j e s).lif.slot = s.lif.slot ∧ (changePeer j e s).lif.seq = s.lif.seq ∧
    (changePeer j e s).lif.idle = s.lif.idle ∧ (changePeer j e s).lif.crcErrors = s.lif.crcErrors ∧
    (changePeer j e s).lif.formatErrors = s.lif.formatErrors ∧
    (changePeer j e s).lif.collisions = s.lif.collisions ∧ (changePeer j e s).lif.diagCount = s.lif.diagCount ∧
    (changePeer j e s).lif.timer = s.lif.timer ∧ (changePeer j e s).lif.lineFault = s.lif.lineFault ∧
    (changePeer j e s).lif.abandoned = s.lif.abandoned := by
  unfold changePeer; dsimp only; (repeat' split) <;> simp

@[simp] theorem compareRings_fields (h : RingNumber) (s : State) :
    (compareRings h s).dsu.cutterhead = s.dsu.cutterhead ∧ (compareRings h s).dsu.nr = s.dsu.nr ∧
    (compareRings h s).dsu.choice = s.dsu.choice ∧ (compareRings h s).dsu.downCount = s.dsu.downCount ∧
    (compareRings h s).dsu.upCount = s.dsu.upCount ∧ (compareRings h s).dsu.throttle = s.dsu.throttle ∧
    (compareRings h s).dsu.consoleMax = s.dsu.consoleMax ∧ (compareRings h s).dsu.proposed = s.dsu.proposed ∧
    (compareRings h s).dsu.applied = s.dsu.applied ∧ (compareRings h s).dsu.candidate = s.dsu.candidate ∧
    (compareRings h s).dsu.changing = s.dsu.changing ∧ (compareRings h s).dsu.rampCap = s.dsu.rampCap ∧
    (compareRings h s).dsu.startedAt = s.dsu.startedAt ∧
    (compareRings h s).dsu.stoppedSince = s.dsu.stoppedSince ∧
    (compareRings h s).dsu.overtorque = s.dsu.overtorque ∧ (compareRings h s).dsu.jam = s.dsu.jam ∧
    (compareRings h s).dsu.timer = s.dsu.timer ∧ (compareRings h s).thu.quality = s.thu.quality ∧
    (compareRings h s).thu.stroke = s.thu.stroke ∧ (compareRings h s).thu.rate = s.thu.rate ∧
    (compareRings h s).thu.history = s.thu.history ∧ (compareRings h s).thu.fresh = s.thu.fresh ∧
    (compareRings h s).thu.neighbours = s.thu.neighbours ∧ (compareRings h s).thu.set = s.thu.set ∧
    (compareRings h s).thu.blind = s.thu.blind ∧ (compareRings h s).thu.rateTarget = s.thu.rateTarget ∧
    (compareRings h s).thu.bias = s.thu.bias ∧ (compareRings h s).thu.enable = s.thu.enable ∧
    (compareRings h s).thu.lastAnswer = s.thu.lastAnswer ∧
    (compareRings h s).thu.strokeFault = s.thu.strokeFault ∧ (compareRings h s).thu.denied = s.thu.denied ∧
    (compareRings h s).thu.skew = s.thu.skew ∧ (compareRings h s).thu.orphaned = s.thu.orphaned ∧
    (compareRings h s).bsq.state = s.bsq.state ∧ (compareRings h s).bsq.cursor = s.bsq.cursor ∧
    (compareRings h s).bsq.cursorRing = s.bsq.cursorRing ∧ (compareRings h s).bsq.progress = s.bsq.progress ∧
    (compareRings h s).bsq.request = s.bsq.request ∧ (compareRings h s).bsq.issued = s.bsq.issued ∧
    (compareRings h s).bsq.retraction = s.bsq.retraction ∧ (compareRings h s).bsq.nextTag = s.bsq.nextTag ∧
    (compareRings h s).bsq.buildStart = s.bsq.buildStart ∧ (compareRings h s).bsq.placed = s.bsq.placed ∧
    (compareRings h s).bsq.substituted = s.bsq.substituted ∧
    (compareRings h s).bsq.stepTimer = s.bsq.stepTimer ∧ (compareRings h s).bsq.gripTimer = s.bsq.gripTimer ∧
    (compareRings h s).bsq.retractTimer = s.bsq.retractTimer ∧
    (compareRings h s).bsq.extendTimer = s.bsq.extendTimer ∧
    (compareRings h s).bsq.releaseTimer = s.bsq.releaseTimer ∧
    (compareRings h s).bsq.answerWait = s.bsq.answerWait ∧ (compareRings h s).bsq.timedOut = s.bsq.timedOut ∧
    (compareRings h s).bsq.unanswered = s.bsq.unanswered ∧ (compareRings h s).gru.active = s.gru.active ∧
    (compareRings h s).gru.line = s.gru.line ∧ (compareRings h s).gru.remG = s.gru.remG ∧
    (compareRings h s).gru.posted = s.gru.posted ∧ (compareRings h s).gru.delivered = s.gru.delivered ∧
    (compareRings h s).gru.writtenOff = s.gru.writtenOff ∧ (compareRings h s).gru.overrun = s.gru.overrun ∧
    (compareRings h s).gru.flushed = s.gru.flushed ∧ (compareRings h s).gru.lag = s.gru.lag ∧
    (compareRings h s).gru.settingTimer = s.gru.settingTimer ∧
    (compareRings h s).gru.blockTimer = s.gru.blockTimer ∧
    (compareRings h s).gru.flushTimer = s.gru.flushTimer ∧ (compareRings h s).gru.flushRun = s.gru.flushRun ∧
    (compareRings h s).gru.flushStop = s.gru.flushStop ∧ (compareRings h s).bal.active = s.bal.active ∧
    (compareRings h s).bal.timer = s.bal.timer ∧ (compareRings h s).bal.conveyor = s.bal.conveyor ∧
    (compareRings h s).bal.manual = s.bal.manual ∧ (compareRings h s).bal.manualRef = s.bal.manualRef ∧
    (compareRings h s).bal.gateOpen = s.bal.gateOpen ∧ (compareRings h s).bal.stopHold = s.bal.stopHold ∧
    (compareRings h s).bal.nCmd = s.bal.nCmd ∧ (compareRings h s).bal.acc = s.bal.acc ∧
    (compareRings h s).bal.set = s.bal.set ∧ (compareRings h s).bal.blind = s.bal.blind ∧
    (compareRings h s).bal.account = s.bal.account ∧ (compareRings h s).bal.remE = s.bal.remE ∧
    (compareRings h s).bal.remX = s.bal.remX ∧ (compareRings h s).bal.pTarget = s.bal.pTarget ∧
    (compareRings h s).bal.band = s.bal.band ∧ (compareRings h s).bal.pMean = s.bal.pMean ∧
    (compareRings h s).bal.nP = s.bal.nP ∧ (compareRings h s).bal.overCount = s.bal.overCount ∧
    (compareRings h s).bal.recoverCount = s.bal.recoverCount ∧
    (compareRings h s).bal.overdrawn = s.bal.overdrawn ∧ (compareRings h s).bal.owed = s.bal.owed ∧
    (compareRings h s).bal.pLow = s.bal.pLow ∧ (compareRings h s).bal.pHigh = s.bal.pHigh ∧
    (compareRings h s).bal.pressureBlind = s.bal.pressureBlind ∧ (compareRings h s).alu.active = s.alu.active ∧
    (compareRings h s).alu.entries = s.alu.entries ∧ (compareRings h s).alu.estop = s.alu.estop ∧
    (compareRings h s).alu.duplicate = s.alu.duplicate ∧ (compareRings h s).fpt.timer = s.fpt.timer ∧
    (compareRings h s).fpt.fitted = s.fpt.fitted ∧ (compareRings h s).fpt.inputs = s.fpt.inputs ∧
    (compareRings h s).fpt.estopIn = s.fpt.estopIn ∧ (compareRings h s).fpt.probe = s.fpt.probe ∧
    (compareRings h s).fpt.forced = s.fpt.forced := by
  unfold compareRings; (repeat' split) <;> simp

@[simp] theorem markHolderSeen_fields (r : StatusRecord) (s : State) :
    (markHolderSeen r s).bsq.state = s.bsq.state ∧ (markHolderSeen r s).bsq.cursor = s.bsq.cursor ∧
    (markHolderSeen r s).bsq.cursorRing = s.bsq.cursorRing ∧
    (markHolderSeen r s).bsq.progress = s.bsq.progress ∧ (markHolderSeen r s).bsq.request = s.bsq.request ∧
    (markHolderSeen r s).bsq.issued = s.bsq.issued ∧ (markHolderSeen r s).bsq.retraction = s.bsq.retraction ∧
    (markHolderSeen r s).bsq.nextTag = s.bsq.nextTag ∧ (markHolderSeen r s).bsq.buildStart = s.bsq.buildStart ∧
    (markHolderSeen r s).bsq.placed = s.bsq.placed ∧ (markHolderSeen r s).bsq.substituted = s.bsq.substituted ∧
    (markHolderSeen r s).bsq.stepTimer = s.bsq.stepTimer ∧
    (markHolderSeen r s).bsq.gripTimer = s.bsq.gripTimer ∧
    (markHolderSeen r s).bsq.retractTimer = s.bsq.retractTimer ∧
    (markHolderSeen r s).bsq.extendTimer = s.bsq.extendTimer ∧
    (markHolderSeen r s).bsq.releaseTimer = s.bsq.releaseTimer ∧
    (markHolderSeen r s).bsq.answerWait = s.bsq.answerWait ∧
    (markHolderSeen r s).bsq.timedOut = s.bsq.timedOut ∧
    (markHolderSeen r s).bsq.unanswered = s.bsq.unanswered := by
  unfold markHolderSeen; (repeat' split) <;> simp

@[simp] theorem buildEndHeard_fields (r : StatusRecord) (s : State) :
    (buildEndHeard r s).thu.quality = s.thu.quality ∧ (buildEndHeard r s).thu.stroke = s.thu.stroke ∧
    (buildEndHeard r s).thu.rate = s.thu.rate ∧ (buildEndHeard r s).thu.history = s.thu.history ∧
    (buildEndHeard r s).thu.fresh = s.thu.fresh ∧ (buildEndHeard r s).thu.neighbours = s.thu.neighbours ∧
    (buildEndHeard r s).thu.counter = s.thu.counter ∧ (buildEndHeard r s).thu.set = s.thu.set ∧
    (buildEndHeard r s).thu.blind = s.thu.blind ∧ (buildEndHeard r s).thu.strokeEnd = s.thu.strokeEnd ∧
    (buildEndHeard r s).thu.rateTarget = s.thu.rateTarget ∧ (buildEndHeard r s).thu.bias = s.thu.bias ∧
    (buildEndHeard r s).thu.enable = s.thu.enable ∧ (buildEndHeard r s).thu.lastAnswer = s.thu.lastAnswer ∧
    (buildEndHeard r s).thu.strokeFault = s.thu.strokeFault ∧ (buildEndHeard r s).thu.denied = s.thu.denied ∧
    (buildEndHeard r s).thu.skew = s.thu.skew ∧ (buildEndHeard r s).thu.orphaned = s.thu.orphaned ∧
    (buildEndHeard r s).bsq.state = s.bsq.state ∧ (buildEndHeard r s).bsq.cursor = s.bsq.cursor ∧
    (buildEndHeard r s).bsq.cursorRing = s.bsq.cursorRing ∧ (buildEndHeard r s).bsq.progress = s.bsq.progress ∧
    (buildEndHeard r s).bsq.request = s.bsq.request ∧ (buildEndHeard r s).bsq.issued = s.bsq.issued ∧
    (buildEndHeard r s).bsq.retraction = s.bsq.retraction ∧ (buildEndHeard r s).bsq.nextTag = s.bsq.nextTag ∧
    (buildEndHeard r s).bsq.buildStart = s.bsq.buildStart ∧ (buildEndHeard r s).bsq.placed = s.bsq.placed ∧
    (buildEndHeard r s).bsq.substituted = s.bsq.substituted ∧
    (buildEndHeard r s).bsq.stepTimer = s.bsq.stepTimer ∧ (buildEndHeard r s).bsq.gripTimer = s.bsq.gripTimer ∧
    (buildEndHeard r s).bsq.retractTimer = s.bsq.retractTimer ∧
    (buildEndHeard r s).bsq.extendTimer = s.bsq.extendTimer ∧
    (buildEndHeard r s).bsq.releaseTimer = s.bsq.releaseTimer ∧
    (buildEndHeard r s).bsq.answerWait = s.bsq.answerWait ∧ (buildEndHeard r s).bsq.timedOut = s.bsq.timedOut ∧
    (buildEndHeard r s).bsq.unanswered = s.bsq.unanswered ∧ (buildEndHeard r s).alu.active = s.alu.active ∧
    (buildEndHeard r s).alu.entries = s.alu.entries ∧ (buildEndHeard r s).alu.estop = s.alu.estop ∧
    (buildEndHeard r s).alu.duplicate = s.alu.duplicate ∧ (buildEndHeard r s).fpt.timer = s.fpt.timer ∧
    (buildEndHeard r s).fpt.fitted = s.fpt.fitted ∧ (buildEndHeard r s).fpt.inputs = s.fpt.inputs ∧
    (buildEndHeard r s).fpt.estopIn = s.fpt.estopIn ∧ (buildEndHeard r s).fpt.probe = s.fpt.probe ∧
    (buildEndHeard r s).fpt.forced = s.fpt.forced := by
  unfold buildEndHeard; split <;> simp

@[simp] theorem holderHeard_fields (j : Nat) (r : StatusRecord) (s : State) :
    (holderHeard j r s).dsu.cutterhead = s.dsu.cutterhead ∧ (holderHeard j r s).dsu.nr = s.dsu.nr ∧
    (holderHeard j r s).dsu.choice = s.dsu.choice ∧ (holderHeard j r s).dsu.downCount = s.dsu.downCount ∧
    (holderHeard j r s).dsu.upCount = s.dsu.upCount ∧ (holderHeard j r s).dsu.throttle = s.dsu.throttle ∧
    (holderHeard j r s).dsu.consoleMax = s.dsu.consoleMax ∧ (holderHeard j r s).dsu.proposed = s.dsu.proposed ∧
    (holderHeard j r s).dsu.applied = s.dsu.applied ∧ (holderHeard j r s).dsu.candidate = s.dsu.candidate ∧
    (holderHeard j r s).dsu.changing = s.dsu.changing ∧ (holderHeard j r s).dsu.rampCap = s.dsu.rampCap ∧
    (holderHeard j r s).dsu.startedAt = s.dsu.startedAt ∧
    (holderHeard j r s).dsu.stoppedSince = s.dsu.stoppedSince ∧
    (holderHeard j r s).dsu.overtorque = s.dsu.overtorque ∧ (holderHeard j r s).dsu.jam = s.dsu.jam ∧
    (holderHeard j r s).dsu.timer = s.dsu.timer ∧ (holderHeard j r s).thu.quality = s.thu.quality ∧
    (holderHeard j r s).thu.stroke = s.thu.stroke ∧ (holderHeard j r s).thu.rate = s.thu.rate ∧
    (holderHeard j r s).thu.history = s.thu.history ∧ (holderHeard j r s).thu.fresh = s.thu.fresh ∧
    (holderHeard j r s).thu.neighbours = s.thu.neighbours ∧ (holderHeard j r s).thu.set = s.thu.set ∧
    (holderHeard j r s).thu.blind = s.thu.blind ∧ (holderHeard j r s).thu.rateTarget = s.thu.rateTarget ∧
    (holderHeard j r s).thu.bias = s.thu.bias ∧ (holderHeard j r s).thu.enable = s.thu.enable ∧
    (holderHeard j r s).thu.lastAnswer = s.thu.lastAnswer ∧
    (holderHeard j r s).thu.strokeFault = s.thu.strokeFault ∧ (holderHeard j r s).thu.denied = s.thu.denied ∧
    (holderHeard j r s).thu.skew = s.thu.skew ∧ (holderHeard j r s).thu.orphaned = s.thu.orphaned ∧
    (holderHeard j r s).bsq.state = s.bsq.state ∧ (holderHeard j r s).bsq.cursor = s.bsq.cursor ∧
    (holderHeard j r s).bsq.cursorRing = s.bsq.cursorRing ∧ (holderHeard j r s).bsq.progress = s.bsq.progress ∧
    (holderHeard j r s).bsq.request = s.bsq.request ∧ (holderHeard j r s).bsq.issued = s.bsq.issued ∧
    (holderHeard j r s).bsq.retraction = s.bsq.retraction ∧ (holderHeard j r s).bsq.nextTag = s.bsq.nextTag ∧
    (holderHeard j r s).bsq.buildStart = s.bsq.buildStart ∧ (holderHeard j r s).bsq.placed = s.bsq.placed ∧
    (holderHeard j r s).bsq.substituted = s.bsq.substituted ∧
    (holderHeard j r s).bsq.stepTimer = s.bsq.stepTimer ∧ (holderHeard j r s).bsq.gripTimer = s.bsq.gripTimer ∧
    (holderHeard j r s).bsq.retractTimer = s.bsq.retractTimer ∧
    (holderHeard j r s).bsq.extendTimer = s.bsq.extendTimer ∧
    (holderHeard j r s).bsq.releaseTimer = s.bsq.releaseTimer ∧
    (holderHeard j r s).bsq.answerWait = s.bsq.answerWait ∧ (holderHeard j r s).bsq.timedOut = s.bsq.timedOut ∧
    (holderHeard j r s).bsq.unanswered = s.bsq.unanswered ∧ (holderHeard j r s).gru.active = s.gru.active ∧
    (holderHeard j r s).gru.line = s.gru.line ∧ (holderHeard j r s).gru.remG = s.gru.remG ∧
    (holderHeard j r s).gru.posted = s.gru.posted ∧ (holderHeard j r s).gru.delivered = s.gru.delivered ∧
    (holderHeard j r s).gru.writtenOff = s.gru.writtenOff ∧ (holderHeard j r s).gru.overrun = s.gru.overrun ∧
    (holderHeard j r s).gru.flushed = s.gru.flushed ∧ (holderHeard j r s).gru.lag = s.gru.lag ∧
    (holderHeard j r s).gru.settingTimer = s.gru.settingTimer ∧
    (holderHeard j r s).gru.blockTimer = s.gru.blockTimer ∧
    (holderHeard j r s).gru.flushTimer = s.gru.flushTimer ∧ (holderHeard j r s).gru.flushRun = s.gru.flushRun ∧
    (holderHeard j r s).gru.flushStop = s.gru.flushStop ∧ (holderHeard j r s).bal.active = s.bal.active ∧
    (holderHeard j r s).bal.timer = s.bal.timer ∧ (holderHeard j r s).bal.conveyor = s.bal.conveyor ∧
    (holderHeard j r s).bal.manual = s.bal.manual ∧ (holderHeard j r s).bal.manualRef = s.bal.manualRef ∧
    (holderHeard j r s).bal.gateOpen = s.bal.gateOpen ∧ (holderHeard j r s).bal.stopHold = s.bal.stopHold ∧
    (holderHeard j r s).bal.nCmd = s.bal.nCmd ∧ (holderHeard j r s).bal.acc = s.bal.acc ∧
    (holderHeard j r s).bal.set = s.bal.set ∧ (holderHeard j r s).bal.blind = s.bal.blind ∧
    (holderHeard j r s).bal.account = s.bal.account ∧ (holderHeard j r s).bal.remE = s.bal.remE ∧
    (holderHeard j r s).bal.remX = s.bal.remX ∧ (holderHeard j r s).bal.pTarget = s.bal.pTarget ∧
    (holderHeard j r s).bal.band = s.bal.band ∧ (holderHeard j r s).bal.pMean = s.bal.pMean ∧
    (holderHeard j r s).bal.nP = s.bal.nP ∧ (holderHeard j r s).bal.overCount = s.bal.overCount ∧
    (holderHeard j r s).bal.recoverCount = s.bal.recoverCount ∧
    (holderHeard j r s).bal.overdrawn = s.bal.overdrawn ∧ (holderHeard j r s).bal.owed = s.bal.owed ∧
    (holderHeard j r s).bal.pLow = s.bal.pLow ∧ (holderHeard j r s).bal.pHigh = s.bal.pHigh ∧
    (holderHeard j r s).bal.pressureBlind = s.bal.pressureBlind ∧
    (holderHeard j r s).alu.active = s.alu.active ∧ (holderHeard j r s).alu.entries = s.alu.entries ∧
    (holderHeard j r s).alu.estop = s.alu.estop ∧ (holderHeard j r s).alu.duplicate = s.alu.duplicate ∧
    (holderHeard j r s).fpt.timer = s.fpt.timer ∧ (holderHeard j r s).fpt.fitted = s.fpt.fitted ∧
    (holderHeard j r s).fpt.inputs = s.fpt.inputs ∧ (holderHeard j r s).fpt.estopIn = s.fpt.estopIn ∧
    (holderHeard j r s).fpt.probe = s.fpt.probe ∧ (holderHeard j r s).fpt.forced = s.fpt.forced := by
  unfold holderHeard; (repeat' split) <;> simp

@[simp] theorem countedNotice_fields (j : Nat) (r : StatusRecord) (s : State) :
    (countedNotice j r s).ptb.console = s.ptb.console ∧
    (countedNotice j r s).ptb.endOfListen = s.ptb.endOfListen ∧
    (countedNotice j r s).ptb.listenEnd = s.ptb.listenEnd ∧ (countedNotice j r s).ptb.erector = s.ptb.erector ∧
    (countedNotice j r s).ptb.conveyor = s.ptb.conveyor ∧
    (countedNotice j r s).ptb.exErector = s.ptb.exErector ∧
    (countedNotice j r s).ptb.exConveyor = s.ptb.exConveyor ∧
    (countedNotice j r s).dsu.cutterhead = s.dsu.cutterhead ∧ (countedNotice j r s).dsu.nr = s.dsu.nr ∧
    (countedNotice j r s).dsu.choice = s.dsu.choice ∧ (countedNotice j r s).dsu.downCount = s.dsu.downCount ∧
    (countedNotice j r s).dsu.upCount = s.dsu.upCount ∧ (countedNotice j r s).dsu.throttle = s.dsu.throttle ∧
    (countedNotice j r s).dsu.consoleMax = s.dsu.consoleMax ∧
    (countedNotice j r s).dsu.proposed = s.dsu.proposed ∧
    (countedNotice j r s).dsu.startedAt = s.dsu.startedAt ∧
    (countedNotice j r s).dsu.overtorque = s.dsu.overtorque ∧ (countedNotice j r s).dsu.jam = s.dsu.jam ∧
    (countedNotice j r s).dsu.timer = s.dsu.timer ∧ (countedNotice j r s).thu.quality = s.thu.quality ∧
    (countedNotice j r s).thu.stroke = s.thu.stroke ∧ (countedNotice j r s).thu.rate = s.thu.rate ∧
    (countedNotice j r s).thu.history = s.thu.history ∧ (countedNotice j r s).thu.fresh = s.thu.fresh ∧
    (countedNotice j r s).thu.neighbours = s.thu.neighbours ∧ (countedNotice j r s).thu.set = s.thu.set ∧
    (countedNotice j r s).thu.blind = s.thu.blind ∧ (countedNotice j r s).thu.rateTarget = s.thu.rateTarget ∧
    (countedNotice j r s).thu.bias = s.thu.bias ∧ (countedNotice j r s).thu.enable = s.thu.enable ∧
    (countedNotice j r s).thu.lastAnswer = s.thu.lastAnswer ∧
    (countedNotice j r s).thu.strokeFault = s.thu.strokeFault ∧
    (countedNotice j r s).thu.denied = s.thu.denied ∧ (countedNotice j r s).thu.skew = s.thu.skew ∧
    (countedNotice j r s).thu.orphaned = s.thu.orphaned ∧ (countedNotice j r s).gru.active = s.gru.active ∧
    (countedNotice j r s).gru.line = s.gru.line ∧ (countedNotice j r s).gru.remG = s.gru.remG ∧
    (countedNotice j r s).gru.posted = s.gru.posted ∧ (countedNotice j r s).gru.delivered = s.gru.delivered ∧
    (countedNotice j r s).gru.writtenOff = s.gru.writtenOff ∧
    (countedNotice j r s).gru.overrun = s.gru.overrun ∧ (countedNotice j r s).gru.flushed = s.gru.flushed ∧
    (countedNotice j r s).gru.lag = s.gru.lag ∧ (countedNotice j r s).gru.settingTimer = s.gru.settingTimer ∧
    (countedNotice j r s).gru.blockTimer = s.gru.blockTimer ∧
    (countedNotice j r s).gru.flushTimer = s.gru.flushTimer ∧
    (countedNotice j r s).gru.flushRun = s.gru.flushRun ∧
    (countedNotice j r s).gru.flushStop = s.gru.flushStop ∧ (countedNotice j r s).bal.active = s.bal.active ∧
    (countedNotice j r s).bal.timer = s.bal.timer ∧ (countedNotice j r s).bal.conveyor = s.bal.conveyor ∧
    (countedNotice j r s).bal.manual = s.bal.manual ∧ (countedNotice j r s).bal.manualRef = s.bal.manualRef ∧
    (countedNotice j r s).bal.gateOpen = s.bal.gateOpen ∧ (countedNotice j r s).bal.stopHold = s.bal.stopHold ∧
    (countedNotice j r s).bal.nCmd = s.bal.nCmd ∧ (countedNotice j r s).bal.acc = s.bal.acc ∧
    (countedNotice j r s).bal.set = s.bal.set ∧ (countedNotice j r s).bal.blind = s.bal.blind ∧
    (countedNotice j r s).bal.account = s.bal.account ∧ (countedNotice j r s).bal.remE = s.bal.remE ∧
    (countedNotice j r s).bal.remX = s.bal.remX ∧ (countedNotice j r s).bal.pTarget = s.bal.pTarget ∧
    (countedNotice j r s).bal.band = s.bal.band ∧ (countedNotice j r s).bal.pMean = s.bal.pMean ∧
    (countedNotice j r s).bal.nP = s.bal.nP ∧ (countedNotice j r s).bal.overCount = s.bal.overCount ∧
    (countedNotice j r s).bal.recoverCount = s.bal.recoverCount ∧
    (countedNotice j r s).bal.overdrawn = s.bal.overdrawn ∧ (countedNotice j r s).bal.owed = s.bal.owed ∧
    (countedNotice j r s).bal.pLow = s.bal.pLow ∧ (countedNotice j r s).bal.pHigh = s.bal.pHigh ∧
    (countedNotice j r s).bal.pressureBlind = s.bal.pressureBlind ∧
    (countedNotice j r s).alu.active = s.alu.active ∧ (countedNotice j r s).alu.entries = s.alu.entries ∧
    (countedNotice j r s).alu.estop = s.alu.estop ∧ (countedNotice j r s).alu.duplicate = s.alu.duplicate ∧
    (countedNotice j r s).fpt.timer = s.fpt.timer ∧ (countedNotice j r s).fpt.fitted = s.fpt.fitted ∧
    (countedNotice j r s).fpt.inputs = s.fpt.inputs ∧ (countedNotice j r s).fpt.estopIn = s.fpt.estopIn ∧
    (countedNotice j r s).fpt.probe = s.fpt.probe ∧ (countedNotice j r s).fpt.forced = s.fpt.forced := by
  simp [countedNotice]

@[simp] theorem peerStatus_fields (j : Nat) (seq : Tag) (r : StatusRecord) (s : State) :
    (peerStatus j seq r s).ptb.console = s.ptb.console ∧
    (peerStatus j seq r s).ptb.endOfListen = s.ptb.endOfListen ∧
    (peerStatus j seq r s).ptb.listenEnd = s.ptb.listenEnd ∧
    (peerStatus j seq r s).dsu.cutterhead = s.dsu.cutterhead ∧ (peerStatus j seq r s).dsu.nr = s.dsu.nr ∧
    (peerStatus j seq r s).dsu.choice = s.dsu.choice ∧ (peerStatus j seq r s).dsu.downCount = s.dsu.downCount ∧
    (peerStatus j seq r s).dsu.upCount = s.dsu.upCount ∧ (peerStatus j seq r s).dsu.throttle = s.dsu.throttle ∧
    (peerStatus j seq r s).dsu.consoleMax = s.dsu.consoleMax ∧
    (peerStatus j seq r s).dsu.proposed = s.dsu.proposed ∧
    (peerStatus j seq r s).dsu.startedAt = s.dsu.startedAt ∧
    (peerStatus j seq r s).dsu.overtorque = s.dsu.overtorque ∧ (peerStatus j seq r s).dsu.jam = s.dsu.jam ∧
    (peerStatus j seq r s).dsu.timer = s.dsu.timer ∧ (peerStatus j seq r s).thu.quality = s.thu.quality ∧
    (peerStatus j seq r s).thu.stroke = s.thu.stroke ∧ (peerStatus j seq r s).thu.rate = s.thu.rate ∧
    (peerStatus j seq r s).thu.history = s.thu.history ∧ (peerStatus j seq r s).thu.fresh = s.thu.fresh ∧
    (peerStatus j seq r s).thu.neighbours = s.thu.neighbours ∧ (peerStatus j seq r s).thu.set = s.thu.set ∧
    (peerStatus j seq r s).thu.blind = s.thu.blind ∧ (peerStatus j seq r s).thu.rateTarget = s.thu.rateTarget ∧
    (peerStatus j seq r s).thu.bias = s.thu.bias ∧ (peerStatus j seq r s).thu.enable = s.thu.enable ∧
    (peerStatus j seq r s).thu.strokeFault = s.thu.strokeFault ∧
    (peerStatus j seq r s).thu.denied = s.thu.denied ∧ (peerStatus j seq r s).thu.skew = s.thu.skew ∧
    (peerStatus j seq r s).gru.active = s.gru.active ∧ (peerStatus j seq r s).gru.line = s.gru.line ∧
    (peerStatus j seq r s).gru.remG = s.gru.remG ∧ (peerStatus j seq r s).gru.posted = s.gru.posted ∧
    (peerStatus j seq r s).gru.delivered = s.gru.delivered ∧
    (peerStatus j seq r s).gru.writtenOff = s.gru.writtenOff ∧
    (peerStatus j seq r s).gru.overrun = s.gru.overrun ∧ (peerStatus j seq r s).gru.flushed = s.gru.flushed ∧
    (peerStatus j seq r s).gru.lag = s.gru.lag ∧ (peerStatus j seq r s).gru.settingTimer = s.gru.settingTimer ∧
    (peerStatus j seq r s).gru.blockTimer = s.gru.blockTimer ∧
    (peerStatus j seq r s).gru.flushTimer = s.gru.flushTimer ∧
    (peerStatus j seq r s).gru.flushRun = s.gru.flushRun ∧
    (peerStatus j seq r s).gru.flushStop = s.gru.flushStop ∧ (peerStatus j seq r s).bal.manual = s.bal.manual ∧
    (peerStatus j seq r s).bal.manualRef = s.bal.manualRef ∧
    (peerStatus j seq r s).bal.gateOpen = s.bal.gateOpen ∧ (peerStatus j seq r s).bal.account = s.bal.account ∧
    (peerStatus j seq r s).bal.remE = s.bal.remE ∧ (peerStatus j seq r s).bal.remX = s.bal.remX ∧
    (peerStatus j seq r s).bal.pTarget = s.bal.pTarget ∧ (peerStatus j seq r s).bal.band = s.bal.band ∧
    (peerStatus j seq r s).alu.active = s.alu.active ∧ (peerStatus j seq r s).alu.entries = s.alu.entries ∧
    (peerStatus j seq r s).alu.estop = s.alu.estop ∧ (peerStatus j seq r s).alu.duplicate = s.alu.duplicate ∧
    (peerStatus j seq r s).fpt.timer = s.fpt.timer ∧ (peerStatus j seq r s).fpt.fitted = s.fpt.fitted ∧
    (peerStatus j seq r s).fpt.inputs = s.fpt.inputs ∧ (peerStatus j seq r s).fpt.estopIn = s.fpt.estopIn ∧
    (peerStatus j seq r s).fpt.probe = s.fpt.probe ∧ (peerStatus j seq r s).fpt.forced = s.fpt.forced ∧
    (peerStatus j seq r s).lif.slot = s.lif.slot ∧ (peerStatus j seq r s).lif.seq = s.lif.seq ∧
    (peerStatus j seq r s).lif.idle = s.lif.idle ∧ (peerStatus j seq r s).lif.crcErrors = s.lif.crcErrors ∧
    (peerStatus j seq r s).lif.formatErrors = s.lif.formatErrors ∧
    (peerStatus j seq r s).lif.collisions = s.lif.collisions ∧
    (peerStatus j seq r s).lif.diagCount = s.lif.diagCount ∧ (peerStatus j seq r s).lif.timer = s.lif.timer ∧
    (peerStatus j seq r s).lif.lineFault = s.lif.lineFault ∧
    (peerStatus j seq r s).lif.abandoned = s.lif.abandoned := by
  unfold peerStatus; dsimp only; (repeat' split) <;> simp

@[simp] theorem peerJoin_fields (j : Nat) (seq : Tag) (r : JoinRecord) (s : State) :
    (peerJoin j seq r s).ptb.console = s.ptb.console ∧
    (peerJoin j seq r s).ptb.endOfListen = s.ptb.endOfListen ∧
    (peerJoin j seq r s).ptb.listenEnd = s.ptb.listenEnd ∧
    (peerJoin j seq r s).dsu.cutterhead = s.dsu.cutterhead ∧ (peerJoin j seq r s).dsu.nr = s.dsu.nr ∧
    (peerJoin j seq r s).dsu.choice = s.dsu.choice ∧ (peerJoin j seq r s).dsu.downCount = s.dsu.downCount ∧
    (peerJoin j seq r s).dsu.upCount = s.dsu.upCount ∧ (peerJoin j seq r s).dsu.throttle = s.dsu.throttle ∧
    (peerJoin j seq r s).dsu.consoleMax = s.dsu.consoleMax ∧
    (peerJoin j seq r s).dsu.proposed = s.dsu.proposed ∧ (peerJoin j seq r s).dsu.startedAt = s.dsu.startedAt ∧
    (peerJoin j seq r s).dsu.overtorque = s.dsu.overtorque ∧ (peerJoin j seq r s).dsu.jam = s.dsu.jam ∧
    (peerJoin j seq r s).dsu.ringMax = s.dsu.ringMax ∧ (peerJoin j seq r s).dsu.residency = s.dsu.residency ∧
    (peerJoin j seq r s).dsu.timer = s.dsu.timer ∧ (peerJoin j seq r s).thu.quality = s.thu.quality ∧
    (peerJoin j seq r s).thu.stroke = s.thu.stroke ∧ (peerJoin j seq r s).thu.rate = s.thu.rate ∧
    (peerJoin j seq r s).thu.history = s.thu.history ∧ (peerJoin j seq r s).thu.fresh = s.thu.fresh ∧
    (peerJoin j seq r s).thu.neighbours = s.thu.neighbours ∧ (peerJoin j seq r s).thu.counter = s.thu.counter ∧
    (peerJoin j seq r s).thu.set = s.thu.set ∧ (peerJoin j seq r s).thu.blind = s.thu.blind ∧
    (peerJoin j seq r s).thu.strokeEnd = s.thu.strokeEnd ∧
    (peerJoin j seq r s).thu.rateTarget = s.thu.rateTarget ∧ (peerJoin j seq r s).thu.bias = s.thu.bias ∧
    (peerJoin j seq r s).thu.enable = s.thu.enable ∧ (peerJoin j seq r s).thu.strokeFault = s.thu.strokeFault ∧
    (peerJoin j seq r s).thu.denied = s.thu.denied ∧ (peerJoin j seq r s).thu.skew = s.thu.skew ∧
    (peerJoin j seq r s).bal.manual = s.bal.manual ∧ (peerJoin j seq r s).bal.manualRef = s.bal.manualRef ∧
    (peerJoin j seq r s).bal.gateOpen = s.bal.gateOpen ∧ (peerJoin j seq r s).bal.account = s.bal.account ∧
    (peerJoin j seq r s).bal.remE = s.bal.remE ∧ (peerJoin j seq r s).bal.remX = s.bal.remX ∧
    (peerJoin j seq r s).bal.eRing = s.bal.eRing ∧ (peerJoin j seq r s).bal.xRing = s.bal.xRing ∧
    (peerJoin j seq r s).bal.restarted = s.bal.restarted ∧ (peerJoin j seq r s).bal.pTarget = s.bal.pTarget ∧
    (peerJoin j seq r s).bal.band = s.bal.band ∧ (peerJoin j seq r s).alu.active = s.alu.active ∧
    (peerJoin j seq r s).alu.entries = s.alu.entries ∧ (peerJoin j seq r s).alu.estop = s.alu.estop ∧
    (peerJoin j seq r s).alu.duplicate = s.alu.duplicate ∧ (peerJoin j seq r s).fpt.timer = s.fpt.timer ∧
    (peerJoin j seq r s).fpt.fitted = s.fpt.fitted ∧ (peerJoin j seq r s).fpt.inputs = s.fpt.inputs ∧
    (peerJoin j seq r s).fpt.estopIn = s.fpt.estopIn ∧ (peerJoin j seq r s).fpt.probe = s.fpt.probe ∧
    (peerJoin j seq r s).fpt.forced = s.fpt.forced ∧ (peerJoin j seq r s).lif.slot = s.lif.slot ∧
    (peerJoin j seq r s).lif.seq = s.lif.seq ∧ (peerJoin j seq r s).lif.idle = s.lif.idle ∧
    (peerJoin j seq r s).lif.crcErrors = s.lif.crcErrors ∧
    (peerJoin j seq r s).lif.formatErrors = s.lif.formatErrors ∧
    (peerJoin j seq r s).lif.collisions = s.lif.collisions ∧
    (peerJoin j seq r s).lif.diagCount = s.lif.diagCount ∧ (peerJoin j seq r s).lif.timer = s.lif.timer ∧
    (peerJoin j seq r s).lif.lineFault = s.lif.lineFault ∧
    (peerJoin j seq r s).lif.abandoned = s.lif.abandoned := by
  simp [peerJoin]

@[simp] theorem peerOther_fields (j : Nat) (seq : Tag) (s : State) :
    (peerOther j seq s).ptb.console = s.ptb.console ∧ (peerOther j seq s).ptb.endOfListen = s.ptb.endOfListen ∧
    (peerOther j seq s).ptb.listenEnd = s.ptb.listenEnd ∧
    (peerOther j seq s).dsu.cutterhead = s.dsu.cutterhead ∧ (peerOther j seq s).dsu.nr = s.dsu.nr ∧
    (peerOther j seq s).dsu.choice = s.dsu.choice ∧ (peerOther j seq s).dsu.downCount = s.dsu.downCount ∧
    (peerOther j seq s).dsu.upCount = s.dsu.upCount ∧ (peerOther j seq s).dsu.throttle = s.dsu.throttle ∧
    (peerOther j seq s).dsu.consoleMax = s.dsu.consoleMax ∧ (peerOther j seq s).dsu.proposed = s.dsu.proposed ∧
    (peerOther j seq s).dsu.startedAt = s.dsu.startedAt ∧
    (peerOther j seq s).dsu.overtorque = s.dsu.overtorque ∧ (peerOther j seq s).dsu.jam = s.dsu.jam ∧
    (peerOther j seq s).dsu.ringMax = s.dsu.ringMax ∧ (peerOther j seq s).dsu.residency = s.dsu.residency ∧
    (peerOther j seq s).dsu.timer = s.dsu.timer ∧ (peerOther j seq s).thu.quality = s.thu.quality ∧
    (peerOther j seq s).thu.stroke = s.thu.stroke ∧ (peerOther j seq s).thu.rate = s.thu.rate ∧
    (peerOther j seq s).thu.history = s.thu.history ∧ (peerOther j seq s).thu.fresh = s.thu.fresh ∧
    (peerOther j seq s).thu.neighbours = s.thu.neighbours ∧ (peerOther j seq s).thu.counter = s.thu.counter ∧
    (peerOther j seq s).thu.set = s.thu.set ∧ (peerOther j seq s).thu.blind = s.thu.blind ∧
    (peerOther j seq s).thu.strokeEnd = s.thu.strokeEnd ∧
    (peerOther j seq s).thu.rateTarget = s.thu.rateTarget ∧ (peerOther j seq s).thu.bias = s.thu.bias ∧
    (peerOther j seq s).thu.enable = s.thu.enable ∧ (peerOther j seq s).thu.strokeFault = s.thu.strokeFault ∧
    (peerOther j seq s).thu.denied = s.thu.denied ∧ (peerOther j seq s).thu.skew = s.thu.skew ∧
    (peerOther j seq s).bal.manual = s.bal.manual ∧ (peerOther j seq s).bal.manualRef = s.bal.manualRef ∧
    (peerOther j seq s).bal.gateOpen = s.bal.gateOpen ∧ (peerOther j seq s).bal.account = s.bal.account ∧
    (peerOther j seq s).bal.remE = s.bal.remE ∧ (peerOther j seq s).bal.remX = s.bal.remX ∧
    (peerOther j seq s).bal.eRing = s.bal.eRing ∧ (peerOther j seq s).bal.xRing = s.bal.xRing ∧
    (peerOther j seq s).bal.restarted = s.bal.restarted ∧ (peerOther j seq s).bal.pTarget = s.bal.pTarget ∧
    (peerOther j seq s).bal.band = s.bal.band ∧ (peerOther j seq s).alu.active = s.alu.active ∧
    (peerOther j seq s).alu.entries = s.alu.entries ∧ (peerOther j seq s).alu.estop = s.alu.estop ∧
    (peerOther j seq s).alu.duplicate = s.alu.duplicate ∧ (peerOther j seq s).fpt.timer = s.fpt.timer ∧
    (peerOther j seq s).fpt.fitted = s.fpt.fitted ∧ (peerOther j seq s).fpt.inputs = s.fpt.inputs ∧
    (peerOther j seq s).fpt.estopIn = s.fpt.estopIn ∧ (peerOther j seq s).fpt.probe = s.fpt.probe ∧
    (peerOther j seq s).fpt.forced = s.fpt.forced ∧ (peerOther j seq s).lif.slot = s.lif.slot ∧
    (peerOther j seq s).lif.seq = s.lif.seq ∧ (peerOther j seq s).lif.idle = s.lif.idle ∧
    (peerOther j seq s).lif.crcErrors = s.lif.crcErrors ∧
    (peerOther j seq s).lif.formatErrors = s.lif.formatErrors ∧
    (peerOther j seq s).lif.collisions = s.lif.collisions ∧
    (peerOther j seq s).lif.diagCount = s.lif.diagCount ∧ (peerOther j seq s).lif.timer = s.lif.timer ∧
    (peerOther j seq s).lif.lineFault = s.lif.lineFault ∧
    (peerOther j seq s).lif.abandoned = s.lif.abandoned := by
  simp [peerOther]

@[simp] theorem consoleHeard_fields (s : State) :
    (consoleHeard s).ptb.peers = s.ptb.peers ∧ (consoleHeard s).ptb.endOfListen = s.ptb.endOfListen ∧
    (consoleHeard s).ptb.listenEnd = s.ptb.listenEnd ∧ (consoleHeard s).ptb.erector = s.ptb.erector ∧
    (consoleHeard s).ptb.conveyor = s.ptb.conveyor ∧ (consoleHeard s).ptb.exErector = s.ptb.exErector ∧
    (consoleHeard s).ptb.exConveyor = s.ptb.exConveyor := by
  simp [consoleHeard]

@[simp] theorem consoleLost_fields (s : State) :
    (consoleLost s).ptb.peers = s.ptb.peers ∧ (consoleLost s).ptb.endOfListen = s.ptb.endOfListen ∧
    (consoleLost s).ptb.listenEnd = s.ptb.listenEnd ∧ (consoleLost s).ptb.erector = s.ptb.erector ∧
    (consoleLost s).ptb.conveyor = s.ptb.conveyor ∧ (consoleLost s).ptb.exErector = s.ptb.exErector ∧
    (consoleLost s).ptb.exConveyor = s.ptb.exConveyor ∧ (consoleLost s).thu.quality = s.thu.quality ∧
    (consoleLost s).thu.stroke = s.thu.stroke ∧ (consoleLost s).thu.rate = s.thu.rate ∧
    (consoleLost s).thu.history = s.thu.history ∧ (consoleLost s).thu.fresh = s.thu.fresh ∧
    (consoleLost s).thu.neighbours = s.thu.neighbours ∧ (consoleLost s).thu.counter = s.thu.counter ∧
    (consoleLost s).thu.set = s.thu.set ∧ (consoleLost s).thu.blind = s.thu.blind ∧
    (consoleLost s).thu.strokeEnd = s.thu.strokeEnd ∧ (consoleLost s).thu.rateTarget = s.thu.rateTarget ∧
    (consoleLost s).thu.bias = s.thu.bias ∧ (consoleLost s).thu.enable = s.thu.enable ∧
    (consoleLost s).thu.strokeFault = s.thu.strokeFault ∧ (consoleLost s).thu.denied = s.thu.denied ∧
    (consoleLost s).thu.skew = s.thu.skew ∧ (consoleLost s).thu.orphaned = s.thu.orphaned ∧
    (consoleLost s).alu.active = s.alu.active ∧ (consoleLost s).alu.entries = s.alu.entries ∧
    (consoleLost s).alu.estop = s.alu.estop ∧ (consoleLost s).alu.duplicate = s.alu.duplicate ∧
    (consoleLost s).fpt.timer = s.fpt.timer ∧ (consoleLost s).fpt.fitted = s.fpt.fitted ∧
    (consoleLost s).fpt.inputs = s.fpt.inputs ∧ (consoleLost s).fpt.estopIn = s.fpt.estopIn ∧
    (consoleLost s).fpt.probe = s.fpt.probe ∧ (consoleLost s).fpt.forced = s.fpt.forced ∧
    (consoleLost s).lif.slot = s.lif.slot ∧ (consoleLost s).lif.seq = s.lif.seq ∧
    (consoleLost s).lif.idle = s.lif.idle ∧ (consoleLost s).lif.crcErrors = s.lif.crcErrors ∧
    (consoleLost s).lif.formatErrors = s.lif.formatErrors ∧ (consoleLost s).lif.collisions = s.lif.collisions ∧
    (consoleLost s).lif.diagCount = s.lif.diagCount ∧ (consoleLost s).lif.timer = s.lif.timer ∧
    (consoleLost s).lif.lineFault = s.lif.lineFault ∧
    (consoleLost s).lif.abandoned = s.lif.abandoned := by
  unfold consoleLost; split <;> simp

@[simp] theorem peersRestart_fields (s : State) :
    (peersRestart s).ptb.listenEnd = s.ptb.listenEnd ∧ (peersRestart s).ptb.erector = s.ptb.erector ∧
    (peersRestart s).ptb.conveyor = s.ptb.conveyor ∧ (peersRestart s).ptb.exErector = s.ptb.exErector ∧
    (peersRestart s).ptb.exConveyor = s.ptb.exConveyor := by
  simp [peersRestart]

end Sys2Proof.Machine
end

