-- ==== Sys2Proof/Laws/Lines.lean ====
section
/-! SUPPORT. What each operation of Machine/Lines.lean leaves unchanged, block by block and, in the
blocks it changes, field by field. -/

namespace Sys2Proof.Machine

open Sys2Proof

@[simp] theorem sendStatus_frame (s : State) :
    (sendStatus s).pending = s.pending ∧ (sendStatus s).elapsed = s.elapsed ∧ (sendStatus s).phase = s.phase ∧
    (sendStatus s).pauseCause = s.pauseCause ∧ (sendStatus s).ring = s.ring ∧ (sendStatus s).cfg = s.cfg ∧
    (sendStatus s).ptb = s.ptb ∧ (sendStatus s).oru = s.oru ∧ (sendStatus s).dsu = s.dsu ∧
    (sendStatus s).thu = s.thu ∧ (sendStatus s).bsq = s.bsq ∧ (sendStatus s).gru = s.gru ∧
    (sendStatus s).bal = s.bal ∧ (sendStatus s).fpt = s.fpt := by
  simp [sendStatus]

@[simp] theorem takeFromQueue_frame (f : TxFrame) (rest : List TxFrame) (s : State) :
    (takeFromQueue f rest s).pending = s.pending ∧ (takeFromQueue f rest s).elapsed = s.elapsed ∧
    (takeFromQueue f rest s).phase = s.phase ∧ (takeFromQueue f rest s).pauseCause = s.pauseCause ∧
    (takeFromQueue f rest s).ring = s.ring ∧ (takeFromQueue f rest s).cfg = s.cfg ∧
    (takeFromQueue f rest s).ptb = s.ptb ∧ (takeFromQueue f rest s).oru = s.oru ∧
    (takeFromQueue f rest s).dsu = s.dsu ∧ (takeFromQueue f rest s).thu = s.thu ∧
    (takeFromQueue f rest s).bsq = s.bsq ∧ (takeFromQueue f rest s).gru = s.gru ∧
    (takeFromQueue f rest s).bal = s.bal ∧ (takeFromQueue f rest s).alu = s.alu ∧
    (takeFromQueue f rest s).fpt = s.fpt := by
  refine ⟨?_, ?_, ?_, ?_, ?_, ?_, ?_, ?_, ?_, ?_, ?_, ?_, ?_, ?_, ?_⟩ <;> rfl

@[simp] theorem tryTransmit_frame (idle : Nat) (s : State) :
    (tryTransmit idle s).pending = s.pending ∧ (tryTransmit idle s).elapsed = s.elapsed ∧
    (tryTransmit idle s).phase = s.phase ∧ (tryTransmit idle s).pauseCause = s.pauseCause ∧
    (tryTransmit idle s).ring = s.ring ∧ (tryTransmit idle s).cfg = s.cfg ∧ (tryTransmit idle s).ptb = s.ptb ∧
    (tryTransmit idle s).oru = s.oru ∧ (tryTransmit idle s).dsu = s.dsu ∧ (tryTransmit idle s).thu = s.thu ∧
    (tryTransmit idle s).bsq = s.bsq ∧ (tryTransmit idle s).gru = s.gru ∧ (tryTransmit idle s).bal = s.bal ∧
    (tryTransmit idle s).alu = s.alu ∧ (tryTransmit idle s).fpt = s.fpt := by
  unfold tryTransmit; (repeat' split) <;> simp

@[simp] theorem frameGone_frame (s : State) :
    (frameGone s).pending = s.pending ∧ (frameGone s).elapsed = s.elapsed ∧ (frameGone s).phase = s.phase ∧
    (frameGone s).pauseCause = s.pauseCause ∧ (frameGone s).ring = s.ring ∧ (frameGone s).cfg = s.cfg ∧
    (frameGone s).ptb = s.ptb ∧ (frameGone s).oru = s.oru ∧ (frameGone s).dsu = s.dsu ∧
    (frameGone s).thu = s.thu ∧ (frameGone s).bsq = s.bsq ∧ (frameGone s).gru = s.gru ∧
    (frameGone s).bal = s.bal ∧ (frameGone s).alu = s.alu ∧ (frameGone s).fpt = s.fpt := by
  refine ⟨?_, ?_, ?_, ?_, ?_, ?_, ?_, ?_, ?_, ?_, ?_, ?_, ?_, ?_, ?_⟩ <;> rfl

@[simp] theorem frameCollides_frame (k : LineSlot) (s : State) :
    (frameCollides k s).pending = s.pending ∧ (frameCollides k s).elapsed = s.elapsed ∧
    (frameCollides k s).phase = s.phase ∧ (frameCollides k s).pauseCause = s.pauseCause ∧
    (frameCollides k s).ring = s.ring ∧ (frameCollides k s).cfg = s.cfg ∧ (frameCollides k s).ptb = s.ptb ∧
    (frameCollides k s).oru = s.oru ∧ (frameCollides k s).dsu = s.dsu ∧ (frameCollides k s).thu = s.thu ∧
    (frameCollides k s).bsq = s.bsq ∧ (frameCollides k s).gru = s.gru ∧ (frameCollides k s).bal = s.bal ∧
    (frameCollides k s).fpt = s.fpt := by
  simp [frameCollides]

@[simp] theorem lineUsed_frame (s : State) :
    (lineUsed s).pending = s.pending ∧ (lineUsed s).elapsed = s.elapsed ∧ (lineUsed s).phase = s.phase ∧
    (lineUsed s).pauseCause = s.pauseCause ∧ (lineUsed s).ring = s.ring ∧ (lineUsed s).cfg = s.cfg ∧
    (lineUsed s).ptb = s.ptb ∧ (lineUsed s).oru = s.oru ∧ (lineUsed s).dsu = s.dsu ∧ (lineUsed s).thu = s.thu ∧
    (lineUsed s).bsq = s.bsq ∧ (lineUsed s).gru = s.gru ∧ (lineUsed s).bal = s.bal ∧ (lineUsed s).alu = s.alu ∧
    (lineUsed s).fpt = s.fpt := by
  refine ⟨?_, ?_, ?_, ?_, ?_, ?_, ?_, ?_, ?_, ?_, ?_, ?_, ?_, ?_, ?_⟩ <;> rfl

@[simp] theorem lineRestart_frame (s : State) :
    (lineRestart s).pending = s.pending ∧ (lineRestart s).elapsed = s.elapsed ∧
    (lineRestart s).phase = s.phase ∧ (lineRestart s).pauseCause = s.pauseCause ∧
    (lineRestart s).ring = s.ring ∧ (lineRestart s).cfg = s.cfg ∧ (lineRestart s).ptb = s.ptb ∧
    (lineRestart s).oru = s.oru ∧ (lineRestart s).dsu = s.dsu ∧ (lineRestart s).thu = s.thu ∧
    (lineRestart s).bsq = s.bsq ∧ (lineRestart s).gru = s.gru ∧ (lineRestart s).bal = s.bal ∧
    (lineRestart s).alu = s.alu ∧ (lineRestart s).fpt = s.fpt := by
  refine ⟨?_, ?_, ?_, ?_, ?_, ?_, ?_, ?_, ?_, ?_, ?_, ?_, ?_, ?_, ?_⟩ <;> rfl

@[simp] theorem handJoin_frame (r : JoinRecord) (s : State) :
    (handJoin r s).pending = s.pending ∧ (handJoin r s).elapsed = s.elapsed ∧ (handJoin r s).phase = s.phase ∧
    (handJoin r s).pauseCause = s.pauseCause ∧ (handJoin r s).ring = s.ring ∧ (handJoin r s).cfg = s.cfg ∧
    (handJoin r s).ptb = s.ptb ∧ (handJoin r s).oru = s.oru ∧ (handJoin r s).dsu = s.dsu ∧
    (handJoin r s).thu = s.thu ∧ (handJoin r s).bsq = s.bsq ∧ (handJoin r s).gru = s.gru ∧
    (handJoin r s).bal = s.bal ∧ (handJoin r s).fpt = s.fpt := by
  simp [handJoin]

@[simp] theorem sendStatus_fields (s : State) :
    (sendStatus s).alu.active = s.alu.active ∧ (sendStatus s).alu.entries = s.alu.entries ∧
    (sendStatus s).alu.estop = s.alu.estop ∧ (sendStatus s).alu.duplicate = s.alu.duplicate ∧
    (sendStatus s).lif.slot = s.lif.slot ∧ (sendStatus s).lif.seq = s.lif.seq ∧
    (sendStatus s).lif.idle = s.lif.idle ∧ (sendStatus s).lif.crcErrors = s.lif.crcErrors ∧
    (sendStatus s).lif.formatErrors = s.lif.formatErrors ∧ (sendStatus s).lif.collisions = s.lif.collisions ∧
    (sendStatus s).lif.timer = s.lif.timer ∧ (sendStatus s).lif.lineFault = s.lif.lineFault ∧
    (sendStatus s).lif.abandoned = s.lif.abandoned := by
  simp [sendStatus]

@[simp] theorem takeFromQueue_fields (f : TxFrame) (rest : List TxFrame) (s : State) :
    (takeFromQueue f rest s).lif.idle = s.lif.idle ∧ (takeFromQueue f rest s).lif.crcErrors = s.lif.crcErrors ∧
    (takeFromQueue f rest s).lif.formatErrors = s.lif.formatErrors ∧
    (takeFromQueue f rest s).lif.collisions = s.lif.collisions ∧
    (takeFromQueue f rest s).lif.queueDrops = s.lif.queueDrops ∧
    (takeFromQueue f rest s).lif.diagCount = s.lif.diagCount ∧
    (takeFromQueue f rest s).lif.timer = s.lif.timer ∧
    (takeFromQueue f rest s).lif.lineFault = s.lif.lineFault ∧
    (takeFromQueue f rest s).lif.abandoned = s.lif.abandoned := by
  simp [takeFromQueue]

@[simp] theorem tryTransmit_fields (idle : Nat) (s : State) :
    (tryTransmit idle s).lif.crcErrors = s.lif.crcErrors ∧
    (tryTransmit idle s).lif.formatErrors = s.lif.formatErrors ∧
    (tryTransmit idle s).lif.collisions = s.lif.collisions ∧
    (tryTransmit idle s).lif.queueDrops = s.lif.queueDrops ∧
    (tryTransmit idle s).lif.diagCount = s.lif.diagCount ∧ (tryTransmit idle s).lif.timer = s.lif.timer ∧
    (tryTransmit idle s).lif.lineFault = s.lif.lineFault ∧
    (tryTransmit idle s).lif.abandoned = false := by
  unfold tryTransmit; (repeat' split) <;> simp

@[simp] theorem frameGone_fields (s : State) :
    (frameGone s).lif.queue = s.lif.queue ∧ (frameGone s).lif.seq = s.lif.seq ∧
    (frameGone s).lif.crcErrors = s.lif.crcErrors ∧ (frameGone s).lif.formatErrors = s.lif.formatErrors ∧
    (frameGone s).lif.collisions = s.lif.collisions ∧ (frameGone s).lif.queueDrops = s.lif.queueDrops ∧
    (frameGone s).lif.diagCount = s.lif.diagCount ∧ (frameGone s).lif.timer = s.lif.timer ∧
    (frameGone s).lif.abandoned = s.lif.abandoned := by
  simp [frameGone]

@[simp] theorem frameCollides_fields (k : LineSlot) (s : State) :
    (frameCollides k s).alu.active = s.alu.active ∧ (frameCollides k s).alu.entries = s.alu.entries ∧
    (frameCollides k s).alu.estop = s.alu.estop ∧ (frameCollides k s).alu.duplicate = s.alu.duplicate ∧
    (frameCollides k s).lif.queue = s.lif.queue ∧ (frameCollides k s).lif.seq = s.lif.seq ∧
    (frameCollides k s).lif.crcErrors = s.lif.crcErrors ∧
    (frameCollides k s).lif.formatErrors = s.lif.formatErrors ∧
    (frameCollides k s).lif.queueDrops = s.lif.queueDrops ∧
    (frameCollides k s).lif.diagCount = s.lif.diagCount ∧ (frameCollides k s).lif.timer = s.lif.timer ∧
    (frameCollides k s).lif.abandoned = true := by
  simp [frameCollides]

@[simp] theorem lineUsed_fields (s : State) :
    (lineUsed s).lif.queue = s.lif.queue ∧ (lineUsed s).lif.slot = s.lif.slot ∧
    (lineUsed s).lif.seq = s.lif.seq ∧ (lineUsed s).lif.crcErrors = s.lif.crcErrors ∧
    (lineUsed s).lif.formatErrors = s.lif.formatErrors ∧ (lineUsed s).lif.collisions = s.lif.collisions ∧
    (lineUsed s).lif.queueDrops = s.lif.queueDrops ∧ (lineUsed s).lif.diagCount = s.lif.diagCount ∧
    (lineUsed s).lif.timer = s.lif.timer ∧ (lineUsed s).lif.lineFault = s.lif.lineFault ∧
    (lineUsed s).lif.abandoned = false := by
  simp [lineUsed]

@[simp] theorem lineRestart_fields (s : State) :
    (lineRestart s).lif.seq = s.lif.seq ∧ (lineRestart s).lif.idle = s.lif.idle ∧
    (lineRestart s).lif.abandoned = s.lif.abandoned := by
  simp [lineRestart]

@[simp] theorem handJoin_fields (r : JoinRecord) (s : State) :
    (handJoin r s).alu.active = s.alu.active ∧ (handJoin r s).alu.entries = s.alu.entries ∧
    (handJoin r s).alu.estop = s.alu.estop ∧ (handJoin r s).alu.duplicate = s.alu.duplicate ∧
    (handJoin r s).lif.slot = s.lif.slot ∧ (handJoin r s).lif.seq = s.lif.seq ∧
    (handJoin r s).lif.idle = s.lif.idle ∧ (handJoin r s).lif.crcErrors = s.lif.crcErrors ∧
    (handJoin r s).lif.formatErrors = s.lif.formatErrors ∧ (handJoin r s).lif.collisions = s.lif.collisions ∧
    (handJoin r s).lif.diagCount = s.lif.diagCount ∧ (handJoin r s).lif.timer = s.lif.timer ∧
    (handJoin r s).lif.lineFault = s.lif.lineFault ∧
    (handJoin r s).lif.abandoned = s.lif.abandoned := by
  simp [handJoin]

end Sys2Proof.Machine
end

