-- ==== Sys2Proof/Laws/Sampling.lean ====
section
/-! SUPPORT. What each operation of Machine/Sampling.lean leaves unchanged, block by block and, in the
blocks it changes, field by field. -/

namespace Sys2Proof.Machine

open Sys2Proof

@[simp] theorem setInput_frame (c : Channel) (i : InputState) (s : State) :
    (setInput c i s).pending = s.pending ∧ (setInput c i s).elapsed = s.elapsed ∧
    (setInput c i s).phase = s.phase ∧ (setInput c i s).pauseCause = s.pauseCause ∧
    (setInput c i s).ring = s.ring ∧ (setInput c i s).cfg = s.cfg ∧ (setInput c i s).ptb = s.ptb ∧
    (setInput c i s).oru = s.oru ∧ (setInput c i s).dsu = s.dsu ∧ (setInput c i s).thu = s.thu ∧
    (setInput c i s).bsq = s.bsq ∧ (setInput c i s).gru = s.gru ∧ (setInput c i s).bal = s.bal ∧
    (setInput c i s).alu = s.alu ∧ (setInput c i s).lif = s.lif := by
  refine ⟨?_, ?_, ?_, ?_, ?_, ?_, ?_, ?_, ?_, ?_, ?_, ?_, ?_, ?_, ?_⟩ <;> rfl

@[simp] theorem judgeInput_frame (c : Channel) (x : FieldInputs) (s : State) :
    (judgeInput c x s).pending = s.pending ∧ (judgeInput c x s).elapsed = s.elapsed ∧
    (judgeInput c x s).phase = s.phase ∧ (judgeInput c x s).pauseCause = s.pauseCause ∧
    (judgeInput c x s).ring = s.ring ∧ (judgeInput c x s).cfg = s.cfg ∧ (judgeInput c x s).ptb = s.ptb ∧
    (judgeInput c x s).oru = s.oru ∧ (judgeInput c x s).dsu = s.dsu ∧ (judgeInput c x s).thu = s.thu ∧
    (judgeInput c x s).bsq = s.bsq ∧ (judgeInput c x s).gru = s.gru ∧ (judgeInput c x s).bal = s.bal ∧
    (judgeInput c x s).lif = s.lif := by
  unfold judgeInput; (repeat' split) <;> simp

@[simp] theorem ownMark_frame (before s : State) :
    (ownMark before s).pending = s.pending ∧ (ownMark before s).elapsed = s.elapsed ∧
    (ownMark before s).phase = s.phase ∧ (ownMark before s).pauseCause = s.pauseCause ∧
    (ownMark before s).ring = s.ring ∧ (ownMark before s).cfg = s.cfg ∧ (ownMark before s).ptb = s.ptb ∧
    (ownMark before s).oru = s.oru ∧ (ownMark before s).dsu = s.dsu ∧ (ownMark before s).thu = s.thu ∧
    (ownMark before s).gru = s.gru ∧ (ownMark before s).bal = s.bal ∧ (ownMark before s).alu = s.alu ∧
    (ownMark before s).fpt = s.fpt ∧ (ownMark before s).lif = s.lif := by
  unfold ownMark; split <;> simp

@[simp] theorem meterArrival_frame (x : FieldInputs) (s : State) :
    (meterArrival x s).pending = s.pending ∧ (meterArrival x s).elapsed = s.elapsed ∧
    (meterArrival x s).phase = s.phase ∧ (meterArrival x s).pauseCause = s.pauseCause ∧
    (meterArrival x s).ring = s.ring ∧ (meterArrival x s).cfg = s.cfg ∧ (meterArrival x s).ptb = s.ptb ∧
    (meterArrival x s).oru = s.oru ∧ (meterArrival x s).dsu = s.dsu ∧ (meterArrival x s).thu = s.thu ∧
    (meterArrival x s).bsq = s.bsq ∧ (meterArrival x s).bal = s.bal ∧ (meterArrival x s).lif = s.lif := by
  unfold meterArrival; split <;> simp

@[simp] theorem screwArrival_frame (wasValid : Bool) (x : FieldInputs) (s : State) :
    (screwArrival wasValid x s).pending = s.pending ∧ (screwArrival wasValid x s).elapsed = s.elapsed ∧
    (screwArrival wasValid x s).phase = s.phase ∧ (screwArrival wasValid x s).pauseCause = s.pauseCause ∧
    (screwArrival wasValid x s).ring = s.ring ∧ (screwArrival wasValid x s).cfg = s.cfg ∧
    (screwArrival wasValid x s).ptb = s.ptb ∧ (screwArrival wasValid x s).oru = s.oru ∧
    (screwArrival wasValid x s).dsu = s.dsu ∧ (screwArrival wasValid x s).thu = s.thu ∧
    (screwArrival wasValid x s).bsq = s.bsq ∧ (screwArrival wasValid x s).gru = s.gru ∧
    (screwArrival wasValid x s).lif = s.lif := by
  unfold screwArrival; (repeat' split) <;> simp

@[simp] theorem limitArrival_frame (wasTrue : Bool) (s : State) :
    (limitArrival wasTrue s).pending = s.pending ∧ (limitArrival wasTrue s).elapsed = s.elapsed ∧
    (limitArrival wasTrue s).phase = s.phase ∧ (limitArrival wasTrue s).pauseCause = s.pauseCause ∧
    (limitArrival wasTrue s).ring = s.ring ∧ (limitArrival wasTrue s).cfg = s.cfg ∧
    (limitArrival wasTrue s).ptb = s.ptb ∧ (limitArrival wasTrue s).oru = s.oru ∧
    (limitArrival wasTrue s).dsu = s.dsu ∧ (limitArrival wasTrue s).bsq = s.bsq ∧
    (limitArrival wasTrue s).gru = s.gru ∧ (limitArrival wasTrue s).bal = s.bal ∧
    (limitArrival wasTrue s).lif = s.lif := by
  unfold limitArrival; split <;> simp

@[simp] theorem arrival_frame (before : State) (x : FieldInputs) (c : Channel) (s : State) :
    (arrival before x c s).pending = s.pending ∧ (arrival before x c s).elapsed = s.elapsed ∧
    (arrival before x c s).phase = s.phase ∧ (arrival before x c s).pauseCause = s.pauseCause ∧
    (arrival before x c s).ring = s.ring ∧ (arrival before x c s).cfg = s.cfg ∧
    (arrival before x c s).oru = s.oru := by
  unfold arrival; (repeat' split) <;> simp

@[simp] theorem estopSample_frame (r : Loop) (s : State) :
    (estopSample r s).pending = s.pending ∧ (estopSample r s).elapsed = s.elapsed ∧
    (estopSample r s).phase = s.phase ∧ (estopSample r s).pauseCause = s.pauseCause ∧
    (estopSample r s).ring = s.ring ∧ (estopSample r s).cfg = s.cfg ∧ (estopSample r s).ptb = s.ptb ∧
    (estopSample r s).oru = s.oru ∧ (estopSample r s).dsu = s.dsu ∧ (estopSample r s).thu = s.thu ∧
    (estopSample r s).bsq = s.bsq ∧ (estopSample r s).gru = s.gru ∧ (estopSample r s).lif = s.lif := by
  unfold estopSample; split <;> simp

@[simp] theorem sampleChannel_frame (x : FieldInputs) (c : Channel) (s : State) :
    (sampleChannel x c s).pending = s.pending ∧ (sampleChannel x c s).elapsed = s.elapsed ∧
    (sampleChannel x c s).ring = s.ring ∧ (sampleChannel x c s).cfg = s.cfg ∧
    (sampleChannel x c s).oru = s.oru := by
  simp [sampleChannel]

@[simp] theorem sampleChannels_frame (x : FieldInputs) (cs : List Channel) (s : State) :
    (sampleChannels x cs s).pending = s.pending ∧ (sampleChannels x cs s).elapsed = s.elapsed ∧
    (sampleChannels x cs s).ring = s.ring ∧ (sampleChannels x cs s).cfg = s.cfg ∧
    (sampleChannels x cs s).oru = s.oru := by
  induction cs generalizing s with
  | nil => simp [sampleChannels]
  | cons a l ih => simp [sampleChannels, ih]

@[simp] theorem runSample_frame (x : FieldInputs) (s : State) :
    (runSample x s).pending = s.pending ∧ (runSample x s).elapsed = s.elapsed ∧ (runSample x s).ring = s.ring ∧
    (runSample x s).cfg = s.cfg ∧ (runSample x s).oru = s.oru := by
  simp [runSample]

@[simp] theorem fit_frame (c : Channel) (s : State) :
    (fit c s).pending = s.pending ∧ (fit c s).elapsed = s.elapsed ∧ (fit c s).phase = s.phase ∧
    (fit c s).pauseCause = s.pauseCause ∧ (fit c s).ring = s.ring ∧ (fit c s).cfg = s.cfg ∧
    (fit c s).ptb = s.ptb ∧ (fit c s).oru = s.oru ∧ (fit c s).dsu = s.dsu ∧ (fit c s).thu = s.thu ∧
    (fit c s).bsq = s.bsq ∧ (fit c s).gru = s.gru ∧ (fit c s).bal = s.bal ∧ (fit c s).alu = s.alu ∧
    (fit c s).lif = s.lif := by
  refine ⟨?_, ?_, ?_, ?_, ?_, ?_, ?_, ?_, ?_, ?_, ?_, ?_, ?_, ?_, ?_⟩ <;> rfl

@[simp] theorem fitInput_frame (c : Channel) (v : Int) (s : State) :
    (fitInput c v s).pending = s.pending ∧ (fitInput c v s).elapsed = s.elapsed ∧
    (fitInput c v s).phase = s.phase ∧ (fitInput c v s).pauseCause = s.pauseCause ∧
    (fitInput c v s).ring = s.ring ∧ (fitInput c v s).cfg = s.cfg ∧ (fitInput c v s).ptb = s.ptb ∧
    (fitInput c v s).oru = s.oru ∧ (fitInput c v s).dsu = s.dsu ∧ (fitInput c v s).thu = s.thu ∧
    (fitInput c v s).bsq = s.bsq ∧ (fitInput c v s).gru = s.gru ∧ (fitInput c v s).bal = s.bal ∧
    (fitInput c v s).alu = s.alu ∧ (fitInput c v s).lif = s.lif := by
  refine ⟨?_, ?_, ?_, ?_, ?_, ?_, ?_, ?_, ?_, ?_, ?_, ?_, ?_, ?_, ?_⟩ <;> rfl

@[simp] theorem beginTrial_frame (n : Nat) (s : State) :
    (beginTrial n s).pending = s.pending ∧ (beginTrial n s).elapsed = s.elapsed ∧
    (beginTrial n s).phase = s.phase ∧ (beginTrial n s).pauseCause = s.pauseCause ∧
    (beginTrial n s).ring = s.ring ∧ (beginTrial n s).cfg = s.cfg ∧ (beginTrial n s).ptb = s.ptb ∧
    (beginTrial n s).oru = s.oru ∧ (beginTrial n s).dsu = s.dsu ∧ (beginTrial n s).thu = s.thu ∧
    (beginTrial n s).bsq = s.bsq ∧ (beginTrial n s).gru = s.gru ∧ (beginTrial n s).bal = s.bal ∧
    (beginTrial n s).lif = s.lif := by
  unfold beginTrial; (repeat' split) <;> simp

@[simp] theorem nextTrial_frame (s : State) :
    (nextTrial s).pending = s.pending ∧ (nextTrial s).elapsed = s.elapsed ∧ (nextTrial s).phase = s.phase ∧
    (nextTrial s).pauseCause = s.pauseCause ∧ (nextTrial s).ring = s.ring ∧ (nextTrial s).cfg = s.cfg ∧
    (nextTrial s).ptb = s.ptb ∧ (nextTrial s).oru = s.oru ∧ (nextTrial s).dsu = s.dsu ∧
    (nextTrial s).thu = s.thu ∧ (nextTrial s).bsq = s.bsq ∧ (nextTrial s).gru = s.gru ∧
    (nextTrial s).bal = s.bal ∧ (nextTrial s).lif = s.lif := by
  simp [nextTrial]

@[simp] theorem countSample_frame (run : Nat) (s : State) :
    (countSample run s).pending = s.pending ∧ (countSample run s).elapsed = s.elapsed ∧
    (countSample run s).phase = s.phase ∧ (countSample run s).pauseCause = s.pauseCause ∧
    (countSample run s).ring = s.ring ∧ (countSample run s).cfg = s.cfg ∧ (countSample run s).ptb = s.ptb ∧
    (countSample run s).oru = s.oru ∧ (countSample run s).dsu = s.dsu ∧ (countSample run s).thu = s.thu ∧
    (countSample run s).bsq = s.bsq ∧ (countSample run s).gru = s.gru ∧ (countSample run s).bal = s.bal ∧
    (countSample run s).alu = s.alu ∧ (countSample run s).lif = s.lif := by
  refine ⟨?_, ?_, ?_, ?_, ?_, ?_, ?_, ?_, ?_, ?_, ?_, ?_, ?_, ?_, ?_⟩ <;> rfl

@[simp] theorem windowTrial_frame (c : Channel) (x : FieldInputs) (s : State) :
    (windowTrial c x s).pending = s.pending ∧ (windowTrial c x s).elapsed = s.elapsed ∧
    (windowTrial c x s).phase = s.phase ∧ (windowTrial c x s).pauseCause = s.pauseCause ∧
    (windowTrial c x s).ring = s.ring ∧ (windowTrial c x s).cfg = s.cfg ∧ (windowTrial c x s).ptb = s.ptb ∧
    (windowTrial c x s).oru = s.oru ∧ (windowTrial c x s).dsu = s.dsu ∧ (windowTrial c x s).thu = s.thu ∧
    (windowTrial c x s).bsq = s.bsq ∧ (windowTrial c x s).gru = s.gru ∧ (windowTrial c x s).bal = s.bal ∧
    (windowTrial c x s).lif = s.lif := by
  unfold windowTrial; (repeat' split) <;> simp

@[simp] theorem fitGrout_frame (s : State) :
    (fitGrout s).pending = s.pending ∧ (fitGrout s).elapsed = s.elapsed ∧ (fitGrout s).phase = s.phase ∧
    (fitGrout s).pauseCause = s.pauseCause ∧ (fitGrout s).ring = s.ring ∧ (fitGrout s).cfg = s.cfg ∧
    (fitGrout s).ptb = s.ptb ∧ (fitGrout s).oru = s.oru ∧ (fitGrout s).dsu = s.dsu ∧ (fitGrout s).thu = s.thu ∧
    (fitGrout s).bsq = s.bsq ∧ (fitGrout s).gru = s.gru ∧ (fitGrout s).bal = s.bal ∧ (fitGrout s).alu = s.alu ∧
    (fitGrout s).lif = s.lif := by
  simp [fitGrout]

@[simp] theorem endGroutTrial_frame (s : State) :
    (endGroutTrial s).pending = s.pending ∧ (endGroutTrial s).elapsed = s.elapsed ∧
    (endGroutTrial s).phase = s.phase ∧ (endGroutTrial s).pauseCause = s.pauseCause ∧
    (endGroutTrial s).ring = s.ring ∧ (endGroutTrial s).cfg = s.cfg ∧ (endGroutTrial s).ptb = s.ptb ∧
    (endGroutTrial s).oru = s.oru ∧ (endGroutTrial s).dsu = s.dsu ∧ (endGroutTrial s).thu = s.thu ∧
    (endGroutTrial s).bsq = s.bsq ∧ (endGroutTrial s).gru = s.gru ∧ (endGroutTrial s).bal = s.bal ∧
    (endGroutTrial s).lif = s.lif := by
  simp [endGroutTrial]

@[simp] theorem serveTrial_frame (x : FieldInputs) (s : State) :
    (serveTrial x s).pending = s.pending ∧ (serveTrial x s).elapsed = s.elapsed ∧
    (serveTrial x s).phase = s.phase ∧ (serveTrial x s).pauseCause = s.pauseCause ∧
    (serveTrial x s).ring = s.ring ∧ (serveTrial x s).cfg = s.cfg ∧ (serveTrial x s).ptb = s.ptb ∧
    (serveTrial x s).oru = s.oru ∧ (serveTrial x s).dsu = s.dsu ∧ (serveTrial x s).thu = s.thu ∧
    (serveTrial x s).bsq = s.bsq ∧ (serveTrial x s).gru = s.gru ∧ (serveTrial x s).bal = s.bal ∧
    (serveTrial x s).alu = s.alu ∧ (serveTrial x s).lif = s.lif := by
  unfold serveTrial; split <;> simp

@[simp] theorem noteGrout_frame (x : FieldInputs) (s : State) :
    (noteGrout x s).pending = s.pending ∧ (noteGrout x s).elapsed = s.elapsed ∧
    (noteGrout x s).phase = s.phase ∧ (noteGrout x s).pauseCause = s.pauseCause ∧
    (noteGrout x s).ring = s.ring ∧ (noteGrout x s).cfg = s.cfg ∧ (noteGrout x s).ptb = s.ptb ∧
    (noteGrout x s).oru = s.oru ∧ (noteGrout x s).dsu = s.dsu ∧ (noteGrout x s).thu = s.thu ∧
    (noteGrout x s).bsq = s.bsq ∧ (noteGrout x s).gru = s.gru ∧ (noteGrout x s).bal = s.bal ∧
    (noteGrout x s).alu = s.alu ∧ (noteGrout x s).lif = s.lif := by
  simp [noteGrout]

@[simp] theorem groutTrialStep_frame (x : FieldInputs) (s : State) :
    (groutTrialStep x s).pending = s.pending ∧ (groutTrialStep x s).elapsed = s.elapsed ∧
    (groutTrialStep x s).phase = s.phase ∧ (groutTrialStep x s).pauseCause = s.pauseCause ∧
    (groutTrialStep x s).ring = s.ring ∧ (groutTrialStep x s).cfg = s.cfg ∧ (groutTrialStep x s).ptb = s.ptb ∧
    (groutTrialStep x s).oru = s.oru ∧ (groutTrialStep x s).dsu = s.dsu ∧ (groutTrialStep x s).thu = s.thu ∧
    (groutTrialStep x s).bsq = s.bsq ∧ (groutTrialStep x s).gru = s.gru ∧ (groutTrialStep x s).bal = s.bal ∧
    (groutTrialStep x s).lif = s.lif := by
  unfold groutTrialStep; dsimp only; (repeat' split) <;> simp

@[simp] theorem fitIf_frame (b : Bool) (c : Channel) (s : State) :
    (fitIf b c s).pending = s.pending ∧ (fitIf b c s).elapsed = s.elapsed ∧ (fitIf b c s).phase = s.phase ∧
    (fitIf b c s).pauseCause = s.pauseCause ∧ (fitIf b c s).ring = s.ring ∧ (fitIf b c s).cfg = s.cfg ∧
    (fitIf b c s).ptb = s.ptb ∧ (fitIf b c s).oru = s.oru ∧ (fitIf b c s).dsu = s.dsu ∧
    (fitIf b c s).thu = s.thu ∧ (fitIf b c s).bsq = s.bsq ∧ (fitIf b c s).gru = s.gru ∧
    (fitIf b c s).bal = s.bal ∧ (fitIf b c s).alu = s.alu ∧ (fitIf b c s).lif = s.lif := by
  unfold fitIf; split <;> simp

@[simp] theorem fixFitted_frame (s : State) :
    (fixFitted s).pending = s.pending ∧ (fixFitted s).elapsed = s.elapsed ∧ (fixFitted s).phase = s.phase ∧
    (fixFitted s).pauseCause = s.pauseCause ∧ (fixFitted s).ring = s.ring ∧ (fixFitted s).cfg = s.cfg ∧
    (fixFitted s).ptb = s.ptb ∧ (fixFitted s).oru = s.oru ∧ (fixFitted s).dsu = s.dsu ∧
    (fixFitted s).thu = s.thu ∧ (fixFitted s).bsq = s.bsq ∧ (fixFitted s).gru = s.gru ∧
    (fixFitted s).bal = s.bal ∧ (fixFitted s).alu = s.alu ∧ (fixFitted s).lif = s.lif := by
  simp [fixFitted]

@[simp] theorem setInput_fields (c : Channel) (i : InputState) (s : State) :
    (setInput c i s).fpt.timer = s.fpt.timer ∧ (setInput c i s).fpt.fitted = s.fpt.fitted ∧
    (setInput c i s).fpt.estopIn = s.fpt.estopIn ∧ (setInput c i s).fpt.probe = s.fpt.probe ∧
    (setInput c i s).fpt.written = s.fpt.written ∧ (setInput c i s).fpt.wires = s.fpt.wires ∧
    (setInput c i s).fpt.forced = s.fpt.forced := by
  simp [setInput]

@[simp] theorem judgeInput_fields (c : Channel) (x : FieldInputs) (s : State) :
    (judgeInput c x s).alu.active = s.alu.active ∧ (judgeInput c x s).alu.entries = s.alu.entries ∧
    (judgeInput c x s).alu.estop = s.alu.estop ∧ (judgeInput c x s).alu.duplicate = s.alu.duplicate ∧
    (judgeInput c x s).fpt.timer = s.fpt.timer ∧ (judgeInput c x s).fpt.fitted = s.fpt.fitted ∧
    (judgeInput c x s).fpt.estopIn = s.fpt.estopIn ∧ (judgeInput c x s).fpt.probe = s.fpt.probe ∧
    (judgeInput c x s).fpt.written = s.fpt.written ∧ (judgeInput c x s).fpt.wires = s.fpt.wires ∧
    (judgeInput c x s).fpt.forced = s.fpt.forced := by
  unfold judgeInput; (repeat' split) <;> simp

@[simp] theorem ownMark_fields (before s : State) :
    (ownMark before s).bsq.state = s.bsq.state ∧ (ownMark before s).bsq.cursor = s.bsq.cursor ∧
    (ownMark before s).bsq.cursorRing = s.bsq.cursorRing ∧ (ownMark before s).bsq.progress = s.bsq.progress ∧
    (ownMark before s).bsq.request = s.bsq.request ∧ (ownMark before s).bsq.issued = s.bsq.issued ∧
    (ownMark before s).bsq.retraction = s.bsq.retraction ∧ (ownMark before s).bsq.nextTag = s.bsq.nextTag ∧
    (ownMark before s).bsq.buildStart = s.bsq.buildStart ∧ (ownMark before s).bsq.placed = s.bsq.placed ∧
    (ownMark before s).bsq.stepTimer = s.bsq.stepTimer ∧ (ownMark before s).bsq.gripTimer = s.bsq.gripTimer ∧
    (ownMark before s).bsq.retractTimer = s.bsq.retractTimer ∧
    (ownMark before s).bsq.extendTimer = s.bsq.extendTimer ∧
    (ownMark before s).bsq.releaseTimer = s.bsq.releaseTimer ∧
    (ownMark before s).bsq.answerWait = s.bsq.answerWait ∧ (ownMark before s).bsq.timedOut = s.bsq.timedOut ∧
    (ownMark before s).bsq.unanswered = s.bsq.unanswered ∧
    (ownMark before s).bsq.holderSeen = s.bsq.holderSeen := by
  unfold ownMark; split <;> simp

@[simp] theorem meterArrival_fields (x : FieldInputs) (s : State) :
    (meterArrival x s).gru.active = s.gru.active ∧ (meterArrival x s).gru.remG = s.gru.remG ∧
    (meterArrival x s).gru.posted = s.gru.posted ∧ (meterArrival x s).gru.writtenOff = s.gru.writtenOff ∧
    (meterArrival x s).gru.postedRing = s.gru.postedRing ∧
    (meterArrival x s).gru.flushTimer = s.gru.flushTimer ∧ (meterArrival x s).gru.flushRun = s.gru.flushRun ∧
    (meterArrival x s).gru.flushStop = s.gru.flushStop ∧ (meterArrival x s).alu.active = s.alu.active ∧
    (meterArrival x s).alu.entries = s.alu.entries ∧ (meterArrival x s).alu.estop = s.alu.estop ∧
    (meterArrival x s).alu.duplicate = s.alu.duplicate ∧ (meterArrival x s).fpt.timer = s.fpt.timer ∧
    (meterArrival x s).fpt.fitted = s.fpt.fitted ∧ (meterArrival x s).fpt.inputs = s.fpt.inputs ∧
    (meterArrival x s).fpt.estopIn = s.fpt.estopIn ∧ (meterArrival x s).fpt.probe = s.fpt.probe ∧
    (meterArrival x s).fpt.forced = s.fpt.forced := by
  unfold meterArrival; split <;> simp

@[simp] theorem screwArrival_fields (wasValid : Bool) (x : FieldInputs) (s : State) :
    (screwArrival wasValid x s).bal.active = s.bal.active ∧
    (screwArrival wasValid x s).bal.timer = s.bal.timer ∧
    (screwArrival wasValid x s).bal.manual = s.bal.manual ∧
    (screwArrival wasValid x s).bal.manualRef = s.bal.manualRef ∧
    (screwArrival wasValid x s).bal.gateOpen = s.bal.gateOpen ∧
    (screwArrival wasValid x s).bal.stopHold = s.bal.stopHold ∧
    (screwArrival wasValid x s).bal.set = s.bal.set ∧ (screwArrival wasValid x s).bal.blind = s.bal.blind ∧
    (screwArrival wasValid x s).bal.account = s.bal.account ∧
    (screwArrival wasValid x s).bal.remE = s.bal.remE ∧ (screwArrival wasValid x s).bal.remX = s.bal.remX ∧
    (screwArrival wasValid x s).bal.eRing = s.bal.eRing ∧ (screwArrival wasValid x s).bal.xRing = s.bal.xRing ∧
    (screwArrival wasValid x s).bal.restarted = s.bal.restarted ∧
    (screwArrival wasValid x s).bal.pTarget = s.bal.pTarget ∧
    (screwArrival wasValid x s).bal.band = s.bal.band ∧ (screwArrival wasValid x s).bal.pMean = s.bal.pMean ∧
    (screwArrival wasValid x s).bal.nP = s.bal.nP ∧
    (screwArrival wasValid x s).bal.overCount = s.bal.overCount ∧
    (screwArrival wasValid x s).bal.recoverCount = s.bal.recoverCount ∧
    (screwArrival wasValid x s).bal.overdrawn = s.bal.overdrawn ∧
    (screwArrival wasValid x s).bal.owed = s.bal.owed ∧ (screwArrival wasValid x s).bal.pLow = s.bal.pLow ∧
    (screwArrival wasValid x s).bal.pHigh = s.bal.pHigh ∧
    (screwArrival wasValid x s).bal.pressureBlind = s.bal.pressureBlind ∧
    (screwArrival wasValid x s).alu.active = s.alu.active ∧
    (screwArrival wasValid x s).alu.entries = s.alu.entries ∧
    (screwArrival wasValid x s).alu.estop = s.alu.estop ∧
    (screwArrival wasValid x s).alu.duplicate = s.alu.duplicate ∧
    (screwArrival wasValid x s).fpt.timer = s.fpt.timer ∧
    (screwArrival wasValid x s).fpt.fitted = s.fpt.fitted ∧
    (screwArrival wasValid x s).fpt.inputs = s.fpt.inputs ∧
    (screwArrival wasValid x s).fpt.estopIn = s.fpt.estopIn ∧
    (screwArrival wasValid x s).fpt.probe = s.fpt.probe ∧
    (screwArrival wasValid x s).fpt.forced = s.fpt.forced := by
  unfold screwArrival; (repeat' split) <;> simp

@[simp] theorem limitArrival_fields (wasTrue : Bool) (s : State) :
    (limitArrival wasTrue s).thu.quality = s.thu.quality ∧ (limitArrival wasTrue s).thu.stroke = s.thu.stroke ∧
    (limitArrival wasTrue s).thu.rate = s.thu.rate ∧ (limitArrival wasTrue s).thu.history = s.thu.history ∧
    (limitArrival wasTrue s).thu.fresh = s.thu.fresh ∧
    (limitArrival wasTrue s).thu.neighbours = s.thu.neighbours ∧
    (limitArrival wasTrue s).thu.counter = s.thu.counter ∧ (limitArrival wasTrue s).thu.set = s.thu.set ∧
    (limitArrival wasTrue s).thu.blind = s.thu.blind ∧
    (limitArrival wasTrue s).thu.strokeEnd = s.thu.strokeEnd ∧
    (limitArrival wasTrue s).thu.rateTarget = s.thu.rateTarget ∧
    (limitArrival wasTrue s).thu.bias = s.thu.bias ∧ (limitArrival wasTrue s).thu.enable = s.thu.enable ∧
    (limitArrival wasTrue s).thu.lastAnswer = s.thu.lastAnswer ∧
    (limitArrival wasTrue s).thu.strokeFault = s.thu.strokeFault ∧
    (limitArrival wasTrue s).thu.denied = s.thu.denied ∧ (limitArrival wasTrue s).thu.skew = s.thu.skew ∧
    (limitArrival wasTrue s).thu.orphaned = s.thu.orphaned ∧
    (limitArrival wasTrue s).alu.active = s.alu.active ∧ (limitArrival wasTrue s).alu.entries = s.alu.entries ∧
    (limitArrival wasTrue s).alu.estop = s.alu.estop ∧
    (limitArrival wasTrue s).alu.duplicate = s.alu.duplicate ∧
    (limitArrival wasTrue s).fpt.timer = s.fpt.timer ∧ (limitArrival wasTrue s).fpt.fitted = s.fpt.fitted ∧
    (limitArrival wasTrue s).fpt.inputs = s.fpt.inputs ∧ (limitArrival wasTrue s).fpt.estopIn = s.fpt.estopIn ∧
    (limitArrival wasTrue s).fpt.probe = s.fpt.probe ∧ (limitArrival wasTrue s).fpt.forced = s.fpt.forced := by
  unfold limitArrival; split <;> simp

@[simp] theorem arrival_fields (before : State) (x : FieldInputs) (c : Channel) (s : State) :
    (arrival before x c s).ptb.console = s.ptb.console ∧
    (arrival before x c s).ptb.endOfListen = s.ptb.endOfListen ∧
    (arrival before x c s).ptb.listenEnd = s.ptb.listenEnd ∧
    (arrival before x c s).ptb.erector = s.ptb.erector ∧ (arrival before x c s).ptb.conveyor = s.ptb.conveyor ∧
    (arrival before x c s).ptb.exErector = s.ptb.exErector ∧
    (arrival before x c s).ptb.exConveyor = s.ptb.exConveyor ∧
    (arrival before x c s).dsu.cutterhead = s.dsu.cutterhead ∧ (arrival before x c s).dsu.nr = s.dsu.nr ∧
    (arrival before x c s).dsu.choice = s.dsu.choice ∧ (arrival before x c s).dsu.downCount = s.dsu.downCount ∧
    (arrival before x c s).dsu.upCount = s.dsu.upCount ∧
    (arrival before x c s).dsu.consoleMax = s.dsu.consoleMax ∧
    (arrival before x c s).dsu.startedAt = s.dsu.startedAt ∧
    (arrival before x c s).dsu.stoppedSince = s.dsu.stoppedSince ∧
    (arrival before x c s).dsu.residency = s.dsu.residency ∧ (arrival before x c s).dsu.timer = s.dsu.timer ∧
    (arrival before x c s).thu.rateTarget = s.thu.rateTarget ∧ (arrival before x c s).thu.bias = s.thu.bias ∧
    (arrival before x c s).thu.enable = s.thu.enable ∧ (arrival before x c s).thu.orphaned = s.thu.orphaned ∧
    (arrival before x c s).gru.active = s.gru.active ∧
    (arrival before x c s).gru.writtenOff = s.gru.writtenOff ∧
    (arrival before x c s).gru.flushTimer = s.gru.flushTimer ∧
    (arrival before x c s).gru.flushRun = s.gru.flushRun ∧ (arrival before x c s).bal.active = s.bal.active ∧
    (arrival before x c s).bal.timer = s.bal.timer ∧ (arrival before x c s).bal.manual = s.bal.manual ∧
    (arrival before x c s).bal.manualRef = s.bal.manualRef ∧
    (arrival before x c s).bal.gateOpen = s.bal.gateOpen ∧
    (arrival before x c s).bal.stopHold = s.bal.stopHold ∧ (arrival before x c s).bal.set = s.bal.set ∧
    (arrival before x c s).bal.blind = s.bal.blind ∧ (arrival before x c s).bal.account = s.bal.account ∧
    (arrival before x c s).bal.remE = s.bal.remE ∧ (arrival before x c s).bal.remX = s.bal.remX ∧
    (arrival before x c s).bal.eRing = s.bal.eRing ∧ (arrival before x c s).bal.xRing = s.bal.xRing ∧
    (arrival before x c s).bal.restarted = s.bal.restarted ∧
    (arrival before x c s).bal.pTarget = s.bal.pTarget ∧ (arrival before x c s).bal.band = s.bal.band ∧
    (arrival before x c s).bal.pMean = s.bal.pMean ∧ (arrival before x c s).bal.nP = s.bal.nP ∧
    (arrival before x c s).bal.overCount = s.bal.overCount ∧
    (arrival before x c s).bal.recoverCount = s.bal.recoverCount ∧
    (arrival before x c s).bal.overdrawn = s.bal.overdrawn ∧ (arrival before x c s).bal.owed = s.bal.owed ∧
    (arrival before x c s).bal.pLow = s.bal.pLow ∧ (arrival before x c s).bal.pHigh = s.bal.pHigh ∧
    (arrival before x c s).bal.pressureBlind = s.bal.pressureBlind ∧
    (arrival before x c s).alu.active = s.alu.active ∧ (arrival before x c s).alu.entries = s.alu.entries ∧
    (arrival before x c s).alu.estop = s.alu.estop ∧ (arrival before x c s).alu.duplicate = s.alu.duplicate ∧
    (arrival before x c s).fpt.timer = s.fpt.timer ∧ (arrival before x c s).fpt.fitted = s.fpt.fitted ∧
    (arrival before x c s).fpt.inputs = s.fpt.inputs ∧ (arrival before x c s).fpt.estopIn = s.fpt.estopIn ∧
    (arrival before x c s).fpt.probe = s.fpt.probe ∧ (arrival before x c s).fpt.forced = s.fpt.forced ∧
    (arrival before x c s).lif.slot = s.lif.slot ∧ (arrival before x c s).lif.seq = s.lif.seq ∧
    (arrival before x c s).lif.idle = s.lif.idle ∧ (arrival before x c s).lif.crcErrors = s.lif.crcErrors ∧
    (arrival before x c s).lif.formatErrors = s.lif.formatErrors ∧
    (arrival before x c s).lif.collisions = s.lif.collisions ∧
    (arrival before x c s).lif.diagCount = s.lif.diagCount ∧ (arrival before x c s).lif.timer = s.lif.timer ∧
    (arrival before x c s).lif.lineFault = s.lif.lineFault ∧
    (arrival before x c s).lif.abandoned = s.lif.abandoned := by
  unfold arrival; (repeat' split) <;> simp

@[simp] theorem estopSample_fields (r : Loop) (s : State) :
    (estopSample r s).bal.active = s.bal.active ∧ (estopSample r s).bal.timer = s.bal.timer ∧
    (estopSample r s).bal.manual = s.bal.manual ∧ (estopSample r s).bal.manualRef = s.bal.manualRef ∧
    (estopSample r s).bal.gateOpen = s.bal.gateOpen ∧ (estopSample r s).bal.acc = s.bal.acc ∧
    (estopSample r s).bal.set = s.bal.set ∧ (estopSample r s).bal.blind = s.bal.blind ∧
    (estopSample r s).bal.account = s.bal.account ∧ (estopSample r s).bal.remE = s.bal.remE ∧
    (estopSample r s).bal.remX = s.bal.remX ∧ (estopSample r s).bal.eRing = s.bal.eRing ∧
    (estopSample r s).bal.xRing = s.bal.xRing ∧ (estopSample r s).bal.restarted = s.bal.restarted ∧
    (estopSample r s).bal.pTarget = s.bal.pTarget ∧ (estopSample r s).bal.band = s.bal.band ∧
    (estopSample r s).bal.pMean = s.bal.pMean ∧ (estopSample r s).bal.nP = s.bal.nP ∧
    (estopSample r s).bal.overCount = s.bal.overCount ∧
    (estopSample r s).bal.recoverCount = s.bal.recoverCount ∧
    (estopSample r s).bal.overdrawn = s.bal.overdrawn ∧ (estopSample r s).bal.owed = s.bal.owed ∧
    (estopSample r s).bal.pLow = s.bal.pLow ∧ (estopSample r s).bal.pHigh = s.bal.pHigh ∧
    (estopSample r s).bal.pressureBlind = s.bal.pressureBlind ∧ (estopSample r s).alu.active = s.alu.active ∧
    (estopSample r s).alu.entries = s.alu.entries ∧ (estopSample r s).alu.duplicate = s.alu.duplicate ∧
    (estopSample r s).fpt.timer = s.fpt.timer ∧ (estopSample r s).fpt.fitted = s.fpt.fitted ∧
    (estopSample r s).fpt.inputs = s.fpt.inputs ∧ (estopSample r s).fpt.probe = s.fpt.probe ∧
    (estopSample r s).fpt.forced = s.fpt.forced := by
  unfold estopSample; split <;> simp

@[simp] theorem sampleChannel_fields (x : FieldInputs) (c : Channel) (s : State) :
    (sampleChannel x c s).ptb.console = s.ptb.console ∧
    (sampleChannel x c s).ptb.endOfListen = s.ptb.endOfListen ∧
    (sampleChannel x c s).ptb.listenEnd = s.ptb.listenEnd ∧ (sampleChannel x c s).ptb.erector = s.ptb.erector ∧
    (sampleChannel x c s).ptb.conveyor = s.ptb.conveyor ∧
    (sampleChannel x c s).ptb.exErector = s.ptb.exErector ∧
    (sampleChannel x c s).ptb.exConveyor = s.ptb.exConveyor ∧ (sampleChannel x c s).dsu.choice = s.dsu.choice ∧
    (sampleChannel x c s).dsu.consoleMax = s.dsu.consoleMax ∧
    (sampleChannel x c s).dsu.startedAt = s.dsu.startedAt ∧
    (sampleChannel x c s).dsu.stoppedSince = s.dsu.stoppedSince ∧
    (sampleChannel x c s).dsu.residency = s.dsu.residency ∧ (sampleChannel x c s).dsu.timer = s.dsu.timer ∧
    (sampleChannel x c s).thu.rateTarget = s.thu.rateTarget ∧ (sampleChannel x c s).thu.bias = s.thu.bias ∧
    (sampleChannel x c s).gru.active = s.gru.active ∧ (sampleChannel x c s).gru.writtenOff = s.gru.writtenOff ∧
    (sampleChannel x c s).bal.active = s.bal.active ∧ (sampleChannel x c s).bal.timer = s.bal.timer ∧
    (sampleChannel x c s).bal.manual = s.bal.manual ∧ (sampleChannel x c s).bal.manualRef = s.bal.manualRef ∧
    (sampleChannel x c s).bal.gateOpen = s.bal.gateOpen ∧ (sampleChannel x c s).bal.set = s.bal.set ∧
    (sampleChannel x c s).bal.blind = s.bal.blind ∧ (sampleChannel x c s).bal.account = s.bal.account ∧
    (sampleChannel x c s).bal.remE = s.bal.remE ∧ (sampleChannel x c s).bal.remX = s.bal.remX ∧
    (sampleChannel x c s).bal.eRing = s.bal.eRing ∧ (sampleChannel x c s).bal.xRing = s.bal.xRing ∧
    (sampleChannel x c s).bal.restarted = s.bal.restarted ∧ (sampleChannel x c s).bal.pTarget = s.bal.pTarget ∧
    (sampleChannel x c s).bal.band = s.bal.band ∧ (sampleChannel x c s).bal.pMean = s.bal.pMean ∧
    (sampleChannel x c s).bal.nP = s.bal.nP ∧ (sampleChannel x c s).bal.overCount = s.bal.overCount ∧
    (sampleChannel x c s).bal.recoverCount = s.bal.recoverCount ∧
    (sampleChannel x c s).bal.overdrawn = s.bal.overdrawn ∧ (sampleChannel x c s).bal.owed = s.bal.owed ∧
    (sampleChannel x c s).bal.pLow = s.bal.pLow ∧ (sampleChannel x c s).bal.pHigh = s.bal.pHigh ∧
    (sampleChannel x c s).bal.pressureBlind = s.bal.pressureBlind ∧
    (sampleChannel x c s).alu.active = s.alu.active ∧ (sampleChannel x c s).alu.estop = s.alu.estop ∧
    (sampleChannel x c s).alu.duplicate = s.alu.duplicate ∧ (sampleChannel x c s).fpt.timer = s.fpt.timer ∧
    (sampleChannel x c s).fpt.fitted = s.fpt.fitted ∧ (sampleChannel x c s).fpt.estopIn = s.fpt.estopIn ∧
    (sampleChannel x c s).fpt.probe = s.fpt.probe ∧ (sampleChannel x c s).lif.slot = s.lif.slot ∧
    (sampleChannel x c s).lif.seq = s.lif.seq ∧ (sampleChannel x c s).lif.idle = s.lif.idle ∧
    (sampleChannel x c s).lif.crcErrors = s.lif.crcErrors ∧
    (sampleChannel x c s).lif.formatErrors = s.lif.formatErrors ∧
    (sampleChannel x c s).lif.collisions = s.lif.collisions ∧
    (sampleChannel x c s).lif.diagCount = s.lif.diagCount ∧ (sampleChannel x c s).lif.timer = s.lif.timer ∧
    (sampleChannel x c s).lif.lineFault = s.lif.lineFault ∧
    (sampleChannel x c s).lif.abandoned = s.lif.abandoned := by
  simp [sampleChannel]

@[simp] theorem sampleChannels_fields (x : FieldInputs) (cs : List Channel) (s : State) :
    (sampleChannels x cs s).ptb.console = s.ptb.console ∧
    (sampleChannels x cs s).ptb.endOfListen = s.ptb.endOfListen ∧
    (sampleChannels x cs s).ptb.listenEnd = s.ptb.listenEnd ∧
    (sampleChannels x cs s).ptb.erector = s.ptb.erector ∧
    (sampleChannels x cs s).ptb.conveyor = s.ptb.conveyor ∧
    (sampleChannels x cs s).ptb.exErector = s.ptb.exErector ∧
    (sampleChannels x cs s).ptb.exConveyor = s.ptb.exConveyor ∧
    (sampleChannels x cs s).dsu.choice = s.dsu.choice ∧
    (sampleChannels x cs s).dsu.consoleMax = s.dsu.consoleMax ∧
    (sampleChannels x cs s).dsu.startedAt = s.dsu.startedAt ∧
    (sampleChannels x cs s).dsu.stoppedSince = s.dsu.stoppedSince ∧
    (sampleChannels x cs s).dsu.residency = s.dsu.residency ∧ (sampleChannels x cs s).dsu.timer = s.dsu.timer ∧
    (sampleChannels x cs s).thu.rateTarget = s.thu.rateTarget ∧ (sampleChannels x cs s).thu.bias = s.thu.bias ∧
    (sampleChannels x cs s).gru.active = s.gru.active ∧
    (sampleChannels x cs s).gru.writtenOff = s.gru.writtenOff ∧
    (sampleChannels x cs s).bal.active = s.bal.active ∧ (sampleChannels x cs s).bal.timer = s.bal.timer ∧
    (sampleChannels x cs s).bal.manual = s.bal.manual ∧
    (sampleChannels x cs s).bal.manualRef = s.bal.manualRef ∧
    (sampleChannels x cs s).bal.gateOpen = s.bal.gateOpen ∧ (sampleChannels x cs s).bal.set = s.bal.set ∧
    (sampleChannels x cs s).bal.blind = s.bal.blind ∧ (sampleChannels x cs s).bal.account = s.bal.account ∧
    (sampleChannels x cs s).bal.remE = s.bal.remE ∧ (sampleChannels x cs s).bal.remX = s.bal.remX ∧
    (sampleChannels x cs s).bal.eRing = s.bal.eRing ∧ (sampleChannels x cs s).bal.xRing = s.bal.xRing ∧
    (sampleChannels x cs s).bal.restarted = s.bal.restarted ∧
    (sampleChannels x cs s).bal.pTarget = s.bal.pTarget ∧ (sampleChannels x cs s).bal.band = s.bal.band ∧
    (sampleChannels x cs s).bal.pMean = s.bal.pMean ∧ (sampleChannels x cs s).bal.nP = s.bal.nP ∧
    (sampleChannels x cs s).bal.overCount = s.bal.overCount ∧
    (sampleChannels x cs s).bal.recoverCount = s.bal.recoverCount ∧
    (sampleChannels x cs s).bal.overdrawn = s.bal.overdrawn ∧ (sampleChannels x cs s).bal.owed = s.bal.owed ∧
    (sampleChannels x cs s).bal.pLow = s.bal.pLow ∧ (sampleChannels x cs s).bal.pHigh = s.bal.pHigh ∧
    (sampleChannels x cs s).bal.pressureBlind = s.bal.pressureBlind ∧
    (sampleChannels x cs s).alu.active = s.alu.active ∧ (sampleChannels x cs s).alu.estop = s.alu.estop ∧
    (sampleChannels x cs s).alu.duplicate = s.alu.duplicate ∧ (sampleChannels x cs s).fpt.timer = s.fpt.timer ∧
    (sampleChannels x cs s).fpt.fitted = s.fpt.fitted ∧ (sampleChannels x cs s).fpt.estopIn = s.fpt.estopIn ∧
    (sampleChannels x cs s).fpt.probe = s.fpt.probe ∧ (sampleChannels x cs s).lif.slot = s.lif.slot ∧
    (sampleChannels x cs s).lif.seq = s.lif.seq ∧ (sampleChannels x cs s).lif.idle = s.lif.idle ∧
    (sampleChannels x cs s).lif.crcErrors = s.lif.crcErrors ∧
    (sampleChannels x cs s).lif.formatErrors = s.lif.formatErrors ∧
    (sampleChannels x cs s).lif.collisions = s.lif.collisions ∧
    (sampleChannels x cs s).lif.diagCount = s.lif.diagCount ∧ (sampleChannels x cs s).lif.timer = s.lif.timer ∧
    (sampleChannels x cs s).lif.lineFault = s.lif.lineFault ∧
    (sampleChannels x cs s).lif.abandoned = s.lif.abandoned := by
  induction cs generalizing s with
  | nil => simp [sampleChannels]
  | cons a l ih => simp [sampleChannels, ih]

@[simp] theorem runSample_fields (x : FieldInputs) (s : State) :
    (runSample x s).ptb.console = s.ptb.console ∧ (runSample x s).ptb.endOfListen = s.ptb.endOfListen ∧
    (runSample x s).ptb.listenEnd = s.ptb.listenEnd ∧ (runSample x s).ptb.erector = s.ptb.erector ∧
    (runSample x s).ptb.conveyor = s.ptb.conveyor ∧ (runSample x s).ptb.exErector = s.ptb.exErector ∧
    (runSample x s).ptb.exConveyor = s.ptb.exConveyor ∧ (runSample x s).dsu.choice = s.dsu.choice ∧
    (runSample x s).dsu.consoleMax = s.dsu.consoleMax ∧ (runSample x s).dsu.startedAt = s.dsu.startedAt ∧
    (runSample x s).dsu.stoppedSince = s.dsu.stoppedSince ∧ (runSample x s).dsu.residency = s.dsu.residency ∧
    (runSample x s).dsu.timer = s.dsu.timer ∧ (runSample x s).thu.rateTarget = s.thu.rateTarget ∧
    (runSample x s).thu.bias = s.thu.bias ∧ (runSample x s).gru.active = s.gru.active ∧
    (runSample x s).gru.writtenOff = s.gru.writtenOff ∧ (runSample x s).bal.active = s.bal.active ∧
    (runSample x s).bal.timer = s.bal.timer ∧ (runSample x s).bal.manual = s.bal.manual ∧
    (runSample x s).bal.manualRef = s.bal.manualRef ∧ (runSample x s).bal.gateOpen = s.bal.gateOpen ∧
    (runSample x s).bal.set = s.bal.set ∧ (runSample x s).bal.blind = s.bal.blind ∧
    (runSample x s).bal.account = s.bal.account ∧ (runSample x s).bal.remE = s.bal.remE ∧
    (runSample x s).bal.remX = s.bal.remX ∧ (runSample x s).bal.eRing = s.bal.eRing ∧
    (runSample x s).bal.xRing = s.bal.xRing ∧ (runSample x s).bal.restarted = s.bal.restarted ∧
    (runSample x s).bal.pTarget = s.bal.pTarget ∧ (runSample x s).bal.band = s.bal.band ∧
    (runSample x s).bal.pMean = s.bal.pMean ∧ (runSample x s).bal.nP = s.bal.nP ∧
    (runSample x s).bal.overCount = s.bal.overCount ∧ (runSample x s).bal.recoverCount = s.bal.recoverCount ∧
    (runSample x s).bal.overdrawn = s.bal.overdrawn ∧ (runSample x s).bal.owed = s.bal.owed ∧
    (runSample x s).bal.pLow = s.bal.pLow ∧ (runSample x s).bal.pHigh = s.bal.pHigh ∧
    (runSample x s).bal.pressureBlind = s.bal.pressureBlind ∧ (runSample x s).alu.active = s.alu.active ∧
    (runSample x s).alu.duplicate = s.alu.duplicate ∧ (runSample x s).fpt.timer = s.fpt.timer ∧
    (runSample x s).fpt.fitted = s.fpt.fitted ∧ (runSample x s).fpt.probe = s.fpt.probe ∧
    (runSample x s).lif.slot = s.lif.slot ∧ (runSample x s).lif.seq = s.lif.seq ∧
    (runSample x s).lif.idle = s.lif.idle ∧ (runSample x s).lif.crcErrors = s.lif.crcErrors ∧
    (runSample x s).lif.formatErrors = s.lif.formatErrors ∧ (runSample x s).lif.collisions = s.lif.collisions ∧
    (runSample x s).lif.diagCount = s.lif.diagCount ∧ (runSample x s).lif.timer = s.lif.timer ∧
    (runSample x s).lif.lineFault = s.lif.lineFault ∧
    (runSample x s).lif.abandoned = s.lif.abandoned := by
  simp [runSample]

@[simp] theorem fit_fields (c : Channel) (s : State) :
    (fit c s).fpt.timer = s.fpt.timer ∧ (fit c s).fpt.inputs = s.fpt.inputs ∧
    (fit c s).fpt.estopIn = s.fpt.estopIn ∧ (fit c s).fpt.probe = s.fpt.probe ∧
    (fit c s).fpt.written = s.fpt.written ∧ (fit c s).fpt.wires = s.fpt.wires ∧
    (fit c s).fpt.forced = s.fpt.forced := by
  simp [fit]

@[simp] theorem fitInput_fields (c : Channel) (v : Int) (s : State) :
    (fitInput c v s).fpt.timer = s.fpt.timer ∧ (fitInput c v s).fpt.estopIn = s.fpt.estopIn ∧
    (fitInput c v s).fpt.probe = s.fpt.probe ∧ (fitInput c v s).fpt.written = s.fpt.written ∧
    (fitInput c v s).fpt.wires = s.fpt.wires ∧ (fitInput c v s).fpt.forced = s.fpt.forced := by
  simp [fitInput]

@[simp] theorem beginTrial_fields (n : Nat) (s : State) :
    (beginTrial n s).alu.active = s.alu.active ∧ (beginTrial n s).alu.entries = s.alu.entries ∧
    (beginTrial n s).alu.estop = s.alu.estop ∧ (beginTrial n s).alu.duplicate = s.alu.duplicate ∧
    (beginTrial n s).fpt.timer = s.fpt.timer ∧ (beginTrial n s).fpt.fitted = s.fpt.fitted ∧
    (beginTrial n s).fpt.inputs = s.fpt.inputs ∧ (beginTrial n s).fpt.estopIn = s.fpt.estopIn ∧
    (beginTrial n s).fpt.forced = s.fpt.forced := by
  unfold beginTrial; (repeat' split) <;> simp

@[simp] theorem nextTrial_fields (s : State) :
    (nextTrial s).alu.active = s.alu.active ∧ (nextTrial s).alu.entries = s.alu.entries ∧
    (nextTrial s).alu.estop = s.alu.estop ∧ (nextTrial s).alu.duplicate = s.alu.duplicate ∧
    (nextTrial s).fpt.timer = s.fpt.timer ∧ (nextTrial s).fpt.fitted = s.fpt.fitted ∧
    (nextTrial s).fpt.inputs = s.fpt.inputs ∧ (nextTrial s).fpt.estopIn = s.fpt.estopIn ∧
    (nextTrial s).fpt.forced = s.fpt.forced := by
  simp [nextTrial]

@[simp] theorem countSample_fields (run : Nat) (s : State) :
    (countSample run s).fpt.timer = s.fpt.timer ∧ (countSample run s).fpt.fitted = s.fpt.fitted ∧
    (countSample run s).fpt.inputs = s.fpt.inputs ∧ (countSample run s).fpt.estopIn = s.fpt.estopIn ∧
    (countSample run s).fpt.written = s.fpt.written ∧ (countSample run s).fpt.wires = s.fpt.wires ∧
    (countSample run s).fpt.forced = s.fpt.forced := by
  simp [countSample]

@[simp] theorem windowTrial_fields (c : Channel) (x : FieldInputs) (s : State) :
    (windowTrial c x s).alu.active = s.alu.active ∧ (windowTrial c x s).alu.entries = s.alu.entries ∧
    (windowTrial c x s).alu.estop = s.alu.estop ∧ (windowTrial c x s).alu.duplicate = s.alu.duplicate ∧
    (windowTrial c x s).fpt.timer = s.fpt.timer ∧ (windowTrial c x s).fpt.estopIn = s.fpt.estopIn ∧
    (windowTrial c x s).fpt.forced = s.fpt.forced := by
  unfold windowTrial; (repeat' split) <;> simp

@[simp] theorem fitGrout_fields (s : State) :
    (fitGrout s).fpt.timer = s.fpt.timer ∧ (fitGrout s).fpt.estopIn = s.fpt.estopIn ∧
    (fitGrout s).fpt.probe = s.fpt.probe ∧ (fitGrout s).fpt.written = s.fpt.written ∧
    (fitGrout s).fpt.wires = s.fpt.wires ∧ (fitGrout s).fpt.forced = s.fpt.forced := by
  simp [fitGrout]

@[simp] theorem endGroutTrial_fields (s : State) :
    (endGroutTrial s).alu.active = s.alu.active ∧ (endGroutTrial s).alu.entries = s.alu.entries ∧
    (endGroutTrial s).alu.estop = s.alu.estop ∧ (endGroutTrial s).alu.duplicate = s.alu.duplicate ∧
    (endGroutTrial s).fpt.timer = s.fpt.timer ∧ (endGroutTrial s).fpt.fitted = s.fpt.fitted ∧
    (endGroutTrial s).fpt.inputs = s.fpt.inputs ∧ (endGroutTrial s).fpt.estopIn = s.fpt.estopIn ∧
    (endGroutTrial s).fpt.forced = s.fpt.forced := by
  simp [endGroutTrial]

@[simp] theorem serveTrial_fields (x : FieldInputs) (s : State) :
    (serveTrial x s).fpt.timer = s.fpt.timer ∧ (serveTrial x s).fpt.fitted = s.fpt.fitted ∧
    (serveTrial x s).fpt.estopIn = s.fpt.estopIn ∧ (serveTrial x s).fpt.probe = s.fpt.probe ∧
    (serveTrial x s).fpt.written = s.fpt.written ∧ (serveTrial x s).fpt.wires = s.fpt.wires ∧
    (serveTrial x s).fpt.forced = s.fpt.forced := by
  unfold serveTrial; split <;> simp

@[simp] theorem noteGrout_fields (x : FieldInputs) (s : State) :
    (noteGrout x s).fpt.timer = s.fpt.timer ∧ (noteGrout x s).fpt.fitted = s.fpt.fitted ∧
    (noteGrout x s).fpt.inputs = (serveTrial x s).fpt.inputs ∧ (noteGrout x s).fpt.estopIn = s.fpt.estopIn ∧
    (noteGrout x s).fpt.written = s.fpt.written ∧ (noteGrout x s).fpt.wires = s.fpt.wires ∧
    (noteGrout x s).fpt.forced = s.fpt.forced := by
  simp [noteGrout]

@[simp] theorem groutTrialStep_fields (x : FieldInputs) (s : State) :
    (groutTrialStep x s).alu.active = s.alu.active ∧ (groutTrialStep x s).alu.entries = s.alu.entries ∧
    (groutTrialStep x s).alu.estop = s.alu.estop ∧ (groutTrialStep x s).alu.duplicate = s.alu.duplicate ∧
    (groutTrialStep x s).fpt.timer = s.fpt.timer ∧ (groutTrialStep x s).fpt.estopIn = s.fpt.estopIn ∧
    (groutTrialStep x s).fpt.forced = s.fpt.forced := by
  unfold groutTrialStep; dsimp only; (repeat' split) <;> simp

@[simp] theorem fitIf_fields (b : Bool) (c : Channel) (s : State) :
    (fitIf b c s).fpt.timer = s.fpt.timer ∧ (fitIf b c s).fpt.inputs = s.fpt.inputs ∧
    (fitIf b c s).fpt.estopIn = s.fpt.estopIn ∧ (fitIf b c s).fpt.probe = s.fpt.probe ∧
    (fitIf b c s).fpt.written = s.fpt.written ∧ (fitIf b c s).fpt.wires = s.fpt.wires ∧
    (fitIf b c s).fpt.forced = s.fpt.forced := by
  unfold fitIf; split <;> simp

@[simp] theorem fixFitted_fields (s : State) :
    (fixFitted s).fpt.timer = s.fpt.timer ∧ (fixFitted s).fpt.inputs = s.fpt.inputs ∧
    (fixFitted s).fpt.estopIn = s.fpt.estopIn ∧ (fixFitted s).fpt.probe = s.fpt.probe ∧
    (fixFitted s).fpt.written = s.fpt.written ∧ (fixFitted s).fpt.wires = s.fpt.wires ∧
    (fixFitted s).fpt.forced = s.fpt.forced := by
  simp [fixFitted]

/-! ## What the input table and the fitted set hold after a write -/

theorem channel_number_inj (c d : Channel) : c.number = d.number ↔ d = c := by
  cases c <;> cases d <;> simp [Channel.number]

theorem inputOf_setInput (c d : Channel) (i : InputState) (s : State) (hc : c.number < 18)
    (hl : s.fpt.inputs.length = 18) :
    inputOf (setInput c i s) d = if d = c then i else inputOf s d := by
  simp only [inputOf, setInput, State.onFpt, putAt, List.getD, List.getElem?_set, channel_number_inj, hl, hc]
  split <;> simp

theorem isFitted_fit (c d : Channel) (s : State) (hl : s.fpt.fitted.length = 26) :
    isFitted (fit c s) d = true ↔ d = c ∨ isFitted s d = true := by
  have hc : c.number < 26 := by cases c <;> decide
  simp only [isFitted, fit, State.onFpt, putAt, List.getD, List.getElem?_set, channel_number_inj, hl, hc]
  split <;> simp_all

/-- The trial in hand after a trial has begun, and what it exercises. -/
theorem beginTrial_holds (n : Nat) (s : State) :
    (beginTrial n s).fpt.probe =
      { trial := n, samples := 0, run := 0, startPressure := none, forcingSeen := false } ∧
    (beginTrial n s).fpt.fitted = s.fpt.fitted ∧ (beginTrial n s).fpt.inputs = s.fpt.inputs ∧
    (beginTrial n s).fpt.written =
      if n = 10 then { s.fpt.written with enable0 := true }
      else if n = 11 then { s.fpt.written with enable1 := true }
      else if n = 12 then { s.fpt.written with pump := s.cfg.image.rateLow, flushOpen := false }
      else s.fpt.written := by
  unfold beginTrial; dsimp only; refine ⟨?_, ?_, ?_, ?_⟩ <;> (repeat' split) <;> simp [State.onFpt]

/-- The channels of a list sampled one after another, as a fold. -/
theorem sampleChannels_foldl (x : FieldInputs) (cs : List Channel) (s : State) :
    sampleChannels x cs s = cs.foldl (fun u c => sampleChannel x c u) s := by
  induction cs generalizing s with
  | nil => rfl
  | cons c rest ih => rw [sampleChannels, ih, List.foldl_cons]

end Sys2Proof.Machine
end

