-- ==== Sys2Proof/Laws/Starting.lean ====
section
/-! SUPPORT. What each operation of Machine/Starting.lean leaves unchanged, block by block and, in the
blocks it changes, field by field. -/

namespace Sys2Proof.Machine

open Sys2Proof

@[simp] theorem enterConfigFault_frame (s : State) :
    (enterConfigFault s).pending = s.pending ∧ (enterConfigFault s).elapsed = s.elapsed ∧
    (enterConfigFault s).pauseCause = s.pauseCause ∧ (enterConfigFault s).ring = s.ring ∧
    (enterConfigFault s).ptb = s.ptb ∧ (enterConfigFault s).oru = s.oru ∧ (enterConfigFault s).dsu = s.dsu ∧
    (enterConfigFault s).thu = s.thu ∧ (enterConfigFault s).bsq = s.bsq ∧ (enterConfigFault s).gru = s.gru ∧
    (enterConfigFault s).bal = s.bal := by
  simp [enterConfigFault]

@[simp] theorem beginProbe_frame (r : ImageRead) (s : State) :
    (beginProbe r s).pending = s.pending ∧ (beginProbe r s).elapsed = s.elapsed ∧
    (beginProbe r s).pauseCause = s.pauseCause ∧ (beginProbe r s).ring = s.ring ∧ (beginProbe r s).ptb = s.ptb ∧
    (beginProbe r s).oru = s.oru ∧ (beginProbe r s).dsu = s.dsu ∧ (beginProbe r s).bsq = s.bsq ∧
    (beginProbe r s).gru = s.gru ∧ (beginProbe r s).lif = s.lif := by
  simp [beginProbe]

@[simp] theorem startListen_frame (warm : Bool) (s : State) :
    (startListen warm s).pending = s.pending ∧ (startListen warm s).elapsed = s.elapsed ∧
    (startListen warm s).ring = s.ring ∧ (startListen warm s).oru = s.oru ∧ (startListen warm s).dsu = s.dsu ∧
    (startListen warm s).gru = s.gru := by
  simp [startListen]

@[simp] theorem endProbe_frame (s : State) :
    (endProbe s).pending = s.pending ∧ (endProbe s).elapsed = s.elapsed ∧ (endProbe s).ring = s.ring ∧
    (endProbe s).oru = s.oru ∧ (endProbe s).dsu = s.dsu := by
  simp [endProbe]

@[simp] theorem nextListenJoin_frame (start : Time) (s : State) :
    (nextListenJoin start s).pending = s.pending ∧ (nextListenJoin start s).elapsed = s.elapsed ∧
    (nextListenJoin start s).phase = s.phase ∧ (nextListenJoin start s).pauseCause = s.pauseCause ∧
    (nextListenJoin start s).ring = s.ring ∧ (nextListenJoin start s).ptb = s.ptb ∧
    (nextListenJoin start s).oru = s.oru ∧ (nextListenJoin start s).dsu = s.dsu ∧
    (nextListenJoin start s).thu = s.thu ∧ (nextListenJoin start s).bsq = s.bsq ∧
    (nextListenJoin start s).gru = s.gru ∧ (nextListenJoin start s).bal = s.bal ∧
    (nextListenJoin start s).fpt = s.fpt := by
  simp [nextListenJoin]

@[simp] theorem adoptCursorRing_frame (s : State) :
    (adoptCursorRing s).pending = s.pending ∧ (adoptCursorRing s).elapsed = s.elapsed ∧
    (adoptCursorRing s).phase = s.phase ∧ (adoptCursorRing s).pauseCause = s.pauseCause ∧
    (adoptCursorRing s).ring = s.ring ∧ (adoptCursorRing s).cfg = s.cfg ∧ (adoptCursorRing s).ptb = s.ptb ∧
    (adoptCursorRing s).oru = s.oru ∧ (adoptCursorRing s).dsu = s.dsu ∧ (adoptCursorRing s).thu = s.thu ∧
    (adoptCursorRing s).gru = s.gru ∧ (adoptCursorRing s).bal = s.bal ∧ (adoptCursorRing s).alu = s.alu ∧
    (adoptCursorRing s).fpt = s.fpt ∧ (adoptCursorRing s).lif = s.lif := by
  unfold adoptCursorRing; split <;> simp

@[simp] theorem startBalanceTimer_frame (s : State) :
    (startBalanceTimer s).pending = s.pending ∧ (startBalanceTimer s).elapsed = s.elapsed ∧
    (startBalanceTimer s).phase = s.phase ∧ (startBalanceTimer s).pauseCause = s.pauseCause ∧
    (startBalanceTimer s).ring = s.ring ∧ (startBalanceTimer s).cfg = s.cfg ∧
    (startBalanceTimer s).ptb = s.ptb ∧ (startBalanceTimer s).oru = s.oru ∧ (startBalanceTimer s).dsu = s.dsu ∧
    (startBalanceTimer s).thu = s.thu ∧ (startBalanceTimer s).bsq = s.bsq ∧ (startBalanceTimer s).gru = s.gru ∧
    (startBalanceTimer s).alu = s.alu ∧ (startBalanceTimer s).fpt = s.fpt ∧
    (startBalanceTimer s).lif = s.lif := by
  refine ⟨?_, ?_, ?_, ?_, ?_, ?_, ?_, ?_, ?_, ?_, ?_, ?_, ?_, ?_, ?_⟩ <;> rfl

@[simp] theorem leaveListen_frame (s : State) :
    (leaveListen s).pending = s.pending ∧ (leaveListen s).elapsed = s.elapsed ∧ (leaveListen s).ring = s.ring ∧
    (leaveListen s).cfg = s.cfg ∧ (leaveListen s).ptb = s.ptb ∧ (leaveListen s).oru = s.oru ∧
    (leaveListen s).gru = s.gru := by
  unfold leaveListen; split <;> simp

@[simp] theorem endListen_frame (s : State) :
    (endListen s).pending = s.pending ∧ (endListen s).elapsed = s.elapsed ∧ (endListen s).oru = s.oru ∧
    (endListen s).gru = s.gru := by
  simp [endListen]

@[simp] theorem warmRestart_frame (s : State) :
    (warmRestart s).pending = s.pending ∧ (warmRestart s).elapsed = s.elapsed ∧
    (warmRestart s).ring = s.ring := by
  simp [warmRestart]

@[simp] theorem enterConfigFault_fields (s : State) :
    (enterConfigFault s).cfg.straps = s.cfg.straps ∧ (enterConfigFault s).cfg.image = s.cfg.image ∧
    (enterConfigFault s).cfg.digest = s.cfg.digest ∧ (enterConfigFault s).cfg.warm = s.cfg.warm ∧
    (enterConfigFault s).cfg.listenTimer = s.cfg.listenTimer ∧
    (enterConfigFault s).cfg.joinTimer = s.cfg.joinTimer ∧
    (enterConfigFault s).cfg.joinCount = s.cfg.joinCount ∧ (enterConfigFault s).alu.active = s.alu.active ∧
    (enterConfigFault s).alu.entries = s.alu.entries ∧ (enterConfigFault s).alu.estop = s.alu.estop ∧
    (enterConfigFault s).alu.duplicate = s.alu.duplicate ∧ (enterConfigFault s).fpt.timer = s.fpt.timer ∧
    (enterConfigFault s).fpt.fitted = s.fpt.fitted ∧ (enterConfigFault s).fpt.inputs = s.fpt.inputs ∧
    (enterConfigFault s).fpt.estopIn = s.fpt.estopIn ∧ (enterConfigFault s).fpt.probe = s.fpt.probe ∧
    (enterConfigFault s).fpt.written = s.fpt.written ∧ (enterConfigFault s).fpt.forced = s.fpt.forced ∧
    (enterConfigFault s).lif.slot = s.lif.slot ∧ (enterConfigFault s).lif.seq = s.lif.seq ∧
    (enterConfigFault s).lif.idle = s.lif.idle ∧ (enterConfigFault s).lif.crcErrors = s.lif.crcErrors ∧
    (enterConfigFault s).lif.formatErrors = s.lif.formatErrors ∧
    (enterConfigFault s).lif.collisions = s.lif.collisions ∧
    (enterConfigFault s).lif.diagCount = s.lif.diagCount ∧ (enterConfigFault s).lif.timer = s.lif.timer ∧
    (enterConfigFault s).lif.lineFault = s.lif.lineFault ∧
    (enterConfigFault s).lif.abandoned = s.lif.abandoned := by
  simp [enterConfigFault]

@[simp] theorem beginProbe_fields (r : ImageRead) (s : State) :
    (beginProbe r s).cfg.straps = s.cfg.straps ∧ (beginProbe r s).cfg.warm = s.cfg.warm ∧
    (beginProbe r s).cfg.listenTimer = s.cfg.listenTimer ∧ (beginProbe r s).cfg.joinTimer = s.cfg.joinTimer ∧
    (beginProbe r s).cfg.joinCount = s.cfg.joinCount ∧ (beginProbe r s).cfg.faultTimer = s.cfg.faultTimer ∧
    (beginProbe r s).fpt.fitted = s.fpt.fitted ∧ (beginProbe r s).fpt.inputs = s.fpt.inputs ∧
    (beginProbe r s).fpt.estopIn = s.fpt.estopIn ∧ (beginProbe r s).fpt.forced = s.fpt.forced := by
  simp [beginProbe]

@[simp] theorem startListen_fields (warm : Bool) (s : State) :
    (startListen warm s).cfg.straps = s.cfg.straps ∧ (startListen warm s).cfg.image = s.cfg.image ∧
    (startListen warm s).cfg.digest = s.cfg.digest ∧ (startListen warm s).cfg.faultTimer = s.cfg.faultTimer ∧
    (startListen warm s).ptb.peers = s.ptb.peers ∧ (startListen warm s).ptb.console = s.ptb.console ∧
    (startListen warm s).ptb.endOfListen = s.ptb.endOfListen ∧
    (startListen warm s).ptb.listenEnd = s.ptb.listenEnd ∧ (startListen warm s).thu.quality = s.thu.quality ∧
    (startListen warm s).thu.stroke = s.thu.stroke ∧ (startListen warm s).thu.rate = s.thu.rate ∧
    (startListen warm s).thu.history = s.thu.history ∧ (startListen warm s).thu.fresh = s.thu.fresh ∧
    (startListen warm s).thu.neighbours = s.thu.neighbours ∧ (startListen warm s).thu.counter = s.thu.counter ∧
    (startListen warm s).thu.set = s.thu.set ∧ (startListen warm s).thu.blind = s.thu.blind ∧
    (startListen warm s).thu.strokeEnd = s.thu.strokeEnd ∧
    (startListen warm s).thu.rateTarget = s.thu.rateTarget ∧ (startListen warm s).thu.bias = s.thu.bias ∧
    (startListen warm s).thu.enable = s.thu.enable ∧ (startListen warm s).thu.lastAnswer = s.thu.lastAnswer ∧
    (startListen warm s).thu.strokeFault = s.thu.strokeFault ∧ (startListen warm s).thu.denied = s.thu.denied ∧
    (startListen warm s).thu.skew = s.thu.skew ∧ (startListen warm s).bsq.cursor = s.bsq.cursor ∧
    (startListen warm s).bsq.cursorRing = s.bsq.cursorRing ∧
    (startListen warm s).bsq.progress = s.bsq.progress ∧ (startListen warm s).bsq.nextTag = s.bsq.nextTag ∧
    (startListen warm s).bsq.buildStart = s.bsq.buildStart ∧ (startListen warm s).bsq.placed = s.bsq.placed ∧
    (startListen warm s).bsq.substituted = s.bsq.substituted ∧
    (startListen warm s).bsq.holderSeen = s.bsq.holderSeen ∧ (startListen warm s).bal.manual = s.bal.manual ∧
    (startListen warm s).bal.manualRef = s.bal.manualRef ∧ (startListen warm s).bal.gateOpen = s.bal.gateOpen ∧
    (startListen warm s).bal.account = s.bal.account ∧ (startListen warm s).bal.remE = s.bal.remE ∧
    (startListen warm s).bal.remX = s.bal.remX ∧ (startListen warm s).bal.eRing = s.bal.eRing ∧
    (startListen warm s).bal.xRing = s.bal.xRing ∧ (startListen warm s).bal.restarted = s.bal.restarted ∧
    (startListen warm s).bal.pTarget = s.bal.pTarget ∧ (startListen warm s).bal.band = s.bal.band ∧
    (startListen warm s).alu.active = s.alu.active ∧ (startListen warm s).alu.entries = s.alu.entries ∧
    (startListen warm s).alu.estop = s.alu.estop ∧ (startListen warm s).alu.duplicate = s.alu.duplicate ∧
    (startListen warm s).fpt.timer = s.fpt.timer ∧ (startListen warm s).fpt.fitted = s.fpt.fitted ∧
    (startListen warm s).fpt.inputs = s.fpt.inputs ∧ (startListen warm s).fpt.estopIn = s.fpt.estopIn ∧
    (startListen warm s).fpt.probe = s.fpt.probe ∧ (startListen warm s).fpt.forced = s.fpt.forced ∧
    (startListen warm s).lif.slot = s.lif.slot ∧ (startListen warm s).lif.seq = s.lif.seq ∧
    (startListen warm s).lif.idle = s.lif.idle ∧ (startListen warm s).lif.crcErrors = s.lif.crcErrors ∧
    (startListen warm s).lif.formatErrors = s.lif.formatErrors ∧
    (startListen warm s).lif.collisions = s.lif.collisions ∧
    (startListen warm s).lif.diagCount = s.lif.diagCount ∧ (startListen warm s).lif.timer = s.lif.timer ∧
    (startListen warm s).lif.lineFault = s.lif.lineFault ∧
    (startListen warm s).lif.abandoned = s.lif.abandoned := by
  simp [startListen]

@[simp] theorem endProbe_fields (s : State) :
    (endProbe s).cfg.straps = s.cfg.straps ∧ (endProbe s).cfg.image = s.cfg.image ∧
    (endProbe s).cfg.digest = s.cfg.digest ∧ (endProbe s).cfg.faultTimer = s.cfg.faultTimer ∧
    (endProbe s).ptb.peers = s.ptb.peers ∧ (endProbe s).ptb.console = s.ptb.console ∧
    (endProbe s).ptb.endOfListen = s.ptb.endOfListen ∧ (endProbe s).ptb.listenEnd = s.ptb.listenEnd ∧
    (endProbe s).thu.quality = s.thu.quality ∧ (endProbe s).thu.stroke = s.thu.stroke ∧
    (endProbe s).thu.rate = s.thu.rate ∧ (endProbe s).thu.history = s.thu.history ∧
    (endProbe s).thu.fresh = s.thu.fresh ∧ (endProbe s).thu.neighbours = s.thu.neighbours ∧
    (endProbe s).thu.counter = s.thu.counter ∧ (endProbe s).thu.set = s.thu.set ∧
    (endProbe s).thu.blind = s.thu.blind ∧ (endProbe s).thu.strokeEnd = s.thu.strokeEnd ∧
    (endProbe s).thu.rateTarget = s.thu.rateTarget ∧ (endProbe s).thu.bias = s.thu.bias ∧
    (endProbe s).thu.enable = s.thu.enable ∧ (endProbe s).thu.lastAnswer = s.thu.lastAnswer ∧
    (endProbe s).thu.strokeFault = s.thu.strokeFault ∧ (endProbe s).thu.denied = s.thu.denied ∧
    (endProbe s).thu.skew = s.thu.skew ∧ (endProbe s).bsq.cursor = s.bsq.cursor ∧
    (endProbe s).bsq.cursorRing = s.bsq.cursorRing ∧ (endProbe s).bsq.progress = s.bsq.progress ∧
    (endProbe s).bsq.nextTag = s.bsq.nextTag ∧ (endProbe s).bsq.buildStart = s.bsq.buildStart ∧
    (endProbe s).bsq.placed = s.bsq.placed ∧ (endProbe s).bsq.substituted = s.bsq.substituted ∧
    (endProbe s).bsq.holderSeen = s.bsq.holderSeen ∧ (endProbe s).bal.manual = s.bal.manual ∧
    (endProbe s).bal.manualRef = s.bal.manualRef ∧ (endProbe s).bal.gateOpen = s.bal.gateOpen ∧
    (endProbe s).bal.account = s.bal.account ∧ (endProbe s).bal.remE = s.bal.remE ∧
    (endProbe s).bal.remX = s.bal.remX ∧ (endProbe s).bal.eRing = s.bal.eRing ∧
    (endProbe s).bal.xRing = s.bal.xRing ∧ (endProbe s).bal.restarted = s.bal.restarted ∧
    (endProbe s).bal.pTarget = s.bal.pTarget ∧ (endProbe s).bal.band = s.bal.band ∧
    (endProbe s).alu.active = s.alu.active ∧ (endProbe s).alu.entries = s.alu.entries ∧
    (endProbe s).alu.estop = s.alu.estop ∧ (endProbe s).alu.duplicate = s.alu.duplicate ∧
    (endProbe s).fpt.timer = s.fpt.timer ∧ (endProbe s).fpt.inputs = s.fpt.inputs ∧
    (endProbe s).fpt.estopIn = s.fpt.estopIn ∧ (endProbe s).fpt.probe = s.fpt.probe ∧
    (endProbe s).fpt.forced = s.fpt.forced ∧ (endProbe s).lif.slot = s.lif.slot ∧
    (endProbe s).lif.seq = s.lif.seq ∧ (endProbe s).lif.idle = s.lif.idle ∧
    (endProbe s).lif.crcErrors = s.lif.crcErrors ∧ (endProbe s).lif.formatErrors = s.lif.formatErrors ∧
    (endProbe s).lif.collisions = s.lif.collisions ∧ (endProbe s).lif.diagCount = s.lif.diagCount ∧
    (endProbe s).lif.timer = s.lif.timer ∧ (endProbe s).lif.lineFault = s.lif.lineFault ∧
    (endProbe s).lif.abandoned = s.lif.abandoned := by
  simp [endProbe]

@[simp] theorem nextListenJoin_fields (start : Time) (s : State) :
    (nextListenJoin start s).cfg.straps = s.cfg.straps ∧ (nextListenJoin start s).cfg.image = s.cfg.image ∧
    (nextListenJoin start s).cfg.digest = s.cfg.digest ∧ (nextListenJoin start s).cfg.warm = s.cfg.warm ∧
    (nextListenJoin start s).cfg.listenTimer = s.cfg.listenTimer ∧
    (nextListenJoin start s).cfg.faultTimer = s.cfg.faultTimer ∧
    (nextListenJoin start s).alu.active = s.alu.active ∧ (nextListenJoin start s).alu.entries = s.alu.entries ∧
    (nextListenJoin start s).alu.estop = s.alu.estop ∧
    (nextListenJoin start s).alu.duplicate = s.alu.duplicate ∧ (nextListenJoin start s).lif.slot = s.lif.slot ∧
    (nextListenJoin start s).lif.seq = s.lif.seq ∧ (nextListenJoin start s).lif.idle = s.lif.idle ∧
    (nextListenJoin start s).lif.crcErrors = s.lif.crcErrors ∧
    (nextListenJoin start s).lif.formatErrors = s.lif.formatErrors ∧
    (nextListenJoin start s).lif.collisions = s.lif.collisions ∧
    (nextListenJoin start s).lif.diagCount = s.lif.diagCount ∧
    (nextListenJoin start s).lif.timer = s.lif.timer ∧
    (nextListenJoin start s).lif.lineFault = s.lif.lineFault ∧
    (nextListenJoin start s).lif.abandoned = s.lif.abandoned := by
  simp [nextListenJoin]

@[simp] theorem adoptCursorRing_fields (s : State) :
    (adoptCursorRing s).bsq.state = s.bsq.state ∧ (adoptCursorRing s).bsq.cursor = s.bsq.cursor ∧
    (adoptCursorRing s).bsq.progress = s.bsq.progress ∧ (adoptCursorRing s).bsq.request = s.bsq.request ∧
    (adoptCursorRing s).bsq.issued = s.bsq.issued ∧ (adoptCursorRing s).bsq.retraction = s.bsq.retraction ∧
    (adoptCursorRing s).bsq.nextTag = s.bsq.nextTag ∧ (adoptCursorRing s).bsq.buildStart = s.bsq.buildStart ∧
    (adoptCursorRing s).bsq.placed = s.bsq.placed ∧ (adoptCursorRing s).bsq.substituted = s.bsq.substituted ∧
    (adoptCursorRing s).bsq.stepTimer = s.bsq.stepTimer ∧ (adoptCursorRing s).bsq.gripTimer = s.bsq.gripTimer ∧
    (adoptCursorRing s).bsq.retractTimer = s.bsq.retractTimer ∧
    (adoptCursorRing s).bsq.extendTimer = s.bsq.extendTimer ∧
    (adoptCursorRing s).bsq.releaseTimer = s.bsq.releaseTimer ∧
    (adoptCursorRing s).bsq.answerWait = s.bsq.answerWait ∧ (adoptCursorRing s).bsq.timedOut = s.bsq.timedOut ∧
    (adoptCursorRing s).bsq.unanswered = s.bsq.unanswered ∧
    (adoptCursorRing s).bsq.holderSeen = s.bsq.holderSeen := by
  unfold adoptCursorRing; split <;> simp

@[simp] theorem startBalanceTimer_fields (s : State) :
    (startBalanceTimer s).bal.active = s.bal.active ∧ (startBalanceTimer s).bal.conveyor = s.bal.conveyor ∧
    (startBalanceTimer s).bal.manual = s.bal.manual ∧ (startBalanceTimer s).bal.manualRef = s.bal.manualRef ∧
    (startBalanceTimer s).bal.gateOpen = s.bal.gateOpen ∧ (startBalanceTimer s).bal.stopHold = s.bal.stopHold ∧
    (startBalanceTimer s).bal.nCmd = s.bal.nCmd ∧ (startBalanceTimer s).bal.acc = s.bal.acc ∧
    (startBalanceTimer s).bal.set = s.bal.set ∧ (startBalanceTimer s).bal.blind = s.bal.blind ∧
    (startBalanceTimer s).bal.account = s.bal.account ∧ (startBalanceTimer s).bal.remE = s.bal.remE ∧
    (startBalanceTimer s).bal.remX = s.bal.remX ∧ (startBalanceTimer s).bal.eRing = s.bal.eRing ∧
    (startBalanceTimer s).bal.xRing = s.bal.xRing ∧ (startBalanceTimer s).bal.restarted = s.bal.restarted ∧
    (startBalanceTimer s).bal.pTarget = s.bal.pTarget ∧ (startBalanceTimer s).bal.band = s.bal.band ∧
    (startBalanceTimer s).bal.pMean = s.bal.pMean ∧ (startBalanceTimer s).bal.nP = s.bal.nP ∧
    (startBalanceTimer s).bal.overCount = s.bal.overCount ∧
    (startBalanceTimer s).bal.recoverCount = s.bal.recoverCount ∧
    (startBalanceTimer s).bal.overdrawn = s.bal.overdrawn ∧ (startBalanceTimer s).bal.owed = s.bal.owed ∧
    (startBalanceTimer s).bal.pLow = s.bal.pLow ∧ (startBalanceTimer s).bal.pHigh = s.bal.pHigh ∧
    (startBalanceTimer s).bal.pressureBlind = s.bal.pressureBlind := by
  simp [startBalanceTimer]

@[simp] theorem leaveListen_fields (s : State) :
    (leaveListen s).dsu.choice = s.dsu.choice ∧ (leaveListen s).dsu.throttle = s.dsu.throttle ∧
    (leaveListen s).dsu.consoleMax = s.dsu.consoleMax ∧ (leaveListen s).dsu.proposed = s.dsu.proposed ∧
    (leaveListen s).dsu.applied = s.dsu.applied ∧ (leaveListen s).dsu.candidate = s.dsu.candidate ∧
    (leaveListen s).dsu.rampCap = s.dsu.rampCap ∧ (leaveListen s).dsu.startedAt = s.dsu.startedAt ∧
    (leaveListen s).dsu.stoppedSince = s.dsu.stoppedSince ∧ (leaveListen s).dsu.overtorque = s.dsu.overtorque ∧
    (leaveListen s).dsu.jam = s.dsu.jam ∧ (leaveListen s).dsu.ringMax = s.dsu.ringMax ∧
    (leaveListen s).dsu.residency = s.dsu.residency ∧ (leaveListen s).dsu.timer = s.dsu.timer ∧
    (leaveListen s).thu.quality = s.thu.quality ∧ (leaveListen s).thu.stroke = s.thu.stroke ∧
    (leaveListen s).thu.rate = s.thu.rate ∧ (leaveListen s).thu.history = s.thu.history ∧
    (leaveListen s).thu.fresh = s.thu.fresh ∧ (leaveListen s).thu.neighbours = s.thu.neighbours ∧
    (leaveListen s).thu.counter = s.thu.counter ∧ (leaveListen s).thu.set = s.thu.set ∧
    (leaveListen s).thu.blind = s.thu.blind ∧ (leaveListen s).thu.strokeEnd = s.thu.strokeEnd ∧
    (leaveListen s).thu.rateTarget = s.thu.rateTarget ∧ (leaveListen s).thu.bias = s.thu.bias ∧
    (leaveListen s).thu.enable = s.thu.enable ∧ (leaveListen s).thu.strokeFault = s.thu.strokeFault ∧
    (leaveListen s).thu.denied = s.thu.denied ∧ (leaveListen s).thu.skew = s.thu.skew ∧
    (leaveListen s).thu.orphaned = s.thu.orphaned ∧ (leaveListen s).bal.active = s.bal.active ∧
    (leaveListen s).bal.timer = s.bal.timer ∧ (leaveListen s).bal.manual = s.bal.manual ∧
    (leaveListen s).bal.manualRef = s.bal.manualRef ∧ (leaveListen s).bal.gateOpen = s.bal.gateOpen ∧
    (leaveListen s).bal.acc = s.bal.acc ∧ (leaveListen s).bal.set = s.bal.set ∧
    (leaveListen s).bal.blind = s.bal.blind ∧ (leaveListen s).bal.account = s.bal.account ∧
    (leaveListen s).bal.remE = s.bal.remE ∧ (leaveListen s).bal.remX = s.bal.remX ∧
    (leaveListen s).bal.eRing = s.bal.eRing ∧ (leaveListen s).bal.xRing = s.bal.xRing ∧
    (leaveListen s).bal.restarted = s.bal.restarted ∧ (leaveListen s).bal.pTarget = s.bal.pTarget ∧
    (leaveListen s).bal.band = s.bal.band ∧ (leaveListen s).bal.pMean = s.bal.pMean ∧
    (leaveListen s).bal.nP = s.bal.nP ∧ (leaveListen s).bal.overCount = s.bal.overCount ∧
    (leaveListen s).bal.recoverCount = s.bal.recoverCount ∧ (leaveListen s).bal.overdrawn = s.bal.overdrawn ∧
    (leaveListen s).bal.owed = s.bal.owed ∧ (leaveListen s).bal.pLow = s.bal.pLow ∧
    (leaveListen s).bal.pHigh = s.bal.pHigh ∧ (leaveListen s).bal.pressureBlind = s.bal.pressureBlind ∧
    (leaveListen s).alu.active = s.alu.active ∧ (leaveListen s).alu.entries = s.alu.entries ∧
    (leaveListen s).alu.estop = s.alu.estop ∧ (leaveListen s).alu.duplicate = s.alu.duplicate ∧
    (leaveListen s).fpt.timer = s.fpt.timer ∧ (leaveListen s).fpt.fitted = s.fpt.fitted ∧
    (leaveListen s).fpt.inputs = s.fpt.inputs ∧ (leaveListen s).fpt.estopIn = s.fpt.estopIn ∧
    (leaveListen s).fpt.probe = s.fpt.probe ∧ (leaveListen s).fpt.forced = s.fpt.forced ∧
    (leaveListen s).lif.slot = s.lif.slot ∧ (leaveListen s).lif.seq = s.lif.seq ∧
    (leaveListen s).lif.idle = s.lif.idle ∧ (leaveListen s).lif.crcErrors = s.lif.crcErrors ∧
    (leaveListen s).lif.formatErrors = s.lif.formatErrors ∧ (leaveListen s).lif.collisions = s.lif.collisions ∧
    (leaveListen s).lif.diagCount = s.lif.diagCount ∧ (leaveListen s).lif.timer = s.lif.timer ∧
    (leaveListen s).lif.lineFault = s.lif.lineFault ∧
    (leaveListen s).lif.abandoned = s.lif.abandoned := by
  unfold leaveListen; split <;> simp

@[simp] theorem endListen_fields (s : State) :
    (endListen s).cfg.straps = s.cfg.straps ∧ (endListen s).cfg.image = s.cfg.image ∧
    (endListen s).cfg.digest = s.cfg.digest ∧ (endListen s).cfg.warm = s.cfg.warm ∧
    (endListen s).cfg.joinCount = s.cfg.joinCount ∧ (endListen s).cfg.faultTimer = s.cfg.faultTimer ∧
    (endListen s).ptb.peers = s.ptb.peers ∧ (endListen s).ptb.console = s.ptb.console ∧
    (endListen s).dsu.choice = s.dsu.choice ∧ (endListen s).dsu.throttle = s.dsu.throttle ∧
    (endListen s).dsu.consoleMax = s.dsu.consoleMax ∧ (endListen s).dsu.proposed = s.dsu.proposed ∧
    (endListen s).dsu.applied = s.dsu.applied ∧ (endListen s).dsu.candidate = s.dsu.candidate ∧
    (endListen s).dsu.rampCap = s.dsu.rampCap ∧ (endListen s).dsu.startedAt = s.dsu.startedAt ∧
    (endListen s).dsu.stoppedSince = s.dsu.stoppedSince ∧ (endListen s).dsu.overtorque = s.dsu.overtorque ∧
    (endListen s).dsu.jam = s.dsu.jam ∧ (endListen s).dsu.ringMax = s.dsu.ringMax ∧
    (endListen s).dsu.residency = s.dsu.residency ∧ (endListen s).thu.quality = s.thu.quality ∧
    (endListen s).thu.stroke = s.thu.stroke ∧ (endListen s).thu.rate = s.thu.rate ∧
    (endListen s).thu.history = s.thu.history ∧ (endListen s).thu.fresh = s.thu.fresh ∧
    (endListen s).thu.neighbours = s.thu.neighbours ∧ (endListen s).thu.counter = s.thu.counter ∧
    (endListen s).thu.set = s.thu.set ∧ (endListen s).thu.blind = s.thu.blind ∧
    (endListen s).thu.strokeEnd = s.thu.strokeEnd ∧ (endListen s).thu.rateTarget = s.thu.rateTarget ∧
    (endListen s).thu.bias = s.thu.bias ∧ (endListen s).thu.enable = s.thu.enable ∧
    (endListen s).thu.strokeFault = s.thu.strokeFault ∧ (endListen s).thu.denied = s.thu.denied ∧
    (endListen s).thu.skew = s.thu.skew ∧ (endListen s).bal.manual = s.bal.manual ∧
    (endListen s).bal.manualRef = s.bal.manualRef ∧ (endListen s).bal.gateOpen = s.bal.gateOpen ∧
    (endListen s).bal.account = s.bal.account ∧ (endListen s).bal.remE = s.bal.remE ∧
    (endListen s).bal.remX = s.bal.remX ∧ (endListen s).bal.eRing = s.bal.eRing ∧
    (endListen s).bal.xRing = s.bal.xRing ∧ (endListen s).bal.restarted = s.bal.restarted ∧
    (endListen s).bal.pTarget = s.bal.pTarget ∧ (endListen s).bal.band = s.bal.band ∧
    (endListen s).alu.active = s.alu.active ∧ (endListen s).alu.entries = s.alu.entries ∧
    (endListen s).alu.estop = s.alu.estop ∧ (endListen s).alu.duplicate = s.alu.duplicate ∧
    (endListen s).fpt.timer = s.fpt.timer ∧ (endListen s).fpt.fitted = s.fpt.fitted ∧
    (endListen s).fpt.inputs = s.fpt.inputs ∧ (endListen s).fpt.estopIn = s.fpt.estopIn ∧
    (endListen s).fpt.probe = s.fpt.probe ∧ (endListen s).fpt.forced = s.fpt.forced ∧
    (endListen s).lif.slot = s.lif.slot ∧ (endListen s).lif.seq = s.lif.seq ∧
    (endListen s).lif.idle = s.lif.idle ∧ (endListen s).lif.crcErrors = s.lif.crcErrors ∧
    (endListen s).lif.formatErrors = s.lif.formatErrors ∧ (endListen s).lif.collisions = s.lif.collisions ∧
    (endListen s).lif.diagCount = s.lif.diagCount ∧ (endListen s).lif.lineFault = s.lif.lineFault ∧
    (endListen s).lif.abandoned = s.lif.abandoned := by
  simp [endListen]

@[simp] theorem warmRestart_fields (s : State) :
    (warmRestart s).cfg.straps = s.cfg.straps ∧ (warmRestart s).cfg.image = s.cfg.image ∧
    (warmRestart s).cfg.digest = s.cfg.digest ∧ (warmRestart s).cfg.faultTimer = s.cfg.faultTimer ∧
    (warmRestart s).ptb.listenEnd = s.ptb.listenEnd ∧ (warmRestart s).dsu.overtorque = s.dsu.overtorque ∧
    (warmRestart s).dsu.jam = s.dsu.jam ∧ (warmRestart s).thu.quality = s.thu.quality ∧
    (warmRestart s).thu.stroke = s.thu.stroke ∧ (warmRestart s).thu.rate = s.thu.rate ∧
    (warmRestart s).thu.history = s.thu.history ∧ (warmRestart s).thu.counter = s.thu.counter ∧
    (warmRestart s).thu.strokeEnd = s.thu.strokeEnd ∧ (warmRestart s).thu.strokeFault = s.thu.strokeFault ∧
    (warmRestart s).thu.denied = s.thu.denied ∧ (warmRestart s).bsq.cursor = s.bsq.cursor ∧
    (warmRestart s).bsq.cursorRing = s.bsq.cursorRing ∧ (warmRestart s).bsq.progress = s.bsq.progress ∧
    (warmRestart s).bsq.nextTag = s.bsq.nextTag ∧ (warmRestart s).bsq.buildStart = s.bsq.buildStart ∧
    (warmRestart s).bsq.placed = s.bsq.placed ∧ (warmRestart s).bsq.substituted = s.bsq.substituted ∧
    (warmRestart s).gru.active = s.gru.active ∧ (warmRestart s).gru.line = s.gru.line ∧
    (warmRestart s).gru.queue = s.gru.queue ∧ (warmRestart s).gru.remG = s.gru.remG ∧
    (warmRestart s).gru.posted = s.gru.posted ∧ (warmRestart s).gru.delivered = s.gru.delivered ∧
    (warmRestart s).gru.writtenOff = s.gru.writtenOff ∧ (warmRestart s).gru.overrun = s.gru.overrun ∧
    (warmRestart s).gru.flushed = s.gru.flushed ∧ (warmRestart s).gru.postedRing = s.gru.postedRing ∧
    (warmRestart s).gru.deliveredRing = s.gru.deliveredRing ∧ (warmRestart s).gru.lag = s.gru.lag ∧
    (warmRestart s).gru.settingTimer = s.gru.settingTimer ∧ (warmRestart s).gru.blockTimer = s.gru.blockTimer ∧
    (warmRestart s).gru.flushStop = s.gru.flushStop ∧ (warmRestart s).bal.eRing = s.bal.eRing ∧
    (warmRestart s).bal.xRing = s.bal.xRing ∧ (warmRestart s).alu.active = s.alu.active ∧
    (warmRestart s).alu.estop = s.alu.estop ∧ (warmRestart s).fpt.timer = s.fpt.timer ∧
    (warmRestart s).fpt.fitted = s.fpt.fitted ∧ (warmRestart s).fpt.inputs = s.fpt.inputs ∧
    (warmRestart s).fpt.estopIn = s.fpt.estopIn ∧ (warmRestart s).fpt.probe = s.fpt.probe ∧
    (warmRestart s).lif.seq = s.lif.seq ∧ (warmRestart s).lif.idle = s.lif.idle := by
  simp [warmRestart]

end Sys2Proof.Machine
end

