-- ==== Sys2Proof/Laws/Orders.lean ====
section
/-! SUPPORT. What each operation of Machine/Orders.lean leaves unchanged, block by block and, in the
blocks it changes, field by field. -/

namespace Sys2Proof.Machine

open Sys2Proof

@[simp] theorem startCutterhead_frame (s : State) :
    (startCutterhead s).pending = s.pending ∧ (startCutterhead s).elapsed = s.elapsed ∧
    (startCutterhead s).phase = s.phase ∧ (startCutterhead s).pauseCause = s.pauseCause ∧
    (startCutterhead s).ring = s.ring ∧ (startCutterhead s).cfg = s.cfg ∧ (startCutterhead s).ptb = s.ptb ∧
    (startCutterhead s).oru = s.oru ∧ (startCutterhead s).thu = s.thu ∧ (startCutterhead s).bsq = s.bsq ∧
    (startCutterhead s).gru = s.gru ∧ (startCutterhead s).bal = s.bal ∧ (startCutterhead s).alu = s.alu ∧
    (startCutterhead s).fpt = s.fpt ∧ (startCutterhead s).lif = s.lif := by
  refine ⟨?_, ?_, ?_, ?_, ?_, ?_, ?_, ?_, ?_, ?_, ?_, ?_, ?_, ?_, ?_⟩ <;> rfl

@[simp] theorem startCutterhead_fields (s : State) :
    (startCutterhead s).dsu.nr = s.dsu.nr ∧ (startCutterhead s).dsu.choice = s.dsu.choice ∧
    (startCutterhead s).dsu.downCount = s.dsu.downCount ∧ (startCutterhead s).dsu.upCount = s.dsu.upCount ∧
    (startCutterhead s).dsu.throttle = s.dsu.throttle ∧ (startCutterhead s).dsu.consoleMax = s.dsu.consoleMax ∧
    (startCutterhead s).dsu.proposed = s.dsu.proposed ∧ (startCutterhead s).dsu.applied = s.dsu.applied ∧
    (startCutterhead s).dsu.candidate = s.dsu.candidate ∧ (startCutterhead s).dsu.changing = s.dsu.changing ∧
    (startCutterhead s).dsu.rampCap = s.dsu.rampCap ∧
    (startCutterhead s).dsu.stoppedSince = s.dsu.stoppedSince ∧
    (startCutterhead s).dsu.overtorque = s.dsu.overtorque ∧ (startCutterhead s).dsu.jam = s.dsu.jam ∧
    (startCutterhead s).dsu.ringMax = s.dsu.ringMax ∧ (startCutterhead s).dsu.residency = s.dsu.residency ∧
    (startCutterhead s).dsu.timer = s.dsu.timer := by
  simp [startCutterhead]

end Sys2Proof.Machine
end

