-- ==== Sys2Proof/Laws/Rings.lean ====
section
/-! SUPPORT. What each operation of Machine/Rings.lean leaves unchanged, block by block and, in the
blocks it changes, field by field. -/

namespace Sys2Proof.Machine

open Sys2Proof

@[simp] theorem handFrames_frame (fs : List TxFrame) (s : State) :
    (handFrames fs s).pending = s.pending ∧ (handFrames fs s).elapsed = s.elapsed ∧
    (handFrames fs s).phase = s.phase ∧ (handFrames fs s).pauseCause = s.pauseCause ∧
    (handFrames fs s).ring = s.ring ∧ (handFrames fs s).cfg = s.cfg ∧ (handFrames fs s).ptb = s.ptb ∧
    (handFrames fs s).oru = s.oru ∧ (handFrames fs s).dsu = s.dsu ∧ (handFrames fs s).thu = s.thu ∧
    (handFrames fs s).bsq = s.bsq ∧ (handFrames fs s).gru = s.gru ∧ (handFrames fs s).bal = s.bal ∧
    (handFrames fs s).fpt = s.fpt := by
  induction fs generalizing s with
  | nil => simp [handFrames]
  | cons a l ih => simp [handFrames, ih]

@[simp] theorem advanceRing_frame (s : State) :
    (advanceRing s).pending = s.pending ∧ (advanceRing s).elapsed = s.elapsed ∧
    (advanceRing s).phase = s.phase ∧ (advanceRing s).pauseCause = s.pauseCause ∧ (advanceRing s).cfg = s.cfg ∧
    (advanceRing s).ptb = s.ptb ∧ (advanceRing s).oru = s.oru ∧ (advanceRing s).dsu = s.dsu ∧
    (advanceRing s).thu = s.thu ∧ (advanceRing s).gru = s.gru ∧ (advanceRing s).bal = s.bal ∧
    (advanceRing s).alu = s.alu ∧ (advanceRing s).fpt = s.fpt ∧ (advanceRing s).lif = s.lif := by
  refine ⟨?_, ?_, ?_, ?_, ?_, ?_, ?_, ?_, ?_, ?_, ?_, ?_, ?_, ?_⟩ <;> rfl

@[simp] theorem holderRingClose_frame (s : State) :
    (holderRingClose s).pending = s.pending ∧ (holderRingClose s).elapsed = s.elapsed ∧
    (holderRingClose s).cfg = s.cfg ∧ (holderRingClose s).ptb = s.ptb ∧ (holderRingClose s).oru = s.oru := by
  simp [holderRingClose]

@[simp] theorem releaseExpires_frame (s : State) :
    (releaseExpires s).pending = s.pending ∧ (releaseExpires s).elapsed = s.elapsed ∧
    (releaseExpires s).cfg = s.cfg ∧ (releaseExpires s).ptb = s.ptb ∧ (releaseExpires s).oru = s.oru := by
  unfold releaseExpires; split <;> simp

@[simp] theorem handFrames_fields (fs : List TxFrame) (s : State) :
    (handFrames fs s).alu.active = s.alu.active ∧ (handFrames fs s).alu.entries = s.alu.entries ∧
    (handFrames fs s).alu.estop = s.alu.estop ∧ (handFrames fs s).alu.duplicate = s.alu.duplicate ∧
    (handFrames fs s).lif.slot = s.lif.slot ∧ (handFrames fs s).lif.seq = s.lif.seq ∧
    (handFrames fs s).lif.idle = s.lif.idle ∧ (handFrames fs s).lif.crcErrors = s.lif.crcErrors ∧
    (handFrames fs s).lif.formatErrors = s.lif.formatErrors ∧
    (handFrames fs s).lif.collisions = s.lif.collisions ∧ (handFrames fs s).lif.diagCount = s.lif.diagCount ∧
    (handFrames fs s).lif.timer = s.lif.timer ∧ (handFrames fs s).lif.lineFault = s.lif.lineFault ∧
    (handFrames fs s).lif.abandoned = s.lif.abandoned := by
  induction fs generalizing s with
  | nil => simp [handFrames]
  | cons a l ih => simp [handFrames, ih]

@[simp] theorem advanceRing_fields (s : State) :
    (advanceRing s).bsq.state = s.bsq.state ∧ (advanceRing s).bsq.request = s.bsq.request ∧
    (advanceRing s).bsq.issued = s.bsq.issued ∧ (advanceRing s).bsq.retraction = s.bsq.retraction ∧
    (advanceRing s).bsq.nextTag = s.bsq.nextTag ∧ (advanceRing s).bsq.stepTimer = s.bsq.stepTimer ∧
    (advanceRing s).bsq.gripTimer = s.bsq.gripTimer ∧ (advanceRing s).bsq.retractTimer = s.bsq.retractTimer ∧
    (advanceRing s).bsq.extendTimer = s.bsq.extendTimer ∧
    (advanceRing s).bsq.releaseTimer = s.bsq.releaseTimer ∧ (advanceRing s).bsq.answerWait = s.bsq.answerWait ∧
    (advanceRing s).bsq.timedOut = s.bsq.timedOut ∧ (advanceRing s).bsq.unanswered = s.bsq.unanswered ∧
    (advanceRing s).bsq.holderSeen = s.bsq.holderSeen := by
  simp [advanceRing]

@[simp] theorem holderRingClose_fields (s : State) :
    (holderRingClose s).dsu.cutterhead = s.dsu.cutterhead ∧ (holderRingClose s).dsu.nr = s.dsu.nr ∧
    (holderRingClose s).dsu.choice = s.dsu.choice ∧ (holderRingClose s).dsu.downCount = s.dsu.downCount ∧
    (holderRingClose s).dsu.upCount = s.dsu.upCount ∧ (holderRingClose s).dsu.throttle = s.dsu.throttle ∧
    (holderRingClose s).dsu.consoleMax = s.dsu.consoleMax ∧ (holderRingClose s).dsu.proposed = s.dsu.proposed ∧
    (holderRingClose s).dsu.applied = s.dsu.applied ∧ (holderRingClose s).dsu.candidate = s.dsu.candidate ∧
    (holderRingClose s).dsu.changing = s.dsu.changing ∧ (holderRingClose s).dsu.rampCap = s.dsu.rampCap ∧
    (holderRingClose s).dsu.startedAt = s.dsu.startedAt ∧
    (holderRingClose s).dsu.stoppedSince = s.dsu.stoppedSince ∧
    (holderRingClose s).dsu.overtorque = s.dsu.overtorque ∧ (holderRingClose s).dsu.jam = s.dsu.jam ∧
    (holderRingClose s).dsu.timer = s.dsu.timer ∧ (holderRingClose s).thu.quality = s.thu.quality ∧
    (holderRingClose s).thu.stroke = s.thu.stroke ∧ (holderRingClose s).thu.rate = s.thu.rate ∧
    (holderRingClose s).thu.history = s.thu.history ∧ (holderRingClose s).thu.fresh = s.thu.fresh ∧
    (holderRingClose s).thu.neighbours = s.thu.neighbours ∧ (holderRingClose s).thu.set = s.thu.set ∧
    (holderRingClose s).thu.blind = s.thu.blind ∧ (holderRingClose s).thu.rateTarget = s.thu.rateTarget ∧
    (holderRingClose s).thu.bias = s.thu.bias ∧ (holderRingClose s).thu.enable = s.thu.enable ∧
    (holderRingClose s).thu.lastAnswer = s.thu.lastAnswer ∧
    (holderRingClose s).thu.strokeFault = s.thu.strokeFault ∧ (holderRingClose s).thu.denied = s.thu.denied ∧
    (holderRingClose s).thu.skew = s.thu.skew ∧ (holderRingClose s).thu.orphaned = s.thu.orphaned ∧
    (holderRingClose s).bsq.nextTag = s.bsq.nextTag ∧ (holderRingClose s).gru.active = s.gru.active ∧
    (holderRingClose s).gru.line = s.gru.line ∧ (holderRingClose s).gru.remG = s.gru.remG ∧
    (holderRingClose s).gru.posted = s.gru.posted ∧ (holderRingClose s).gru.delivered = s.gru.delivered ∧
    (holderRingClose s).gru.writtenOff = s.gru.writtenOff ∧ (holderRingClose s).gru.overrun = s.gru.overrun ∧
    (holderRingClose s).gru.flushed = s.gru.flushed ∧ (holderRingClose s).gru.lag = s.gru.lag ∧
    (holderRingClose s).gru.settingTimer = s.gru.settingTimer ∧
    (holderRingClose s).gru.blockTimer = s.gru.blockTimer ∧
    (holderRingClose s).gru.flushTimer = s.gru.flushTimer ∧ (holderRingClose s).gru.flushRun = s.gru.flushRun ∧
    (holderRingClose s).gru.flushStop = s.gru.flushStop ∧ (holderRingClose s).bal.active = s.bal.active ∧
    (holderRingClose s).bal.timer = s.bal.timer ∧ (holderRingClose s).bal.conveyor = s.bal.conveyor ∧
    (holderRingClose s).bal.manual = s.bal.manual ∧ (holderRingClose s).bal.manualRef = s.bal.manualRef ∧
    (holderRingClose s).bal.gateOpen = s.bal.gateOpen ∧ (holderRingClose s).bal.stopHold = s.bal.stopHold ∧
    (holderRingClose s).bal.nCmd = s.bal.nCmd ∧ (holderRingClose s).bal.acc = s.bal.acc ∧
    (holderRingClose s).bal.set = s.bal.set ∧ (holderRingClose s).bal.blind = s.bal.blind ∧
    (holderRingClose s).bal.account = s.bal.account ∧ (holderRingClose s).bal.remE = s.bal.remE ∧
    (holderRingClose s).bal.remX = s.bal.remX ∧ (holderRingClose s).bal.pTarget = s.bal.pTarget ∧
    (holderRingClose s).bal.band = s.bal.band ∧ (holderRingClose s).bal.pMean = s.bal.pMean ∧
    (holderRingClose s).bal.nP = s.bal.nP ∧ (holderRingClose s).bal.overCount = s.bal.overCount ∧
    (holderRingClose s).bal.recoverCount = s.bal.recoverCount ∧
    (holderRingClose s).bal.overdrawn = s.bal.overdrawn ∧ (holderRingClose s).bal.owed = s.bal.owed ∧
    (holderRingClose s).bal.pLow = s.bal.pLow ∧ (holderRingClose s).bal.pHigh = s.bal.pHigh ∧
    (holderRingClose s).bal.pressureBlind = s.bal.pressureBlind ∧
    (holderRingClose s).alu.active = s.alu.active ∧ (holderRingClose s).alu.entries = s.alu.entries ∧
    (holderRingClose s).alu.estop = s.alu.estop ∧ (holderRingClose s).alu.duplicate = s.alu.duplicate ∧
    (holderRingClose s).fpt.timer = s.fpt.timer ∧ (holderRingClose s).fpt.fitted = s.fpt.fitted ∧
    (holderRingClose s).fpt.inputs = s.fpt.inputs ∧ (holderRingClose s).fpt.estopIn = s.fpt.estopIn ∧
    (holderRingClose s).fpt.probe = s.fpt.probe ∧ (holderRingClose s).fpt.forced = s.fpt.forced ∧
    (holderRingClose s).lif.slot = s.lif.slot ∧ (holderRingClose s).lif.seq = s.lif.seq ∧
    (holderRingClose s).lif.idle = s.lif.idle ∧ (holderRingClose s).lif.crcErrors = s.lif.crcErrors ∧
    (holderRingClose s).lif.formatErrors = s.lif.formatErrors ∧
    (holderRingClose s).lif.collisions = s.lif.collisions ∧
    (holderRingClose s).lif.diagCount = s.lif.diagCount ∧ (holderRingClose s).lif.timer = s.lif.timer ∧
    (holderRingClose s).lif.lineFault = s.lif.lineFault ∧
    (holderRingClose s).lif.abandoned = s.lif.abandoned := by
  simp [holderRingClose]

@[simp] theorem releaseExpires_fields (s : State) :
    (releaseExpires s).dsu.cutterhead = s.dsu.cutterhead ∧ (releaseExpires s).dsu.nr = s.dsu.nr ∧
    (releaseExpires s).dsu.choice = s.dsu.choice ∧ (releaseExpires s).dsu.downCount = s.dsu.downCount ∧
    (releaseExpires s).dsu.upCount = s.dsu.upCount ∧ (releaseExpires s).dsu.throttle = s.dsu.throttle ∧
    (releaseExpires s).dsu.consoleMax = s.dsu.consoleMax ∧ (releaseExpires s).dsu.proposed = s.dsu.proposed ∧
    (releaseExpires s).dsu.applied = s.dsu.applied ∧ (releaseExpires s).dsu.candidate = s.dsu.candidate ∧
    (releaseExpires s).dsu.changing = s.dsu.changing ∧ (releaseExpires s).dsu.rampCap = s.dsu.rampCap ∧
    (releaseExpires s).dsu.startedAt = s.dsu.startedAt ∧
    (releaseExpires s).dsu.stoppedSince = s.dsu.stoppedSince ∧
    (releaseExpires s).dsu.overtorque = s.dsu.overtorque ∧ (releaseExpires s).dsu.jam = s.dsu.jam ∧
    (releaseExpires s).dsu.timer = s.dsu.timer ∧ (releaseExpires s).thu.quality = s.thu.quality ∧
    (releaseExpires s).thu.stroke = s.thu.stroke ∧ (releaseExpires s).thu.rate = s.thu.rate ∧
    (releaseExpires s).thu.history = s.thu.history ∧ (releaseExpires s).thu.fresh = s.thu.fresh ∧
    (releaseExpires s).thu.neighbours = s.thu.neighbours ∧ (releaseExpires s).thu.set = s.thu.set ∧
    (releaseExpires s).thu.blind = s.thu.blind ∧ (releaseExpires s).thu.rateTarget = s.thu.rateTarget ∧
    (releaseExpires s).thu.bias = s.thu.bias ∧ (releaseExpires s).thu.enable = s.thu.enable ∧
    (releaseExpires s).thu.lastAnswer = s.thu.lastAnswer ∧
    (releaseExpires s).thu.strokeFault = s.thu.strokeFault ∧ (releaseExpires s).thu.denied = s.thu.denied ∧
    (releaseExpires s).thu.skew = s.thu.skew ∧ (releaseExpires s).thu.orphaned = s.thu.orphaned ∧
    (releaseExpires s).bsq.nextTag = s.bsq.nextTag ∧ (releaseExpires s).gru.active = s.gru.active ∧
    (releaseExpires s).gru.line = s.gru.line ∧ (releaseExpires s).gru.remG = s.gru.remG ∧
    (releaseExpires s).gru.posted = s.gru.posted ∧ (releaseExpires s).gru.delivered = s.gru.delivered ∧
    (releaseExpires s).gru.writtenOff = s.gru.writtenOff ∧ (releaseExpires s).gru.overrun = s.gru.overrun ∧
    (releaseExpires s).gru.flushed = s.gru.flushed ∧ (releaseExpires s).gru.lag = s.gru.lag ∧
    (releaseExpires s).gru.settingTimer = s.gru.settingTimer ∧
    (releaseExpires s).gru.blockTimer = s.gru.blockTimer ∧
    (releaseExpires s).gru.flushTimer = s.gru.flushTimer ∧ (releaseExpires s).gru.flushRun = s.gru.flushRun ∧
    (releaseExpires s).gru.flushStop = s.gru.flushStop ∧ (releaseExpires s).bal.active = s.bal.active ∧
    (releaseExpires s).bal.timer = s.bal.timer ∧ (releaseExpires s).bal.conveyor = s.bal.conveyor ∧
    (releaseExpires s).bal.manual = s.bal.manual ∧ (releaseExpires s).bal.manualRef = s.bal.manualRef ∧
    (releaseExpires s).bal.gateOpen = s.bal.gateOpen ∧ (releaseExpires s).bal.stopHold = s.bal.stopHold ∧
    (releaseExpires s).bal.nCmd = s.bal.nCmd ∧ (releaseExpires s).bal.acc = s.bal.acc ∧
    (releaseExpires s).bal.set = s.bal.set ∧ (releaseExpires s).bal.blind = s.bal.blind ∧
    (releaseExpires s).bal.account = s.bal.account ∧ (releaseExpires s).bal.remE = s.bal.remE ∧
    (releaseExpires s).bal.remX = s.bal.remX ∧ (releaseExpires s).bal.pTarget = s.bal.pTarget ∧
    (releaseExpires s).bal.band = s.bal.band ∧ (releaseExpires s).bal.pMean = s.bal.pMean ∧
    (releaseExpires s).bal.nP = s.bal.nP ∧ (releaseExpires s).bal.overCount = s.bal.overCount ∧
    (releaseExpires s).bal.recoverCount = s.bal.recoverCount ∧
    (releaseExpires s).bal.overdrawn = s.bal.overdrawn ∧ (releaseExpires s).bal.owed = s.bal.owed ∧
    (releaseExpires s).bal.pLow = s.bal.pLow ∧ (releaseExpires s).bal.pHigh = s.bal.pHigh ∧
    (releaseExpires s).bal.pressureBlind = s.bal.pressureBlind ∧ (releaseExpires s).alu.active = s.alu.active ∧
    (releaseExpires s).alu.entries = s.alu.entries ∧ (releaseExpires s).alu.estop = s.alu.estop ∧
    (releaseExpires s).alu.duplicate = s.alu.duplicate ∧ (releaseExpires s).fpt.timer = s.fpt.timer ∧
    (releaseExpires s).fpt.fitted = s.fpt.fitted ∧ (releaseExpires s).fpt.inputs = s.fpt.inputs ∧
    (releaseExpires s).fpt.estopIn = s.fpt.estopIn ∧ (releaseExpires s).fpt.probe = s.fpt.probe ∧
    (releaseExpires s).fpt.forced = s.fpt.forced ∧ (releaseExpires s).lif.slot = s.lif.slot ∧
    (releaseExpires s).lif.seq = s.lif.seq ∧ (releaseExpires s).lif.idle = s.lif.idle ∧
    (releaseExpires s).lif.crcErrors = s.lif.crcErrors ∧
    (releaseExpires s).lif.formatErrors = s.lif.formatErrors ∧
    (releaseExpires s).lif.collisions = s.lif.collisions ∧ (releaseExpires s).lif.diagCount = s.lif.diagCount ∧
    (releaseExpires s).lif.timer = s.lif.timer ∧ (releaseExpires s).lif.lineFault = s.lif.lineFault ∧
    (releaseExpires s).lif.abandoned = s.lif.abandoned := by
  unfold releaseExpires; split <;> simp

end Sys2Proof.Machine
end

