-- ==== Sys2Proof/Laws/Kept.lean ====
section
/-! SUPPORT. Closing an event (`settle`) leaves alone what `kept` shows. -/

namespace Sys2Proof.Machine

open Sys2Proof

@[simp] theorem kept_setPhase (p : Phase) (s : State) : kept (s.setPhase p) = kept s := rfl

@[simp] theorem kept_setPauseCause (c : PauseCause) (s : State) : kept (s.setPauseCause c) = kept s := rfl

@[simp] theorem kept_plainPhase (p : Phase) (s : State) : kept (plainPhase p s) = kept s := by
  simp [plainPhase]

@[simp] theorem kept_excavationTest (s : State) : kept (excavationTest s) = kept s := by
  unfold excavationTest; split <;> simp

@[simp] theorem kept_refreshFlush (s : State) : kept (refreshFlush s) = kept s := by
  unfold refreshFlush; simp; rfl

@[simp] theorem kept_refreshGate (s : State) : kept (refreshGate s) = kept s := by
  unfold refreshGate; simp; rfl

@[simp] theorem kept_refreshErector (s : State) : kept (refreshErector s) = kept s := by
  unfold refreshErector; simp; rfl

@[simp] theorem kept_writeGate (isOpen : Bool) (s : State) : kept (writeGate isOpen s) = kept s := by
  unfold writeGate; simp; rfl

@[simp] theorem kept_writeErector (c : ErectorCmd) (s : State) : kept (writeErector c s) = kept s := by
  unfold writeErector; simp; rfl

@[simp] theorem kept_setFlag (f : Flag) (s : State) : kept (setFlag f s) = kept s := by
  unfold setFlag; (repeat' split) <;> (try simp) <;> rfl

@[simp] theorem kept_setFlagIf (b : Bool) (f : Flag) (s : State) : kept (setFlagIf b f s) = kept s := by
  unfold setFlagIf; (repeat' split) <;> (try simp) <;> rfl

@[simp] theorem kept_setEntry (k : AlarmKind) (e : AlarmEntry) (s : State) :
    kept (setEntry k e s) = kept s := by
  unfold setEntry; (repeat' split) <;> (try simp) <;> rfl

@[simp] theorem kept_leaveRunning (c : Cutterhead) (s : State) : kept (leaveRunning c s) = kept s := by
  unfold leaveRunning; (repeat' split) <;> (try simp) <;> rfl

@[simp] theorem kept_flushForcing (forced : Bool) (s : State) : kept (flushForcing forced s) = kept s := by
  unfold flushForcing; (repeat' split) <;> (try simp) <;> rfl

@[simp] theorem kept_emptySlot (s : State) : kept (emptySlot s) = kept s := by
  unfold emptySlot; (repeat' split) <;> (try simp) <;> rfl

@[simp] theorem kept_orphanTest (s : State) : kept (orphanTest s) = kept s := by
  unfold orphanTest; (repeat' split) <;> (try simp) <;> rfl

@[simp] theorem kept_setBuild (b : BuildState) (s : State) : kept (setBuild b s) = kept s := by
  unfold setBuild; (repeat' split) <;> (try simp) <;> rfl

@[simp] theorem kept_clearHolderSeen (s : State) : kept (clearHolderSeen s) = kept s := by
  unfold clearHolderSeen; (repeat' split) <;> (try simp) <;> rfl

@[simp] theorem kept_enableSync (s : State) : kept (enableSync s) = kept s := by
  unfold enableSync; (repeat' split) <;> (try simp) <;> rfl

@[simp] theorem kept_refreshMotor0 (s : State) : kept (refreshMotor0 s) = kept s := by
  unfold refreshMotor0; dsimp only; (repeat' split) <;> (try simp) <;> rfl

@[simp] theorem kept_refreshMotor1 (s : State) : kept (refreshMotor1 s) = kept s := by
  unfold refreshMotor1; dsimp only; (repeat' split) <;> (try simp) <;> rfl

@[simp] theorem kept_refreshValve (s : State) : kept (refreshValve s) = kept s := by
  unfold refreshValve; dsimp only; (repeat' split) <;> (try simp) <;> rfl

@[simp] theorem kept_refreshPump (s : State) : kept (refreshPump s) = kept s := by
  unfold refreshPump; dsimp only; (repeat' split) <;> (try simp) <;> rfl

@[simp] theorem kept_refreshScrew (s : State) : kept (refreshScrew s) = kept s := by
  unfold refreshScrew; dsimp only; (repeat' split) <;> (try simp) <;> rfl

@[simp] theorem kept_refreshAll (s : State) : kept (refreshAll s) = kept s := by
  unfold refreshAll; (repeat' split) <;> first | rfl | simp

@[simp] theorem kept_countQueueDrop (s : State) : kept (countQueueDrop s) = kept s := by
  unfold countQueueDrop; simp; rfl

@[simp] theorem kept_writeMotor0 (v : Int) (s : State) : kept (writeMotor0 v s) = kept s := by
  unfold writeMotor0; simp; rfl

@[simp] theorem kept_writeMotor1 (v : Int) (s : State) : kept (writeMotor1 v s) = kept s := by
  unfold writeMotor1; simp; rfl

@[simp] theorem kept_writeValve (m : ValveMode) (p : Int) (s : State) : kept (writeValve m p s) = kept s := by
  unfold writeValve; simp; rfl

@[simp] theorem kept_writeScrew (v : Int) (s : State) : kept (writeScrew v s) = kept s := by
  unfold writeScrew; simp; rfl

@[simp] theorem kept_handFrame (f : TxFrame) (s : State) : kept (handFrame f s) = kept s := by
  unfold handFrame; (repeat' split) <;> (try simp) <;> rfl

@[simp] theorem kept_writeMotors (s : State) : kept (writeMotors s) = kept s := by
  unfold writeMotors; (repeat' split) <;> (try simp) <;> rfl

@[simp] theorem kept_zeroMotors (s : State) : kept (zeroMotors s) = kept s := by
  unfold zeroMotors; (repeat' split) <;> (try simp) <;> rfl

@[simp] theorem kept_tripCutterhead (s : State) : kept (tripCutterhead s) = kept s := by
  unfold tripCutterhead; (repeat' split) <;> (try simp) <;> rfl

@[simp] theorem kept_writeGroupValve (s : State) : kept (writeGroupValve s) = kept s := by
  unfold writeGroupValve; (repeat' split) <;> (try simp) <;> rfl

@[simp] theorem kept_retractedSeen (j : Nat) (g : Group) (s : State) : kept (retractedSeen j g s) = kept s := by
  unfold retractedSeen; (repeat' split) <;> (try simp) <;> rfl

@[simp] theorem kept_writeConveyor (s : State) : kept (writeConveyor s) = kept s := by
  unfold writeConveyor; (repeat' split) <;> (try simp) <;> rfl

@[simp] theorem kept_forcingSync (s : State) : kept (forcingSync s) = kept s := by
  unfold forcingSync; (repeat' split) <;> (try simp) <;> rfl

@[simp] theorem kept_moveEntry (k : AlarmKind) (e : AlarmEntry) (s : State) :
    kept (moveEntry k e s) = kept s := by
  unfold moveEntry; dsimp only; (repeat' split) <;> (try simp) <;> rfl

@[simp] theorem kept_syncKind (k : AlarmKind) (s : State) : kept (syncKind k s) = kept s := by
  unfold syncKind; (repeat' split) <;> first | rfl | simp

@[simp] theorem kept_syncKinds (ks : List AlarmKind) (s : State) : kept (syncKinds ks s) = kept s := by
  induction ks generalizing s with
  | nil => simp [syncKinds]
  | cons a l ih => simp [syncKinds, ih]

@[simp] theorem kept_setGroup (g : Group) (s : State) : kept (setGroup g s) = kept s := by
  unfold setGroup; simp; rfl

@[simp] theorem kept_setConveyor (c : Conveyor) (s : State) : kept (setConveyor c s) = kept s := by
  unfold setConveyor; simp; rfl

@[simp] theorem kept_driveStandstill (s : State) : kept (driveStandstill s) = kept s := by
  unfold driveStandstill; (repeat' split) <;> (try simp) <;> rfl

@[simp] theorem kept_takeAnswer (source : Nat) (kind : RequestKind) (tag : Tag) (a : Answer) (s : State) :
    kept (takeAnswer source kind tag a s) = kept s := by
  unfold takeAnswer; (repeat' split) <;> (try simp) <;> rfl

@[simp] theorem kept_groupFreeze (s : State) : kept (groupFreeze s) = kept s := by
  unfold groupFreeze; (repeat' split) <;> (try simp) <;> rfl

@[simp] theorem kept_holdTest (s : State) : kept (holdTest s) = kept s := by
  unfold holdTest; (repeat' split) <;> (try simp) <;> rfl

@[simp] theorem kept_enterAdvancing (s : State) : kept (enterAdvancing s) = kept s := by
  unfold enterAdvancing; (repeat' split) <;> (try simp) <;> rfl

@[simp] theorem kept_groupStop (s : State) : kept (groupStop s) = kept s := by
  unfold groupStop; (repeat' split) <;> (try simp) <;> rfl

@[simp] theorem kept_answerRequest (source : Nat) (kind : RequestKind) (ring : RingNumber) (tag : Tag) (s : State) :
    kept ((answerRequest source kind ring tag s).1) = kept s := by
  unfold answerRequest; (repeat' split) <;> first | rfl | simp

@[simp] theorem kept_enterPaused (c : PauseCause) (s : State) : kept (enterPaused c s) = kept s := by
  unfold enterPaused; (repeat' split) <;> first | rfl | simp

@[simp] theorem kept_gateTest (s : State) : kept (gateTest s) = kept s := by
  unfold gateTest; (repeat' split) <;> simp

@[simp] theorem kept_setStopHold (s : State) : kept (setStopHold s) = kept s := by
  unfold setStopHold; (repeat' split) <;> (try simp) <;> rfl

/-- An update of the build block that leaves the cursor's place and the record under compilation. -/
theorem kept_onBsq (f : BsqState → BsqState) (s : State) (h : keptBsq (f s.bsq) = keptBsq s.bsq) :
    kept (s.onBsq f) = kept s := by
  simp [kept, h]

@[simp] theorem keptBsq_dropRetraction (q : BsqState) : keptBsq (dropRetraction q) = keptBsq q := by
  unfold dropRetraction; split <;> rfl

@[simp] theorem kept_markAccepted (s : State) : kept (markAccepted s) = kept s := by
  unfold markAccepted; apply kept_onBsq; split <;> rfl

@[simp] theorem kept_settleRefused (s : State) : kept (settleRefused s) = kept s := by
  unfold settleRefused; apply kept_onBsq; split
  · rfl
  · dsimp only; split
    · rw [keptBsq_dropRetraction]; rfl
    · rfl

@[simp] theorem kept_markAnswer (a : Answer) (s : State) : kept (markAnswer a s) = kept s := by
  cases a <;> simp [markAnswer]

@[simp] theorem kept_issueLocal (kind : RequestKind) (s : State) :
    kept (issueLocal kind s).1 = kept s := by
  simp [issueLocal]; rfl

@[simp] theorem kept_issueFrame (kind : RequestKind) (target : Nat) (s : State) :
    kept (issueFrame kind target s) = kept s := by
  unfold issueFrame; rw [kept_onBsq _ _ rfl, kept_handFrame]

@[simp] theorem kept_sendBack (s : State) : kept (sendBack s) = kept s := by
  unfold sendBack; (repeat' split) <;> simp

@[simp] theorem kept_suspend (s : State) : kept (suspend s) = kept s := by
  unfold suspend; split <;> simp

@[simp] theorem kept_stepAnswer (a : Answer) (s : State) : kept (stepAnswer a s) = kept s := by
  cases a <;> simp [stepAnswer] <;> split <;> simp

@[simp] theorem kept_issueRetract (s : State) : kept (issueRetract s) = kept s := by
  unfold issueRetract; split
  · simp; rfl
  · simp; rfl

@[simp] theorem kept_retractTest (s : State) : kept (retractTest s) = kept s := by
  unfold retractTest; (repeat' split) <;> simp

@[simp] theorem kept_clearRetraction (s : State) : kept (clearRetraction s) = kept s := by
  unfold clearRetraction; dsimp only; split
  · rw [kept_setBuild, kept_onBsq _ _ (keptBsq_dropRetraction _)]
  · rw [kept_onBsq _ _ (keptBsq_dropRetraction _)]

@[simp] theorem kept_holdingSeen (j : Nat) (g : Group) (s : State) : kept (holdingSeen j g s) = kept s := by
  unfold holdingSeen; split
  · dsimp only; split
    · rfl
    · split
      · rw [kept_clearRetraction]; rfl
      · rfl
  · rfl

@[simp] theorem kept_ownGroupSeen (s : State) : kept (ownGroupSeen s) = kept s := by
  unfold ownGroupSeen; split <;> simp

@[simp] theorem kept_enterHalted (s : State) : kept (enterHalted s) = kept s := by
  simp [enterHalted]

@[simp] theorem kept_haltTest (s : State) : kept (haltTest s) = kept s := by
  unfold haltTest; split <;> simp

@[simp] theorem kept_settleOnce (s : State) : kept (settleOnce s) = kept s := by
  simp [settleOnce]

/-- What closing an event leaves alone. -/
@[simp] theorem kept_settle (s : State) : kept (settle s) = kept s := by
  simp [settle]

end Sys2Proof.Machine
end

