-- ==== Sys2Proof/Laws/Settle.lean ====
section
/-! SUPPORT. What closing an event leaves alone, field by field. -/

namespace Sys2Proof.Machine

open Sys2Proof

theorem kept_dsu {s t : State} (e : kept t = kept s) :
    t.dsu.choice = s.dsu.choice ∧ t.dsu.throttle = s.dsu.throttle ∧ t.dsu.consoleMax = s.dsu.consoleMax ∧
    t.dsu.proposed = s.dsu.proposed ∧ t.dsu.applied = s.dsu.applied ∧ t.dsu.candidate = s.dsu.candidate ∧
    t.dsu.rampCap = s.dsu.rampCap ∧ t.dsu.startedAt = s.dsu.startedAt ∧
    t.dsu.stoppedSince = s.dsu.stoppedSince ∧ t.dsu.overtorque = s.dsu.overtorque ∧ t.dsu.jam = s.dsu.jam ∧
    t.dsu.ringMax = s.dsu.ringMax ∧ t.dsu.residency = s.dsu.residency ∧ t.dsu.timer = s.dsu.timer := by
  have h : keptDsu t.dsu = keptDsu s.dsu := congrArg State.dsu e
  exact ⟨(congrArg DsuState.choice h :), (congrArg DsuState.throttle h :),
    (congrArg DsuState.consoleMax h :), (congrArg DsuState.proposed h :), (congrArg DsuState.applied h :),
    (congrArg DsuState.candidate h :), (congrArg DsuState.rampCap h :), (congrArg DsuState.startedAt h :),
    (congrArg DsuState.stoppedSince h :), (congrArg DsuState.overtorque h :), (congrArg DsuState.jam h :),
    (congrArg DsuState.ringMax h :), (congrArg DsuState.residency h :), (congrArg DsuState.timer h :)⟩

@[simp] theorem settle_dsu (s : State) :
    (settle s).dsu.choice = s.dsu.choice ∧ (settle s).dsu.throttle = s.dsu.throttle ∧
    (settle s).dsu.consoleMax = s.dsu.consoleMax ∧ (settle s).dsu.proposed = s.dsu.proposed ∧
    (settle s).dsu.applied = s.dsu.applied ∧ (settle s).dsu.candidate = s.dsu.candidate ∧
    (settle s).dsu.rampCap = s.dsu.rampCap ∧ (settle s).dsu.startedAt = s.dsu.startedAt ∧
    (settle s).dsu.stoppedSince = s.dsu.stoppedSince ∧ (settle s).dsu.overtorque = s.dsu.overtorque ∧
    (settle s).dsu.jam = s.dsu.jam ∧ (settle s).dsu.ringMax = s.dsu.ringMax ∧
    (settle s).dsu.residency = s.dsu.residency ∧ (settle s).dsu.timer = s.dsu.timer :=
  kept_dsu (kept_settle s)

theorem kept_thu {s t : State} (e : kept t = kept s) :
    t.thu.quality = s.thu.quality ∧ t.thu.stroke = s.thu.stroke ∧ t.thu.rate = s.thu.rate ∧
    t.thu.history = s.thu.history ∧ t.thu.fresh = s.thu.fresh ∧ t.thu.neighbours = s.thu.neighbours ∧
    t.thu.counter = s.thu.counter ∧ t.thu.set = s.thu.set ∧ t.thu.blind = s.thu.blind ∧
    t.thu.strokeEnd = s.thu.strokeEnd ∧ t.thu.rateTarget = s.thu.rateTarget ∧ t.thu.bias = s.thu.bias ∧
    t.thu.strokeFault = s.thu.strokeFault ∧ t.thu.denied = s.thu.denied ∧ t.thu.skew = s.thu.skew := by
  have h : keptThu t.thu = keptThu s.thu := congrArg State.thu e
  exact ⟨(congrArg ThuState.quality h :), (congrArg ThuState.stroke h :), (congrArg ThuState.rate h :),
    (congrArg ThuState.history h :), (congrArg ThuState.fresh h :), (congrArg ThuState.neighbours h :),
    (congrArg ThuState.counter h :), (congrArg ThuState.set h :), (congrArg ThuState.blind h :),
    (congrArg ThuState.strokeEnd h :), (congrArg ThuState.rateTarget h :), (congrArg ThuState.bias h :),
    (congrArg ThuState.strokeFault h :), (congrArg ThuState.denied h :), (congrArg ThuState.skew h :)⟩

@[simp] theorem settle_thu (s : State) :
    (settle s).thu.quality = s.thu.quality ∧ (settle s).thu.stroke = s.thu.stroke ∧
    (settle s).thu.rate = s.thu.rate ∧ (settle s).thu.history = s.thu.history ∧
    (settle s).thu.fresh = s.thu.fresh ∧ (settle s).thu.neighbours = s.thu.neighbours ∧
    (settle s).thu.counter = s.thu.counter ∧ (settle s).thu.set = s.thu.set ∧
    (settle s).thu.blind = s.thu.blind ∧ (settle s).thu.strokeEnd = s.thu.strokeEnd ∧
    (settle s).thu.rateTarget = s.thu.rateTarget ∧ (settle s).thu.bias = s.thu.bias ∧
    (settle s).thu.strokeFault = s.thu.strokeFault ∧ (settle s).thu.denied = s.thu.denied ∧
    (settle s).thu.skew = s.thu.skew :=
  kept_thu (kept_settle s)

theorem kept_gru {s t : State} (e : kept t = kept s) :
    t.gru.active = s.gru.active ∧ t.gru.line = s.gru.line ∧ t.gru.queue = s.gru.queue ∧
    t.gru.remG = s.gru.remG ∧ t.gru.posted = s.gru.posted ∧ t.gru.delivered = s.gru.delivered ∧
    t.gru.writtenOff = s.gru.writtenOff ∧ t.gru.overrun = s.gru.overrun ∧ t.gru.flushed = s.gru.flushed ∧
    t.gru.postedRing = s.gru.postedRing ∧ t.gru.deliveredRing = s.gru.deliveredRing ∧ t.gru.lag = s.gru.lag ∧
    t.gru.settingTimer = s.gru.settingTimer ∧ t.gru.blockTimer = s.gru.blockTimer ∧
    t.gru.flushStop = s.gru.flushStop := by
  have h : keptGru t.gru = keptGru s.gru := congrArg State.gru e
  exact ⟨(congrArg GruState.active h :), (congrArg GruState.line h :), (congrArg GruState.queue h :),
    (congrArg GruState.remG h :), (congrArg GruState.posted h :), (congrArg GruState.delivered h :),
    (congrArg GruState.writtenOff h :), (congrArg GruState.overrun h :), (congrArg GruState.flushed h :),
    (congrArg GruState.postedRing h :), (congrArg GruState.deliveredRing h :), (congrArg GruState.lag h :),
    (congrArg GruState.settingTimer h :), (congrArg GruState.blockTimer h :),
    (congrArg GruState.flushStop h :)⟩

@[simp] theorem settle_gru (s : State) :
    (settle s).gru.active = s.gru.active ∧ (settle s).gru.line = s.gru.line ∧
    (settle s).gru.queue = s.gru.queue ∧ (settle s).gru.remG = s.gru.remG ∧
    (settle s).gru.posted = s.gru.posted ∧ (settle s).gru.delivered = s.gru.delivered ∧
    (settle s).gru.writtenOff = s.gru.writtenOff ∧ (settle s).gru.overrun = s.gru.overrun ∧
    (settle s).gru.flushed = s.gru.flushed ∧ (settle s).gru.postedRing = s.gru.postedRing ∧
    (settle s).gru.deliveredRing = s.gru.deliveredRing ∧ (settle s).gru.lag = s.gru.lag ∧
    (settle s).gru.settingTimer = s.gru.settingTimer ∧ (settle s).gru.blockTimer = s.gru.blockTimer ∧
    (settle s).gru.flushStop = s.gru.flushStop :=
  kept_gru (kept_settle s)

theorem kept_bal {s t : State} (e : kept t = kept s) :
    t.bal.active = s.bal.active ∧ t.bal.timer = s.bal.timer ∧ t.bal.manual = s.bal.manual ∧
    t.bal.manualRef = s.bal.manualRef ∧ t.bal.gateOpen = s.bal.gateOpen ∧ t.bal.acc = s.bal.acc ∧
    t.bal.set = s.bal.set ∧ t.bal.blind = s.bal.blind ∧ t.bal.account = s.bal.account ∧
    t.bal.remE = s.bal.remE ∧ t.bal.remX = s.bal.remX ∧ t.bal.eRing = s.bal.eRing ∧ t.bal.xRing = s.bal.xRing ∧
    t.bal.restarted = s.bal.restarted ∧ t.bal.pTarget = s.bal.pTarget ∧ t.bal.band = s.bal.band ∧
    t.bal.pMean = s.bal.pMean ∧ t.bal.nP = s.bal.nP ∧ t.bal.overCount = s.bal.overCount ∧
    t.bal.recoverCount = s.bal.recoverCount ∧ t.bal.overdrawn = s.bal.overdrawn ∧ t.bal.owed = s.bal.owed ∧
    t.bal.pLow = s.bal.pLow ∧ t.bal.pHigh = s.bal.pHigh ∧ t.bal.pressureBlind = s.bal.pressureBlind := by
  have h : keptBal t.bal = keptBal s.bal := congrArg State.bal e
  exact ⟨(congrArg BalState.active h :), (congrArg BalState.timer h :), (congrArg BalState.manual h :),
    (congrArg BalState.manualRef h :), (congrArg BalState.gateOpen h :), (congrArg BalState.acc h :),
    (congrArg BalState.set h :), (congrArg BalState.blind h :), (congrArg BalState.account h :),
    (congrArg BalState.remE h :), (congrArg BalState.remX h :), (congrArg BalState.eRing h :),
    (congrArg BalState.xRing h :), (congrArg BalState.restarted h :), (congrArg BalState.pTarget h :),
    (congrArg BalState.band h :), (congrArg BalState.pMean h :), (congrArg BalState.nP h :),
    (congrArg BalState.overCount h :), (congrArg BalState.recoverCount h :),
    (congrArg BalState.overdrawn h :), (congrArg BalState.owed h :), (congrArg BalState.pLow h :),
    (congrArg BalState.pHigh h :), (congrArg BalState.pressureBlind h :)⟩

@[simp] theorem settle_bal (s : State) :
    (settle s).bal.active = s.bal.active ∧ (settle s).bal.timer = s.bal.timer ∧
    (settle s).bal.manual = s.bal.manual ∧ (settle s).bal.manualRef = s.bal.manualRef ∧
    (settle s).bal.gateOpen = s.bal.gateOpen ∧ (settle s).bal.acc = s.bal.acc ∧ (settle s).bal.set = s.bal.set ∧
    (settle s).bal.blind = s.bal.blind ∧ (settle s).bal.account = s.bal.account ∧
    (settle s).bal.remE = s.bal.remE ∧ (settle s).bal.remX = s.bal.remX ∧ (settle s).bal.eRing = s.bal.eRing ∧
    (settle s).bal.xRing = s.bal.xRing ∧ (settle s).bal.restarted = s.bal.restarted ∧
    (settle s).bal.pTarget = s.bal.pTarget ∧ (settle s).bal.band = s.bal.band ∧
    (settle s).bal.pMean = s.bal.pMean ∧ (settle s).bal.nP = s.bal.nP ∧
    (settle s).bal.overCount = s.bal.overCount ∧ (settle s).bal.recoverCount = s.bal.recoverCount ∧
    (settle s).bal.overdrawn = s.bal.overdrawn ∧ (settle s).bal.owed = s.bal.owed ∧
    (settle s).bal.pLow = s.bal.pLow ∧ (settle s).bal.pHigh = s.bal.pHigh ∧
    (settle s).bal.pressureBlind = s.bal.pressureBlind :=
  kept_bal (kept_settle s)

theorem kept_alu {s t : State} (e : kept t = kept s) :
    t.alu.active = s.alu.active ∧ t.alu.estop = s.alu.estop ∧ t.alu.duplicate = s.alu.duplicate := by
  have h : keptAlu t.alu = keptAlu s.alu := congrArg State.alu e
  exact ⟨(congrArg AluState.active h :), (congrArg AluState.estop h :), (congrArg AluState.duplicate h :)⟩

@[simp] theorem settle_alu (s : State) :
    (settle s).alu.active = s.alu.active ∧ (settle s).alu.estop = s.alu.estop ∧
    (settle s).alu.duplicate = s.alu.duplicate :=
  kept_alu (kept_settle s)

theorem kept_fpt {s t : State} (e : kept t = kept s) :
    t.fpt.timer = s.fpt.timer ∧ t.fpt.fitted = s.fpt.fitted ∧ t.fpt.inputs = s.fpt.inputs ∧
    t.fpt.estopIn = s.fpt.estopIn ∧ t.fpt.probe = s.fpt.probe := by
  have h : keptFpt t.fpt = keptFpt s.fpt := congrArg State.fpt e
  exact ⟨(congrArg FptState.timer h :), (congrArg FptState.fitted h :), (congrArg FptState.inputs h :),
    (congrArg FptState.estopIn h :), (congrArg FptState.probe h :)⟩

@[simp] theorem settle_fpt (s : State) :
    (settle s).fpt.timer = s.fpt.timer ∧ (settle s).fpt.fitted = s.fpt.fitted ∧
    (settle s).fpt.inputs = s.fpt.inputs ∧ (settle s).fpt.estopIn = s.fpt.estopIn ∧
    (settle s).fpt.probe = s.fpt.probe :=
  kept_fpt (kept_settle s)

theorem kept_lif {s t : State} (e : kept t = kept s) :
    t.lif.slot = s.lif.slot ∧ t.lif.seq = s.lif.seq ∧ t.lif.idle = s.lif.idle ∧
    t.lif.crcErrors = s.lif.crcErrors ∧ t.lif.formatErrors = s.lif.formatErrors ∧
    t.lif.collisions = s.lif.collisions ∧ t.lif.diagCount = s.lif.diagCount ∧ t.lif.timer = s.lif.timer ∧
    t.lif.lineFault = s.lif.lineFault ∧ t.lif.abandoned = s.lif.abandoned := by
  have h : keptLif t.lif = keptLif s.lif := congrArg State.lif e
  exact ⟨(congrArg LifState.slot h :), (congrArg LifState.seq h :), (congrArg LifState.idle h :),
    (congrArg LifState.crcErrors h :), (congrArg LifState.formatErrors h :),
    (congrArg LifState.collisions h :), (congrArg LifState.diagCount h :), (congrArg LifState.timer h :),
    (congrArg LifState.lineFault h :), (congrArg LifState.abandoned h :)⟩

@[simp] theorem settle_lif (s : State) :
    (settle s).lif.slot = s.lif.slot ∧ (settle s).lif.seq = s.lif.seq ∧ (settle s).lif.idle = s.lif.idle ∧
    (settle s).lif.crcErrors = s.lif.crcErrors ∧ (settle s).lif.formatErrors = s.lif.formatErrors ∧
    (settle s).lif.collisions = s.lif.collisions ∧ (settle s).lif.diagCount = s.lif.diagCount ∧
    (settle s).lif.timer = s.lif.timer ∧ (settle s).lif.lineFault = s.lif.lineFault ∧
    (settle s).lif.abandoned = s.lif.abandoned :=
  kept_lif (kept_settle s)

theorem kept_bsq {s t : State} (e : kept t = kept s) :
    t.bsq.cursor = s.bsq.cursor ∧ t.bsq.cursorRing = s.bsq.cursorRing ∧ t.bsq.buildStart = s.bsq.buildStart ∧
    t.bsq.placed = s.bsq.placed ∧ t.bsq.substituted = s.bsq.substituted := by
  have h : keptBsq t.bsq = keptBsq s.bsq := congrArg State.bsq e
  exact ⟨(congrArg BsqState.cursor h :), (congrArg BsqState.cursorRing h :),
    (congrArg BsqState.buildStart h :), (congrArg BsqState.placed h :), (congrArg BsqState.substituted h :)⟩

@[simp] theorem settle_bsq (s : State) :
    (settle s).bsq.cursor = s.bsq.cursor ∧ (settle s).bsq.cursorRing = s.bsq.cursorRing ∧
    (settle s).bsq.buildStart = s.bsq.buildStart ∧ (settle s).bsq.placed = s.bsq.placed ∧
    (settle s).bsq.substituted = s.bsq.substituted :=
  kept_bsq (kept_settle s)

end Sys2Proof.Machine
end

