-- ==== Sys2Proof/Laws/Completes.lean ====
section
/-! SUPPORT. What an expiry, a frame heard and an order taken come to; and that every well-formed command
answers a next state. -/

namespace Sys2Proof.Machine

open Sys2Proof Sys2Proof.Laws

/-! ## Expiries -/

/-- An expiry of a timer that runs and is due acts. -/
theorem onExpiry_due {start : Time} {span : Nat} {act : Time → State → State} {s : State}
    (h : span ≤ elapsedSince start s.elapsed) :
    onExpiry (some start) span act s = .next (act start s) := by
  simp [onExpiry, h]

/-- An expiry of a timer that is not due changes nothing. -/
theorem onExpiry_early {start : Time} {span : Nat} {act : Time → State → State} {s : State}
    (h : elapsedSince start s.elapsed < span) : onExpiry (some start) span act s = .next s := by
  simp [onExpiry, Nat.not_le.2 h]

/-- An expiry of a timer that does not run changes nothing. -/
@[simp] theorem onExpiry_none (span : Nat) (act : Time → State → State) (s : State) :
    onExpiry none span act s = .next s := rfl

/-- Every expiry completes. -/
theorem onExpiry_completes (t : Timer) (span : Nat) (act : Time → State → State) (s : State) :
    ∃ u, onExpiry t span act s = .next u := by
  unfold onExpiry
  split
  · exact ⟨_, rfl⟩
  · split <;> exact ⟨_, rfl⟩

/-! ## Frames heard -/

/-- A valid frame of the row, from another station or the console, acts and its event settles. -/
theorem hear_valid {s u : State} {chars : Chars} {h : Header} {b : Body}
    {act : Header → Body → State → Option State} (hh : hears s chars h b)
    (ha : act h b (lineUsed s) = some u) : hear chars act s = .next (settle u) := by
  obtain ⟨hr, hj, hs⟩ := hh
  simp [hear, hearClosed, hr, hj, hs, ha]

/-- A row completes on every transmission whose valid frames are its own. -/
theorem hearClosed_completes {chars : Chars} {act : Header → Body → State → Option State} {s : State}
    (h : ∀ h b u, judge s.cfg.image.nS chars = .valid h b → (act h b u).isSome = true) :
    ∃ u, hearClosed chars act s = .next u := by
  unfold hearClosed
  split
  · exact ⟨_, rfl⟩
  · split
    · exact ⟨_, rfl⟩
    · exact ⟨_, rfl⟩
    · exact ⟨_, rfl⟩
    · rename_i hd b hv
      split
      · exact ⟨_, rfl⟩
      · split
        · rename_i hn
          have := h hd b (lineUsed s) hv
          simp [hn] at this
        · exact ⟨_, rfl⟩

/-- As `hearClosed_completes`, for a row whose event settles. -/
theorem hear_completes {chars : Chars} {act : Header → Body → State → Option State} {s : State}
    (h : ∀ h b u, judge s.cfg.image.nS chars = .valid h b → (act h b u).isSome = true) :
    ∃ u, hear chars act s = .next u :=
  hearClosed_completes fun hd b u hv => by simpa using h hd b u hv

/-! ## Orders taken -/

/-- An ORDER that is taken and passes checks 1 to 4 of R187 is decided by its owning rule, echoed, and its
event settled. -/
theorem hear_ordered {s : State} {chars : Chars} {tag : Tag} {code : Nat} {params : List Int}
    (ho : ordered s chars tag code params) (rule : List Int → State → Judged) (fits : Nat → List Int → Bool)
    (hf : fits code params = true) :
    hear chars (orderHeard fits rule) s = .next (settle (writeEcho tag code (rule params (atOrder s)))) := by
  obtain ⟨⟨h, ⟨hr, hj, hs⟩, ht⟩, hu, hl, hd, hc⟩ := ho
  have e : consoleHeard (lineUsed s) = atOrder s := rfl
  have ht' : takes h.dest tag code (atOrder s) = true := ht
  have hd' : dutyRefuses code (atOrder s) = false := hd
  have hl' : (atOrder s).phase ≠ .listen := hl
  simp [hear, hearClosed, hr, hj, hs, orderHeard, hf, e, handleOrder, ht', judgeOrder, hu, hl', hd', hc]

/-- An order row acts on every order that fits it. -/
theorem orderHeard_isSome {fits : Nat → List Int → Bool} {rule : List Int → State → Judged} {h : Header}
    {tag : Tag} {code : Nat} {params : List Int} {s : State} (hf : fits code params = true) :
    (orderHeard fits rule h (.order tag code params) s).isSome = true := by
  simp [orderHeard, hf]

/-- An order row of one code completes on its well-formed commands. -/
theorem order_completes {code : Nat} {chars : Chars} {rule : List Int → State → Judged} {s : State}
    (hf : fitsOrder code chars = true) : ∃ u, hear chars (orderHeard (ofCode code) rule) s = .next u :=
  hear_completes fun h b u hv => by
    have hk := valid_orderKind hf hv
    cases b <;> simp [isOrder] at hk
    exact orderHeard_isSome (by simp [ofCode, hk])

/-! ## No well-formed command is turned away -/

/-- Every well-formed command answers a next state, in every state: a refusal is left to the commands whose
characters spell another row's frame (log 6), and nothing faults. -/
theorem exec_completes (i : Instr) (s : State) (hf : i.wellFormed = true) : ∃ u, exec i s = .next u := by
  cases i with
  | powerUp straps => exact ⟨_, rfl⟩
  | loadEnd read =>
    simp only [exec, execLoadEnd]
    split
    · split
      · exact ⟨_, rfl⟩
      · split <;> exact ⟨_, rfl⟩
    · exact ⟨_, rfl⟩
  | faultJoinTimerExpiry =>
    simp only [exec, execFaultJoinTimerExpiry]
    exact onExpiry_completes _ _ _ _
  | listenJoinTimerExpiry =>
    simp only [exec, execListenJoinTimerExpiry]
    exact onExpiry_completes _ _ _ _
  | listenEnd =>
    simp only [exec, execListenEnd]
    exact onExpiry_completes _ _ _ _
  | fieldSampleExpiry inputs =>
    simp only [exec, execFieldSampleExpiry]
    exact onExpiry_completes _ _ _ _
  | alarmPersistenceExpiry kind =>
    simp only [exec, execAlarmPersistenceExpiry]
    exact onExpiry_completes _ _ _ _
  | duplicateStationExpiry =>
    simp only [exec, execDuplicateStationExpiry]
    exact onExpiry_completes _ _ _ _
  | dutyEvaluationExpiry =>
    simp only [exec, execDutyEvaluationExpiry]
    exact onExpiry_completes _ _ _ _
  | startWatchExpiry peer =>
    simp only [exec, execStartWatchExpiry]
    split <;> exact ⟨_, rfl⟩
  | residencyTick => exact ⟨_, rfl⟩
  | balanceEvaluationExpiry =>
    simp only [exec, execBalanceEvaluationExpiry]
    exact onExpiry_completes _ _ _ _
  | statusTimerExpiry =>
    simp only [exec, execStatusTimerExpiry]
    exact onExpiry_completes _ _ _ _
  | transmitStart idle =>
    simp only [exec, execTransmitStart]
    split <;> exact ⟨_, rfl⟩
  | frameSent =>
    simp only [exec, execFrameSent]
    split <;> exact ⟨_, rfl⟩
  | collision =>
    simp only [exec, execCollision]
    split <;> exact ⟨_, rfl⟩
  | receptionEarlyEnd chars =>
    have hi : incomplete chars = true := hf
    simp only [exec, execReceptionEarlyEnd, hi]
    split
    · exact ⟨_, rfl⟩
    · simp only [Bool.true_eq_false, if_false]
      split <;> exact ⟨_, rfl⟩
  | status chars =>
    simp only [exec, execStatus]
    exact hear_completes fun h b u hv => by
      have hk : b.kindCode = 1 := valid_kind hf hv
      cases b <;> simp [Body.kindCode] at hk
      rfl
  | join chars =>
    simp only [exec, execJoin]
    exact hear_completes fun h b u hv => by
      have hk : b.kindCode = 2 := valid_kind hf hv
      cases b <;> simp [Body.kindCode] at hk
      rfl
  | retractGroup chars =>
    simp only [exec, execRetractGroup]
    exact hear_completes fun h b u hv => by
      have hk := valid_request (kind := .retract) rfl hf hv
      cases b <;> simp [isRequest] at hk
      simp [requestHeard, hk]
  | extendGroup chars =>
    simp only [exec, execExtendGroup]
    exact hear_completes fun h b u hv => by
      have hk := valid_request (kind := .extend) rfl hf hv
      cases b <;> simp [isRequest] at hk
      simp [requestHeard, hk]
  | reply chars =>
    simp only [exec, execReply]
    exact hear_completes fun h b u hv => by
      have hk : b.kindCode = 5 := valid_kind hf hv
      cases b <;> simp [Body.kindCode] at hk
      rfl
  | alarm chars =>
    simp only [exec, execAlarm]
    exact hear_completes fun h b u hv => by
      have hk : b.kindCode = 6 := valid_kind hf hv
      cases b <;> simp [Body.kindCode] at hk
      rfl
  | ringReport chars =>
    simp only [exec, execRingReport]
    exact hear_completes fun h b u hv => by
      have hk : b.kindCode = 7 := valid_kind hf hv
      cases b <;> simp [Body.kindCode] at hk
      rfl
  | peerLiveTimeout peer =>
    simp only [exec, execPeerLiveTimeout]
    split
    · exact onExpiry_completes _ _ _ _
    · exact ⟨_, rfl⟩
  | peerSilentTimeout peer =>
    simp only [exec, execPeerSilentTimeout]
    split
    · exact onExpiry_completes _ _ _ _
    · exact ⟨_, rfl⟩
  | peerJoiningTimeout peer =>
    simp only [exec, execPeerJoiningTimeout]
    split
    · exact onExpiry_completes _ _ _ _
    · exact ⟨_, rfl⟩
  | consoleSilentExpiry =>
    simp only [exec, execConsoleSilentExpiry]
    split
    · exact onExpiry_completes _ _ _ _
    · exact ⟨_, rfl⟩
  | consoleLostExpiry =>
    simp only [exec, execConsoleLostExpiry]
    exact onExpiry_completes _ _ _ _
  | stepTimerExpiry =>
    simp only [exec, execStepTimerExpiry]
    exact onExpiry_completes _ _ _ _
  | gripTimerExpiry =>
    simp only [exec, execGripTimerExpiry]
    exact onExpiry_completes _ _ _ _
  | retractTimerExpiry =>
    simp only [exec, execRetractTimerExpiry]
    exact onExpiry_completes _ _ _ _
  | extendTimerExpiry =>
    simp only [exec, execExtendTimerExpiry]
    exact onExpiry_completes _ _ _ _
  | answerWaitExpiry =>
    simp only [exec, execAnswerWaitExpiry]
    exact onExpiry_completes _ _ _ _
  | releaseTimerExpiry =>
    simp only [exec, execReleaseTimerExpiry]
    exact onExpiry_completes _ _ _ _
  | blockTimerExpiry =>
    simp only [exec, execBlockTimerExpiry]
    exact onExpiry_completes _ _ _ _
  | settingTimerExpiry =>
    simp only [exec, execSettingTimerExpiry]
    exact onExpiry_completes _ _ _ _
  | flushTimerExpiry =>
    simp only [exec, execFlushTimerExpiry]
    split <;> exact ⟨_, rfl⟩
  | keepalive chars =>
    simp only [exec, execKeepalive]
    exact order_completes hf
  | setAdvance chars =>
    simp only [exec, execSetAdvance]
    exact order_completes hf
  | startAdvance chars =>
    simp only [exec, execStartAdvance]
    exact order_completes hf
  | pause chars =>
    simp only [exec, execPause]
    exact order_completes hf
  | startCutterhead chars =>
    simp only [exec, execStartCutterhead]
    exact order_completes hf
  | stopCutterhead chars =>
    simp only [exec, execStopCutterhead]
    exact order_completes hf
  | setMaxLevel chars =>
    simp only [exec, execSetMaxLevel]
    exact order_completes hf
  | build chars =>
    simp only [exec, execBuild]
    exact order_completes hf
  | abortBuild chars =>
    simp only [exec, execAbortBuild]
    exact order_completes hf
  | resumeBuild chars =>
    simp only [exec, execResumeBuild]
    exact order_completes hf
  | setFacePressure chars =>
    simp only [exec, execSetFacePressure]
    exact order_completes hf
  | screwStart chars =>
    simp only [exec, execScrewStart]
    exact order_completes hf
  | screwStop chars =>
    simp only [exec, execScrewStop]
    exact order_completes hf
  | screwMode chars =>
    simp only [exec, execScrewMode]
    exact order_completes hf
  | gate chars =>
    simp only [exec, execGate]
    exact order_completes hf
  | groutFlush chars =>
    simp only [exec, execGroutFlush]
    exact order_completes hf
  | groutWriteOff chars =>
    simp only [exec, execGroutWriteOff]
    exact order_completes hf
  | ackAlarms chars =>
    simp only [exec, execAckAlarms]
    exact order_completes hf
  | clearFlags chars =>
    simp only [exec, execClearFlags]
    exact order_completes hf
  | clearCounters chars =>
    simp only [exec, execClearCounters]
    exact order_completes hf
  | resume chars =>
    simp only [exec, execResume]
    exact order_completes hf
  | restartStation chars =>
    simp only [exec, execRestartStation]
    exact hearClosed_completes fun h b u hv => by
      have hk := valid_orderKind (code := 22) hf hv
      cases b <;> simp [isOrder] at hk
      simp [restartHeard, hk]
  | setRing chars =>
    simp only [exec, execSetRing]
    exact order_completes hf
  | orderUndefinedKind chars =>
    simp only [exec, execOrderUndefinedKind]
    exact hear_completes fun h b u hv => by
      have hk := valid_undefinedOrder hf hv
      cases b <;> simp [isUndefinedOrder] at hk
      exact orderHeard_isSome hk

/-! ## Closing an event -/

/-- Closing an event moves no phase that is neither ADVANCING nor PAUSED and that a stop does not halt. -/
theorem settle_phase_stays {s : State} (h : s.phase.halts = false) (h1 : s.phase ≠ .advancing)
    (h2 : s.phase ≠ .paused) : (settle s).phase = s.phase := by
  have key : ∀ s : State, s.phase.halts = false → s.phase ≠ .advancing → s.phase ≠ .paused →
      (settleOnce s).phase = s.phase := by
    intro s h h1 h2
    unfold settleOnce
    have a : (haltTest (syncKinds AlarmKind.all (orphanTest s))).phase = s.phase := by
      unfold haltTest; rw [if_neg] <;> simp [h]
    have b : (gateTest (enableSync (forcingSync (haltTest (syncKinds AlarmKind.all (orphanTest s)))))).phase
        = s.phase := by
      unfold gateTest; rw [if_neg, if_neg] <;> simp [a, h1, h2]
    unfold excavationTest
    simp
    split
    · simp_all
    · exact b
  unfold settle
  have k1 := key s h h1 h2
  have k2 := key (settleOnce s) (by rw [k1]; exact h) (by rw [k1]; exact h1) (by rw [k1]; exact h2)
  have k3 := key (settleOnce (settleOnce s)) (by rw [k2, k1]; exact h) (by rw [k2, k1]; exact h1)
    (by rw [k2, k1]; exact h2)
  rw [k3, k2, k1]

end Sys2Proof.Machine
end

