-- ==== Sys2Proof/Laws/Terms.lean ====
section
/-! SUPPORT. The model's tests in the terms that claims use (Safety.lean); and what a change of the build state, the
extension that brings a group back, and an entry into SUSPENDED can do, each said once in those terms. -/

namespace Sys2Proof.Machine

open Sys2Proof

/-! ## The tests -/

theorem inForce_iff (s : State) (k : AlarmKind) : inForce s k = true ↔ standsInForce s k := by
  unfold inForce entryInForce standsInForce
  cases h : (entryOf s k).state <;> simp [h]

theorem classInForce_iff (s : State) (c : AlarmClass) : classInForce s c = true ↔ classStands s c := by
  simp [classInForce, inForce_iff]

theorem stopInForce_iff (s : State) : stopInForce s = true ↔ classStands s .stop :=
  classInForce_iff s .stop

theorem holdCause_iff (b : BalState) : holdCause b = true ↔ heldBack b := by
  simp [holdCause, or_assoc]

theorem balanceValid_iff (s : State) :
    balanceValid s = true ↔ s.bal.active = true ∧ s.bal.blind = false ∧ s.bal.conveyor ≠ .fault := by
  simp [balanceValid, and_assoc]

theorem holderBalanceValid_iff (s : State) : holderBalanceValid s = true ↔ holderShowsBalance s := by
  unfold holderBalanceValid holderShowsBalance
  cases hh : s.ptb.conveyor.holder with
  | none => simp
  | some h =>
    by_cases ho : h = s.own
    · simp [ho, balanceValid_iff]
    · cases hs : served s h with
      | none => simp [ho, hs]
      | some r => cases hc : r.conveyorPart <;> simp [ho, hs, hc]

/-- R58: the model's own enable is its three conditions. -/
theorem enableNow_iff (s : State) : enableNow s = true ↔ enableConditions s := by
  simp only [enableNow, enableConditions, Bool.and_eq_true, decide_eq_true_eq, Bool.not_eq_true',
    ← Bool.not_eq_true, classInForce_iff, holderBalanceValid_iff, and_assoc]

/-- R59: the model's enables are up exactly where every enable is. -/
theorem enablesUp_iff (s : State) : enablesUp s = true ↔ allEnabled s := by
  simp [enablesUp, -Prod.forall]

/-! ## The build state -/

/-- R81, R89: the build states with a step timer are those underway. -/
theorem stepping_iff_underway (s : State) : s.bsq.state.stepping = true ↔ Underway s := by
  cases h : s.bsq.state <;> simp [BuildState.stepping, Underway, h]

theorem keepDeadline_eq_kept (q : BsqState) : keepDeadline q = retractionKept q := by
  unfold keepDeadline retractionKept
  cases hq : q.request with
  | none => cases q.retraction <;> simp
  | some r =>
    by_cases hr : r.kind = .retract ∧ r.accepted = false
    · simp [hr]
    · cases q.retraction <;> simp [hr]

/-- Everything a change of the build state to one other than IDLE does. -/
theorem setBuild_enters {b : BuildState} (hb : b ≠ .idle) (s : State) : EntersBuild b s (setBuild b s) := by
  refine ⟨?_, ?_, ?_, ?_⟩
  · cases b <;> simp_all [setBuild, enterBuild, BuildState.stepping]
  · cases b <;> simp_all [setBuild, writeErector, commandOf, erectorCmdOf, placementInHand]
  · rfl
  · rfl

theorem setFlagIf_onBsq {b c : Bool} {k : Flag} {f : BsqState → BsqState} {s t : State} (hb : b = c)
    (hs : s = t.onBsq f) : setFlagIf b k s = (setFlagIf c k t).onBsq f := by
  subst hb hs; cases b <;> rfl

theorem setGroup_onBsq {g : Group} {f : BsqState → BsqState} {s t : State} (hs : s = t.onBsq f) :
    setGroup g s = (setGroup g t).onBsq f := by
  subst hs
  unfold setGroup writeGroupValve writeValve refreshValve
  exact setFlagIf_onBsq rfl rfl

/-- A state is restored by its own BSQ. -/
theorem withBsq_eq {u : State} {q : BsqState} (h : u.bsq = q) : { u with bsq := q } = u := by
  subst h; rfl

/-- THU answers a request alike whatever BSQ holds. -/
theorem answerRequest_onBsq (source : Nat) (kind : RequestKind) (ring : RingNumber) (tag : Tag)
    (f : BsqState → BsqState) (s : State) :
    answerRequest source kind ring tag (s.onBsq f) =
      ((answerRequest source kind ring tag s).1.onBsq f, (answerRequest source kind ring tag s).2) := by
  have h : repeatAnswer (s.onBsq f) source kind tag = repeatAnswer s source kind tag := rfl
  have e : freshAnswer (s.onBsq f) source kind ring = freshAnswer s source kind ring := rfl
  unfold answerRequest
  rw [h]
  cases repeatAnswer s source kind tag with
  | some a => rfl
  | none =>
    simp only [e]
    unfold takeAnswer
    split
    · exact congrArg (fun u => (u, freshAnswer s source kind ring))
        (setGroup_onBsq (g := .moving (requestMotion kind)) rfl)
    · rfl

theorem answerRequest_bsq (source : Nat) (kind : RequestKind) (ring : RingNumber) (tag : Tag) (s : State) :
    (answerRequest source kind ring tag s).1.bsq = s.bsq := by
  unfold answerRequest takeAnswer; (repeat' split) <;> simp

/-- Everything that bringing a group back does. -/
theorem sendBack_bringsBack (s : State) : BringsBack s (sendBack s) := by
  have due : ∀ t, ExtensionDue s t ↔
      ¬(s.bsq.state ≠ .suspended ∨ s.phase = .halted ∨ targetHere s t.target = false ∨
        groupComingBack s t.target = true) := by
    intro t
    unfold ExtensionDue targetHere groupComingBack
    by_cases ho : t.target = s.own
    · simp [ho]
    · cases hs : served s t.target <;> simp [ho]
  refine ⟨fun t ht hd => ?_, fun h => ?_⟩
  · have hn := (due t).1 hd
    have e : sendBack s = if t.target = s.own then (issueLocal .extend s).1 else issueFrame .extend t.target s := by
      unfold sendBack
      simp only [ht]
      rw [if_neg hn]
    refine ⟨fun ho => ?_, fun ho => ?_⟩
    · rw [e, if_neg ho]
      refine ⟨?_, ?_⟩
      · simp [issueFrame, issueRequest, retractionAfterIssue, keepDeadline_eq_kept]
      · exact withBsq_eq (u := handFrame (requestFrame .extend t.target s.bsq) s) (by simp)
    · rw [e, if_pos ho]
      unfold issueLocal
      rw [answerRequest_onBsq]
      have hb := answerRequest_bsq s.own .extend s.bsq.cursorRing s.bsq.nextTag s
      generalize answerRequest s.own .extend s.bsq.cursorRing s.bsq.nextTag s = a at hb
      obtain ⟨u, r⟩ := a
      replace hb : u.bsq = s.bsq := hb
      refine ⟨?_, ?_⟩
      · cases r <;>
          simp [markAnswer, markAccepted, settleRefused, issueRequest, retractionAfterIssue, keepDeadline_eq_kept,
            hb, hd.1, ho]
      · cases r <;> exact withBsq_eq hb
  · unfold sendBack
    cases ht : s.bsq.retraction with
    | none => rfl
    | some t =>
      have := h t ht
      rw [due, not_not] at this
      simp only [if_pos this]

/-- Everything a suspension does to a build that is underway. -/
theorem suspend_enters {s : State} (h : Underway s) : EntersSuspended s (suspend s) := by
  refine ⟨setBuild .suspended s, setBuild_enters (by simp) s, ?_⟩
  unfold suspend
  rw [if_pos ((stepping_iff_underway s).2 h)]
  exact sendBack_bringsBack _

end Sys2Proof.Machine
end

