-- ==== Sys2Proof/Tests/Slice0.lean ====
section
/-! SUPPORT. Tests of one step each on the reference machine with six sectors (the worked sections of the
spec), a smoke test of every check of WellFormed, and for each statement with hypotheses a concrete state and
operands that meet them (`test_witness_…`). -/

namespace Sys2Proof.Tests

open Sys2Proof Sys2Proof.Machine

set_option maxRecDepth 20000
set_option Elab.async false

/-! ## The reference machine -/

/-- Section 2.11's table of duty levels; levels 5 and 7 are invalid. -/
def levels : List DutyLevel :=
  let row (valid : Bool) (speed limit high low : Int) (down up : Nat) (cap : Int) : DutyLevel :=
    { valid := valid, speed := speed, torqueLimit := limit, loadHigh := high, loadLow := low, hDown := down
      hUp := up, advanceCap := cap }
  [row true 120 5400 950 600 3 50 250, row true 160 5000 930 620 3 50 350,
   row true 200 4600 920 640 3 50 450, row true 240 4200 900 650 3 50 550,
   row true 280 3800 900 660 3 50 650, row false 300 3600 900 660 3 50 700,
   row true 340 3200 880 680 2 100 800, row false 360 3000 880 680 2 100 900]

/-- The image of the worked sections: two placements and the key, plain scales. -/
def image : Image :=
  { Image.blank with
    nS := 6, aFace := 342119, aSector := 5066, bulking := 1200, fFill := 1150, vS := 420000
    sEnd := 165000, sBuildMin := 150000, sRetract := 2000, pHold := 1200, pRetract := 300
    pGroupMax := 3500, kA := 40, lSkew := 300, lSkewAlarm := 500, levels := levels, rRamp := 10
    tHigh := 1200, tLow := 1000, lTherm := 5, dDroop := 50, tAlarm := 60000, tTrip := 72000
    plan :=
      [{ segment := 1, key := false, position := 180 }, { segment := 2, key := false, position := 10 },
       { segment := 3, key := true, position := 100 }]
    tStep := 600, tGrip := 300, tRetract := 400, tExtend := 400, tRelease := 200
    vParcel := 40000, vStart := 2000, lBoost := 30000, rateLow := 20, rateHigh := 40, pMax := 300
    pResume := 200, tBlock := 100, tSet := 6000, tFlush := 100, lLag := 60000, lLagClear := 30000
    kP := 50, kB := 20, slew := 40, nMax := 1200, lOver := 20000, lUnder := 300000, lHyst := 5000
    pTargetInit := 2500, bandInit := 300
    persistences := List.replicate 30 { raise := 50, clear := 50 }
    escalation := { fifoMergedFull := true }, escalationClass := .hold
    analog := List.replicate 8 { gain := 65536, offset := 0, low := 0, high := 6000 }
    outputs := List.replicate 5 { gain := 65536, offset := 0 }
    cMeterMax := 50, cEncMax := 4096 }

/-- A configuration memory whose content is four bytes and whose check value is their CRC-32. -/
def memory : ImageRead :=
  let head : List Byte := [0, 4, 1, 2, 3, 4]
  { bytes := head ++ bytes4 (crc32 head).toNat, fields := image }

/-- What a present peer's STATUS shows: RUNNING at level 4, 80 mm, enable true. -/
def record : StatusRecord :=
  { phase := .idle, cutterhead := .running, proposed := 4, applied := 4, changing := false
    throttle := false, torqueSum := 6000, motorCount := 2, group := .moving .holding, stroke := 80000
    quality := .valid, rate := 80, counter := 80000, strokeEnd := false, groupPressure := 1500
    chamberPressure := 2560, chamberValid := true, enable := true, pendingKind := none, pendingTag := 0
    ring := 412, line := .idle, outstanding := 0, postedRing := 5, deliveredRing := 6, echo := none
    alarms := 0, flags := {}, conveyorPart := none, erectorPart := none, diagnostic := none }

/-- A LIVE entry serving a record. -/
def live (r : StatusRecord) : PeerEntry :=
  { liveness := .live, lastSeq := some 20, lastFrame := some 1000, lastStatus := some 1000, good := 5
    ringHeard := some r.ring, record := some r }

/-- Station 0, IDLE at elapsed time 1000, exercising both duties; stations 1 to 5 LIVE; every channel fitted
and VALID. -/
def station : State :=
  let s := coldStart { erector := true, conveyor := true } []
  { s with
    elapsed := 1000, phase := .idle, ring := 412
    cfg := { s.cfg with image := image, digest := 7 }
    ptb :=
      { peers := { liveness := .self } :: (List.replicate 5 (live record) ++ [{}, {}])
        console := { liveness := .live, lastOrder := some 990 }, endOfListen := true, listenEnd := 500
        erector := { holder := some 0 }, conveyor := { holder := some 0 }, exErector := true
        exConveyor := true }
    oru := { lastTag := some 29, echo := some { tag := 29, code := 2, result := .done } }
    dsu :=
      { s.dsu with
        cutterhead := .running, nr := 280, choice := 4, proposed := 4, applied := 4, timer := some 990 }
    thu :=
      { s.thu with
        quality := .valid, stroke := 80000, history := List.replicate 10 80000, fresh := false
        counter := 80000, pRef := 1200, enable := true, blind := false
        set := List.replicate 6 (some 80000) ++ [none, none] }
    gru := { s.gru with active := true }
    bal :=
      { s.bal with
        active := true, timer := some 990, conveyor := .running, gateOpen := true, pTarget := 2500
        band := 300, blind := false, set := List.replicate 6 (some 79992) ++ [none, none] }
    bsq := { s.bsq with cursorRing := 412 }
    alu := { s.alu with active := true }
    fpt :=
      { s.fpt with
        timer := some 999, fitted := List.replicate 26 true
        inputs := List.replicate 18 { valid := true, bad := 0, good := 10, served := 0 }
        estopIn := { asserted := false, start := false, run := 10 } }
    lif := { s.lif with timer := some 999 } }

/-- What a command leaves; the station as it was where it answers no next state. -/
def after (c : Instr) (s : State) : State :=
  match exec c s with
  | .next t => t
  | .fault _ => s
  | .refused _ => s

/-- The command answers a next state. -/
def runs (c : Instr) (s : State) : Bool :=
  match exec c s with
  | .next _ => true
  | .fault _ => false
  | .refused _ => false

/-- A frame of station or console `source` with sequence number 21. -/
def heardFrom (source dest : Nat) (b : Body) : Chars :=
  frameChars source 21 { dest := dest, body := b }

/-- An ORDER to all stations. -/
def order (tag : Tag) (code : Nat) (params : List Int) : Chars :=
  heardFrom 8 15 (.order tag code params)

/-- The result echoed after a command. -/
def result (s : State) : Option OrderResult :=
  s.oru.echo.map fun e => e.result

/-- One peer's entry changed. -/
def withPeer (j : Nat) (e : PeerEntry) (s : State) : State :=
  setPeer j e s

/-- One input channel's state changed. -/
def withInput (c : Channel) (i : InputState) (s : State) : State :=
  setInput c i s

/-- One input serving a value, VALID. -/
def serving (c : Channel) (v : Int) (s : State) : State :=
  setInput c { valid := true, bad := 0, good := 10, served := v } s

/-- One alarm in force. -/
def raised (k : AlarmKind) (s : State) : State :=
  setEntry k { state := .active, cond := true, timer := none, latch := true } s

/-! ## What a witness shows -/

/-- Decidable form of `hears` for a frame from station or console `source`. -/
abbrev hearing (s : State) (source dest : Nat) (b : Body) : Prop :=
  receives s = true ∧
    judge s.cfg.image.nS (heardFrom source dest b) = .valid { source := source, dest := dest, seq := 21 } b ∧
    source ≠ s.own

theorem hears_of {s : State} {source dest : Nat} {b : Body} (h : hearing s source dest b) :
    hears s (heardFrom source dest b) { source := source, dest := dest, seq := 21 } b := h

/-- Decidable form of `ordered` for an ORDER to all stations. -/
abbrev taking (s : State) (tag : Tag) (code : Nat) (params : List Int) : Prop :=
  hearing s 8 15 (.order tag code params) ∧ takes 15 tag code s = true ∧
    undefinedOrder code params.length = false ∧ s.phase ≠ .listen ∧ dutyRefuses code s = false ∧
    codedRefuses code params = false

theorem ordered_of {s : State} {tag : Tag} {code : Nat} {params : List Int} (h : taking s tag code params) :
    ordered s (order tag code params) tag code params :=
  ⟨⟨_, h.1, h.2.1⟩, h.2.2⟩

/-- Decidable form of `takesOrder` for an ORDER to all stations. -/
theorem takesOrder_of {s : State} {tag : Tag} {code : Nat} {params : List Int}
    (h : hearing s 8 15 (.order tag code params) ∧ takes 15 tag code s = true) :
    takesOrder s (order tag code params) tag code params :=
  ⟨_, h.1, h.2⟩

/-! ## WellFormed: an ill-formed term for each check -/

theorem test_wf_peerNumber_upper : (Instr.startWatchExpiry 8).wellFormed = false := by decide
theorem test_wf_peerNumber_last : (Instr.startWatchExpiry 7).wellFormed = true := by decide
theorem test_wf_peer_timeouts :
    (Instr.peerLiveTimeout 8).wellFormed = false ∧ (Instr.peerSilentTimeout 8).wellFormed = false ∧
      (Instr.peerJoiningTimeout 8).wellFormed = false := by decide
/-- A complete KEEPALIVE is no early end; the same frame one character short is. -/
theorem test_wf_incomplete :
    (Instr.receptionEarlyEnd (order 1 1 [])).wellFormed = false ∧
      (Instr.receptionEarlyEnd (order 1 1 []).dropLast).wellFormed = true ∧
      (Instr.receptionEarlyEnd []).wellFormed = false := by decide +kernel
/-- `fitsKind`: a STATUS spelled under every other frame row. -/
theorem test_wf_fitsKind :
    let c := heardFrom 1 15 (.status record)
    (Instr.status c).wellFormed = true ∧ (Instr.join c).wellFormed = false ∧
      (Instr.reply c).wellFormed = false ∧ (Instr.alarm c).wellFormed = false ∧
      (Instr.ringReport c).wellFormed = false ∧ (Instr.retractGroup c).wellFormed = false ∧
      (Instr.keepalive c).wellFormed = false := by decide +kernel
/-- A STATUS command whose characters are a JOIN. -/
theorem test_wf_fitsKind_status :
    (Instr.status (heardFrom 1 0 (.reply 3 .busy))).wellFormed = false := by decide +kernel
/-- `fitsRequest`: the other request kind. -/
theorem test_wf_fitsRequest :
    let c := heardFrom 1 0 (.request .extend 412 17)
    (Instr.extendGroup c).wellFormed = true ∧ (Instr.retractGroup c).wellFormed = false := by
  decide +kernel
/-- `fitsOrder`: the other order kinds. -/
theorem test_wf_fitsOrder :
    (Instr.pause (order 1 4 [])).wellFormed = true ∧ (Instr.pause (order 1 3 [])).wellFormed = false ∧
      (Instr.setRing (order 1 17 [4])).wellFormed = false := by decide +kernel
/-- `fitsUndefinedOrder`: a defined kind with its own parameter count. -/
theorem test_wf_fitsUndefinedOrder :
    (Instr.orderUndefinedKind (order 1 24 [])).wellFormed = true ∧
      (Instr.orderUndefinedKind (order 1 2 [5])).wellFormed = true ∧
      (Instr.orderUndefinedKind (order 1 2 [5, 6])).wellFormed = false := by decide +kernel
/-- What an ill-formed command answers. -/
theorem test_ill_formed_is_refused :
    runs (.pause (order 30 3 [])) station = false ∧ runs (.pause (order 30 4 [])) station = true := by
  decide +kernel

/-! ## Bits (R174, R193): the check values of the two generators, from their published definitions -/

theorem test_crc16_check : crc16 [0x31, 0x32, 0x33, 0x34, 0x35, 0x36, 0x37, 0x38, 0x39] = 0x29B1#16 := by
  decide +kernel
theorem test_crc32_check :
    crc32 [0x31, 0x32, 0x33, 0x34, 0x35, 0x36, 0x37, 0x38, 0x39] = 0xCBF43926#32 := by
  decide +kernel
/-- A KEEPALIVE to all stations, byte by byte from R174 and R183: source 8 and destination 15, kind 3 and
class 2, sequence 21, length 2, the tag and the code. -/
theorem test_frame_layout :
    (order 9 1 []).take 7 = [0xA7, 0xF8, 0x23, 21, 2, 9, 1] ∧ (order 9 1 []).length = 9 := by decide +kernel
/-- Section 9.7: the payloads of the STATUS frames on the reference machine. -/
theorem test_status_lengths :
    (statusBytes record).length = 38 ∧
      (statusBytes { record with
        erectorPart := some
          { state := .pick, placement := 0, ring := 412, target := 3, request := none, requestTag := 0 }
        }).length = 43 ∧
      (statusBytes { record with
        conveyorPart := some
          { conveyor := .running, manual := false, balanceValid := true, restarted := false
            screwRef := 519, pMean := 2560, account := some (179696, 3284, 3588) } }).length = 54 := by
  decide +kernel

/-! ## The step -/

theorem test_step_front :
    (match step (station.setPending [.frameSent, .residencyTick]) with
      | .next t => t.pending
      | .fault _ => []
      | .refused _ => []) = [.residencyTick] := by decide +kernel
/-- An empty queue idles (log 1). -/
theorem test_step_idle :
    (match step station with
      | .next t => decide (t.elapsed = 1000 ∧ t.pending = [])
      | .fault _ => false
      | .refused _ => false) = true := by decide +kernel

/-! ## Start (11_configuration_and_start) -/

theorem test_powerUp :
    let t := after (.powerUp { stn1 := true, erector := true }) station
    t.phase = .load ∧ t.own = 2 ∧ t.elapsed = 0 ∧ (peerOf t 2).liveness = .self := by decide +kernel
theorem test_loadEnd_passes :
    let t := after (.loadEnd (some memory)) (coldStart {} [])
    t.phase = .probe ∧ t.cfg.digest = crc32 (memory.bytes.take 6) ∧ t.fpt.probe.trial = 1 := by
  decide +kernel
/-- No image read: CONFIG_FAULT, its JOIN with digest 0 and the fault flag. -/
theorem test_loadEnd_fails :
    let t := after (.loadEnd none) (coldStart {} [])
    t.phase = .configFault ∧
      t.lif.queue.map (fun f => f.body) =
        [.join
          { station := 0, claims := {}, warm := false, fault := true, digest := 0, fitted := 0
            ring := 0 }] := by decide +kernel
/-- A station in CONFIG_FAULT whose timer has run 50 ms. -/
def faulted : State :=
  (after (.loadEnd none) (coldStart {} [])).setElapsed 5
theorem test_faultJoin : (after .faultJoinTimerExpiry faulted).lif.queue.length = 2 := by decide +kernel
theorem test_faultJoin_early :
    (after .faultJoinTimerExpiry (faulted.setElapsed 4)).lif.queue.length = 1 := by decide +kernel
/-- A station that began LISTEN at elapsed time 1000, its cold start. -/
def listening : State :=
  { station with
    phase := .listen
    cfg := { station.cfg with listenTimer := some 1000, joinTimer := some 1000, joinCount := 1 }
    ptb := { station.ptb with endOfListen := false }
    bal := { station.bal with timer := none }
    thu := { station.thu with enable := false }
    dsu := { DsuState.cold with timer := none }
    lif := { station.lif with timer := none } }
/-- R195: a JOIN every 50 ms; the sixth is the last. -/
theorem test_listenJoin :
    let t := after .listenJoinTimerExpiry (listening.setElapsed 1005)
    t.cfg.joinTimer = some 1005 ∧ t.cfg.joinCount = 2 ∧ t.lif.queue.length = 1 := by decide +kernel
theorem test_listenJoin_last :
    (after .listenJoinTimerExpiry
      { listening with elapsed := 1025, cfg := { listening.cfg with joinTimer := some 1020, joinCount := 5 } }
      ).cfg.joinTimer = none := by decide +kernel
/-- R26: the highest ring number heard; 65,535 is higher than 0. -/
theorem test_listenEnd_ring :
    let s := withPeer 3 { live record with ringHeard := some 65535 } (listening.setElapsed 1030)
    let t := after .listenEnd s
    t.ring = 65535 ∧ t.phase = .idle ∧ t.ptb.endOfListen = true ∧ t.dsu.timer = some 1030 := by
  decide +kernel
theorem test_listenEnd_early : (after .listenEnd (listening.setElapsed 1029)).phase = .listen := by
  decide +kernel
/-- R196: an ESTOP heard in LISTEN leaves the station HALTED at its end. -/
theorem test_listenEnd_halted :
    (after .listenEnd
      { listening with elapsed := 1030, alu := { listening.alu with estop := true } }).phase = .halted := by
  decide +kernel

theorem test_witness_LoadEndGoesToProbeOrConfigFault :
    State.reset.phase = .load ∧ imagePasses State.reset.own State.reset.elapsed.toNat memory = true ∧
      imagePasses State.reset.own 20 memory = true ∧ imagePasses State.reset.own 21 memory = false ∧
      imagePasses 6 0 memory = false ∧ (endProbe State.reset).phase = .listen ∧
      State.reset.fpt.fitted.length = 26 := by decide +kernel
/-- R170, R99: what PROBE did not probe is fitted at its end, by the straps; the grout line as it was found. -/
theorem test_endProbe :
    let t := endProbe (coldStart { erector := true } [])
    t.phase = .listen ∧ t.gru.line = .absent ∧ isFitted t .estopIn = true ∧ isFitted t .erectorCmd = true ∧
      isFitted t .screwRef = false ∧ (endProbe (fitGrout (coldStart {} []))).gru.line = .idle := by
  decide +kernel
theorem test_witness_JoinTimersHandTheJoin :
    (faulted.cfg.faultTimer = some 0 ∧ 5 ≤ elapsedSince 0 faulted.elapsed) ∧
      (listening.cfg.joinTimer = some 1000 ∧ 5 ≤ elapsedSince 1000 (1005 : Time)) := by decide +kernel
theorem test_witness_ListenEndAdoptsTheRingAndStartsTheTimers :
    let s := listening.setElapsed 1030
    s.cfg.listenTimer = some 1000 ∧ 30 ≤ elapsedSince 1000 s.elapsed ∧ present s 1 = true ∧
      (peerOf s 1).ringHeard = some 412 ∧ s.ptb.exErector = true ∧ s.cfg.warm = false ∧
      stopInForce s = false ∧ s.alu.estop = false ∧ stopInForce (after .listenEnd s) = false ∧
      (after .listenEnd s).phase = .idle ∧
      stopInForce (raised .cutterheadJam s) = true ∧
      (after .listenEnd (raised .cutterheadJam s)).phase = .halted := by decide +kernel

/-! ## The peer table (01_stations_sectors_and_the_peer_table) -/

/-- Section 1.9 at station 0: entry 3 JOINING with count 4 and last sequence 20, its last STATUS 10 ms back. -/
def rejoining : State :=
  withPeer 3
    { liveness := .joining, lastSeq := some 20, lastFrame := some 999, lastStatus := some 999, good := 4 }
    station
/-- Section 1.9: the fifth consecutive STATUS makes the entry LIVE and serves its record. -/
theorem test_status_fifth :
    let t := after (.status (heardFrom 3 15 (.status record))) rejoining
    (peerOf t 3).liveness = .live ∧ (peerOf t 3).good = 5 ∧ served t 3 = some record := by decide +kernel
/-- Section 1.9: a lost STATUS breaks the run; the next sets the count to 1. -/
theorem test_status_gap :
    let t := after (.status (frameChars 3 22 { dest := 15, body := .status record })) rejoining
    (peerOf t 3).liveness = .joining ∧ (peerOf t 3).good = 1 := by decide +kernel
/-- Section 1.9: a JOIN with the own digest sends the entry to JOINING, its record discarded. -/
theorem test_join_matches :
    let j : JoinRecord :=
      { station := 3, claims := {}, warm := true, fault := false, digest := 7, fitted := 5, ring := 412 }
    let t := after (.join (heardFrom 3 15 (.join j))) station
    (peerOf t 3).liveness = .joining ∧ (peerOf t 3).good = 0 ∧ served t 3 = none := by decide +kernel
/-- R8: another digest makes the entry MISMATCHED. -/
theorem test_join_mismatches :
    let j : JoinRecord :=
      { station := 3, claims := {}, warm := true, fault := false, digest := 8, fitted := 5, ring := 412 }
    (peerOf (after (.join (heardFrom 3 15 (.join j))) station) 3).liveness = .mismatched := by
  decide +kernel
/-- R9: a RING_REPORT counts for the liveness of its source alone. -/
theorem test_ringReport :
    let b : Body := .ringReport 411 1 4 (.residency [1, 2, 3, 4, 5, 6, 7, 8])
    let t := after (.ringReport (heardFrom 2 15 b)) station
    (peerOf t 2).lastSeq = some 21 ∧ (peerOf t 2).lastFrame = some 1000 ∧ t.ring = 412 := by decide +kernel
/-- Section 1.10: SILENT after 30 ms, still serving its record. -/
theorem test_peerLive :
    let t := after (.peerLiveTimeout 2) (station.setElapsed 1003)
    (peerOf t 2).liveness = .silent ∧ served t 2 = some record := by decide +kernel
theorem test_peerLive_early :
    (peerOf (after (.peerLiveTimeout 2) (station.setElapsed 1002)) 2).liveness = .live := by decide +kernel
/-- Entry 2 SILENT and 100 ms after its last STATUS; it holds CONVEYOR. -/
def silenced : State :=
  let s := withPeer 2 { live record with liveness := .silent, claims := { conveyor := true } } station
  { s with
    elapsed := 1010
    cfg := { s.cfg with straps := { erector := true } }
    ptb := { s.ptb with conveyor := { holder := some 2 }, exConveyor := false } }
/-- Section 1.10: LOST after 100 ms, record and claims discarded, no holder left. -/
theorem test_peerSilent :
    let t := after (.peerSilentTimeout 2) silenced
    (peerOf t 2).liveness = .lost ∧ (peerOf t 2).record = none ∧ t.ptb.conveyor.holder = none := by
  decide +kernel
theorem test_peerJoining :
    (peerOf (after (.peerJoiningTimeout 3) (rejoining.setElapsed 1009)) 3).liveness = .lost := by
  decide +kernel
theorem test_consoleSilent :
    (after .consoleSilentExpiry (station.setElapsed 1020)).ptb.console.liveness = .silent := by
  decide +kernel
/-- R19: 1,000 ms after the last ORDER. -/
def unspoken : State :=
  let s := station.setElapsed 1090
  { s with ptb := { s.ptb with console := { liveness := .silent, lastOrder := some 990 } } }
theorem test_consoleLost : (after .consoleLostExpiry unspoken).ptb.console.liveness = .lost := by
  decide +kernel
/-- R19: no ORDER in the 1,000 ms after the end of LISTEN. -/
theorem test_consoleLost_absent :
    (after .consoleLostExpiry
      { station with elapsed := 1500, ptb := { station.ptb with console := {} } }
      ).ptb.console.liveness = .lost := by decide +kernel

/-- A frame whose last character is spoilt on the line. -/
def spoilt (c : Chars) : Chars :=
  c.dropLast ++ [c.getLastD 0 ^^^ 1]
theorem test_witness_ConsecutiveTestCountsToFive :
    ((peerOf rejoining 3).liveness = .joining ∧ (peerOf rejoining 3).good ≤ 4 ∧
        (peerOf rejoining 3).lastSeq = some ((21 : Tag) - 1) ∧
        (peerOf rejoining 3).lastStatus = some 999 ∧ elapsedSince 999 (1002 : Time) ≤ 3 ∧
        ¬elapsedSince 999 (1003 : Time) ≤ 3) ∧
      (live record).liveness ≠ .self ∧
      (receives station = true ∧
        judge station.cfg.image.nS (spoilt (heardFrom 3 15 (.status record))) = .crcFailure ∧
        runs (.status (spoilt (heardFrom 3 15 (.status record)))) station = true) := by decide +kernel
theorem test_witness_frameRows (c : Chars) : Instr.status c ∈ frameRows c := by simp [frameRows]
theorem test_witness_StatusHeardMovesItsEntry :
    hears rejoining (heardFrom 3 15 (.status record)) ⟨3, 15, 21⟩ (.status record) ∧
      rejoining.ptb.peers.length = 8 ∧ (peerOf rejoining 3).liveness = .joining ∧
      hears station (heardFrom 1 15 (.status record)) ⟨1, 15, 21⟩ (.status record) ∧
      (peerOf station 1).liveness = .live ∧
      (peerOf (withPeer 1 {} station) 1).liveness = .absent ∧
      (peerOf (withPeer 1 { liveness := .lost } station) 1).liveness = .lost ∧
      (peerOf (withPeer 1 { liveness := .silent } station) 1).liveness = .silent ∧
      (peerOf (withPeer 1 { liveness := .mismatched } station) 1).liveness = .mismatched :=
  ⟨hears_of (by decide +kernel), by decide +kernel, by decide +kernel, hears_of (by decide +kernel),
    by decide +kernel, by decide +kernel, by decide +kernel, by decide +kernel, by decide +kernel⟩
/-- A JOIN of station 3 with a digest. -/
def joinOf (digest : Digest) : Body :=
  .join { station := 3, claims := {}, warm := true, fault := false, digest := digest, fitted := 5, ring := 412 }
theorem test_witness_JoinHeardMovesItsEntry :
    (∃ r, joinOf 7 = .join r ∧ r.digest = station.cfg.digest ∧
      hears station (heardFrom 3 15 (joinOf 7)) ⟨3, 15, 21⟩ (.join r)) ∧
      (∃ r, joinOf 8 = .join r ∧ r.digest ≠ station.cfg.digest ∧
        hears station (heardFrom 3 15 (joinOf 8)) ⟨3, 15, 21⟩ (.join r)) ∧
      station.ptb.peers.length = 8 ∧ (peerOf station 3).liveness ≠ .self :=
  ⟨⟨_, rfl, by decide +kernel, hears_of (by decide +kernel)⟩,
    ⟨_, rfl, by decide +kernel, hears_of (by decide +kernel)⟩, by decide +kernel, by decide +kernel⟩
theorem test_witness_OtherFramesMoveTheirEntry :
    let r : Body := .ringReport 411 1 4 (.residency [1, 2, 3, 4, 5, 6, 7, 8])
    hears station (heardFrom 2 0 (.request .retract 412 9)) ⟨2, 0, 21⟩ (.request .retract 412 9) ∧
      hears station (heardFrom 2 0 (.request .extend 412 9)) ⟨2, 0, 21⟩ (.request .extend 412 9) ∧
      hears station (heardFrom 2 1 (.reply 9 .busy)) ⟨2, 1, 21⟩ (.reply 9 .busy) ∧
      hears station (heardFrom 2 15 (.alarm .skew true .warning)) ⟨2, 15, 21⟩ (.alarm .skew true .warning) ∧
      hears station (heardFrom 2 15 r) ⟨2, 15, 21⟩ r ∧ station.ptb.peers.length = 8 ∧
      (peerOf station 2).liveness ≠ .self :=
  ⟨hears_of (by decide +kernel), hears_of (by decide +kernel), hears_of (by decide +kernel),
    hears_of (by decide +kernel), hears_of (by decide +kernel), by decide +kernel, by decide +kernel⟩
theorem test_witness_KeepaliveOnlyMarksTheConsole :
    hears station (order 29 1 []) ⟨8, 15, 21⟩ (.order 29 1 []) ∧
      hears station (heardFrom 8 3 (.order 30 1 [])) ⟨8, 3, 21⟩ (.order 30 1 []) ∧
      hears station (order 29 1 [5]) ⟨8, 15, 21⟩ (.order 29 1 [5]) :=
  ⟨hears_of (by decide +kernel), hears_of (by decide +kernel), hears_of (by decide +kernel)⟩
theorem test_witness_SilencesMoveTheirEntries :
    ((peerOf station 2).liveness = .live ∧ (peerOf station 2).lastStatus = some 1000 ∧
        3 ≤ elapsedSince 1000 (1003 : Time)) ∧
      ((peerOf silenced 2).liveness = .silent ∧ (peerOf silenced 2).lastStatus = some 1000 ∧
        10 ≤ elapsedSince 1000 silenced.elapsed ∧ silenced.ptb.peers.length = 8) ∧
      ((peerOf rejoining 3).liveness = .joining ∧ (peerOf rejoining 3).lastFrame = some 999 ∧
        10 ≤ elapsedSince 999 (1009 : Time) ∧ rejoining.ptb.peers.length = 8) ∧
      (station.ptb.console = { liveness := .live, lastOrder := some 990 } ∧
        30 ≤ elapsedSince 990 (1020 : Time)) ∧
      (unspoken.ptb.console.liveness = .silent ∧ unspoken.ptb.console.lastOrder = some 990 ∧
        100 ≤ elapsedSince 990 unspoken.elapsed) ∧
      ((coldStart {} []).ptb.console.liveness = .absent ∧ station.ptb.endOfListen = true ∧
        station.ptb.listenEnd = 500) := by decide +kernel

/-- R14: one claimant of each duty, the own station by its straps; none; and two, by a peer's claim. -/
theorem test_witness_DutyEvaluationFollowsItsTable :
    let none_ := { station with cfg := { station.cfg with straps := {} } }
    let two := withPeer 2 { live record with claims := { erector := true, conveyor := true } } station
    let joins := withPeer 2 { liveness := .joining, claims := { erector := true } } none_
    ((evalDuties station).ptb.erector.holder = some 0 ∧ (evalDuties station).ptb.exErector = true) ∧
      ((evalDuties none_).ptb.erector = { holder := none, conflict := false, missing := true } ∧
        (evalDuties none_).ptb.conveyor = { holder := none, conflict := false, missing := true }) ∧
      ((evalDuties two).ptb.erector.conflict = true ∧ (evalDuties two).ptb.conveyor.holder = none) ∧
      (evalDuties joins).ptb.erector = { holder := some 2, conflict := false, missing := true } := by
  decide +kernel
/-- R15, R75, R120: the duties lost and gained. R68: the holder changed under a RETRACTING group. -/
theorem test_witness_DutiesGainedAndLost :
    let none_ := { station with cfg := { station.cfg with straps := {} } }
    let gained := { station with ptb := { station.ptb with exErector := false, exConveyor := false } }
    let out := none_.onThu fun t => { t with group := .moving .retracting }
    ((evalDuties none_).ptb.exErector ≠ none_.ptb.exErector ∧
        (evalDuties none_).ptb.exConveyor = false ∧ none_.ptb.exConveyor = true) ∧
      ((evalDuties gained).ptb.exErector = true ∧ (evalDuties gained).ptb.exConveyor = true) ∧
      ((evalDuties station).ptb.exErector = station.ptb.exErector ∧
        (evalDuties station).ptb.erector.holder = station.ptb.erector.holder) ∧
      ((evalDuties out).ptb.erector.holder ≠ out.ptb.erector.holder ∧
        (evalDuties out).thu.group = .moving .extending) := by
  decide +kernel

/-! ## The cutterhead and the duty levels (02_cutterhead_drive_and_duty_levels) -/

/-- The station with its cutterhead in a state. -/
def cutting (c : Cutterhead) (s : State) : State :=
  s.onDsu fun d => { d with cutterhead := c }
theorem test_startCutterhead :
    let t := after (.startCutterhead (order 30 5 [])) (cutting .stopped station)
    t.dsu.cutterhead = .starting ∧ t.dsu.startedAt = 1000 ∧ result t = some .accepted := by decide +kernel
theorem test_startCutterhead_tripped :
    result (after (.startCutterhead (order 30 5 [])) (cutting .tripped station)) = some .refusedState := by
  decide +kernel
theorem test_stopCutterhead :
    let t := after (.stopCutterhead (order 30 6 [])) station
    t.dsu.cutterhead = .stopping ∧ t.dsu.nr = 280 ∧ result t = some .accepted := by decide +kernel
theorem test_stopCutterhead_done :
    result (after (.stopCutterhead (order 30 6 [])) (cutting .stopped station)) = some .done := by
  decide +kernel
/-- R28: levels 5 and 7 are invalid, so a console maximum of 7 limits to level 6; own choice 6. -/
theorem test_setMaxLevel_skips :
    let s := station.onDsu fun d => { d with choice := 6 }
    (after (.setMaxLevel (order 30 7 [7])) s).dsu.proposed = 6 ∧
      (after (.setMaxLevel (order 30 7 [5])) s).dsu.proposed = 4 := by decide +kernel
theorem test_setMaxLevel_clamps :
    let t := after (.setMaxLevel (order 30 7 [9])) station
    t.dsu.consoleMax = 7 ∧ result t = some .clamped ∧ t.alu.flags.clamped = true := by decide +kernel

/-- Section 2.11: station 2's two motors in the boulder band, at 200 ms: load 7,150,000 div 7,600 = 940. -/
def boulder : State :=
  let s := serving .motorTorque0 3575 (serving .motorTorque1 3575
    (serving .driveReady0 1 (serving .driveReady1 1 station)))
  s.onDsu fun d => { d with downCount := 2 }
/-- Section 2.11 at 200 ms: the third such evaluation, down to level 3, a change with ramp cap 550. -/
theorem test_dutyEvaluation_boulder :
    let t := after .dutyEvaluationExpiry boulder
    t.dsu.choice = 3 ∧ t.dsu.proposed = 3 ∧ t.dsu.applied = 3 ∧ t.dsu.downCount = 0 ∧ t.dsu.nr = 280 ∧
      t.dsu.changing = true ∧ t.dsu.rampCap = 550 := by decide +kernel
/-- Section 2.11 at 300 ms: one ramp step of 10, the load 857 between level 3's thresholds. -/
theorem test_dutyEvaluation_ramp :
    let s := serving .motorTorque0 3600 (serving .motorTorque1 3600 boulder)
    let t := after .dutyEvaluationExpiry
      (s.onDsu fun d =>
        { d with choice := 3, proposed := 3, applied := 3, downCount := 0, changing := true, rampCap := 550 })
    t.dsu.nr = 270 ∧ t.dsu.downCount = 0 ∧ t.dsu.upCount = 0 ∧ t.dsu.choice = 3 := by decide +kernel
/-- Section 2.12: the own motors carry 3,650 and 3,600 over a mean of 3,340. -/
def sharing : State :=
  let r (sum : Int) (count : Nat) : StatusRecord := { record with torqueSum := sum, motorCount := count }
  let s := serving .motorTorque0 3650 (serving .motorTorque1 3600
    (serving .driveReady0 1 (serving .driveReady1 1 station)))
  withPeer 1 (live (r 6400 2)) (withPeer 2 (live (r 6600 2)) (withPeer 3 (live (r 6900 2))
    (withPeer 4 (live (r 6300 2)) (withPeer 5 (live (r 3300 1)) s))))
/-- Section 2.12: references 265 and 267, the total 36,750 the ring maximum. -/
theorem test_torque_sharing :
    let t := torqueArrival sharing
    t.fpt.written.motor0 = 265 ∧ t.fpt.written.motor1 = 267 ∧ t.dsu.ringMax = 36750 ∧
      t.dsu.overtorque = false ∧ t.dsu.jam = false := by decide +kernel

/-- STARTING for 300 ms, station 1 STOPPED all that time. -/
def watching : State :=
  (cutting .starting station).onDsu fun d =>
    { d with startedAt := 970, stoppedSince := [none, some 970, none, none, none, none, none, none] }
theorem test_startWatch : (after (.startWatchExpiry 1) watching).dsu.cutterhead = .stopping := by
  decide +kernel
theorem test_startWatch_early :
    (after (.startWatchExpiry 1) (watching.setElapsed 999)).dsu.cutterhead = .starting := by
  decide +kernel
theorem test_residencyTick :
    let t := after .residencyTick station
    t.elapsed = 1001 ∧ t.dsu.residency = [0, 0, 0, 0, 1, 0, 0, 0] := by decide +kernel
/-- R47: a count stays at its highest value and sets COUNTER_WRAP. -/
theorem test_residencyTick_full :
    let t := after .residencyTick
      (station.onDsu fun d => { d with residency := List.replicate 8 4294967295 })
    t.dsu.residency.getD 4 0 = 4294967295 ∧ t.alu.flags.counterWrap = true := by decide +kernel

theorem test_witness_CutterheadOrdersStartAndStop :
    let halted := (cutting .stopped station).setPhase .halted
    ordered (cutting .stopped station) (order 30 5 []) 30 5 [] ∧
      ordered (cutting .tripped station) (order 30 5 []) 30 5 [] ∧
      ordered station (order 30 5 []) 30 5 [] ∧ ordered station (order 30 6 []) 30 6 [] ∧
      ordered (cutting .stopped station) (order 30 6 []) 30 6 [] ∧
      stopInForce station = false ∧ station.phase = .idle ∧ station.dsu.cutterhead = .running ∧
      ordered halted (order 30 5 []) 30 5 [] ∧ halted.phase = .halted :=
  ⟨ordered_of (by decide +kernel), ordered_of (by decide +kernel), ordered_of (by decide +kernel),
    ordered_of (by decide +kernel), ordered_of (by decide +kernel), by decide +kernel, by decide +kernel,
    by decide +kernel, ordered_of (by decide +kernel), by decide +kernel⟩
theorem test_witness_SetMaxLevelLimitsTheProposal :
    ordered station (order 30 7 [-1]) 30 7 [-1] ∧ ordered station (order 30 7 [0]) 30 7 [0] ∧
      ordered station (order 30 7 [7]) 30 7 [7] ∧ ordered station (order 30 7 [8]) 30 7 [8] ∧
      station.dsu.applied ≤ station.dsu.proposed :=
  ⟨ordered_of (by decide +kernel), ordered_of (by decide +kernel), ordered_of (by decide +kernel),
    ordered_of (by decide +kernel), by decide +kernel⟩
/-- R37: the throttle closes at T_high by the hottest winding, holds between the two temperatures, and opens
with every winding at T_low or below. -/
theorem test_temp_throttle :
    let shut := station.onDsu fun d => { d with throttle := true }
    let at_ (a b : Int) (s : State) := (tempArrival (serving .motorTemp0 a (serving .motorTemp1 b s))).dsu.throttle
    at_ 20 1200 station = true ∧ at_ 20 1199 station = false ∧ at_ 1001 20 shut = true ∧
      at_ 1000 1000 shut = false := by decide +kernel
/-- Level 3 applied while the own proposal and every peer's is 4: candidate 4, the peers' counters standing. -/
def rising (agreed : Nat) : State :=
  let e := { live record with agreement := agreed }
  { station with
    ptb := { station.ptb with peers := { liveness := .self } :: (List.replicate 5 e ++ [{}, {}]) }
    dsu := { station.dsu with applied := 3, candidate := some 4 } }
/-- R39 to R41: a lower proposal, a candidate that is new, one that stands, and one on which all agree. -/
theorem test_witness_CountedStatusMovesTheLevel :
    let fresh := (rising 0).onDsu fun d => { d with candidate := none }
    (Shaped (rising 1) ∧ served (rising 1) 1 = some record) ∧
      ((driveCountedStatus 1 record fresh).dsu.candidate = some 4 ∧
        (peerOf (driveCountedStatus 1 record fresh) 1).agreement = 1) ∧
      ((driveCountedStatus 1 record (rising 1)).dsu.applied = 3 ∧
        (peerOf (driveCountedStatus 1 record (rising 1)) 1).agreement = 2) ∧
      (driveCountedStatus 1 record (rising 2)).dsu.applied = 4 ∧
      (driveCountedStatus 1 { record with proposed := 2 }
        (withPeer 1 (live { record with proposed := 2 }) (rising 2))).dsu.applied = 2 := by decide +kernel
/-- R42: a retarget of a RUNNING cutterhead takes the lower of the two caps until its ramp ends. -/
theorem test_setApplied :
    let t := setApplied 3 station
    t.dsu.changing = true ∧ t.dsu.rampCap = 550 ∧ (setApplied 4 station).dsu.changing = false ∧
      (setApplied 3 (cutting .stopped station)).dsu.changing = false := by decide +kernel
theorem test_witness_DutyEvaluationRampsAndComparesTheLoad :
    boulder.dsu.timer = some 990 ∧ 10 ≤ elapsedSince 990 boulder.elapsed ∧
      boulder.dsu.cutterhead = .running ∧ motorCount boulder = 2 ∧
      (levelAt image 4).loadHigh ≤ clamp 0 2000 (torqueSum boulder * 1000 / (3800 * 2)) := by decide +kernel
/-- R28: the valid levels next to 4. R30, R42: a level change one ramp step from the applied speed ends there. -/
theorem test_witness_LevelChangeEnds :
    let s := station.onDsu fun d => { d with changing := true, nr := (levelAt image 4).speed + 10 }
    let t := after .dutyEvaluationExpiry s
    nextLower image 4 = some 3 ∧ (levelAt image 3).valid = true ∧
      (t.dsu.nr = (levelAt image 4).speed ∧ t.dsu.changing = false) ∧
      (nextLower image 0 = none ∧ nextHigher image 7 = none) := by decide +kernel
theorem test_witness_StartWatchAndResidencyTick :
    (watching.dsu.cutterhead = .starting ∧ present watching 1 = true ∧
        30 ≤ elapsedSince watching.dsu.startedAt watching.elapsed ∧
        watching.dsu.stoppedSince.getD 1 none = some 970 ∧ 30 ≤ elapsedSince 970 watching.elapsed) ∧
      (listening.ptb.endOfListen = false ∧ station.ptb.endOfListen = true ∧
        station.dsu.residency.length = 8 ∧ station.dsu.applied < 8) := by decide +kernel

/-! ## Thrust, stroke and advance (03_thrust_stroke_and_advance) -/

/-- Section 3.8's station: ADVANCING, six sectors contributing, the peers' strokes summing to 404,500. -/
def advancing : State :=
  let r (stroke : Int) : StatusRecord := { record with phase := .advancing, stroke := stroke }
  let s := withPeer 1 (live (r 80900)) (withPeer 2 (live (r 81000)) (withPeer 3 (live (r 80700))
    (withPeer 4 (live (r 81100)) (withPeer 5 (live (r 80800)) station))))
  { s with
    phase := .advancing
    dsu := { s.dsu with changing := true, rampCap := 550 }
    thu :=
      { s.thu with
        group := .moving .advancing, rateTarget := 600, bias := 2, pRef := 1820, stroke := 81192
        history := List.replicate 10 81148 } }
/-- Section 3.8, sample 1: rate 520, p from 1,820 to 1,834. -/
theorem test_stroke_sample1 :
    let t := strokeArrival (serving .stroke 81200 advancing)
    t.thu.rate = 520 ∧ t.thu.pRef = 1834 ∧ t.fpt.written.valvePressure = 1834 ∧ t.thu.skew = false ∧
      t.thu.counter = 80008 := by decide +kernel
/-- Section 3.8, sample 3: a lead of 309 is over L_skew, the reference falls by 206 to 1,638. -/
theorem test_stroke_sample3 :
    let s := advancing.onThu fun t =>
      { t with stroke := 81260, pRef := 1844, history := List.replicate 10 81218 }
    (strokeArrival (serving .stroke 81270 s)).thu.pRef = 1638 := by decide +kernel
/-- Section 3.8: with CUTTERHEAD_OVERTORQUE in force the change at sample 1 is -96. -/
theorem test_stroke_overtorque :
    (strokeArrival (raised .cutterheadOvertorque (serving .stroke 81200 advancing))).thu.pRef = 1724 := by
  decide +kernel
/-- Section 8.7: with the channel INVALID THU substitutes from the two neighbours, rounded down. -/
theorem test_stroke_substituted :
    let t := takeStroke (withInput .stroke { valid := false, bad := 3, good := 0, served := 150020 } advancing)
    t.thu.quality = .substituted ∧ t.thu.stroke = (80900 + 80800) / 2 ∧ t.thu.strokeFault = true ∧
      t.thu.denied = false := by decide +kernel
/-- Section 5.12: the ten increments of 8 and 9 post 483 ml and leave 549,700. -/
theorem test_grout_increments :
    let s := { station with gru := { station.gru with posted := 0 } }
    let t := [8, 9, 8, 9, 8, 9, 8, 8, 8, 8].foldl (fun s ds => addIncrement ds s) s
    t.gru.posted = 483 ∧ t.gru.remG = 549700 ∧ t.gru.postedRing = 483 := by decide +kernel
/-- Section 10.5: a rate target of 1,200 is clamped to 1,000, the order CLAMPED and the flag set. -/
theorem test_setAdvance_clamps :
    let t := after (.setAdvance (order 30 2 [1200, 0])) station
    t.thu.rateTarget = 1000 ∧ t.thu.bias = 0 ∧ result t = some .clamped ∧ t.alu.flags.clamped = true := by
  decide +kernel
/-- Section 10.5: the same tag again is a repeat: not taken, the echo unchanged. -/
theorem test_setAdvance_repeat :
    let s := after (.setAdvance (order 30 2 [1200, 0])) station
    let t := after (.setAdvance (order 30 2 [600, 0])) s
    t.thu.rateTarget = 1000 ∧ result t = some .clamped := by decide +kernel
theorem test_startAdvance :
    let t := after (.startAdvance (order 30 3 [])) station
    t.phase = .advancing ∧ t.thu.group = .moving .advancing ∧ result t = some .accepted := by decide +kernel
/-- R60: one peer's enable false: PAUSED with cause AUTOMATIC. -/
theorem test_startAdvance_pauses :
    let s := withPeer 4 (live { record with enable := false }) station
    let t := after (.startAdvance (order 30 3 [])) s
    t.phase = .paused ∧ t.pauseCause = .automatic ∧ t.thu.group = .moving .holding := by decide +kernel
theorem test_pause :
    let t := after (.pause (order 30 4 [])) advancing
    t.phase = .paused ∧ t.pauseCause = .ordered ∧ t.thu.group = .moving .holding ∧ t.thu.pRef = 1200 := by
  decide +kernel
theorem test_pause_idle : result (after (.pause (order 30 4 [])) station) = some .refusedState := by
  decide +kernel
/-- Section 3.9's station: BUILDING ring 412 for the holder, station 3; own stroke 164,900. -/
def building : State :=
  let s := withPeer 3 (live { record with phase := .building, cutterhead := .stopped }) station
  { s with
    phase := .building
    cfg := { s.cfg with straps := {} }
    dsu := { s.dsu with cutterhead := .stopped, nr := 0 }
    thu := { s.thu with stroke := 164900, strokeEnd := true, enable := false }
    ptb := { s.ptb with erector := { holder := some 3 }, exErector := false } }
/-- Section 3.9: RETRACT_GROUP 17 is ACCEPTED, the group RETRACTING; the repeat changes nothing. -/
theorem test_retractGroup :
    let c := heardFrom 3 0 (.request .retract 412 17)
    let t := after (.retractGroup c) building
    t.thu.group = .moving .retracting ∧ t.thu.slot = some { kind := .retract, tag := 17, source := 3 } ∧
      t.lif.queue = [{ dest := 3, body := .reply 17 .accepted }] ∧ t.fpt.written.valvePressure = 300 ∧
      (after (.retractGroup c) t).thu.slot = t.thu.slot := by decide +kernel
/-- Section 3.9: RETRACT_GROUP 19 with EXTEND_GROUP 18 in the slot is BUSY. -/
theorem test_retractGroup_busy :
    let s := building.onThu fun t =>
      { t with
        group := .moving .extending, slot := some { kind := .extend, tag := 18, source := 3 } }
    (after (.retractGroup (heardFrom 3 0 (.request .retract 412 19))) s).lif.queue =
      [{ dest := 3, body := .reply 19 .busy }] := by decide +kernel
/-- Section 3.9: EXTEND_GROUP 18 for a RETRACTED group is ACCEPTED, the group EXTENDING at P_hold. -/
theorem test_extendGroup :
    let s := building.onThu fun t => { t with group := .moving .retracted }
    let t := after (.extendGroup (heardFrom 3 0 (.request .extend 412 18))) s
    t.thu.group = .moving .extending ∧ t.fpt.written.valveMode = .extend ∧
      t.fpt.written.valvePressure = 1200 := by decide +kernel
/-- R66: a HOLDING group refuses EXTEND_GROUP. -/
theorem test_extendGroup_refused :
    (after (.extendGroup (heardFrom 3 0 (.request .extend 412 18))) building).lif.queue =
      [{ dest := 3, body := .reply 18 .refused }] := by decide +kernel

/-- The witness's station with its stroke channel INVALID. -/
def strokeless : State :=
  withInput .stroke { valid := false, bad := 3, good := 0, served := 0 } advancing
theorem test_witness_StrokeSampleJudgesTheQuality :
    inputValid advancing .stroke = true ∧
      (inputValid strokeless .stroke = false ∧
        (served strokeless (lowerNeighbour strokeless)).isSome = true ∧
        (served strokeless (upperNeighbour strokeless)).isSome = true) ∧
      (inputValid (withPeer 1 {} strokeless) .stroke = false ∧
        served (withPeer 1 {} strokeless) 1 = none ∧ upperNeighbour strokeless = 1) := by decide +kernel
theorem test_witness_StrokeSampleFormsTheIncrement :
    advancing.thu.group = .moving .advancing ∧
      (takeStroke advancing).thu.quality = .valid ∧ advancing.thu.quality = .valid ∧
      (takeStroke strokeless).thu.quality = .substituted ∧
      (takeStroke (withPeer 1 {} strokeless)).thu.quality = .invalid ∧
      station.thu.group ≠ .moving .advancing ∧ station.thu.set.length = 8 ∧
      (contributions station).length = 8 := by decide +kernel
/-- R53: two sectors that contributed twice, one whose counter restarted; none. -/
theorem test_machineAdvance :
    let no : MachineSet := [none, none, none, none, none]
    machineAdvance ([some 100, some 90, some 7] ++ no) ([some 108, some 4, none] ++ no) = 6 ∧
      advances ([some 100, none, some 7] ++ no) ([none, some 4, none] ++ no) = [] := by decide +kernel
theorem test_witness_ControlLawMovesThePressure :
    let neighbours := takeStroke strokeless
    let alone := takeStroke (withPeer 1 {} strokeless)
    (advancing.thu.group = .moving .advancing ∧ advancing.thu.quality = .valid) ∧
      (neighbours.thu.group = .moving .advancing ∧ neighbours.thu.quality = .substituted ∧
        (served neighbours (lowerNeighbour neighbours)).map (fun a => a.quality) = some .valid ∧
        (served neighbours (upperNeighbour neighbours)).map (fun b => b.quality) = some .valid) ∧
      (alone.thu.group = .moving .advancing ∧ alone.thu.quality = .invalid) ∧
      station.thu.group ≠ .moving .advancing := by decide +kernel
theorem test_witness_AdvanceOrdersTakeTheirEffect :
    let away := withPeer 4 (live { record with enable := false }) station
    let paused := { station with phase := .paused, pauseCause := .automatic }
    let held := { station with phase := .paused, pauseCause := .ordered }
    ordered station (order 30 2 [1000, -200]) 30 2 [1000, -200] ∧
      ordered station (order 30 2 [1001, -201]) 30 2 [1001, -201] ∧
      ordered station (order 30 3 []) 30 3 [] ∧ allEnabled station ∧
      ordered away (order 30 3 []) 30 3 [] ∧ ¬allEnabled away ∧
      ordered (cutting .stopped station) (order 30 3 []) 30 3 [] ∧
      (ordered advancing (order 30 4 []) 30 4 [] ∧ advancing.thu.group = .moving .advancing) ∧
      ordered (advancing.onThu fun t => { t with group := .moving .holding }) (order 30 4 []) 30 4 [] ∧
      ordered paused (order 30 4 []) 30 4 [] ∧ ordered held (order 30 4 []) 30 4 [] ∧
      ordered station (order 30 4 []) 30 4 [] :=
  ⟨ordered_of (by decide +kernel), ordered_of (by decide +kernel), ordered_of (by decide +kernel),
    by decide +kernel, ordered_of (by decide +kernel), by decide +kernel, ordered_of (by decide +kernel),
    ⟨ordered_of (by decide +kernel), by decide +kernel⟩, ordered_of (by decide +kernel),
    ordered_of (by decide +kernel), ordered_of (by decide +kernel), ordered_of (by decide +kernel)⟩
theorem test_witness_StrokeEndAndMovementsEnd :
    let atEnd := advancing.onThu fun t => { t with stroke := 165000 }
    let back := building.onThu fun t => { t with group := .moving .retracting, stroke := 2000 }
    let out := serving .groupPressure 1200 (building.onThu fun t => { t with group := .moving .extending })
    (atEnd.thu.group = .moving .advancing ∧ atEnd.thu.quality ≠ .invalid ∧
        atEnd.cfg.image.sEnd ≤ atEnd.thu.stroke) ∧
      advancing.thu.stroke < advancing.cfg.image.sEnd ∧
      (back.thu.group = .moving .retracting ∧ back.thu.quality = .valid ∧
        back.thu.stroke ≤ back.cfg.image.sRetract ∧
        inputTrue (serving .retractedLimit 1 back) .retractedLimit = true) ∧
      (out.thu.group = .moving .extending ∧ inputValid out .groupPressure = true ∧
        out.cfg.image.pHold ≤ inputValue out .groupPressure) := by decide +kernel
/-- R68: the holder gone with the group RETRACTED, and the condition ended under a present holder. -/
theorem test_witness_HolderLeaves :
    let left := withPeer 3 {} (building.onThu fun t => { t with group := .moving .retracted })
    (left.ptb.erector.holder = some 3 ∧ present left 3 = false ∧ left.thu.group = .moving .retracted ∧
        (presenceNotice 3 left).thu.orphaned = true) ∧
      (building.ptb.erector.holder = some 3 ∧ present building 3 = true ∧
        building.thu.group = .moving .holding ∧
        (orphanTest (building.onThu fun t => { t with orphaned := true })).thu.orphaned = false) := by
  decide +kernel
theorem test_witness_RequestsAreAnswered :
    hears building (heardFrom 3 0 (.request .retract 412 17)) ⟨3, 0, 21⟩ (.request .retract 412 17) ∧
      hears building (heardFrom 3 0 (.request .extend 412 18)) ⟨3, 0, 21⟩ (.request .extend 412 18) ∧
      hears building (heardFrom 3 2 (.request .extend 412 18)) ⟨3, 2, 21⟩ (.request .extend 412 18) ∧
      building.own = 0 ∧ building.thu.slot = none ∧ building.thu.lastAnswer = none ∧
      building.ptb.erector.holder = some 3 ∧ building.ring = 412 :=
  ⟨hears_of (by decide +kernel), hears_of (by decide +kernel), hears_of (by decide +kernel),
    by decide +kernel, by decide +kernel, by decide +kernel, by decide +kernel, by decide +kernel⟩

/-! ## Ring building (04_ring_building) -/

/-- Section 4.9's station 0: all stations at stroke end with the cutterhead STOPPED, ring 412, next tag 40. -/
def ready : State :=
  let r : StatusRecord := { record with cutterhead := .stopped, strokeEnd := true }
  let s := withPeer 1 (live r) (withPeer 2 (live r) (withPeer 3 (live r) (withPeer 4 (live r)
    (withPeer 5 (live r) station))))
  { s with
    dsu := { s.dsu with cutterhead := .stopped, nr := 0 }
    thu := { s.thu with strokeEnd := true, enable := false }
    bsq := { s.bsq with nextTag := 40 } }
/-- Section 4.9: BUILD taken: BUILD_WAIT until the peers show BUILDING. -/
theorem test_build :
    let t := after (.build (order 30 8 [])) ready
    t.phase = .building ∧ t.bsq.state = .buildWait ∧ t.bsq.buildStart = some 1000 ∧
      result t = some .accepted := by decide +kernel
theorem test_build_refused : result (after (.build (order 30 8 [])) station) = some .refusedState := by
  decide +kernel
/-- The build of ring 412 in a build state, every peer BUILDING. -/
def inBuild (b : BuildState) (p : Progress) : State :=
  let r : StatusRecord := { record with cutterhead := .stopped, strokeEnd := true, phase := .building }
  let s := withPeer 1 (live r) (withPeer 2 (live r) (withPeer 3 (live r) (withPeer 4 (live r)
    (withPeer 5 (live r) ready))))
  { s with
    phase := .building
    bsq := { s.bsq with state := b, progress := p, buildStart := some 900, stepTimer := some 900 } }
/-- Section 4.9: T_grip expires: TRAVEL to position 180. -/
theorem test_gripTimer :
    let s := (inBuild .pick .gripped).onBsq fun q => { q with gripTimer := some 700 }
    let t := after .gripTimerExpiry s
    t.bsq.state = .travel ∧ t.fpt.written.erector = .travel 180 := by decide +kernel
/-- Section 4.9: ERECTOR_AT_POSITION: RETRACT_GROUP 40 to station 3, placement 0 off the ring. -/
theorem test_atPosition :
    let t := settle (arrival station {} .atPosition (serving .atPosition 1 (inBuild .travel .gripped)))
    t.bsq.state = .awaitRetract ∧ t.bsq.nextTag = 41 ∧
      t.lif.queue = [{ dest := 3, body := .request .retract 412 40 }] ∧
      t.bsq.retraction.map (fun r => r.target) = some 3 := by decide +kernel
/-- R81: a step that has lasted T_step suspends the build with BUILD_TIMEOUT. -/
theorem test_stepTimer :
    let t := after .stepTimerExpiry ((inBuild .travel .gripped).setElapsed 1500)
    t.bsq.state = .suspended ∧ t.bsq.timedOut = true ∧ t.fpt.written.erector = .hold := by decide +kernel
theorem test_stepTimer_early :
    (after .stepTimerExpiry ((inBuild .travel .gripped).setElapsed 1499)).bsq.state = .travel := by
  decide +kernel
/-- Section 4.9 at 1,001,900: AWAIT_RETRACT with RETRACT_GROUP 40 awaited. -/
def awaiting : State :=
  (inBuild .awaitRetract .gripped).onBsq fun q =>
    { q with
      request := some { kind := .retract, tag := 40, target := 3, ring := 412, accepted := false }
      issued := true, nextTag := 41, answerWait := some 990
      retraction := some { placement := 0, target := 3, proven := false, deadline := none } }
/-- Section 4.9: REPLY ACCEPTED 40 from 3. -/
theorem test_reply_accepted :
    let t := after (.reply (heardFrom 3 0 (.reply 40 .accepted))) awaiting
    t.bsq.request.map (fun r => r.accepted) = some true ∧ t.bsq.state = .awaitRetract ∧
      t.bsq.retractTimer = some 1000 ∧ t.bsq.answerWait = none := by decide +kernel
/-- R85: BUSY suspends the build; the RETRACT_GROUP started no retraction. -/
theorem test_reply_busy :
    let t := after (.reply (heardFrom 3 0 (.reply 40 .busy))) awaiting
    t.bsq.state = .suspended ∧ t.bsq.request = none ∧ t.bsq.retraction = none := by decide +kernel
theorem test_answerWait :
    let t := after .answerWaitExpiry awaiting
    t.bsq.state = .suspended ∧ t.bsq.unanswered = true := by decide +kernel
/-- R89, R90: the answer wait that runs out in TRAVEL suspends the build too, and asks the group back. -/
theorem test_answerWait_travel :
    let off : StatusRecord := { record with phase := .building, group := .moving .retracted }
    let t := after .answerWaitExpiry
      (withPeer 3 (live off) (awaiting.onBsq fun q => { q with state := .travel }))
    t.bsq.state = .suspended ∧ t.bsq.unanswered = true ∧ t.fpt.written.erector = .hold ∧
      t.lif.queue = [{ dest := 3, body := .request .extend 412 41 }] := by decide +kernel
theorem test_retractTimer :
    let s := awaiting.onBsq fun q => { q with answerWait := none, retractTimer := some 600 }
    (after .retractTimerExpiry s).bsq.timedOut = true := by decide +kernel
theorem test_extendTimer :
    let s := (inBuild .awaitExtend .placed).onBsq fun q => { q with extendTimer := some 600 }
    (after .extendTimerExpiry s).bsq.state = .suspended := by decide +kernel
/-- RELEASE of a placement whose T_release is out. -/
def releasing (cursor : Nat) : State :=
  (inBuild .release .complete).onBsq fun q =>
    { q with releaseTimer := some 800, cursor := cursor, placed := cursor }
/-- Section 4.9: T_release expires: count 1, cursor 1, PICK with progress NEW. -/
theorem test_releaseTimer :
    let t := after .releaseTimerExpiry (releasing 0)
    t.bsq.placed = 1 ∧ t.bsq.cursor = 1 ∧ t.bsq.state = .pick ∧ t.bsq.progress = .new := by decide +kernel
/-- R93: the key released: the ring closed, the record handed in four parts, the phase IDLE. -/
theorem test_releaseTimer_key :
    let t := after .releaseTimerExpiry (releasing 2)
    t.ring = 413 ∧ t.bsq.state = .idle ∧ t.phase = .idle ∧ t.thu.counter = 0 ∧ t.lif.queue.length = 4 := by
  decide +kernel
theorem test_abortBuild :
    let t := after (.abortBuild (order 30 9 [])) (inBuild .travel .gripped)
    t.bsq.state = .suspended ∧ t.bsq.progress = .gripped ∧ result t = some .accepted := by decide +kernel
theorem test_abortBuild_idle : result (after (.abortBuild (order 30 9 [])) station) = some .done := by
  decide +kernel
/-- Section 4.10: RESUME_BUILD passes BUILD_WAIT at once, and progress GRIPPED leads to TRAVEL. -/
theorem test_resumeBuild :
    let t := after (.resumeBuild (order 30 10 [])) (inBuild .suspended .gripped)
    t.bsq.state = .travel ∧ result t = some .accepted := by decide +kernel
theorem test_resumeBuild_refused :
    result (after (.resumeBuild (order 30 10 [])) (inBuild .travel .gripped)) = some .refusedState := by
  decide +kernel
/-- Section 4.11, station 2: the ring close heard. -/
theorem test_ringCloseHeard :
    let s := building.onThu fun t => { t with group := .moving .holding }
    let t := compareRings 413 s
    t.ring = 413 ∧ t.phase = .idle ∧ t.thu.counter = 0 ∧ t.thu.strokeEnd = false ∧
      t.alu.flags.ringResync = false := by decide +kernel
/-- Section 4.11, station 3: resynchronisation, the counter not touched. -/
theorem test_ringResync :
    let t := compareRings 413 (station.setRing 0)
    t.ring = 413 ∧ t.thu.counter = 80000 ∧ t.alu.flags.ringResync = true := by decide +kernel

theorem test_witness_BuildOrderStartsTheBuild :
    let later := inBuild .idle .placed
    ordered ready (order 30 8 []) 30 8 [] ∧ ordered station (order 30 8 []) 30 8 [] ∧
      (ready.phase = .idle ∧ ready.dsu.cutterhead = .stopped ∧ ready.thu.strokeEnd = true ∧
        stopInForce ready = false ∧ ready.ptb.exErector = true ∧ ready.bsq.state = .idle ∧
        ready.bsq.cursorRing = ready.ring) ∧
      ordered (later.setPhase .idle) (order 30 8 []) 30 8 [] ∧
      (∀ p ∈ presentPeers later, p.2.phase = .building) ∧
      (ordered { ready with ptb := { ready.ptb with exErector := false } } (order 30 8 []) 30 8 []) :=
  ⟨ordered_of (by decide +kernel), ordered_of (by decide +kernel), by decide +kernel,
    ordered_of (by decide +kernel), by decide +kernel, ordered_of (by decide +kernel)⟩
theorem test_witness_ResumeAndAbortFollowTheBuildState :
    let suspended := inBuild .suspended .gripped
    let retracted := awaiting.onBsq fun q => { q with state := .suspended }
    let elsewhere := { building with bsq := { building.bsq with cursorRing := 412 } }
    ordered suspended (order 30 10 []) 30 10 [] ∧
      (suspended.bsq.state = .suspended ∧ suspended.phase = .building ∧ suspended.bsq.retraction = none) ∧
      ordered (inBuild .travel .gripped) (order 30 10 []) 30 10 [] ∧
      ordered (inBuild .travel .gripped) (order 30 9 []) 30 9 [] ∧
      (inBuild .travel .gripped).ptb.exErector = true ∧ ordered suspended (order 30 9 []) 30 9 [] ∧
      (ordered retracted (order 30 9 []) 30 9 [] ∧ retracted.bsq.retraction.isSome = true) ∧
      ordered (inBuild .idle .new) (order 30 9 []) 30 9 [] ∧ ordered station (order 30 9 []) 30 9 [] ∧
      (ordered elsewhere (order 30 9 []) 30 9 [] ∧ elsewhere.ptb.exErector = false ∧
        elsewhere.phase = .building ∧ (served elsewhere 3).map buildStateShown = some none) ∧
      (elsewhere.thu.group = .moving .holding ∧ elsewhere.bsq.holderSeen = false) :=
  ⟨ordered_of (by decide +kernel), by decide +kernel, ordered_of (by decide +kernel),
    ordered_of (by decide +kernel), by decide +kernel, ordered_of (by decide +kernel),
    ⟨ordered_of (by decide +kernel), by decide +kernel⟩, ordered_of (by decide +kernel),
    ordered_of (by decide +kernel), ⟨ordered_of (by decide +kernel), by decide +kernel⟩, by decide +kernel⟩
/-- A holder whose record shows no erector part or BUILD IDLE leads no build: the clauses of a station that
may abort on its own. -/
theorem test_witness_AbortWhereNoBuildIsLed :
    let idleErector : ErectorPart :=
      { state := .idle, placement := 0, ring := 412, target := 3, request := none, requestTag := 0 }
    let s := withPeer 3 (live { record with phase := .building, erectorPart := some idleErector }) building
    let off := s.onThu fun t => { t with group := .moving .retracted }
    ordered s (order 30 9 []) 30 9 [] ∧ ordered off (order 30 9 []) 30 9 [] ∧
      (served s 3).map buildStateShown = some (some .idle) ∧ s.bsq.holderSeen = false ∧
      s.thu.group = .moving .holding ∧ off.thu.group ≠ .moving .holding :=
  ⟨ordered_of (by decide +kernel), ordered_of (by decide +kernel), by decide +kernel, by decide +kernel,
    by decide +kernel, by decide +kernel⟩
theorem test_witness_BuildTimersSuspendOrMoveOn :
    let stepped := (inBuild .travel .gripped).setElapsed 1500
    let retracting := awaiting.onBsq fun q => { q with retractTimer := some 600 }
    let extending := (inBuild .awaitExtend .placed).onBsq fun q => { q with extendTimer := some 600 }
    let gripping := (inBuild .pick .gripped).onBsq fun q => { q with gripTimer := some 700 }
    (stepped.bsq.stepTimer = some 900 ∧ image.tStep ≤ elapsedSince 900 stepped.elapsed ∧
        Underway stepped) ∧
      (retracting.bsq.retractTimer = some 600 ∧ image.tRetract ≤ elapsedSince 600 retracting.elapsed ∧
        Underway retracting) ∧
      (extending.bsq.extendTimer = some 600 ∧ image.tExtend ≤ elapsedSince 600 extending.elapsed ∧
        Underway extending) ∧
      (gripping.bsq.gripTimer = some 700 ∧ image.tGrip ≤ elapsedSince 700 gripping.elapsed) := by
  decide +kernel
theorem test_witness_AnswersSettleTheRequest :
    let late := awaiting.onBsq fun q => { q with state := .suspended }
    hears awaiting (heardFrom 3 0 (.reply 40 .accepted)) ⟨3, 0, 21⟩ (.reply 40 .accepted) ∧
      hears awaiting (heardFrom 3 0 (.reply 40 .refused)) ⟨3, 0, 21⟩ (.reply 40 .refused) ∧
      hears awaiting (heardFrom 3 0 (.reply 41 .busy)) ⟨3, 0, 21⟩ (.reply 41 .busy) ∧
      hears late (heardFrom 3 0 (.reply 40 .busy)) ⟨3, 0, 21⟩ (.reply 40 .busy) ∧
      (awaiting.bsq.answerWait = some 990 ∧ 10 ≤ elapsedSince 990 awaiting.elapsed ∧
        awaiting.bsq.request.isSome = true ∧ awaiting.bsq.state = .awaitRetract ∧
        awaiting.bsq.retraction.map (fun t => t.target) = some 3 ∧ awaiting.own = 0) ∧
      (late.bsq.answerWait = some 990 ∧ late.bsq.request.map (fun r => r.kind) = some .retract) :=
  ⟨hears_of (by decide +kernel), hears_of (by decide +kernel), hears_of (by decide +kernel),
    hears_of (by decide +kernel), by decide +kernel, by decide +kernel⟩
/-- The peers' record with the group of station 3 in state `g`. -/
def shown (g : Group) : StatusRecord :=
  { record with cutterhead := .stopped, strokeEnd := true, phase := .building, group := g }
/-- Section 4.9: AWAIT_EXTEND with EXTEND_GROUP 41 awaited, the retraction accepted. -/
def extending : State :=
  (inBuild .awaitExtend .placed).onBsq fun q =>
    { q with
      request := some { kind := .extend, tag := 41, target := 3, ring := 412, accepted := false }
      nextTag := 42, answerWait := some 990
      retraction := some { placement := 0, target := 3, proven := true, deadline := none } }
/-- Section 4.9: RETRACTED seen ends AWAIT_RETRACT in PLACE; HOLDING seen ends AWAIT_EXTEND in RELEASE, COMPLETE. -/
theorem test_targetSeen :
    let placing := targetSeen 3 (shown (.moving .retracted)) awaiting
    let back := targetSeen 3 (shown (.moving .holding)) extending
    (placing.bsq.state = .place ∧ placing.bsq.request = none ∧ placing.bsq.retraction.isSome = true) ∧
      (back.bsq.state = .release ∧ back.bsq.progress = .complete ∧ back.bsq.retraction = none) ∧
      targetSeen 3 (shown (.moving .holding)) awaiting = awaiting := by decide +kernel
/-- AWAIT_RETRACT before its request, the target own (position 10) or station 3. -/
def asking (cursor : Nat) : State :=
  (inBuild .awaitRetract .gripped).onBsq fun q => { q with cursor := cursor, nextTag := 40 }
theorem test_witness_StatusMovesTheBuild :
    let unproven := awaiting.bsq.retraction.map fun t => (t.target, t.proven, t.deadline)
    let replaced := extending.onBsq fun q =>
      { q with retraction := some { placement := 0, target := 3, proven := false, deadline := some 990 } }
    let ours := (asking 1).onBsq fun q =>
      { q with
        request := some { kind := .retract, tag := 40, target := 0, ring := 412, accepted := true }
        retraction := some { placement := 1, target := 0, proven := true, deadline := none } }
    hears awaiting (heardFrom 3 15 (.status (shown (.moving .retracting)))) ⟨3, 15, 21⟩
        (.status (shown (.moving .retracting))) ∧
      (awaiting.ptb.peers.length = 8 ∧ (peerOf awaiting 3).liveness = .live ∧ bsqActive awaiting = true) ∧
      (awaiting.bsq.request.map (fun o => (o.kind, o.target, o.accepted)) = some (.retract, 3, false) ∧
        unproven = some (3, false, none)) ∧
      (extending.bsq.request.map (fun o => (o.kind, o.target)) = some (.extend, 3) ∧
        extending.bsq.retraction.map (fun t => (t.target, t.proven)) = some (3, true) ∧
        10 ≤ elapsedSince 990 replaced.elapsed) ∧
      ((inBuild .buildWait .gripped).bsq.state = .buildWait ∧
        (∀ p ∈ presentPeers (inBuild .buildWait .gripped), p.2.phase = .building)) ∧
      (ours.own = 0 ∧ ours.thu.group = .moving .holding ∧
        (ownGroupSeen ours).bsq.retraction = none) :=
  ⟨hears_of (by decide +kernel), by decide +kernel, by decide +kernel, by decide +kernel, by decide +kernel,
    by decide +kernel⟩
/-- R85: the permission test's cases. R90: an EXTEND_GROUP of SUSPENDED unanswered, its group still off. -/
theorem test_witness_PermissionAndSendingBack :
    let absent := withPeer 3 {} (asking 0)
    let missing := raised .sectorMissing (asking 0)
    let off := withPeer 3 (live (shown (.moving .retracted)))
      (extending.onBsq fun q => { q with state := .suspended })
    (bsqActive (asking 0) = true ∧ (asking 0).bsq.issued = false ∧ cursorTarget (asking 0) = 3 ∧
        present (asking 0) 3 = true ∧ inForce (asking 0) .sectorMissing = false ∧
        (asking 0).bsq.retraction = none) ∧
      (cursorTarget absent = 3 ∧ present absent 3 = false) ∧
      (inForce missing .sectorMissing = true ∧ present missing 3 = true) ∧
      (cursorTarget (asking 1) = 0 ∧ (asking 1).own = 0 ∧
        (answerRequest 0 .retract 412 40 (asking 1)).2 = .accepted ∧
        (answerRequest 0 .retract 413 40 (asking 1)).2 = .refused) ∧
      (off.bsq.answerWait = some 990 ∧ off.phase = .building ∧ present off 3 = true ∧
        (served off 3).map (fun p => p.group) = some (.moving .retracted) ∧
        (after .answerWaitExpiry off).bsq.request.map (fun o => (o.kind, o.tag)) = some (.extend, 42)) ∧
      (served (extending.onBsq fun q => { q with state := .suspended }) 3).map (fun p => p.group) =
        some (.moving .holding) := by decide +kernel
/-- R89, R90: the cases of a suspension: an extension due to a peer and to the own station, and none due, from a
build underway, at the notice of a presence change, and where AWAIT_EXTEND finds its target absent. -/
theorem test_witness_BringingBack :
    let back : Retraction := { placement := 0, target := 0, proven := true, deadline := none }
    let away := { back with target := 3 }
    let at_ (b : BuildState) (g : Group) : State :=
      withPeer 3 (live (shown g)) ((inBuild b .gripped).onBsq fun q => { q with nextTag := 40 })
    let ours := (at_ .suspended (.moving .retracted)).onThu fun t => { t with group := .moving .retracted }
    (Underway (at_ .travel (.moving .retracted)) ∧ ¬Underway (at_ .suspended (.moving .retracted))) ∧
      ExtensionDue (at_ .suspended (.moving .retracted)) away ∧
      ¬ExtensionDue (at_ .suspended (.moving .holding)) away ∧
      ¬ExtensionDue ((at_ .suspended (.moving .retracted)).setPhase .halted) away ∧
      (ExtensionDue ours back ∧ back.target = ours.own) ∧
      (present (withPeer 3 {} (inBuild .place .placed)) 3 = false ∧
        cursorTarget (inBuild .place .placed) = 3 ∧
        (enterAwaitExtend (withPeer 3 {} (inBuild .place .placed))).bsq.state = .suspended) := by decide +kernel
theorem test_witness_ReleaseGoesOnOrClosesTheRing :
    ((releasing 0).bsq.releaseTimer = some 800 ∧
        image.tRelease ≤ elapsedSince 800 (releasing 0).elapsed ∧
        (placementAt image (releasing 0).bsq.cursor).key = false) ∧
      (placementAt image (releasing 2).bsq.cursor).key = true := by decide +kernel
/-- R95: the own number, its successor over the wrap, and another. -/
theorem test_witness_HolderRingNumberIsFollowed :
    let s := building.setRing 65535
    (65535 : RingNumber) = s.ring ∧ ((0 : RingNumber) ≠ s.ring ∧ (0 : RingNumber) = s.ring + 1) ∧
      ((1 : RingNumber) ≠ s.ring ∧ (1 : RingNumber) ≠ s.ring + 1) ∧ s.phase = .building ∧
      (station.setRing 65535).phase ≠ .building := by decide +kernel
/-- What a record shows of a build state. -/
def showing (b : BuildState) (ring : RingNumber) : StatusRecord :=
  { record with
    ring := ring
    erectorPart := some
      { state := b, placement := 0, ring := ring, target := 0, request := none, requestTag := 0 } }
/-- R73, R95: the holder's build state with its ring number as the own, one ahead, and elsewhere. -/
theorem test_witness_HolderHeard :
    let s := { building with ptb := { building.ptb with exErector := false } }
    let seen := s.onBsq fun q => { q with holderSeen := true }
    (s.ptb.erector.holder = some 3 ∧ s.ring = 412 ∧ s.ptb.endOfListen = true ∧ s.phase = .building) ∧
      ((holderHeard 3 (showing .pick 412) s).bsq.holderSeen = true ∧
        (holderHeard 3 (showing .idle 412) s).phase = .building ∧
        (holderHeard 3 (showing .idle 412) seen).phase = .idle) ∧
      ((holderHeard 3 (showing .idle 413) s).phase = .idle ∧
        (holderHeard 3 (showing .idle 413) s).ring = 413) ∧
      ((holderHeard 3 (showing .idle 411) s).phase = .building ∧
        (holderHeard 3 (showing .idle 411) seen).phase = .idle ∧
        (holderHeard 3 (showing .pick 411) s).alu.flags.ringResync = true) := by decide +kernel
theorem test_witness_RingRecordTakesItsFieldsFromTheirSources :
    let part : ConveyorPart :=
      { conveyor := .running, manual := false, balanceValid := true, restarted := false, screwRef := 519
        pMean := 2560, account := some (179696, 3284, 3588) }
    let heard := withPeer 2 (live { record with conveyorPart := some part })
      { station with ptb := { station.ptb with conveyor := { holder := some 2 } } }
    (4 ≤ image.nS ∧ image.nS ≤ 8) ∧ station.ptb.conveyor.holder = some station.own ∧
      (heard.ptb.conveyor.holder = some 2 ∧ (served heard 2).bind (fun r => r.conveyorPart) = some part) ∧
      (withPeer 2 {} heard).ptb.conveyor.holder = some 2 ∧ served (withPeer 2 {} heard) 2 = none := by
  decide +kernel

/-! ## Grout injection (05_grout_injection) -/

/-- Section 5.13's station 2 before its first event, here station 0 and its own ring. -/
def queued : State :=
  { station with
    gru :=
      { station.gru with
        line := .pumping, posted := 169515, delivered := 128300, postedRing := 169515
        deliveredRing := 128300
        queue :=
          [{ ring := 411, volume := 5, posted := 100, started := true, current := false },
           { ring := 412, volume := 40010, posted := 200, started := false, current := true },
           { ring := 412, volume := 1200, posted := 900, started := false, current := true }] } }
def volumes (s : State) : List Int :=
  s.gru.queue.map fun p => p.volume
/-- Section 5.13: the pulse finishes A with 5 ml and starts B with the other 5. -/
theorem test_pulse :
    let t := groutPulse queued
    volumes t = [40005, 1200] ∧ t.gru.delivered = 128310 ∧ t.gru.deliveredRing = 128305 ∧
      t.gru.overrun = 0 := by decide +kernel
/-- R106: a head of 4 ml with no parcel behind it: 4 ml delivered, 6 ml overrun. -/
theorem test_pulse_overrun :
    let t := groutPulse (queued.onGru fun g =>
      { g with queue := [{ ring := 412, volume := 4, posted := 900, started := true, current := true }] })
    t.gru.delivered = 128304 ∧ t.gru.overrun = 6 ∧ t.gru.queue = [] ∧ t.gru.line = .idle := by decide +kernel
/-- Section 5.13: the demand of 46 merges into C. -/
theorem test_demand_merges : volumes (postDemand 46 (groutPulse queued)) = [40005, 1246] := by decide +kernel
/-- Section 5.13: after the ring close the demand of 53 opens parcel D. -/
theorem test_demand_opens :
    let t := postDemand 53 ((queued.setRing 413).onGru fun g =>
      { g with queue := g.queue.map fun p => { p with current := false } })
    volumes t = [5, 40010, 1200, 53] ∧ (t.gru.queue.map fun p => p.ring) = [411, 412, 412, 413] := by
  decide +kernel
/-- Section 5.13: a pressure sample at P_max stops the pump. -/
theorem test_groutPressure_hold :
    let t := groutPressureArrival (serving .groutPressure 300 queued)
    t.gru.line = .pressureHold ∧ t.fpt.written.pump = 0 ∧ t.gru.blockTimer = some 1000 := by decide +kernel
/-- Section 5.13: with 53 ml outstanding, the sample at P_resume resumes at rate_low. -/
theorem test_groutPressure_resume :
    let t := groutPressureArrival (serving .groutPressure 200 (queued.onGru fun g =>
      { g with
        line := .pressureHold, blockTimer := some 990
        queue := [{ ring := 413, volume := 53, posted := 950, started := false, current := true }] }))
    t.gru.line = .pumping ∧ t.fpt.written.pump = 20 := by decide +kernel
/-- The line in a state. -/
def lined (l : GroutLine) (s : State) : State :=
  s.onGru fun g => { g with line := l }
/-- Section 5.13: REFUSED_BUSY in PUMPING, then the parcels of ring 412 removed in PRESSURE_HOLD. -/
theorem test_groutWriteOff :
    let t := after (.groutWriteOff (order 30 17 [412])) (lined .pressureHold queued)
    volumes t = [5] ∧ t.gru.writtenOff = 41210 ∧ result t = some .done := by decide +kernel
theorem test_groutWriteOff_busy :
    result (after (.groutWriteOff (order 30 17 [412])) queued) = some .refusedBusy := by decide +kernel
theorem test_groutFlush :
    let t := after (.groutFlush (order 30 16 [])) (lined .blocked queued)
    t.gru.line = .flushing ∧ t.gru.flushTimer = some 1000 ∧ t.fpt.written.flushOpen = true ∧
      result t = some .accepted := by decide +kernel
theorem test_groutFlush_done :
    result (after (.groutFlush (order 30 16 [])) (lined .flushing queued)) = some .done := by decide +kernel
theorem test_blockTimer :
    let s := (lined .pressureHold queued).onGru fun g => { g with blockTimer := some 900 }
    (after .blockTimerExpiry s).gru.line = .blocked := by decide +kernel
theorem test_settingTimer :
    let s := (queued.onGru fun g => { g with settingTimer := some 0 }).setElapsed 6000
    (after .settingTimerExpiry s).gru.line = .needsFlush := by decide +kernel
/-- R113: the flush ends and the line is tested for pumping: 41,215 outstanding is above V_start. -/
theorem test_flushTimer :
    let s := (lined .flushing queued).onGru fun g => { g with flushTimer := some 900 }
    let t := after .flushTimerExpiry s
    t.gru.line = .pumping ∧ t.gru.flushTimer = none ∧ t.fpt.written.flushOpen = false := by decide +kernel
theorem test_flushTimer_early :
    let s := (lined .flushing queued).onGru fun g => { g with flushTimer := some 950, flushRun := 49 }
    (after .flushTimerExpiry s).gru.line = .flushing := by decide +kernel

theorem test_witness_DemandsMergeOrAppend :
    let full := queued.onGru fun g => { g with queue := List.replicate 16 (g.queue.getLastD
      { ring := 0, volume := 0, posted := 0, started := true, current := false }) }
    (0 : Int) < 46 ∧ (∃ before p, queued.gru.queue = before ++ [p] ∧ p.started = false ∧ p.current = true ∧
        p.ring = queued.ring ∧ p.volume < image.vParcel) ∧
      16 ≤ full.gru.queue.length ∧ station.gru.queue = [] :=
  ⟨by decide, ⟨_, _, (List.dropLast_append_getLast (l := queued.gru.queue) (by decide)).symm,
    by decide +kernel, by decide +kernel, by decide +kernel, by decide +kernel⟩, by decide +kernel,
    by decide +kernel⟩
theorem test_witness_PulseCreditsTenMillilitres :
    (∀ p ∈ queued.gru.queue, 0 < p.volume) ∧ queued.gru.line = .pumping ∧
      (lined .absent queued).gru.line = .absent ∧ (lined .flushing queued).gru.line = .flushing := by
  decide +kernel
theorem test_witness_GroutPressureMovesTheLine :
    let at300 := serving .groutPressure 300 queued
    let at200 := serving .groutPressure 200 (lined .pressureHold queued)
    (at300.gru.line = .pumping ∧ inputValid at300 .groutPressure = true ∧
        image.pMax ≤ inputValue at300 .groutPressure) ∧
      (at200.gru.line = .pressureHold ∧ inputValue at200 .groutPressure ≤ image.pResume ∧
        0 < volumeOf at200.gru.queue) ∧
      ((lined .flushing at300).gru.line = .flushing ∧
        ¬inputValue (lined .flushing at300) .groutPressure ≤ image.pResume) ∧
      ((lined .flushing at200).gru.line = .flushing ∧
        ¬image.pMax ≤ inputValue (lined .flushing at200) .groutPressure) := by decide +kernel
theorem test_witness_GroutTimersMoveTheLine :
    let blocking := queued.onGru fun g => { g with blockTimer := some 900 }
    let setting := (queued.onGru fun g => { g with settingTimer := some 0 }).setElapsed 6000
    let flushing := queued.onGru fun g => { g with flushTimer := some 950, flushRun := 50 }
    (blocking.gru.blockTimer = some 900 ∧ image.tBlock ≤ elapsedSince 900 blocking.elapsed) ∧
      (setting.gru.settingTimer = some 0 ∧ image.tSet ≤ elapsedSince 0 setting.elapsed) ∧
      (flushing.gru.flushTimer = some 950 ∧
        image.tFlush ≤ flushing.gru.flushRun + elapsedSince 950 flushing.elapsed) := by decide +kernel
theorem test_witness_GroutOrdersTakeTheirEffect :
    ordered (lined .blocked queued) (order 30 16 []) 30 16 [] ∧
      ordered (lined .flushing queued) (order 30 16 []) 30 16 [] ∧
      ordered queued (order 30 16 []) 30 16 [] ∧ forcingNow queued = false ∧
      ordered queued (order 30 17 [412]) 30 17 [412] ∧
      ordered (lined .absent queued) (order 30 17 [0]) 30 17 [0] ∧
      ordered (lined .idle queued) (order 30 17 [65535]) 30 17 [65535] :=
  ⟨ordered_of (by decide +kernel), ordered_of (by decide +kernel), ordered_of (by decide +kernel),
    by decide +kernel, ordered_of (by decide +kernel), ordered_of (by decide +kernel),
    ordered_of (by decide +kernel)⟩

/-! ## Face balance and muck removal (06_face_balance_and_muck_removal) -/

/-- Section 6.10's holder before its evaluation: Bal 180,000, n_cmd 490, 35 counts, five cells at 2,560 and
the own cell out, a mean stroke rate of 83. -/
def balancing : State :=
  let r (rate : Int) : StatusRecord := { record with rate := rate }
  let s := withPeer 1 (live (r 83)) (withPeer 2 (live (r 83)) (withPeer 3 (live (r 83))
    (withPeer 4 (live (r 83)) (withPeer 5 (live (r 83)) station))))
  let s := withInput .chamberPressure { valid := false, bad := 3, good := 0, served := 0 } s
  { s with
    thu := { s.thu with rate := 83 }
    bal := { s.bal with account := 180000, nCmd := 490, acc := 35 } }
/-- Section 6.10: E 3,284, X 3,588, Bal 179,696, n_p 30 and n_cmd 519. -/
theorem test_balance_auto :
    let t := after .balanceEvaluationExpiry balancing
    t.bal.remE = 342400 ∧ t.bal.remX = 3552 ∧ t.bal.account = 179696 ∧ t.bal.pMean = 2560 ∧
      t.bal.nP = 30 ∧ t.bal.nCmd = 519 ∧ t.fpt.written.screw = 519 ∧ balanceValid t = true := by
  decide +kernel
/-- Section 6.10: from 970 the screw comes down by 40. -/
theorem test_balance_slew :
    (after .balanceEvaluationExpiry (balancing.onBal fun b => { b with nCmd := 970 })).bal.nCmd = 930 := by
  decide +kernel
/-- Section 6.11: the screw turned back by 3 counts. -/
theorem test_balance_turned_back :
    let s := balancing.onBal fun b =>
      { b with
        account := 179696, remE := 342400, remX := 3552, acc := -3
        set := List.replicate 6 (some 80000) ++ [none, none] }
    let t := after .balanceEvaluationExpiry s
    t.bal.account = 180003 ∧ t.bal.remX = 1024 ∧ t.bal.remE = 342400 := by decide +kernel
/-- Section 6.12, evaluations 2 and 3: the second running below -20,000 holds the conveyor. -/
theorem test_balance_overextraction :
    let b := { station.bal with account := -20632 }
    (overTest image b).overCount = 1 ∧ (overTest image b).overdrawn = false ∧
      (overTest image { b with account := -23248, overCount := 1 }).overdrawn = true := by decide +kernel
/-- Section 6.12, evaluation 5: -16,680 is below the release level of -15,000. -/
theorem test_balance_recover :
    let b := { station.bal with overdrawn := true }
    (overTest image { b with account := -16680 }).recoverCount = 0 ∧
      (overTest image { b with account := -13396 }).recoverCount = 1 ∧
      (overTest image { b with account := -10112, recoverCount := 1 }).overdrawn = false := by decide +kernel

/-- The conveyor in a state, the gate order OPEN or CLOSED. -/
def conveying (c : Conveyor) (gateOpen : Bool) : State :=
  station.onBal fun b => { b with conveyor := c, gateOpen := gateOpen }
/-- Section 10.5: SCREW_START with the gate order CLOSED: STOPPED to HOLDING. -/
theorem test_screwStart_holds :
    let t := after (.screwStart (order 31 12 [])) (conveying .stopped false)
    t.bal.conveyor = .holding ∧ result t = some .accepted := by decide +kernel
/-- Section 10.5: a station without the duty answers NOT_APPLICABLE. -/
theorem test_screwStart_not_applicable :
    let s := { station with ptb := { station.ptb with conveyor := { holder := some 2 }, exConveyor := false } }
    result (after (.screwStart (order 31 12 [])) s) = some .notApplicable := by decide +kernel
theorem test_screwStop :
    let t := after (.screwStop (order 30 13 [])) (balancing.onBal fun b => { b with nCmd := 519 })
    t.bal.conveyor = .stopped ∧ t.bal.nCmd = 0 ∧ t.fpt.written.gateOpen = false ∧
      result t = some .accepted := by decide +kernel
theorem test_screwStop_done :
    result (after (.screwStop (order 30 13 [])) (conveying .stopped true)) = some .done := by decide +kernel
/-- Section 10.5: GATE OPEN lets the HOLDING conveyor run. -/
theorem test_gate_opens :
    let t := after (.gate (order 32 15 [0])) (conveying .holding false)
    t.bal.gateOpen = true ∧ t.bal.conveyor = .running ∧ t.fpt.written.gateOpen = true ∧
      result t = some .accepted := by decide +kernel
theorem test_gate_closes :
    (after (.gate (order 32 15 [1])) (conveying .running true)).bal.conveyor = .holding := by decide +kernel
theorem test_screwMode :
    let t := after (.screwMode (order 30 14 [1, 1201])) station
    t.bal.manual = true ∧ t.bal.manualRef = 1200 ∧ result t = some .clamped := by decide +kernel
theorem test_screwMode_undefined :
    result (after (.screwMode (order 30 14 [2, 0])) station) = some .refusedRange := by decide +kernel
theorem test_setFacePressure :
    let t := after (.setFacePressure (order 30 11 [8001, 200])) station
    t.bal.pTarget = 8000 ∧ t.bal.band = 200 ∧ result t = some .clamped := by decide +kernel

theorem test_witness_BalanceEvaluationKeepsTheAccount :
    balancing.bal.timer = some 990 ∧ 10 ≤ elapsedSince 990 balancing.elapsed ∧
      balancing.bal.active = true ∧ inputValid balancing .screwEncoder = true ∧
      balancing.bal.conveyor = .running ∧
      (after .balanceEvaluationExpiry
        (balancing.onBal fun b => { b with account := -30000, overCount := 1 })).bal.conveyor = .holding ∧
      (after .balanceEvaluationExpiry (balancing.onBal fun b => { b with conveyor := .holding })).bal.conveyor =
        .running := by decide +kernel
/-- Each threshold at its two sides: -20,000 and -20,001, -15,000 and -15,001, 300,000 and 300,001, and the
face pressure at 2,200 and 2,199, 2,350 and 2,349, 2,800 and 2,801, 2,650 and 2,651. -/
theorem test_witness_BalanceConditionsFollowTheirThresholds :
    let b := station.bal
    let run (account pMean : Int) (d : Bool) : BalState :=
      { b with account := account, pMean := pMean, overdrawn := d, pLow := d, pHigh := d, owed := d }
    (overTest image (run (-20001) 0 false)).overCount = 1 ∧
      (overTest image (run (-20000) 0 false)).overCount = 0 ∧
      (overTest image (run (-15000) 0 true)).recoverCount = 1 ∧
      (overTest image (run (-15001) 0 true)).recoverCount = 0 ∧
      (underTest image (run 300001 0 false)).owed = true ∧
      (underTest image (run 300000 0 false)).owed = false ∧
      (underTest image (run 295000 0 true)).owed = false ∧
      (underTest image (run 295001 0 true)).owed = true ∧
      (faceTest (run 0 2199 false)).pLow = true ∧ (faceTest (run 0 2200 false)).pLow = false ∧
      (faceTest (run 0 2350 true)).pLow = false ∧ (faceTest (run 0 2349 true)).pLow = true ∧
      (faceTest (run 0 2801 false)).pHigh = true ∧ (faceTest (run 0 2800 false)).pHigh = false ∧
      (faceTest (run 0 2650 true)).pHigh = false ∧ (faceTest (run 0 2651 true)).pHigh = true := by
  decide +kernel
theorem test_witness_ConveyorOrdersMoveTheConveyor :
    let broken := withInput .screwEncoder { valid := false, bad := 3, good := 0, served := 0 }
      (conveying .fault true)
    ordered (conveying .stopped false) (order 31 12 []) 31 12 [] ∧
      ordered (conveying .running true) (order 31 12 []) 31 12 [] ∧
      ordered (conveying .fault true) (order 31 12 []) 31 12 [] ∧
      ordered (conveying .running true) (order 31 13 []) 31 13 [] ∧
      ordered (conveying .stopped true) (order 31 13 []) 31 13 [] ∧
      (ordered (conveying .fault true) (order 31 13 []) 31 13 [] ∧
        inputValid (conveying .fault true) .screwEncoder = true) ∧
      (ordered broken (order 31 13 []) 31 13 [] ∧ inputValid broken .screwEncoder = false) ∧
      ordered station (order 32 15 [0]) 32 15 [0] ∧ ordered station (order 32 15 [1]) 32 15 [1] :=
  ⟨ordered_of (by decide +kernel), ordered_of (by decide +kernel), ordered_of (by decide +kernel),
    ordered_of (by decide +kernel), ordered_of (by decide +kernel),
    ⟨ordered_of (by decide +kernel), by decide +kernel⟩, ⟨ordered_of (by decide +kernel), by decide +kernel⟩,
    ordered_of (by decide +kernel), ordered_of (by decide +kernel)⟩
theorem test_witness_BalanceSettingsAreClamped :
    ordered station (order 30 14 [0, 5]) 30 14 [0, 5] ∧ ordered station (order 30 14 [1, 1200]) 30 14 [1, 1200] ∧
      ordered station (order 30 14 [1, 1201]) 30 14 [1, 1201] ∧
      ordered station (order 30 11 [8000, 1000]) 30 11 [8000, 1000] ∧
      ordered station (order 30 11 [-1, 1001]) 30 11 [-1, 1001] :=
  ⟨ordered_of (by decide +kernel), ordered_of (by decide +kernel), ordered_of (by decide +kernel),
    ordered_of (by decide +kernel), ordered_of (by decide +kernel)⟩

/-! ## Alarms, holds and emergency stop (07_alarms_holds_and_emergency_stop) -/

/-- An entry in a state. -/
def entered (k : AlarmKind) (e : AlarmEntry) (s : State) : State :=
  setEntry k e s
/-- GROUT_LAG true and its entry PENDING_RAISE since 950; section 7.9. -/
def lagging : State :=
  entered .groutLag { state := .pendingRaise, cond := true, timer := some 950, latch := false }
    (station.onGru fun g => { g with lag := true })
/-- Section 7.9: the raise timer expires: ACTIVE, latch set, one ALARM frame of class HOLD. -/
theorem test_alarmPersistence_raises :
    let t := after (.alarmPersistenceExpiry .groutLag) lagging
    (entryOf t .groutLag).state = .active ∧ (entryOf t .groutLag).latch = true ∧ t.thu.enable = false ∧
      t.lif.queue = [{ dest := 15, body := .alarm .groutLag true .hold }] := by decide +kernel
/-- Section 7.9: the clear timer expires: INACTIVE, the latch kept. -/
theorem test_alarmPersistence_clears :
    let s := entered .groutLag { state := .pendingClear, cond := false, timer := some 950, latch := true } station
    let t := after (.alarmPersistenceExpiry .groutLag) s
    (entryOf t .groutLag).state = .inactive ∧ (entryOf t .groutLag).latch = true ∧
      t.lif.queue = [{ dest := 15, body := .alarm .groutLag false .hold }] := by decide +kernel
theorem test_duplicateStation :
    let s := raised .duplicateStation (station.onAlu fun a => { a with duplicate := some 900 })
    let t := after .duplicateStationExpiry s
    t.alu.duplicate = none ∧ inForce t .duplicateStation = false := by decide +kernel
/-- Section 7.8, station 2: RAISED heard: HALTED, stop hold set, conveyor HOLDING, own RAISED queued. -/
theorem test_alarm_estop :
    let t := after (.alarm (heardFrom 5 15 (.alarm .estop true .stop))) station
    t.phase = .halted ∧ t.alu.estop = true ∧ t.bal.stopHold = true ∧ t.bal.conveyor = .holding ∧
      t.thu.group = .frozen .holding ∧
      t.lif.queue = [{ dest := 15, body := .alarm .estop true .stop }] := by decide +kernel
theorem test_alarm_other :
    let t := after (.alarm (heardFrom 5 15 (.alarm .skew true .warning))) station
    t.phase = .idle ∧ t.alu.estop = false ∧ (peerOf t 5).lastSeq = some 21 := by decide +kernel
/-- A station halted by an E-stop heard. -/
def halted : State :=
  after (.alarm (heardFrom 5 15 (.alarm .estop true .stop))) station
/-- Section 7.8: RESUME taken: IDLE, ESTOP INACTIVE, CLEARED queued, the conveyor RUNNING from n_cmd 0. -/
theorem test_resume :
    let t := after (.resume (order 30 21 [])) halted
    t.phase = .idle ∧ t.alu.estop = false ∧ t.bal.conveyor = .running ∧ t.thu.group = .moving .holding ∧
      (t.lif.queue.getLast?.map fun f => f.body) = some (.alarm .estop false .stop) ∧
      result t = some .accepted := by decide +kernel
theorem test_resume_refused :
    let s := { halted with fpt := { halted.fpt with estopIn := { asserted := true, start := false, run := 0 } } }
    result (after (.resume (order 30 21 [])) s) = some .refusedState := by decide +kernel
/-- Section 7.9: an ACK_ALARMS with the kind in force clears no latch: DONE. -/
theorem test_ackAlarms_done :
    result (after (.ackAlarms (order 30 18 [])) halted) = some .done := by decide +kernel
theorem test_ackAlarms :
    let s := entered .skew { state := .inactive, cond := false, timer := none, latch := true } station
    let t := after (.ackAlarms (order 30 18 [])) s
    (entryOf t .skew).latch = false ∧ result t = some .accepted := by decide +kernel
/-- Section 7.9: CLEAR_FLAGS ends ARITH, its persistences 0: CLEARED at class HOLD. -/
theorem test_clearFlags :
    let s := raised .arith (station.onAlu fun a => { a with flags := { fifoMergedFull := true } })
    let t := after (.clearFlags (order 30 19 [])) s
    t.alu.flags = {} ∧ inForce t .arith = false ∧
      t.lif.queue = [{ dest := 15, body := .alarm .arith false .hold }] := by decide +kernel
theorem test_clearCounters :
    let s := station.onLif fun l => { l with crcErrors := 3, formatErrors := 4, collisions := 5, queueDrops := 6 }
    let t := after (.clearCounters (order 30 20 [])) s
    t.lif.crcErrors = 0 ∧ t.lif.formatErrors = 0 ∧ t.lif.collisions = 0 ∧ t.lif.queueDrops = 0 := by
  decide +kernel
/-- Section 10.5: SET_RING 500 to one station. -/
theorem test_setRing :
    let t := after (.setRing (order 33 23 [500])) station
    t.ring = 500 ∧ t.thu.counter = 80000 ∧ result t = some .done := by decide +kernel
theorem test_setRing_range :
    result (after (.setRing (order 33 23 [65536])) station) = some .refusedRange := by decide +kernel

theorem test_witness_AlarmEntriesFollowTheirConditions :
    let lag := station.onGru fun g => { g with lag := true }
    let pending (c : Bool) (p : AlarmState) : State :=
      entered .groutLag { state := p, cond := c, timer := some 990, latch := false } station
    (lag.alu.active = true ∧ lag.alu.entries.length = 30 ∧
        conditionNow lag .groutLag ≠ (entryOf lag .groutLag).cond ∧
        (entryOf lag .groutLag).state = .inactive ∧ raisePersistence image .groutLag = 50) ∧
      (conditionNow (pending true .pendingRaise) .groutLag ≠
          (entryOf (pending true .pendingRaise) .groutLag).cond) ∧
      (conditionNow (raised .groutLag station) .groutLag ≠ (entryOf (raised .groutLag station) .groutLag).cond ∧
        clearPersistence image .groutLag = 50) ∧
      (conditionNow (lag.onGru id) .groutLag = true ∧
        (entryOf (pending false .pendingClear) .groutLag).cond = false) ∧
      (conditionNow (station.onAlu fun a => { a with estop := true }) .estop = true ∧
        raisePersistence image .estop = 0 ∧ clearPersistence image .estop = 0) ∧
      (alarmClass image .groutLag = .hold ∧ alarmClass image .skew = .warning ∧
        raisePersistence image .cutterheadJam = 50 ∧ raisePersistence image .groupPressureLimit = 200) := by
  decide +kernel
theorem test_witness_AlarmTimersMoveTheirEntries :
    let clearing := entered .groutLag
      { state := .pendingClear, cond := false, timer := some 950, latch := true } station
    let jammed := entered .cutterheadJam
      { state := .pendingRaise, cond := true, timer := some 950, latch := false }
      (station.onDsu fun d => { d with jam := true })
    (lagging.alu.entries.length = 30 ∧ (entryOf lagging .groutLag).timer = some 950 ∧
        raisePersistence image .groutLag ≤ elapsedSince 950 lagging.elapsed) ∧
      ((entryOf jammed .cutterheadJam).timer = some 950 ∧
        (entryOf jammed .cutterheadJam).state = .pendingRaise ∧ 0 ≤ jammed.cfg.image.dDroop ∧
        raisePersistence image .cutterheadJam ≤ elapsedSince 950 jammed.elapsed) ∧
      ((entryOf clearing .groutLag).timer = some 950 ∧ (entryOf clearing .groutLag).state = .pendingClear ∧
        clearPersistence image .groutLag ≤ elapsedSince 950 clearing.elapsed) ∧
      (station.onAlu fun a => { a with duplicate := some 900 }).alu.duplicate = some 900 := by decide +kernel
theorem test_witness_EstopHeardHaltsTheStation :
    hears station (heardFrom 5 15 (.alarm .estop true .stop)) ⟨5, 15, 21⟩ (.alarm .estop true .stop) ∧
      hears station (heardFrom 5 15 (.alarm .estop false .stop)) ⟨5, 15, 21⟩ (.alarm .estop false .stop) ∧
      hears halted (heardFrom 4 15 (.alarm .estop true .stop)) ⟨4, 15, 21⟩ (.alarm .estop true .stop) ∧
      (station.alu.estop = false ∧ station.alu.active = true ∧ station.alu.entries.length = 30 ∧
        (entryOf station .estop).state = .inactive ∧ station.phase = .idle) ∧ halted.alu.estop = true :=
  ⟨hears_of (by decide +kernel), hears_of (by decide +kernel), hears_of (by decide +kernel),
    by decide +kernel, by decide +kernel⟩
/-- R162: the local ESTOP_IN asserting, and read as it was. -/
theorem test_witness_EstopInHaltsTheStation :
    let off : FieldInputs := { estopIn := .off }
    let on_ : FieldInputs := { estopIn := .on }
    (station.fpt.timer = some 999 ∧ 1 ≤ elapsedSince 999 station.elapsed ∧
        station.fpt.estopIn.asserted = false ∧ off.estopIn ≠ .on) ∧
      ((after (.fieldSampleExpiry off) station).alu.estop = true ∧
        (after (.fieldSampleExpiry on_) station).alu.estop = false) := by decide +kernel
theorem test_witness_HousekeepingOrdersTakeTheirEffect :
    ordered station (order 30 18 []) 30 18 [] ∧ ordered station (order 30 19 []) 30 19 [] ∧
      ordered station (order 30 20 []) 30 20 [] ∧ ordered station (order 30 23 [0]) 30 23 [0] ∧
      ordered station (order 30 23 [65535]) 30 23 [65535] ∧
      ordered (inBuild .travel .gripped) (order 30 23 [7]) 30 23 [7] ∧
      (inBuild .travel .gripped).phase ≠ .idle :=
  ⟨ordered_of (by decide +kernel), ordered_of (by decide +kernel), ordered_of (by decide +kernel),
    ordered_of (by decide +kernel), ordered_of (by decide +kernel), ordered_of (by decide +kernel),
    by decide +kernel⟩
theorem test_witness_ResumeLeavesHalted :
    let jammed := raised .cutterheadJam halted
    ordered station (order 30 21 []) 30 21 [] ∧ ordered halted (order 30 21 []) 30 21 [] ∧
      ordered jammed (order 30 21 []) 30 21 [] ∧
      (halted.phase = .halted ∧ halted.fpt.estopIn.asserted = false ∧ stopOtherThanEstop halted = false) ∧
      (jammed.phase = .halted ∧ inForce jammed .cutterheadJam = true ∧
        alarmClass jammed.cfg.image .cutterheadJam = .stop) :=
  ⟨ordered_of (by decide +kernel), ordered_of (by decide +kernel), ordered_of (by decide +kernel),
    by decide +kernel, by decide +kernel⟩

/-- The clauses of the entry into HALTED: each cutterhead standing, a moving and a frozen group, a build in
hand and none, BAL active and not. -/
theorem test_witness_HaltStopsEveryBlock :
    (station.dsu.cutterhead = .running ∧ 0 ≤ station.cfg.image.dDroop) ∧
      (cutting .tripped station).dsu.cutterhead = .tripped ∧ advancing.thu.group = .moving .advancing ∧
      halted.thu.group = .frozen .holding ∧ Underway (inBuild .place .gripped) ∧
      ¬Underway station ∧ station.bal.active = true ∧
      (coldStart {} []).bal.active = false := by decide +kernel

/-! ## Field ports (08_field_ports) -/

/-- Section 8.7: station 4's STROKE at sample 2 and at sample 3. -/
def crushed (bad : Nat) : State :=
  withInput .stroke { valid := true, bad := bad, good := 10, served := 15020 } station
/-- Section 8.7, sample 3: the third bad sample makes the channel INVALID, the value kept. -/
theorem test_fieldSample_third_bad :
    let t := after (.fieldSampleExpiry { stroke := 65535 }) (crushed 2)
    inputOf t .stroke = { valid := false, bad := 3, good := 0, served := 15020 } ∧
      t.thu.quality = .substituted := by decide +kernel
/-- Section 8.7, sample 50: the tenth good sample makes it VALID again with its own value. -/
theorem test_fieldSample_tenth_good :
    let s := (withInput .stroke { valid := false, bad := 3, good := 9, served := 1500 } station).onThu fun t =>
      { t with quality := .substituted }
    let t := after (.fieldSampleExpiry { stroke := 1504 }) s
    inputOf t .stroke = { valid := true, bad := 0, good := 10, served := 1504 } ∧ t.thu.stroke = 1504 ∧
      t.thu.rate = 0 := by decide +kernel
/-- R162: one OFF sample of ESTOP_IN asserts it and halts the station. -/
theorem test_fieldSample_estop :
    let t := after (.fieldSampleExpiry { estopIn := .off }) station
    t.fpt.estopIn.asserted = true ∧ t.phase = .halted ∧ t.fpt.forced = true ∧
      t.fpt.wires.valveMode = .hold := by decide +kernel
/-- Section 8.6: the fifth sample in window ends the trial with the channel fitted; in PROBE. -/
def probing (run samples : Nat) : State :=
  let s := after (.loadEnd (some memory)) (coldStart {} [])
  { s with
    elapsed := 1
    fpt :=
      { s.fpt with
        probe := { s.fpt.probe with run := run, samples := samples }
        estopIn := { asserted := false, start := false, run := 10 } } }
theorem test_fieldSample_probe_fits :
    let t := after (.fieldSampleExpiry { stroke := 12 }) (probing 4 4)
    isFitted t .stroke = true ∧ t.fpt.probe.trial = 2 ∧ inputValue t .stroke = 12 := by decide +kernel
/-- Section 8.6: 20 samples without a run of five leave the channel unfitted. -/
theorem test_fieldSample_probe_unfitted :
    let t := after (.fieldSampleExpiry { stroke := 65535 }) (probing 0 19)
    isFitted t .stroke = false ∧ t.fpt.probe.trial = 2 := by decide +kernel

theorem test_witness_ForcedOutputsAreSafe :
    (halted.phase ≠ .load ∧ halted.phase ≠ .configFault ∧ halted.fpt.forced = true) ∧
      (station.fpt.forced = false ∧ station.phase ≠ .probe ∧ isFitted station .motorRef0 = true) := by
  decide +kernel
theorem test_witness_FieldSampleJudgesEveryChannel :
    (station.fpt.timer = some 999 ∧ 1 ≤ elapsedSince 999 station.elapsed ∧ station.phase ≠ .probe ∧
        station.fpt.inputs.length = 18) ∧
      ((probing 4 19).fpt.inputs.length = 18 ∧ (probing 4 19).fpt.fitted.length = 26 ∧
        (probing 4 19).fpt.probe.run < 5 ∧ (probing 4 19).fpt.probe.samples < 20) ∧
      (sampleOf (probing 4 19) { stroke := 12 } .stroke = some (12, false) ∧
        sampleOf (probing 4 19) { stroke := 65535 } .stroke = none) ∧
      ((probing 4 19).phase = .probe ∧ (probing 4 19).fpt.timer = some 0 ∧
        1 ≤ elapsedSince 0 (probing 4 19).elapsed) ∧
      (station.cfg.image.analog[Channel.stroke.number]? =
        some { gain := 65536, offset := 0, low := 0, high := 6000 }) := by decide +kernel
/-- A state of PROBE in a trial, after some samples of it, its tables whole. -/
def trying (trial samples : Nat) : State :=
  let s := probing 0 samples
  { s with fpt := { s.fpt with probe := { s.fpt.probe with trial := trial } } }
/-- R168: READY at once, and never in 500 ms; R167: the trial after. -/
theorem test_witness_DriveTrials :
    let ready := trialStep { driveReady0 := .on } (trying 10 0)
    let never := trialStep { driveReady1 := .off } (trying 11 49)
    ((trying 10 0).fpt.inputs.length = 18 ∧ (trying 10 0).fpt.fitted.length = 26) ∧
      (isFitted ready .motorRef0 = true ∧ inputTrue ready .driveReady0 = true ∧
        ready.fpt.probe.trial = 11 ∧ ready.fpt.wires.enable1 = true) ∧
      ((trialStep { driveReady0 := .off } (trying 10 48)).fpt.probe.samples = 49 ∧
        isFitted never .motorRef1 = false ∧ never.fpt.wires.enable1 = false ∧
        never.fpt.probe.trial = 12 ∧ never.fpt.written.pump = image.rateLow) := by decide +kernel
/-- R169: a pulse passes; a rise of 50 from the first pressure passes; 3 s without either fit the line only under
the forcing; the pump stops at 2 s. R160: the last good pressure sample is the one served. -/
theorem test_witness_GroutTrial :
    let noted := fitInput .groutPressure 90 (trying 12 7)
    let first := trialStep { groutPressure := 100 } noted
    let forced := (trying 12 299).onAlu fun a => { a with estop := true }
    isFitted (trialStep { meterPulses := 1 } (trying 12 7)) .groutPump = true ∧
      (first.fpt.probe.startPressure = some 100 ∧ inputValue first .groutPressure = 100 ∧
        isFitted (trialStep { groutPressure := 149 } first) .groutPump = false ∧
        isFitted (trialStep { groutPressure := 150 } first) .groutPump = true ∧
        inputValue (trialStep { groutPressure := 150 } first) .groutPressure = 150) ∧
      isFitted (trialStep {} (trying 12 299)) .groutPump = false ∧
      isFitted (trialStep {} forced) .groutMeter = true ∧
      (trialStep {} (trying 12 199)).fpt.written.pump = 0 := by decide +kernel

/-! ## The shield line (09_the_shield_line) -/

/-- R176: one STATUS each 10 ms; the diagnostic count 0 gives the diagnostic part. -/
theorem test_statusTimer :
    let t := after .statusTimerExpiry station
    t.lif.timer = some 1000 ∧ t.lif.diagCount = 1 ∧
      (t.lif.queue.map fun f => f.body.isStatus) = [true] ∧ t.lif.queue.map isDiagnostic = [true] := by
  decide +kernel
/-- Section 9.8: a queued STATUS is replaced in its place. -/
theorem test_statusTimer_replaces :
    let s := after .statusTimerExpiry station
    let t := after .statusTimerExpiry
      ((s.setElapsed 1001).onThu fun t => { t with stroke := 80001 })
    t.lif.queue.length = 1 := by decide +kernel
def frameOf (b : Body) : TxFrame :=
  { dest := 15, body := b }
/-- Section 9.8's frames: an ALARM, a STATUS and the parts of the ring record. -/
def alarm5 : TxFrame := frameOf (.alarm .groutLag true .hold)
def report (k : Nat) : TxFrame := frameOf (.ringReport 412 k 4 (.residency []))
def status1 : TxFrame := frameOf (.status record)
/-- Section 9.8: with the queue full, A4 evicts the last REPORT and stands at the end of its class. -/
theorem test_queue_evicts :
    let q := [alarm5, alarm5, alarm5, status1, report 0, report 1, report 2, report 3]
    let t := handFrame alarm5 (station.onLif fun l => { l with queue := q })
    t.lif.queue = [alarm5, alarm5, alarm5, alarm5, status1, report 0, report 1, report 2] ∧
      t.lif.queueDrops = 1 := by decide +kernel
/-- Section 9.8: a queue of SAFETY frames drops the ALARM handed. -/
theorem test_queue_drops :
    let t := handFrame alarm5 (station.onLif fun l => { l with queue := List.replicate 8 alarm5 })
    t.lif.queue.length = 8 ∧ t.lif.queueDrops = 1 := by decide +kernel
/-- A frame waiting in the queue. -/
def waiting (f : TxFrame) : State :=
  station.onLif fun l => { l with queue := [f], seq := 255 }
/-- Section 9.8: station 0's SAFETY instant is at idle count 2; the sequence number wraps. -/
theorem test_transmitStart :
    let t := after (.transmitStart 2) (waiting alarm5)
    (t.lif.slot.map fun k => (k.seq, k.sending)) = some (255, true) ∧ t.lif.seq = 0 ∧ t.lif.queue = [] := by
  decide +kernel
/-- R172: a STATUS waits for idle count 12, and 30 later again. -/
theorem test_transmitStart_gap :
    let s := waiting status1
    (after (.transmitStart 2) s).lif.slot = none ∧ (after (.transmitStart 12) s).lif.slot.isSome = true ∧
      (after (.transmitStart 41) s).lif.slot = none ∧
      (after (.transmitStart 42) s).lif.slot.isSome = true := by decide +kernel
/-- A frame on the line after some collisions. -/
def sending (collisions : Nat) : State :=
  station.onLif fun l =>
    { l with
      slot := some
        { frame := status1, seq := 9, chars := frameChars 0 9 status1, collisions := collisions
          sending := true, leaves := false }
      lineFault := true }
theorem test_frameSent :
    let t := after .frameSent (sending 3)
    t.lif.slot = none ∧ t.lif.lineFault = false := by decide +kernel
/-- R173: the backoff grows by one; the sixteenth running drops the frame with LINE_FAULT. -/
theorem test_collision :
    let t := after .collision (sending 3)
    (t.lif.slot.map fun k => (k.collisions, k.sending)) = some (4, false) ∧ t.lif.collisions = 1 := by
  decide +kernel
/-- R173: the rest of the transmission in which the station abandoned its frame is not received, the winner's frame
with the own number as source among it; the transmission after it is, and so is one after the line was idle. -/
theorem test_abandoned_not_received :
    let c := heardFrom 0 15 (.status record)
    let s := after .collision (sending 3)
    let rest := after (.status c) s
    (rest.alu.duplicate = none ∧ rest.lif.crcErrors = 0 ∧ rest.lif.abandoned = false) ∧
      (after (.status c) rest).alu.duplicate = some 1000 ∧
      (after (.status c) (after (.transmitStart 0) s)).alu.duplicate = some 1000 := by decide +kernel
theorem test_collision_sixteenth :
    let t := after .collision (sending 15)
    t.lif.slot = none ∧ t.lif.lineFault = true := by decide +kernel
/-- R178: a reception that ends early is a CRC failure; one that begins with no delimiter is none. -/
theorem test_receptionEarlyEnd :
    let t := after (.receptionEarlyEnd [0xA7, 0x11]) station
    t.lif.crcErrors = 1 ∧ (after (.receptionEarlyEnd [0x11, 0xA7]) station).lif.crcErrors = 0 := by
  decide +kernel
/-- R180: a frame with the own number as source is the duplicate-station notice. -/
theorem test_duplicate_notice :
    (after (.status (heardFrom 0 15 (.status record))) station).alu.duplicate = some 1000 := by
  decide +kernel
/-- R179: the format error of each check, in the order of the checks: a reserved bit, a source, a destination,
a kind, a destination for the kind, a length, a field. -/
theorem test_format_checks :
    let with_ (content : List Byte) : Heard := judge 6 ([0xA7] ++ content ++ bytes2 (crc16 content).toNat)
    with_ [0xF1, 0x63, 0, 0] = .formatError 1 ∧ with_ [0xF6, 0x23, 0, 0] = .formatError 2 ∧
      with_ [0x91, 0x21, 0, 0] = .formatError 3 ∧ with_ [0xF1, 0x28, 0, 0] = .formatError 4 ∧
      with_ [0xF1, 0x24, 0, 0] = .formatError 5 ∧ with_ [0xF1, 0x16, 0, 1, 8] = .formatError 6 ∧
      with_ [0xF1, 0x16, 0, 2, 30, 4] = .formatError 7 ∧
      with_ [0xF1, 0x16, 0, 2, 28, 5] =
        .valid { source := 1, dest := 15, seq := 0 } (.alarm .estop true .stop) := by decide +kernel

theorem test_witness_StatusTimerHandsTheStatus :
    station.lif.timer = some 999 ∧ 1 ≤ elapsedSince 999 station.elapsed ∧ station.lif.diagCount = 0 ∧
      station.ptb.exConveyor = true ∧ station.ptb.exErector = true ∧
      volumesClamp (station.onGru fun g => { g with postedRing := 2147483648 }) = true := by decide +kernel
/-- R175: a queued STATUS replaced, room left, a lower class evicted, and none to evict. -/
theorem test_witness_FrameEntersTheQueue :
    let holding (q : List TxFrame) := station.onLif fun l => { l with queue := q }
    let mixed := holding [alarm5, status1, report 0]
    let full := holding ([alarm5, alarm5, alarm5, status1] ++ [0, 1, 2, 3].map report)
    let shut := holding (List.replicate 8 alarm5)
    FramesQueued mixed ∧ FramesQueued full ∧ FramesQueued shut ∧
      (handFrame (frameOf (.status { record with ring := 5 })) mixed).lif.queue =
        [alarm5, frameOf (.status { record with ring := 5 }), report 0] ∧
      (handFrame alarm5 mixed).lif.queue = [alarm5, alarm5, status1, report 0] ∧
      (handFrame alarm5 full).lif.queueDrops = 1 ∧ (handFrame alarm5 shut).lif.queueDrops = 1 := by
  decide +kernel
theorem test_witness_LineSlotSendsAndCollides :
    (station.phase ≠ .load ∧ station.phase ≠ .probe ∧ station.lif.slot = none ∧ station.lif.queue = []) ∧
      ((waiting status1).lif.slot = none ∧ (waiting status1).lif.queue = [status1] ∧
        ∃ k, 42 = 12 + station.own + 30 * k) ∧
      ((sending 15).lif.slot.map (fun w => (w.sending, w.collisions)) = some (true, 15)) ∧
      ((after .collision (sending 3)).lif.slot.map (fun w => (w.sending, w.collisions)) = some (false, 4) ∧
        ∃ k, 52 = 12 + station.own + 10 * 4 + 30 * k) :=
  ⟨by decide +kernel, ⟨by decide +kernel, by decide +kernel, 1, by decide +kernel⟩, by decide +kernel,
    by decide +kernel, 0, by decide +kernel⟩
theorem test_witness_BadReceptionsAreCounted :
    let c := heardFrom 3 15 (.status record)
    (receives (sending 0) = false ∧ receives faulted = false ∧
        receives (after .collision (sending 3)) = false) ∧
      (receives station = true ∧ judge 6 (0 :: c) = .ignored ∧ judge 6 (spoilt c) = .crcFailure ∧
        judge 6 (heardFrom 7 15 (.status record)) = .formatError 2 ∧
        judge 6 (heardFrom 0 15 (.status record)) =
          .valid { source := 0, dest := 15, seq := 21 } (.status record)) ∧
      (incomplete [0xA7, 0x11] = true ∧ ([0xA7, 0x11] : Chars).head? = some 0xA7 ∧
        incomplete [0x11] = true ∧ ([0x11] : Chars).head? ≠ some 0xA7) := by decide +kernel
/-- R171: the idle count restarts where the station does not receive, too. -/
theorem test_idle_not_received :
    let s := faulted.onLif fun l => { l with idle := 40 }
    (after (.status (heardFrom 3 15 (.status record))) s).lif.idle = 0 ∧
      (after (.receptionEarlyEnd [0xA7, 0x11]) s).lif.idle = 0 := by decide +kernel
theorem test_witness_SentFramesAreHeardAsSent :
    (6 ≤ 8 ∧ 5 < 6 ∧ 7 < 8) ∧ (67108863 : BitVec 32).toNat < 67108864 ∧
      (1 ≤ 31 ∧ 31 < 32 ∧ [(-2147483648 : Int), 0, 2147483647].length ≤ 3 ∧
        ∀ v ∈ [(-2147483648 : Int), 0, 2147483647], -2147483648 ≤ v ∧ v ≤ 2147483647) := by decide

/-! ## Orders and restart (10_orders_from_the_console, 11_configuration_and_start) -/

theorem test_keepalive :
    let t := after (.keepalive (order 30 1 [])) (station.setElapsed 1005)
    t.ptb.console.lastOrder = some 1005 ∧ t.oru.lastTag = some 29 := by decide +kernel
theorem test_orderUndefinedKind :
    let t := after (.orderUndefinedKind (order 30 24 [])) station
    result t = some .refusedRange ∧ t.oru.lastTag = some 30 ∧
      result (after (.orderUndefinedKind (order 30 2 [5])) station) = some .refusedRange := by decide +kernel
/-- R191, R197: a warm restart from IDLE begins LISTEN and keeps the ring number and the grout account. -/
theorem test_restartStation :
    let t := after (.restartStation (order 30 22 [])) queued
    t.phase = .listen ∧ t.ring = 412 ∧ volumes t = volumes queued ∧ t.oru.lastTag = none ∧
      (peerOf t 1).liveness = .absent ∧ t.bal.restarted = true := by decide +kernel
theorem test_restartStation_refused :
    let t := after (.restartStation (order 30 22 [])) building
    t.phase = .building ∧ result t = some .refusedState := by decide +kernel
/-- R187 check 2: an order taken in LISTEN is refused. -/
theorem test_order_in_listen :
    result (after (.setAdvance (order 30 2 [600, 0])) listening) = some .refusedState := by decide +kernel

theorem test_witness_OrdersAreTakenAndChecked :
    let hear (s : State) (tag : Tag) (code : Nat) (params : List Int) : Prop :=
      hears s (order tag code params) ⟨8, 15, 21⟩ (.order tag code params)
    let away := { station with ptb := { station.ptb with exErector := false, exConveyor := false } }
    hear station 29 2 [600, 0] ∧ hear station 30 24 [] ∧ hear station 30 31 [] ∧ hear station 30 2 [600] ∧
      (hear listening 30 2 [600, 0] ∧ listening.phase = .listen) ∧ hear away 30 10 [] ∧
      hear away 30 15 [0] ∧ hear away 30 11 [2500, 300] ∧ hear station 30 14 [2, 0] ∧
      hear station 30 17 [-1] ∧ hear station 30 23 [65536] ∧ station.oru.lastTag = some 29 :=
  ⟨hears_of (by decide +kernel), hears_of (by decide +kernel), hears_of (by decide +kernel),
    hears_of (by decide +kernel), ⟨hears_of (by decide +kernel), by decide +kernel⟩,
    hears_of (by decide +kernel), hears_of (by decide +kernel), hears_of (by decide +kernel),
    hears_of (by decide +kernel), hears_of (by decide +kernel), hears_of (by decide +kernel),
    by decide +kernel⟩
theorem test_witness_RestartBeginsAWarmListen :
    ordered queued (order 30 22 []) 30 22 [] ∧ queued.phase = .idle ∧
      ordered building (order 30 22 []) 30 22 [] ∧ building.phase = .building ∧
      ordered halted (order 30 22 []) 30 22 [] ∧ halted.phase = .halted :=
  ⟨ordered_of (by decide +kernel), by decide +kernel, ordered_of (by decide +kernel), by decide +kernel,
    ordered_of (by decide +kernel), by decide +kernel⟩

/-! ## Invariants -/

/-- A step whose command is well formed answers a next state. -/
theorem step_runs {s : State} {c : Instr} {rest : List Instr} (hq : s.pending = c :: rest)
    (hw : c.wellFormed = true) : ∃ t, step s = .next t := by
  simp only [step, hq]
  exact exec_completes c _ hw
/-- A command waiting. -/
def pendingOn (s : State) (c : Instr) : State :=
  s.setPending [c]
theorem test_witness_AppliedLevelStaysAgreed :
    let s := pendingOn boulder .dutyEvaluationExpiry
    Shaped s ∧ LevelsAgree s ∧ ∃ t, step s = .next t :=
  ⟨by decide +kernel, by decide +kernel, step_runs rfl rfl⟩
theorem test_witness_CandidateHeld :
    let s := pendingOn (rising 1) (.status (heardFrom 1 15 (.status record)))
    Shaped s ∧ CandidateHeld s ∧ ∃ t, step s = .next t :=
  ⟨by decide +kernel,
    ⟨fun c => by
      constructor
      · intro h
        obtain rfl : c = 4 := (Option.some.inj h).symm
        decide +kernel
      · rintro ⟨h1, h2, -, -⟩
        have h1 : 3 < c := h1
        have h2 : c ≤ 4 := h2
        obtain rfl : c = 4 := by omega
        rfl, by decide +kernel⟩,
    step_runs rfl (by decide +kernel)⟩
theorem test_witness_AdvanceGateIsKept :
    let s := pendingOn station (.startAdvance (order 30 3 []))
    AdvanceGated s ∧ ∃ t, step s = .next t :=
  ⟨⟨by decide +kernel, by decide +kernel, by decide +kernel, by decide +kernel, by decide +kernel,
    by decide +kernel, by decide +kernel⟩, step_runs rfl (by decide +kernel)⟩
theorem test_witness_GroutBalanceIsKept :
    let s := pendingOn queued (.groutWriteOff (order 30 17 [412]))
    GroutBalanced s ∧ ∃ t, step s = .next t :=
  ⟨by decide +kernel, step_runs rfl (by decide +kernel)⟩
theorem test_witness_QueuesKeepTheirOrder :
    let parcels := pendingOn queued (.groutWriteOff (order 30 17 [412]))
    let frames := pendingOn
      (station.onLif fun l =>
        { l with queue := [alarm5, alarm5, alarm5, status1, report 0, report 1, report 2, report 3] })
      .statusTimerExpiry
    (ParcelsQueued parcels ∧ ∃ t, step parcels = .next t) ∧
      (FramesQueued frames ∧ ∃ t, step frames = .next t) :=
  ⟨⟨by decide +kernel, step_runs rfl (by decide +kernel)⟩, ⟨by decide +kernel, step_runs rfl rfl⟩⟩
theorem test_witness_TablesRangesAndHoldsAreKept :
    let alarms := pendingOn lagging (.alarmPersistenceExpiry .groutLag)
    let account := pendingOn balancing .balanceEvaluationExpiry
    (Shaped account ∧ WithinRanges account ∧ ConveyorHeld account ∧ ∃ t, step account = .next t) ∧
      (AlarmsSound alarms ∧ ∃ t, step alarms = .next t) :=
  ⟨⟨by decide +kernel, by decide +kernel, by decide +kernel, step_runs rfl rfl⟩,
    ⟨by decide +kernel, step_runs rfl rfl⟩⟩
/-- A stop halts: CUTTERHEAD_JAM becoming ACTIVE on a running station. -/
theorem test_witness_StopsHalt :
    let pending : AlarmEntry := { state := .pendingRaise, cond := true, timer := some 950, latch := false }
    let s := pendingOn ((setEntry .cutterheadJam pending station).onDsu fun d => { d with jam := true })
      (.alarmPersistenceExpiry .cutterheadJam)
    StopsHalt s ∧ s.phase = .idle ∧ (after (.alarmPersistenceExpiry .cutterheadJam) s).phase = .halted ∧
      ∃ t, step s = .next t :=
  ⟨by decide +kernel, by decide +kernel, by decide +kernel, step_runs rfl rfl⟩

/-! ## The decoder -/

/-- The table gives no row bits, so no word spells a command. -/
theorem test_decode_none : decodeTableWord 16 0x1234 = none := rfl

end Sys2Proof.Tests
end

section
/-! The peer table (01_stations_sectors_and_the_peer_table): the consecutive test of R7, the sequence an entry
keeps, and what a transmission that fails its CRC leaves alone. -/

namespace Sys2Proof.Machine

open Sys2Proof

/-! ## The consecutive test (R7) -/

/-- The three conditions of R7, in fields of the entry before the frame. -/
theorem consecutive_iff (now : Time) (seq : Tag) (e : PeerEntry) :
    consecutive now seq e = true ↔
      1 ≤ e.good ∧ e.lastSeq = some (seq - 1) ∧ ∃ t, e.lastStatus = some t ∧ elapsedSince t now ≤ 3 := by
  simp only [consecutive, Bool.and_eq_true, decide_eq_true_eq, and_assoc]
  cases e.lastStatus with
  | none => simp
  | some t =>
    simp only [decide_eq_true_eq, Option.some.injEq, exists_eq_left']
    exact Iff.rfl

theorem goodAfter_of_consecutive {now : Time} {seq : Tag} {e : PeerEntry}
    (h : consecutive now seq e = true) : goodAfter now seq e = e.good + 1 :=
  if_pos h

theorem goodAfter_of_not_consecutive {now : Time} {seq : Tag} {e : PeerEntry}
    (h : ¬consecutive now seq e = true) : goodAfter now seq e = 1 :=
  if_neg h

/-- Five is reached only by a pass at four. -/
theorem five_le_goodAfter_iff {now : Time} {seq : Tag} {e : PeerEntry} (hg : e.good ≤ 4) :
    5 ≤ goodAfter now seq e ↔ consecutive now seq e = true ∧ e.good = 4 := by
  by_cases h : consecutive now seq e = true
  · simp only [goodAfter_of_consecutive h, h, true_and]
    omega
  · simp [goodAfter_of_not_consecutive h, h]

/-! ## A STATUS in JOINING (R6, R7) -/

/-- The count a JOINING entry of at most four shows after a STATUS is that of R7, also where it becomes LIVE. -/
theorem statusEntry_joining_good {now : Time} {seq : Tag} {e : PeerEntry} (r : StatusRecord)
    (hj : e.liveness = .joining) (hg : e.good ≤ 4) :
    (statusEntry now seq r e).good = goodAfter now seq e := by
  simp only [statusEntry, hj]
  split
  next h5 =>
    obtain ⟨hpass, h4⟩ := (five_le_goodAfter_iff hg).1 h5
    rw [goodAfter_of_consecutive hpass, h4]
    rfl
  next => rfl

theorem statusEntry_joining_live_iff {now : Time} {seq : Tag} {e : PeerEntry} (r : StatusRecord)
    (hj : e.liveness = .joining) :
    (statusEntry now seq r e).liveness = .live ↔ 5 ≤ goodAfter now seq e := by
  simp only [statusEntry, hj]
  split
  next h5 => exact iff_of_true rfl h5
  next h5 => exact iff_of_false (by simp [storeStatus, noteFrame, hj]) h5

/-! ## The last sequence (R6, R8, R9) -/

theorem statusEntry_lastSeq {e : PeerEntry} (now : Time) (seq : Tag) (r : StatusRecord)
    (h : e.liveness ≠ .self) : (statusEntry now seq r e).lastSeq = some seq := by
  unfold statusEntry
  split
  case h_3 => split <;> rfl
  case h_7 hs => exact absurd hs h
  all_goals rfl

theorem joinEntry_lastSeq {e : PeerEntry} (d : Digest) (now : Time) (seq : Tag) (j : JoinRecord)
    (h : e.liveness ≠ .self) : (joinEntry d now seq j e).lastSeq = some seq := by
  simp only [joinEntry, if_neg h]
  split <;> rfl

theorem otherEntry_lastSeq {e : PeerEntry} (now : Time) (seq : Tag) (h : e.liveness ≠ .self) :
    (otherEntry now seq e).lastSeq = some seq := by
  unfold otherEntry
  split
  case h_7 hs => exact absurd hs h
  all_goals rfl

/-! ## A CRC failure (R178) -/

/-- A row of a kind other than ORDER hears its characters. -/
theorem exec_frameRow {chars : Chars} {i : Instr} (hi : i ∈ frameRows chars) (s : State) :
    ∃ act, exec i s = hear chars act s := by
  simp only [frameRows, List.mem_cons, List.not_mem_nil, or_false] at hi
  obtain rfl | rfl | rfl | rfl | rfl | rfl | rfl := hi <;> exact ⟨_, rfl⟩

/-- A CRC failure is counted, whatever the row, and its event settles. -/
theorem hear_crcFailure {chars : Chars} {act : Header → Body → State → Option State} {s : State}
    (hr : receives s = true) (hj : judge s.cfg.image.nS chars = .crcFailure) :
    hear chars act s = .next (settle (countCrcError (lineUsed s))) := by
  simp [hear, hearClosed, hr, hj]

theorem exec_frameRow_crcFailure_ptb {s t : State} {chars : Chars} {i : Instr} (hi : i ∈ frameRows chars)
    (hr : receives s = true) (hj : judge s.cfg.image.nS chars = .crcFailure) (he : exec i s = .next t) :
    t.ptb = s.ptb := by
  obtain ⟨act, hact⟩ := exec_frameRow hi s
  rw [hact, hear_crcFailure hr hj] at he
  simp [← Host.Outcome.next.inj he]

/-! ## The claim -/

/-- Settles O7: the count by `goodAfter`, LIVE by its reaching five, the sequence per kind of frame, and a CRC
failure that is counted and reaches no entry. -/
theorem consecutiveTestCountsToFive : Obligations.ConsecutiveTestCountsToFive := by
  refine ⟨fun now seq r e hj hg => ?_, fun now seq r d j e h => ?_, fun s t chars i hi hr hc he => ?_⟩
  · simp only [← consecutive_iff, statusEntry_joining_good r hj hg, statusEntry_joining_live_iff r hj]
    exact ⟨goodAfter_of_consecutive, goodAfter_of_not_consecutive, five_le_goodAfter_iff hg⟩
  · exact ⟨statusEntry_lastSeq now seq r h, joinEntry_lastSeq d now seq j h, otherEntry_lastSeq now seq h⟩
  · exact exec_frameRow_crcFailure_ptb hi hr hc he

end Sys2Proof.Machine
end

section
/-! The cutterhead orders (02_cutterhead_drive_and_duty_levels): what START_CUTTERHEAD and STOP_CUTTERHEAD come to
in every cutterhead state. -/

namespace Sys2Proof.Machine

open Sys2Proof

/-! ## An order decided by its owning rule (R187) -/

/-- `hear_ordered` once the owning rule's result and state are known. -/
theorem hear_ordered_of_rule {s u : State} {chars : Chars} {tag : Tag} {code : Nat} {params : List Int}
    {rule : List Int → State → Judged} {fits : Nat → List Int → Bool} {result : OrderResult}
    (ho : ordered s chars tag code params) (hf : fits code params = true)
    (hr : rule params (atOrder s) = (result, u)) :
    hear chars (orderHeard fits rule) s = .next (settle (echoed tag code result u)) := by
  rw [hear_ordered ho rule fits hf, hr]
  rfl

/-! ## START_CUTTERHEAD (R29) -/

theorem startPhase_iff (p : Phase) : startPhase p = true ↔ p = .idle ∨ p = .advancing ∨ p = .paused := by
  simp [startPhase, or_assoc]

/-- STOPPED and STOPPING are decided alike: by the phase and the STOP-class alarms. -/
theorem ruleStartCutterhead_of_standing {s : State} (params : List Int)
    (hc : s.dsu.cutterhead = .stopped ∨ s.dsu.cutterhead = .stopping) :
    ruleStartCutterhead params s =
      if startPhase s.phase = true ∧ stopInForce s = false then (.accepted, startCutterhead s)
      else (.refusedState, s) := by
  rcases hc with hc | hc <;> simp only [ruleStartCutterhead, hc]

theorem ruleStartCutterhead_accepted {s : State} (params : List Int)
    (hc : s.dsu.cutterhead = .stopped ∨ s.dsu.cutterhead = .stopping)
    (hp : s.phase = .idle ∨ s.phase = .advancing ∨ s.phase = .paused) (hs : stopInForce s = false) :
    ruleStartCutterhead params s = (.accepted, startCutterhead s) := by
  rw [ruleStartCutterhead_of_standing params hc, if_pos ⟨(startPhase_iff _).2 hp, hs⟩]

theorem ruleStartCutterhead_done {s : State} (params : List Int)
    (hc : s.dsu.cutterhead = .starting ∨ s.dsu.cutterhead = .running) :
    ruleStartCutterhead params s = (.done, s) := by
  rcases hc with hc | hc <;> simp only [ruleStartCutterhead, hc]

theorem ruleStartCutterhead_refused {s : State} (params : List Int)
    (h : s.dsu.cutterhead = .tripped ∨
      ((s.dsu.cutterhead = .stopped ∨ s.dsu.cutterhead = .stopping) ∧
        (s.phase = .building ∨ s.phase = .halted ∨ stopInForce s = true))) :
    ruleStartCutterhead params s = (.refusedState, s) := by
  obtain hc | ⟨hc, hbar⟩ := h
  · simp only [ruleStartCutterhead, hc]
  · have barred : ¬(startPhase s.phase = true ∧ stopInForce s = false) := by
      rcases hbar with hp | hp | hs
      · simp [hp, startPhase_iff]
      · simp [hp, startPhase_iff]
      · simp [hs]
    rw [ruleStartCutterhead_of_standing params hc, if_neg barred]

/-! ## STOP_CUTTERHEAD (R32) -/

theorem ruleStopCutterhead_accepted {s : State} (params : List Int)
    (hc : s.dsu.cutterhead = .starting ∨ s.dsu.cutterhead = .running) :
    ruleStopCutterhead params s = (.accepted, leaveRunning .stopping s) := by
  rcases hc with hc | hc <;> simp only [ruleStopCutterhead, hc]

theorem ruleStopCutterhead_done {s : State} (params : List Int)
    (hc : s.dsu.cutterhead = .stopping ∨ s.dsu.cutterhead = .stopped ∨ s.dsu.cutterhead = .tripped) :
    ruleStopCutterhead params s = (.done, s) := by
  rcases hc with hc | hc | hc <;> simp only [ruleStopCutterhead, hc]

/-! ## The claim -/

/-- Settles O14: each order is decided by its owning rule (R29, R32) in `atOrder s`, whose cutterhead, phase and
alarms are those of `s`. -/
theorem cutterheadOrdersStartAndStop : Obligations.CutterheadOrdersStartAndStop := by
  intro s chars tag params
  refine ⟨fun ho => ⟨fun hc hp hs => ?accepted, fun hc => ?done, fun h => ?refused⟩,
    fun ho => ⟨fun hc => ?stopAccepted, fun hc => ?stopDone⟩⟩
  case accepted =>
    exact hear_ordered_of_rule ho rfl (ruleStartCutterhead_accepted (s := atOrder s) params hc hp hs)
  case done => exact hear_ordered_of_rule ho rfl (ruleStartCutterhead_done (s := atOrder s) params hc)
  case refused => exact hear_ordered_of_rule ho rfl (ruleStartCutterhead_refused (s := atOrder s) params h)
  case stopAccepted => exact hear_ordered_of_rule ho rfl (ruleStopCutterhead_accepted (s := atOrder s) params hc)
  case stopDone => exact hear_ordered_of_rule ho rfl (ruleStopCutterhead_done (s := atOrder s) params hc)

end Sys2Proof.Machine
end

section
/-! The advance orders (03_thrust_stroke_and_advance): what SET_ADVANCE, START_ADVANCE and PAUSE come to in every
phase. -/

namespace Sys2Proof.Machine

open Sys2Proof

/-! ## A change of the group (R48) -/

/-- R48, R56: a change into or out of ADVANCING puts the pressure reference to P_hold. -/
theorem setGroup_thu_of_advancing {g : Group} {s : State}
    (h : s.thu.group = .moving .advancing ∨ g = .moving .advancing) :
    (setGroup g s).thu = { s.thu with group := g, pRef := s.cfg.image.pHold } := by
  simp [setGroup, pRefAfter, h]

/-- R48: GROUP_VALVE after a change of the group is the new group's, at the reference the change leaves. -/
theorem setGroup_written (g : Group) (s : State) :
    (setGroup g s).fpt.written =
      { s.fpt.written with
        valveMode := (valveOf s.cfg.image (setGroup g s).thu.pRef g).1
        valvePressure := (valveOf s.cfg.image (setGroup g s).thu.pRef g).2 } := by
  simp [setGroup, writeGroupValve]

/-! ## SET_ADVANCE (R55) -/

theorem outside_iff (lo hi v : Int) : outside lo hi v = true ↔ v < lo ∨ hi < v := by
  simp [outside]

/-- R188: CLAMPED exactly where one of the two values lies outside its range. -/
theorem clampResult_outside_or (lo hi v lo' hi' v' : Int) (r : OrderResult) :
    clampResult (outside lo hi v || outside lo' hi' v') r =
      if v < lo ∨ hi < v ∨ v' < lo' ∨ hi' < v' then .clamped else r := by
  simp only [clampResult, Bool.or_eq_true, outside_iff, or_assoc]

/-- R55: the two values SET_ADVANCE stores. -/
def advanceSet (rate bias : Int) (s : State) : State :=
  s.onThu fun u => { u with rateTarget := clamp 0 1000 rate, bias := clamp (-200) 200 bias }

theorem ruleSetAdvance_eq (rate bias : Int) (s : State) :
    ruleSetAdvance [rate, bias] s =
      (if rate < 0 ∨ 1000 < rate ∨ bias < -200 ∨ 200 < bias then .clamped else .done,
        setFlagIf (outside 0 1000 rate || outside (-200) 200 bias) .clamped (advanceSet rate bias s)) := by
  rw [← clampResult_outside_or]
  rfl

/-- Closing an event sees the echo and nothing else of the order. -/
theorem kept_echoed (tag : Tag) (code : Nat) (r : OrderResult) (s : State) :
    kept (echoed tag code r s) = echoed tag code r (kept s) := rfl

/-- R55: SET_ADVANCE completes; what closing the event leaves alone shows the two values and the echo. -/
theorem exec_setAdvance_kept {s : State} {chars : Chars} {tag : Tag} {rate bias : Int}
    (ho : ordered s chars tag 2 [rate, bias]) :
    ∃ t, exec (.setAdvance chars) s = .next t ∧
      kept t = echoed tag 2
        (if rate < 0 ∨ 1000 < rate ∨ bias < -200 ∨ 200 < bias then .clamped else .done)
        (kept (advanceSet rate bias (atOrder s))) := by
  refine ⟨_, hear_ordered_of_rule ho rfl (ruleSetAdvance_eq rate bias (atOrder s)), ?_⟩
  rw [kept_settle, kept_echoed, kept_setFlagIf]

/-! ## START_ADVANCE (R60) -/

/-- R60: START_ADVANCE is taken. -/
abbrev advanceTaken (s : State) : Prop :=
  (s.phase = .idle ∨ s.phase = .paused) ∧ s.dsu.cutterhead = .running ∧ s.thu.strokeEnd = false

theorem ruleStartAdvance_of_enabled {s : State} (params : List Int) (ht : advanceTaken s) (he : allEnabled s) :
    ruleStartAdvance params s = (.accepted, enterAdvancing s) := by
  rw [ruleStartAdvance, if_pos ht, if_pos ((enablesUp_iff s).2 he)]

theorem ruleStartAdvance_of_not_enabled {s : State} (params : List Int) (ht : advanceTaken s)
    (he : ¬allEnabled s) :
    ruleStartAdvance params s = (.accepted, { s with phase := .paused, pauseCause := .automatic }) := by
  rw [ruleStartAdvance, if_pos ht, if_neg (mt (enablesUp_iff s).1 he)]
  rfl

theorem ruleStartAdvance_refused {s : State} (params : List Int) (ht : ¬advanceTaken s) :
    ruleStartAdvance params s = (.refusedState, s) := if_neg ht

/-- R60: with the stroke-end flag clear the group enters ADVANCING with the phase. -/
theorem enterAdvancing_of_strokeEnd_clear {s : State} (h : s.thu.strokeEnd = false) :
    enterAdvancing s =
      setGroup (.moving .advancing) { s with phase := .advancing, pauseCause := .none } :=
  if_neg (by simp [h])

/-! ## PAUSE (R61) -/

theorem rulePause_of_advancing {s : State} (params : List Int) (hp : s.phase = .advancing) :
    rulePause params s = (.accepted, enterPaused .ordered s) := if_pos hp

theorem rulePause_of_paused {s : State} (params : List Int) (hp : s.phase = .paused)
    (hc : s.pauseCause ≠ .ordered) :
    rulePause params s = (.accepted, s.setPauseCause .ordered) := by
  simp [rulePause, hp, hc]

theorem rulePause_done {s : State} (params : List Int) (hp : s.phase = .paused) (hc : s.pauseCause = .ordered) :
    rulePause params s = (.done, s) := by
  simp [rulePause, hp, hc]

theorem rulePause_refused {s : State} (params : List Int) (ha : s.phase ≠ .advancing) (hp : s.phase ≠ .paused) :
    rulePause params s = (.refusedState, s) := by
  simp [rulePause, ha, hp]

/-- R61: a group that is ADVANCING goes to HOLDING with the pause. -/
theorem enterPaused_of_group_advancing {s : State} (c : PauseCause) (h : s.thu.group = .moving .advancing) :
    enterPaused c s = setGroup (.moving .holding) { s with phase := .paused, pauseCause := c } :=
  if_pos (by simp [groupAdvancing, h])

/-- R61: any other group keeps its state. -/
theorem enterPaused_of_group_standing {s : State} (c : PauseCause) (h : s.thu.group ≠ .moving .advancing) :
    enterPaused c s = { s with phase := .paused, pauseCause := c } :=
  if_neg (by simp [groupAdvancing, h])

/-! ## The claim -/

/-- Settles O22: each order is decided by its owning rule (R55, R60, R61) in `atOrder s`, whose phase, cutterhead,
thrust block and enables are those of `s`. -/
theorem advanceOrdersTakeTheirEffect : Obligations.AdvanceOrdersTakeTheirEffect := by
  intro s chars tag
  refine ⟨fun rate bias ho => ?set,
    fun params ho => ⟨fun ht he => ?start, fun ht he => ?startPaused, fun ht => ?startRefused⟩,
    fun params ho => ⟨fun hp hg => ?pause, fun hp hg => ?pauseStanding, fun hp hc => ?pauseOrdered,
      fun hp hc => ?pauseDone, fun ha hp => ?pauseRefused⟩⟩
  case set =>
    obtain ⟨t, hx, e⟩ := exec_setAdvance_kept ho
    have hr : t.thu.rateTarget = clamp 0 1000 rate := congrArg (fun u => u.thu.rateTarget) e
    have hb : t.thu.bias = clamp (-200) 200 bias := congrArg (fun u => u.thu.bias) e
    refine ⟨t, hx, hr, hb, congrArg (fun u => u.oru.echo) e, ?_, congrArg State.dsu e, congrArg State.bsq e,
      congrArg State.gru e, congrArg State.bal e, (congrArg State.cfg e :), (congrArg State.ring e :),
      (congrArg State.ptb e :)⟩
    rw [hr, hb]
    exact congrArg State.thu e
  case start =>
    refine ⟨_, hear_ordered_of_rule ho rfl (ruleStartAdvance_of_enabled (s := atOrder s) params ht he), ?_⟩
    have ⟨_, _, clear⟩ := ht
    rw [enterAdvancing_of_strokeEnd_clear (s := atOrder s) clear]
    simp [setGroup_written, setGroup_thu_of_advancing, valveOf, atOrder]
  case startPaused =>
    exact hear_ordered_of_rule ho rfl (ruleStartAdvance_of_not_enabled (s := atOrder s) params ht he)
  case startRefused => exact hear_ordered_of_rule ho rfl (ruleStartAdvance_refused (s := atOrder s) params ht)
  case pause =>
    refine ⟨_, hear_ordered_of_rule ho rfl (rulePause_of_advancing (s := atOrder s) params hp), ?_⟩
    rw [enterPaused_of_group_advancing (s := atOrder s) .ordered hg]
    simp [setGroup_written, setGroup_thu_of_advancing, valveOf, atOrder, hg]
  case pauseStanding =>
    rw [← enterPaused_of_group_standing (s := atOrder s) .ordered hg]
    exact hear_ordered_of_rule ho rfl (rulePause_of_advancing (s := atOrder s) params hp)
  case pauseOrdered => exact hear_ordered_of_rule ho rfl (rulePause_of_paused (s := atOrder s) params hp hc)
  case pauseDone => exact hear_ordered_of_rule ho rfl (rulePause_done (s := atOrder s) params hp hc)
  case pauseRefused => exact hear_ordered_of_rule ho rfl (rulePause_refused (s := atOrder s) params ha hp)

end Sys2Proof.Machine
end

section
/-! KEEPALIVE (10_orders_from_the_console): the ORDER that ORU never takes. -/

namespace Sys2Proof.Machine

open Sys2Proof

/-! ## An ORDER that is not taken (R184, R185) -/

/-- R185: KEEPALIVE is never taken, whatever its destination and tag. -/
@[simp] theorem takes_keepalive (dest : Nat) (tag : Tag) (s : State) : takes dest tag 1 s = false := rfl

theorem handleOrder_not_taken {dest : Nat} {tag : Tag} {code : Nat} {s : State} (params : List Int)
    (rule : List Int → State → Judged) (h : takes dest tag code s = false) :
    handleOrder dest tag code params rule s = s :=
  if_neg (by simp [h])

/-- An ORDER that is heard and not taken marks the console LIVE (R19), meets no owning rule and writes no echo. -/
theorem hear_order_not_taken {s : State} {chars : Chars} {h : Header} {tag : Tag} {code : Nat} {params : List Int}
    {rule : List Int → State → Judged} {fits : Nat → List Int → Bool}
    (hh : hears s chars h (.order tag code params)) (hf : fits code params = true)
    (ht : takes h.dest tag code (atOrder s) = false) :
    hear chars (orderHeard fits rule) s = .next (settle (atOrder s)) := by
  have acts : orderHeard fits rule h (.order tag code params) (lineUsed s) = some (atOrder s) :=
    calc orderHeard fits rule h (.order tag code params) (lineUsed s)
        = some (handleOrder h.dest tag code params rule (atOrder s)) := if_pos hf
      _ = some (atOrder s) := by rw [handleOrder_not_taken params rule ht]
  exact hear_valid hh acts

/-! ## The claim -/

/-- Settles O11: KEEPALIVE is not taken, so its event settles `atOrder s`, and settling leaves ORU and PTB alone.
The idle count that `atOrder` restarts is R171's (log 12). -/
theorem keepaliveOnlyMarksTheConsole : Obligations.KeepaliveOnlyMarksTheConsole := by
  intro s chars h tag params hh
  obtain ⟨-, -, -, -, ptb_kept, oru_kept⟩ := settle_frame (atOrder s)
  exact ⟨hear_order_not_taken hh rfl (takes_keepalive h.dest tag (atOrder s)), oru_kept, ptb_kept⟩

end Sys2Proof.Machine
end

section
/-! One event after another: every step is a run of the station's events, each closed by `settle` where the model
closes it. An invariant that every event keeps is kept by every step, and its proof goes through the cases of
`Moves` and `Acts` instead of through the commands. -/

namespace Sys2Proof.Machine

open Sys2Proof

/-! ## What an event does -/

/-- The owning rule of each order kind code that its row decides by `judgeOrder` (10_orders section 10.4). -/
inductive OwningRule : Nat → (List Int → State → Judged) → Prop
  | none (code : Nat) : OwningRule code ruleNone
  | setAdvance : OwningRule 2 ruleSetAdvance
  | startAdvance : OwningRule 3 ruleStartAdvance
  | pause : OwningRule 4 rulePause
  | startCutterhead : OwningRule 5 ruleStartCutterhead
  | stopCutterhead : OwningRule 6 ruleStopCutterhead
  | setMaxLevel : OwningRule 7 ruleSetMaxLevel
  | build : OwningRule 8 ruleBuild
  | abortBuild : OwningRule 9 ruleAbortBuild
  | resumeBuild : OwningRule 10 ruleResumeBuild
  | setFacePressure : OwningRule 11 ruleSetFacePressure
  | screwStart : OwningRule 12 ruleScrewStart
  | screwStop : OwningRule 13 ruleScrewStop
  | screwMode : OwningRule 14 ruleScrewMode
  | gate : OwningRule 15 ruleGate
  | groutFlush : OwningRule 16 ruleGroutFlush
  | groutWriteOff : OwningRule 17 ruleGroutWriteOff
  | ackAlarms : OwningRule 18 ruleAckAlarms
  | clearFlags : OwningRule 19 ruleClearFlags
  | clearCounters : OwningRule 20 ruleClearCounters
  | resume : OwningRule 21 ruleResume
  | restart : OwningRule 22 ruleRestart
  | setRing : OwningRule 23 ruleSetRing

/-- What an owning rule does to the station, beside its result (10_orders section 10.4). -/
inductive OrderActs (s : State) : State → Prop
  | nothing : OrderActs s s
  | setsAdvance (out : Bool) (rate bias : Int) :
      OrderActs s (setFlagIf out .clamped (s.onThu fun t => { t with rateTarget := rate, bias := bias }))
  | advances (phase : s.phase = .idle ∨ s.phase = .paused) (clear : s.thu.strokeEnd = false)
      (up : enablesUp s = true) : OrderActs s (enterAdvancing s)
  | waits (phase : s.phase = .idle ∨ s.phase = .paused) (down : enablesUp s = false) :
      OrderActs s ((s.setPhase .paused).setPauseCause .automatic)
  | pauses (phase : s.phase = .advancing) : OrderActs s (enterPaused .ordered s)
  | staysPaused (phase : s.phase = .paused) : OrderActs s (s.setPauseCause .ordered)
  | startsCutterhead (rest : s.dsu.cutterhead = .stopped ∨ s.dsu.cutterhead = .stopping) :
      OrderActs s (startCutterhead s)
  | stopsCutterhead : OrderActs s (leaveRunning .stopping s)
  | limitsLevel (out : Bool) (l : Nat) :
      OrderActs s (repropose (setFlagIf out .clamped (s.onDsu fun d => { d with consoleMax := l })))
  | entersBuilding (phase : s.phase = .idle) : OrderActs s (enterBuilding s)
  | beginsBuild (phase : s.phase = .idle) : OrderActs s (beginBuild (enterBuilding s))
  | suspends : OrderActs s (suspend s)
  | abandons (phase : s.phase = .building) : OrderActs s (endBuilding (setBuild .idle s))
  | abandonsElsewhere : OrderActs s (setBuild .idle s)
  | endsBuilding (phase : s.phase = .building) : OrderActs s (endBuilding s)
  | resumesBuild (phase : s.phase = .building) : OrderActs s (enterBuildWait s)
  | setsFace (out : Bool) (target band : Int) :
      OrderActs s (setFlagIf out .clamped (s.onBal fun b => { b with pTarget := target, band := band }))
  | startsScrew (rest : s.bal.conveyor = .stopped) :
      OrderActs s (setConveyor (if holdCause s.bal then .holding else .running) s)
  | stopsScrew : OrderActs s (setConveyor .stopped s)
  | screwAuto : OrderActs s (s.onBal fun b => { b with manual := false })
  | screwManual (out : Bool) (v : Int) :
      OrderActs s (setFlagIf out .clamped (s.onBal fun b => { b with manual := true, manualRef := v }))
  | gates (opens : Bool) : OrderActs s (holdTest (s.onBal fun b => { b with gateOpen := opens }))
  | flushes : OrderActs s (beginFlush s)
  | writesOff (ring : RingNumber) : OrderActs s (groutWriteOff ring s)
  | acknowledges : OrderActs s (s.onAlu fun a => { a with entries := a.entries.map acknowledged })
  | clearsFlags : OrderActs s (clearAllFlags s)
  | clearsCounters :
      OrderActs s (s.onLif fun l => { l with crcErrors := 0, formatErrors := 0, collisions := 0, queueDrops := 0 })
  | resumes (phase : s.phase = .halted) : OrderActs s (leaveHalted s)
  | setsRing (ring : RingNumber) : OrderActs s (s.setRing ring)

/-- What an event does before it is closed: one constructor per act of a block. -/
inductive Acts (s : State) : State → Prop
  | probeBegins (r : ImageRead) (load : s.phase = .load) : Acts s (beginProbe r s)
  | listenJoin (start : Time) : Acts s (nextListenJoin start s)
  | listenEnds (start : Time) (runs : s.cfg.listenTimer = some start) : Acts s (endListen s)
  | entryExpires (k : AlarmKind) : Acts s (moveEntry k (entryExpired (entryOf s k)) s)
  | duplicateEnds : Acts s (s.onAlu fun a => { a with duplicate := none })
  | dutyEvaluated (timer : Timer) : Acts s (dutyEvaluation (s.onDsu fun d => { d with timer := timer }))
  | watchExpires : Acts s (leaveRunning .stopping s)
  | ticks : Acts s (s.setElapsed (s.elapsed + 1))
  | residencyTicks : Acts s (residencyStep (s.setElapsed (s.elapsed + 1)))
  | balanceEvaluated (timer : Timer) : Acts s (balanceEvaluation (s.onBal fun b => { b with timer := timer }))
  | statusSent (timer : Timer) : Acts s (sendStatus (s.onLif fun l => { l with timer := timer }))
  | frameSent : Acts s (frameGone s)
  | frameCollided (k : LineSlot) : Acts s (frameCollides k s)
  | crcFails : Acts s (countCrcError (lineUsed s))
  | formFails : Acts s (countFormatError (lineUsed s))
  | ownNumberHeard : Acts s (duplicateNotice (lineUsed s))
  | statusHeard (j : Nat) (seq : Tag) (r : StatusRecord) (sector : j < 8) : Acts s (peerStatus j seq r (lineUsed s))
  | joinHeard (j : Nat) (seq : Tag) (r : JoinRecord) : Acts s (peerJoin j seq r (lineUsed s))
  | otherHeard (j : Nat) (seq : Tag) : Acts s (peerOther j seq (lineUsed s))
  | requestHeard (j : Nat) (seq : Tag) (kind : RequestKind) (ring : RingNumber) (tag : Tag) :
      Acts s (replyRequest j kind ring tag (peerOther j seq (lineUsed s)))
  | replyHeard (j : Nat) (seq : Tag) (tag : Tag) (a : Answer) :
      Acts s (replyArrival j tag a (peerOther j seq (lineUsed s)))
  | estopHeard (j : Nat) (seq : Tag) : Acts s (activateEstop (peerOther j seq (lineUsed s)))
  | peerSilent (j : Nat) (live : (peerOf s j).liveness = .live) : Acts s (changePeer j (silentEntry (peerOf s j)) s)
  | peerLost (j : Nat) (here : (peerOf s j).liveness = .silent ∨ (peerOf s j).liveness = .joining) :
      Acts s (changePeer j (lostEntry (peerOf s j)) s)
  | consoleSilences : Acts s (consoleSilent s)
  | consoleLeaves : Acts s (consoleLost s)
  | buildTimesOut : Acts s (suspendTimedOut s)
  | gripEnds : Acts s (setBuild .travel s)
  | answerMissed : Acts s (answerExpires s)
  | releaseEnds : Acts s (releaseExpires s)
  | lineBlocks : Acts s (groutBlocks s)
  | lineSets : Acts s (groutSets s)
  | flushEnds : Acts s (endFlush s)
  | orderHeard : Acts s (atOrder s)
  | orderTaken (tag : Tag) (code : Nat) (result : OrderResult) {v : State} (acts : OrderActs (atOrder s) v) :
      Acts s (echoed tag code result v)
  | estopSampled (l : Loop) : Acts s (estopSample l s)
  | channelSampled (x : FieldInputs) (c : Channel) : Acts s (arrival s x c (judgeInput c x s))
  | trialSampled (x : FieldInputs) (probe : s.phase = .probe) : Acts s (trialStep x s)
  | probeEnds (x : FieldInputs) (probe : s.phase = .probe) : Acts s (endProbe (trialStep x s))

/-- One event: an act closed by settling, or one of the few that close without (log 13). -/
inductive Moves (s : State) : State → Prop
  | taken (rest : List Instr) : Moves s (s.setPending rest)
  | closed {u : State} (acts : Acts s u) : Moves s (settle u)
  | sampleTimer (timer : Timer) : Moves s (s.onFpt fun f => { f with timer := timer })
  | powerUp (straps : Straps) : Moves s (coldStart straps s.pending)
  | configFault (load : s.phase = .load) : Moves s (enterConfigFault s)
  | faultJoin (timer : Timer) :
      Moves s (handJoin (faultJoin s) (s.onCfg fun c => { c with faultTimer := timer }))
  | transmits (idle : Nat) : Moves s (tryTransmit idle s)
  | ignored : Moves s (lineUsed s)
  | restarts (tag : Tag) (taken : s.phase = .idle ∨ s.phase = .halted) :
      Moves s (warmRestart (echoed tag 22 .accepted (atOrder s)))

/-- A run of events. -/
abbrev Runs : State → State → Prop := Relation.ReflTransGen Moves

theorem Moves.run {s t : State} (h : Moves s t) : Runs s t := .single h

theorem Acts.run {s u : State} (h : Acts s u) : Runs s (settle u) := (Moves.closed h).run

/-! ## Expiries -/

/-- An expiry command that answers has changed nothing or acted. -/
theorem runs_of_onExpiry {timer : Timer} {span : Nat} {act : Time → State → State} {s t : State}
    (he : onExpiry timer span act s = .next t) (acts : ∀ start, timer = some start → Runs s (act start s)) :
    Runs s t := by
  unfold onExpiry at he
  split at he
  next => obtain rfl := Host.Outcome.next.inj he; exact .refl
  next start =>
    split at he
    · obtain rfl := Host.Outcome.next.inj he; exact acts start rfl
    · obtain rfl := Host.Outcome.next.inj he; exact .refl

/-! ## Field samples -/

theorem runs_sampleChannels (x : FieldInputs) (cs : List Channel) (s : State) :
    Runs s (sampleChannels x cs s) := by
  induction cs generalizing s with
  | nil => exact .refl
  | cons c rest ih => exact (Acts.channelSampled x c).run.trans (ih _)

theorem runs_runSample (x : FieldInputs) (s : State) : Runs s (runSample x s) :=
  (runs_sampleChannels x channelsBefore s).trans
    ((Acts.estopSampled x.estopIn).run.trans (runs_sampleChannels x channelsAfter _))

/-- ESTOP_IN moves PROBE on no phase. -/
theorem settle_estopSample_probe {l : Loop} {s : State} (hp : s.phase = .probe) :
    (settle (estopSample l s)).phase = .probe := by
  rw [settle_phase_stays] <;> simp [hp, Phase.halts]

theorem runs_fieldSample (x : FieldInputs) (s : State) : Runs s (fieldSample x s) := by
  unfold fieldSample
  split
  next hp =>
    refine (Acts.estopSampled x.estopIn).run.trans ?_
    dsimp only
    split
    · exact (Acts.probeEnds x (settle_estopSample_probe hp)).run
    · exact (Acts.trialSampled x (settle_estopSample_probe hp)).run
  next => exact runs_runSample x s

/-! ## Frames heard -/

/-- A valid frame of a kind other than ORDER comes from a sector. -/
theorem source_lt_eight {nS : Nat} {chars : Chars} {h : Header} {b : Body}
    (hv : judge nS chars = .valid h b) (hb : b.kindCode ≠ 3) : h.source < 8 := by
  unfold judge at hv
  split at hv
  · cases hv
  split at hv
  · cases hv
  split at hv
  · cases hv
  simp only [checkForm] at hv
  split at hv
  · cases hv
  split at hv
  · cases hv
  split at hv
  · cases hv
  split at hv
  · cases hv
  split at hv
  · cases hv
  rename_i haddr
  split at hv
  · cases hv
  split at hv
  · cases hv
  rename_i body hread
  obtain ⟨rfl, rfl⟩ := Heard.valid.inj hv
  rw [← Laws.readBody_kindCode hread] at haddr
  revert haddr hb
  cases body <;> simp only [addressed, Body.kindCode] <;> simp <;> omega

/-- A transmission heard on a row has changed nothing but the line, brought one of the three notices of a
reception, or done what the row's own frame does. -/
theorem runs_of_hearClosed {chars : Chars} {act : Header → Body → State → Option State} {s t : State}
    (he : hearClosed chars act s = .next t)
    (acts : ∀ h b u, judge s.cfg.image.nS chars = .valid h b → act h b (lineUsed s) = some u → Runs s u) :
    Runs s t := by
  unfold hearClosed at he
  split at he
  · obtain rfl := Host.Outcome.next.inj he; exact Moves.ignored.run
  · split at he
    next => obtain rfl := Host.Outcome.next.inj he; exact Moves.ignored.run
    next => obtain rfl := Host.Outcome.next.inj he; exact Acts.crcFails.run
    next => obtain rfl := Host.Outcome.next.inj he; exact Acts.formFails.run
    next h b hv =>
      split at he
      · obtain rfl := Host.Outcome.next.inj he; exact Acts.ownNumberHeard.run
      · split at he
        · cases he
        next u hu => obtain rfl := Host.Outcome.next.inj he; exact acts h b u hv hu

theorem runs_of_hear {chars : Chars} {act : Header → Body → State → Option State} {s t : State}
    (he : hear chars act s = .next t)
    (acts : ∀ h b u, judge s.cfg.image.nS chars = .valid h b → act h b (lineUsed s) = some u → Acts s u) :
    Runs s t :=
  runs_of_hearClosed he fun h b u hv hu => by
    obtain ⟨v, hact, rfl⟩ := Option.map_eq_some_iff.1 hu
    exact (acts h b v hv hact).run

/-! ## Orders heard -/

/-- Every owning rule does one of the acts of `OrderActs`. -/
theorem orderActs_of_rule {code : Nat} {rule : List Int → State → Judged} (owns : OwningRule code rule)
    (params : List Int) (s : State) : OrderActs s (rule params s).2 := by
  cases owns with
  | none | restart => exact .nothing
  | setAdvance => exact .setsAdvance _ _ _
  | startAdvance =>
    unfold ruleStartAdvance
    split
    next h =>
      obtain ⟨phase, -, clear⟩ := h
      split
      next up => exact .advances phase clear up
      next down => exact .waits phase (by simpa using down)
    next => exact .nothing
  | pause =>
    unfold rulePause
    split
    next h => exact .pauses h
    next =>
      split
      next h =>
        split
        · exact .nothing
        · exact .staysPaused h
      next => exact .nothing
  | startCutterhead =>
    cases h : s.dsu.cutterhead with
    | starting | running | tripped => simp only [ruleStartCutterhead, h]; exact .nothing
    | stopped =>
      simp only [ruleStartCutterhead, h]
      split
      · exact .startsCutterhead (.inl h)
      · exact .nothing
    | stopping =>
      simp only [ruleStartCutterhead, h]
      split
      · exact .startsCutterhead (.inr h)
      · exact .nothing
  | stopCutterhead =>
    cases h : s.dsu.cutterhead with
    | starting | running => simp only [ruleStopCutterhead, h]; exact .stopsCutterhead
    | stopping | stopped | tripped => simp only [ruleStopCutterhead, h]; exact .nothing
  | setMaxLevel => exact .limitsLevel _ _
  | build =>
    unfold ruleBuild
    split
    next taken =>
      have idle : s.phase = .idle := by
        simp only [buildTaken, Bool.and_eq_true, decide_eq_true_eq] at taken
        exact taken.1.1.1
      split
      · exact .beginsBuild idle
      · exact .entersBuilding idle
    next => exact .nothing
  | abortBuild =>
    unfold ruleAbortBuild abortHere abortElsewhere
    split
    · split
      · exact .suspends
      · split
        · split
          · exact .nothing
          · dsimp only
            split
            next h => exact .abandons h
            next => exact .abandonsElsewhere
        · split
          next h => exact .endsBuilding h.1
          next => exact .nothing
    · split
      next h =>
        split
        · exact .endsBuilding h.1
        · exact .nothing
      next => exact .nothing
  | resumeBuild =>
    unfold ruleResumeBuild
    split
    next h => exact .resumesBuild h.2.1
    next => exact .nothing
  | setFacePressure => exact .setsFace _ _ _
  | screwStart =>
    unfold ruleScrewStart
    split
    next => exact .nothing
    next =>
      cases h : s.bal.conveyor with
      | stopped => exact .startsScrew h
      | fault | running | holding => exact .nothing
  | screwStop =>
    cases h : s.bal.conveyor with
    | running | holding => simp only [ruleScrewStop, h]; exact .stopsScrew
    | stopped => simp only [ruleScrewStop, h]; exact .nothing
    | fault =>
      simp only [ruleScrewStop, h]
      split
      · exact .stopsScrew
      · exact .nothing
  | screwMode =>
    unfold ruleScrewMode
    split
    · exact .screwAuto
    · exact .screwManual _ _
  | gate =>
    unfold ruleGate
    dsimp only
    split
    · exact .nothing
    · exact .gates _
  | groutFlush =>
    unfold ruleGroutFlush
    split
    next => exact .nothing
    next =>
      cases s.gru.line with
      | idle | blocked | needsFlush => exact .flushes
      | flushing | pumping | pressureHold | absent => exact .nothing
  | groutWriteOff =>
    unfold ruleGroutWriteOff
    split
    · exact .nothing
    · split
      · exact .nothing
      · exact .writesOff _
  | ackAlarms => exact .acknowledges
  | clearFlags => exact .clearsFlags
  | clearCounters => exact .clearsCounters
  | resume =>
    unfold ruleResume
    split
    next h =>
      split
      · exact .nothing
      · exact .resumes h
    next => exact .nothing
  | setRing =>
    unfold ruleSetRing
    split
    · exact .setsRing _
    · exact .nothing

/-- What R187's checks and an owning rule make of an order, as an act. -/
theorem acts_handleOrder (dest : Nat) (tag : Tag) {code : Nat} {rule : List Int → State → Judged}
    (params : List Int) (owns : OwningRule code rule) (s : State) :
    Acts s (handleOrder dest tag code params rule (atOrder s)) := by
  have refused (result : OrderResult) : Acts s (writeEcho tag code (result, atOrder s)) :=
    .orderTaken tag code result .nothing
  unfold handleOrder
  split
  · unfold judgeOrder
    split
    · exact refused .refusedRange
    · split
      · exact refused .refusedState
      · split
        · exact refused .notApplicable
        · split
          · exact refused .refusedRange
          · exact .orderTaken tag code _ (orderActs_of_rule owns params (atOrder s))
  · exact .orderHeard

theorem runs_of_orderRow {chars : Chars} {fits : Nat → List Int → Bool} {rule : List Int → State → Judged}
    {s t : State} (he : hear chars (orderHeard fits rule) s = .next t)
    (owns : ∀ code params, fits code params = true → OwningRule code rule) : Runs s t :=
  runs_of_hear he fun h b u _ hu => by
    cases b with
    | order tag code params =>
      simp only [orderHeard] at hu
      split at hu
      next hf =>
        obtain rfl := Option.some.inj hu
        exact acts_handleOrder h.dest tag params (owns code params hf) s
      · cases hu
    | _ => simp [orderHeard] at hu

/-- The row of one order kind code. -/
theorem runs_of_codeRow {chars : Chars} {code : Nat} {rule : List Int → State → Judged} {s t : State}
    (he : hear chars (orderHeard (ofCode code) rule) s = .next t) (owns : OwningRule code rule) : Runs s t :=
  runs_of_orderRow he fun c params hc => by
    obtain rfl : c = code := by simpa [ofCode] using hc
    exact owns

/-- RESTART_STATION: the restart where ORU accepts it, and otherwise an order like any other. -/
theorem runs_handleRestart (dest : Nat) (tag : Tag) (params : List Int) (s : State) :
    Runs s (handleRestart dest tag params (atOrder s)) := by
  unfold handleRestart
  dsimp only
  split
  next h =>
    obtain ⟨htakes, haccepted⟩ := h
    have judged : judgeOrder 22 params ruleRestart (atOrder s) = (.accepted, atOrder s) ∧
        (s.phase = .idle ∨ s.phase = .halted) := by
      generalize hu : atOrder s = u at haccepted
      have hphase : u.phase = s.phase := by rw [← hu]; rfl
      rw [← hphase]
      revert haccepted
      unfold judgeOrder ruleRestart restartTaken
      (repeat' split) <;> simp_all
    rw [handleOrder, if_pos htakes, judged.1]
    exact (Moves.restarts tag judged.2).run
  next => exact (acts_handleOrder dest tag params .restart s).run

/-! ## Every command -/

theorem runs_execLoadEnd {read : Option ImageRead} {s t : State} (he : execLoadEnd read s = .next t) :
    Runs s t := by
  unfold execLoadEnd at he
  split at he
  next load =>
    split at he
    · obtain rfl := Host.Outcome.next.inj he; exact (Moves.configFault load).run
    next r =>
      split at he
      · obtain rfl := Host.Outcome.next.inj he; exact (Acts.probeBegins r load).run
      · obtain rfl := Host.Outcome.next.inj he; exact (Moves.configFault load).run
  next => obtain rfl := Host.Outcome.next.inj he; exact .refl

theorem runs_execReceptionEarlyEnd {chars : Chars} {s t : State}
    (he : execReceptionEarlyEnd chars s = .next t) : Runs s t := by
  unfold execReceptionEarlyEnd at he
  split at he
  · obtain rfl := Host.Outcome.next.inj he; exact Moves.ignored.run
  · split at he
    · cases he
    · split at he
      · obtain rfl := Host.Outcome.next.inj he; exact Acts.crcFails.run
      · obtain rfl := Host.Outcome.next.inj he; exact Moves.ignored.run

theorem runs_execRequest {kind : RequestKind} {chars : Chars} {s t : State}
    (he : hear chars (requestHeard kind) s = .next t) : Runs s t :=
  runs_of_hear he fun h b u _ hu => by
    cases b with
    | request k ring tag =>
      simp only [requestHeard] at hu
      split at hu
      · obtain rfl := Option.some.inj hu
        split
        · exact .requestHeard h.source h.seq k ring tag
        · exact .otherHeard h.source h.seq
      · cases hu
    | _ => simp [requestHeard] at hu

/-- What a command that answers a next state comes to. -/
theorem runs_of_exec {i : Instr} {s t : State} (he : exec i s = .next t) : Runs s t := by
  cases i with
  | powerUp straps => obtain rfl := Host.Outcome.next.inj he; exact (Moves.powerUp straps).run
  | loadEnd read => exact runs_execLoadEnd he
  | faultJoinTimerExpiry =>
    simp only [exec, execFaultJoinTimerExpiry] at he
    refine runs_of_onExpiry he fun start _ => ?_
    exact (Moves.faultJoin _).run
  | listenJoinTimerExpiry =>
    simp only [exec, execListenJoinTimerExpiry] at he
    refine runs_of_onExpiry he fun start _ => ?_
    exact (Acts.listenJoin start).run
  | listenEnd =>
    simp only [exec, execListenEnd] at he
    refine runs_of_onExpiry he fun start h => ?_
    exact (Acts.listenEnds start h).run
  | fieldSampleExpiry x =>
    simp only [exec, execFieldSampleExpiry] at he
    refine runs_of_onExpiry he fun start _ => ?_
    exact (Moves.sampleTimer _).run.trans (runs_fieldSample x _)
  | alarmPersistenceExpiry k =>
    simp only [exec, execAlarmPersistenceExpiry] at he
    refine runs_of_onExpiry he fun _ _ => ?_
    exact (Acts.entryExpires k).run
  | duplicateStationExpiry =>
    simp only [exec, execDuplicateStationExpiry] at he
    refine runs_of_onExpiry he fun _ _ => ?_
    exact Acts.duplicateEnds.run
  | dutyEvaluationExpiry =>
    simp only [exec, execDutyEvaluationExpiry] at he
    refine runs_of_onExpiry he fun _ _ => ?_
    exact (Acts.dutyEvaluated _).run
  | startWatchExpiry peer =>
    simp only [exec, execStartWatchExpiry] at he
    split at he
    · obtain rfl := Host.Outcome.next.inj he; exact Acts.watchExpires.run
    · obtain rfl := Host.Outcome.next.inj he; exact .refl
  | residencyTick =>
    simp only [exec, execResidencyTick] at he
    obtain rfl := Host.Outcome.next.inj he
    split
    · exact Acts.residencyTicks.run
    · exact Acts.ticks.run
  | balanceEvaluationExpiry =>
    simp only [exec, execBalanceEvaluationExpiry] at he
    refine runs_of_onExpiry he fun _ _ => ?_
    exact (Acts.balanceEvaluated _).run
  | statusTimerExpiry =>
    simp only [exec, execStatusTimerExpiry] at he
    refine runs_of_onExpiry he fun _ _ => ?_
    exact (Acts.statusSent _).run
  | transmitStart idle =>
    simp only [exec, execTransmitStart] at he
    split at he
    · obtain rfl := Host.Outcome.next.inj he; exact (Moves.transmits idle).run
    · obtain rfl := Host.Outcome.next.inj he; exact .refl
  | frameSent =>
    simp only [exec, execFrameSent] at he
    split at he
    · obtain rfl := Host.Outcome.next.inj he; exact Acts.frameSent.run
    · obtain rfl := Host.Outcome.next.inj he; exact .refl
  | collision =>
    simp only [exec, execCollision] at he
    split at he
    · obtain rfl := Host.Outcome.next.inj he; exact .refl
    next k _ => obtain rfl := Host.Outcome.next.inj he; exact (Acts.frameCollided k).run
  | receptionEarlyEnd chars => exact runs_execReceptionEarlyEnd he
  | status chars =>
    exact runs_of_hear he fun h b u hv hu => by
      cases b <;> simp only [statusHeard, reduceCtorEq] at hu
      cases hu; exact .statusHeard h.source h.seq _ (source_lt_eight hv (by simp [Body.kindCode]))
  | join chars =>
    exact runs_of_hear he fun h b u hv hu => by
      cases b <;> simp only [joinHeard, reduceCtorEq] at hu
      cases hu; exact .joinHeard h.source h.seq _
  | retractGroup chars => exact runs_execRequest he
  | extendGroup chars => exact runs_execRequest he
  | reply chars =>
    exact runs_of_hear he fun h b u hv hu => by
      cases b <;> simp only [replyHeard, reduceCtorEq] at hu
      split at hu <;> cases hu
      · exact .replyHeard h.source h.seq _ _
      · exact .otherHeard h.source h.seq
  | alarm chars =>
    exact runs_of_hear he fun h b u hv hu => by
      cases b <;> simp only [alarmHeard, reduceCtorEq] at hu
      split at hu <;> cases hu
      · exact .estopHeard h.source h.seq
      · exact .otherHeard h.source h.seq
  | ringReport chars =>
    exact runs_of_hear he fun h b u hv hu => by
      cases b <;> simp only [ringReportHeard, reduceCtorEq] at hu
      cases hu; exact .otherHeard h.source h.seq
  | peerLiveTimeout peer =>
    simp only [exec, execPeerLiveTimeout] at he
    split at he
    next live =>
      refine runs_of_onExpiry he fun _ _ => ?_
      exact (Acts.peerSilent peer live).run
    · obtain rfl := Host.Outcome.next.inj he; exact .refl
  | peerSilentTimeout peer =>
    simp only [exec, execPeerSilentTimeout] at he
    split at he
    next silent =>
      refine runs_of_onExpiry he fun _ _ => ?_
      exact (Acts.peerLost peer (.inl silent)).run
    · obtain rfl := Host.Outcome.next.inj he; exact .refl
  | peerJoiningTimeout peer =>
    simp only [exec, execPeerJoiningTimeout] at he
    split at he
    next joining =>
      refine runs_of_onExpiry he fun _ _ => ?_
      exact (Acts.peerLost peer (.inr joining)).run
    · obtain rfl := Host.Outcome.next.inj he; exact .refl
  | consoleSilentExpiry =>
    simp only [exec, execConsoleSilentExpiry] at he
    split at he
    · refine runs_of_onExpiry he fun _ _ => ?_
      exact Acts.consoleSilences.run
    · obtain rfl := Host.Outcome.next.inj he; exact .refl
  | consoleLostExpiry =>
    simp only [exec, execConsoleLostExpiry] at he
    refine runs_of_onExpiry he fun _ _ => ?_
    exact Acts.consoleLeaves.run
  | stepTimerExpiry =>
    simp only [exec, execStepTimerExpiry] at he
    refine runs_of_onExpiry he fun _ _ => ?_
    exact Acts.buildTimesOut.run
  | gripTimerExpiry =>
    simp only [exec, execGripTimerExpiry] at he
    refine runs_of_onExpiry he fun _ _ => ?_
    exact Acts.gripEnds.run
  | retractTimerExpiry =>
    simp only [exec, execRetractTimerExpiry] at he
    refine runs_of_onExpiry he fun _ _ => ?_
    exact Acts.buildTimesOut.run
  | extendTimerExpiry =>
    simp only [exec, execExtendTimerExpiry] at he
    refine runs_of_onExpiry he fun _ _ => ?_
    exact Acts.buildTimesOut.run
  | answerWaitExpiry =>
    simp only [exec, execAnswerWaitExpiry] at he
    refine runs_of_onExpiry he fun _ _ => ?_
    exact Acts.answerMissed.run
  | releaseTimerExpiry =>
    simp only [exec, execReleaseTimerExpiry] at he
    refine runs_of_onExpiry he fun _ _ => ?_
    exact Acts.releaseEnds.run
  | blockTimerExpiry =>
    simp only [exec, execBlockTimerExpiry] at he
    refine runs_of_onExpiry he fun _ _ => ?_
    exact Acts.lineBlocks.run
  | settingTimerExpiry =>
    simp only [exec, execSettingTimerExpiry] at he
    refine runs_of_onExpiry he fun _ _ => ?_
    exact Acts.lineSets.run
  | flushTimerExpiry =>
    simp only [exec, execFlushTimerExpiry] at he
    split at he
    · obtain rfl := Host.Outcome.next.inj he; exact Acts.flushEnds.run
    · obtain rfl := Host.Outcome.next.inj he; exact .refl
  | keepalive chars => exact runs_of_codeRow he (.none 1)
  | setAdvance chars => exact runs_of_codeRow he .setAdvance
  | startAdvance chars => exact runs_of_codeRow he .startAdvance
  | pause chars => exact runs_of_codeRow he .pause
  | startCutterhead chars => exact runs_of_codeRow he .startCutterhead
  | stopCutterhead chars => exact runs_of_codeRow he .stopCutterhead
  | setMaxLevel chars => exact runs_of_codeRow he .setMaxLevel
  | build chars => exact runs_of_codeRow he .build
  | abortBuild chars => exact runs_of_codeRow he .abortBuild
  | resumeBuild chars => exact runs_of_codeRow he .resumeBuild
  | setFacePressure chars => exact runs_of_codeRow he .setFacePressure
  | screwStart chars => exact runs_of_codeRow he .screwStart
  | screwStop chars => exact runs_of_codeRow he .screwStop
  | screwMode chars => exact runs_of_codeRow he .screwMode
  | gate chars => exact runs_of_codeRow he .gate
  | groutFlush chars => exact runs_of_codeRow he .groutFlush
  | groutWriteOff chars => exact runs_of_codeRow he .groutWriteOff
  | ackAlarms chars => exact runs_of_codeRow he .ackAlarms
  | clearFlags chars => exact runs_of_codeRow he .clearFlags
  | clearCounters chars => exact runs_of_codeRow he .clearCounters
  | resume chars => exact runs_of_codeRow he .resume
  | restartStation chars =>
    exact runs_of_hearClosed he fun h b u hv hu => by
      cases b <;> simp only [restartHeard, reduceCtorEq] at hu
      case order tag code params =>
        split at hu <;> cases hu
        exact runs_handleRestart h.dest tag params s
  | setRing chars => exact runs_of_codeRow he .setRing
  | orderUndefinedKind chars => exact runs_of_orderRow he fun code _ _ => .none code

/-! ## Every step -/

theorem runs_of_step {s t : State} (h : step s = .next t) : Runs s t := by
  unfold step at h
  split at h
  · cases h; exact .refl
  next c rest _ => exact (Moves.taken rest).run.trans (runs_of_exec h)

/-- A run of events keeps what every event keeps. -/
theorem Runs.keeps {P : State → Prop} (moves : ∀ s t, P s → Moves s t → P t) {s t : State} (h : Runs s t)
    (hs : P s) : P t := by
  induction h with
  | refl => exact hs
  | tail _ move ih => exact moves _ _ ih move

/-- A step keeps what every event keeps. -/
theorem step_keeps {P : State → Prop} (moves : ∀ s t, P s → Moves s t → P t) {s t : State} (hs : P s)
    (h : step s = .next t) : P t :=
  (runs_of_step h).keeps moves hs

end Sys2Proof.Machine
end

section
/-! What the trials, the residency and an order's own frame leave unchanged, beside the laws of the model's
files. -/

namespace Sys2Proof.Machine

open Sys2Proof

theorem driveTrial_frame (ready : Loop) (motor readyChannel : Channel) (release : State → State)
    (s : State) (hr : ∃ b, release = writeEnable0 b ∨ release = writeEnable1 b) :
    (driveTrial ready motor readyChannel release s).elapsed = s.elapsed ∧
    (driveTrial ready motor readyChannel release s).phase = s.phase ∧
    (driveTrial ready motor readyChannel release s).pauseCause = s.pauseCause ∧
    (driveTrial ready motor readyChannel release s).ring = s.ring ∧
    (driveTrial ready motor readyChannel release s).cfg = s.cfg ∧
    (driveTrial ready motor readyChannel release s).ptb = s.ptb ∧
    (driveTrial ready motor readyChannel release s).dsu = s.dsu ∧
    (driveTrial ready motor readyChannel release s).thu = s.thu ∧
    (driveTrial ready motor readyChannel release s).bsq = s.bsq ∧
    (driveTrial ready motor readyChannel release s).gru = s.gru ∧
    (driveTrial ready motor readyChannel release s).bal = s.bal ∧
    (driveTrial ready motor readyChannel release s).alu.active = s.alu.active ∧
    (driveTrial ready motor readyChannel release s).alu.entries = s.alu.entries ∧
    (driveTrial ready motor readyChannel release s).alu.estop = s.alu.estop ∧
    (driveTrial ready motor readyChannel release s).alu.duplicate = s.alu.duplicate ∧
    (driveTrial ready motor readyChannel release s).fpt.timer = s.fpt.timer ∧
    (driveTrial ready motor readyChannel release s).fpt.estopIn = s.fpt.estopIn ∧
    (driveTrial ready motor readyChannel release s).fpt.forced = s.fpt.forced ∧
    (driveTrial ready motor readyChannel release s).lif = s.lif := by
  obtain ⟨b, rfl | rfl⟩ := hr <;> unfold driveTrial <;> dsimp only <;> (repeat' split) <;> simp

@[simp] theorem trialStep_frame (x : FieldInputs) (s : State) :
    (trialStep x s).elapsed = s.elapsed ∧ (trialStep x s).phase = s.phase ∧
    (trialStep x s).pauseCause = s.pauseCause ∧ (trialStep x s).ring = s.ring ∧
    (trialStep x s).cfg = s.cfg ∧ (trialStep x s).ptb = s.ptb ∧ (trialStep x s).dsu = s.dsu ∧
    (trialStep x s).thu = s.thu ∧ (trialStep x s).bsq = s.bsq ∧ (trialStep x s).gru = s.gru ∧
    (trialStep x s).bal = s.bal ∧ (trialStep x s).alu.active = s.alu.active ∧
    (trialStep x s).alu.entries = s.alu.entries ∧ (trialStep x s).alu.estop = s.alu.estop ∧
    (trialStep x s).alu.duplicate = s.alu.duplicate ∧ (trialStep x s).fpt.timer = s.fpt.timer ∧
    (trialStep x s).fpt.estopIn = s.fpt.estopIn ∧ (trialStep x s).fpt.forced = s.fpt.forced ∧
    (trialStep x s).lif = s.lif := by
  unfold trialStep
  split
  · exact driveTrial_frame _ _ _ _ s ⟨false, .inl rfl⟩
  · split
    · exact driveTrial_frame _ _ _ _ s ⟨false, .inr rfl⟩
    · split <;> simp

@[simp] theorem residencyStep_frame (s : State) :
    (residencyStep s).elapsed = s.elapsed ∧ (residencyStep s).phase = s.phase ∧
    (residencyStep s).pauseCause = s.pauseCause ∧ (residencyStep s).ring = s.ring ∧
    (residencyStep s).cfg = s.cfg ∧ (residencyStep s).ptb = s.ptb ∧ (residencyStep s).oru = s.oru ∧
    (residencyStep s).thu = s.thu ∧ (residencyStep s).bsq = s.bsq ∧ (residencyStep s).gru = s.gru ∧
    (residencyStep s).bal = s.bal ∧ (residencyStep s).fpt = s.fpt ∧ (residencyStep s).lif = s.lif ∧
    (residencyStep s).alu.active = s.alu.active ∧ (residencyStep s).alu.entries = s.alu.entries ∧
    (residencyStep s).alu.estop = s.alu.estop ∧ (residencyStep s).alu.duplicate = s.alu.duplicate ∧
    (residencyStep s).dsu =
      { s.dsu with
        residency := putAt s.dsu.residency s.dsu.applied
          (min 4294967295 (s.dsu.residency.getD s.dsu.applied 0 + 1)) } := by
  simp [residencyStep]

@[simp] theorem consoleSilent_frame (s : State) :
    (consoleSilent s).elapsed = s.elapsed ∧ (consoleSilent s).phase = s.phase ∧
    (consoleSilent s).pauseCause = s.pauseCause ∧ (consoleSilent s).ring = s.ring ∧
    (consoleSilent s).cfg = s.cfg ∧ (consoleSilent s).oru = s.oru ∧ (consoleSilent s).dsu = s.dsu ∧
    (consoleSilent s).thu = s.thu ∧ (consoleSilent s).bsq = s.bsq ∧ (consoleSilent s).gru = s.gru ∧
    (consoleSilent s).bal = s.bal ∧ (consoleSilent s).alu = s.alu ∧ (consoleSilent s).fpt = s.fpt ∧
    (consoleSilent s).lif = s.lif ∧ (consoleSilent s).ptb.peers = s.ptb.peers ∧
    (consoleSilent s).ptb.endOfListen = s.ptb.endOfListen ∧ (consoleSilent s).ptb.erector = s.ptb.erector ∧
    (consoleSilent s).ptb.conveyor = s.ptb.conveyor ∧ (consoleSilent s).ptb.exErector = s.ptb.exErector ∧
    (consoleSilent s).ptb.exConveyor = s.ptb.exConveyor := by
  simp [consoleSilent]

@[simp] theorem atOrder_frame (s : State) :
    (atOrder s).pending = s.pending ∧ (atOrder s).elapsed = s.elapsed ∧ (atOrder s).phase = s.phase ∧
    (atOrder s).pauseCause = s.pauseCause ∧ (atOrder s).ring = s.ring ∧ (atOrder s).cfg = s.cfg ∧
    (atOrder s).oru = s.oru ∧ (atOrder s).dsu = s.dsu ∧ (atOrder s).thu = s.thu ∧
    (atOrder s).bsq = s.bsq ∧ (atOrder s).gru = s.gru ∧ (atOrder s).bal = s.bal ∧
    (atOrder s).alu = s.alu ∧ (atOrder s).fpt = s.fpt ∧
    (atOrder s).lif = { s.lif with idle := 0, abandoned := false } ∧
    (atOrder s).ptb = { s.ptb with console := { liveness := .live, lastOrder := some s.elapsed } } := by
  simp [atOrder]

@[simp] theorem echoed_frame (tag : Tag) (code : Nat) (result : OrderResult) (s : State) :
    (echoed tag code result s).pending = s.pending ∧ (echoed tag code result s).elapsed = s.elapsed ∧
    (echoed tag code result s).phase = s.phase ∧ (echoed tag code result s).pauseCause = s.pauseCause ∧
    (echoed tag code result s).ring = s.ring ∧ (echoed tag code result s).cfg = s.cfg ∧
    (echoed tag code result s).ptb = s.ptb ∧ (echoed tag code result s).dsu = s.dsu ∧
    (echoed tag code result s).thu = s.thu ∧ (echoed tag code result s).bsq = s.bsq ∧
    (echoed tag code result s).gru = s.gru ∧ (echoed tag code result s).bal = s.bal ∧
    (echoed tag code result s).alu = s.alu ∧ (echoed tag code result s).fpt = s.fpt ∧
    (echoed tag code result s).lif = s.lif := by
  simp [echoed]

end Sys2Proof.Machine
end

section
/-! What GRU's ledger can do: every event leaves it alone or moves it by one of the ways of `LedgerMove`, so an
invariant of the ledger is checked against those alone. -/

namespace Sys2Proof.Machine

open Sys2Proof

/-! ## The ledger -/

/-- GRU's books: the demand queue, its three totals and the remainder. -/
structure Ledger where
  queue : List Parcel
  posted : Int
  delivered : Int
  writtenOff : Int
  remG : Int

def ledgerOf (g : GruState) : Ledger :=
  { queue := g.queue, posted := g.posted, delivered := g.delivered, writtenOff := g.writtenOff, remG := g.remG }

/-- The ways an event moves the ledger (R99 to R104, R106, R115). -/
inductive LedgerMove (l : Ledger) : Ledger → Prop
  | owed (r : Int) (low : 0 ≤ r) (high : r < 1000000) : LedgerMove l { l with remG := r }
  | merged (d : Int) (demand : 0 < d) (tail : l.queue ≠ []) :
      LedgerMove l { l with queue := addToTail d l.queue, posted := l.posted + d }
  | appended (p : Parcel) (demand : 0 < p.volume) (room : l.queue.length < 16)
      (later : ∀ t ∈ l.queue.getLast?, t.ring.toNat ≤ p.ring.toNat) :
      LedgerMove l { l with queue := l.queue ++ [p], posted := l.posted + p.volume }
  | credited :
      LedgerMove l
        { l with
          queue := (creditQueue l.queue 10).1, delivered := l.delivered + (creditQueue l.queue 10).2.1 }
  | wroteOff (ring : RingNumber) :
      LedgerMove l
        { l with
          queue := l.queue.filter fun p => decide (p.ring ≠ ring)
          writtenOff := l.writtenOff + volumeOf (l.queue.filter fun p => decide (p.ring = ring)) }
  | marksCleared : LedgerMove l { l with queue := l.queue.map fun p => { p with current := false } }
  | restarted : LedgerMove l (ledgerOf GruState.cold)

/-- The ledger after any number of moves. -/
abbrev LedgerRun : Ledger → Ledger → Prop := Relation.ReflTransGen LedgerMove

theorem LedgerMove.run {l m : Ledger} (h : LedgerMove l m) : LedgerRun l m := .single h

theorem ledgerRun_of_eq {l m : Ledger} (h : m = l) : LedgerRun l m := h ▸ .refl

/-! ## What GRU's operations do to it -/

theorem postingRing_ge_tail {s : State} {t : Parcel} (h : t ∈ s.gru.queue.getLast?) :
    t.ring.toNat ≤ (postingRing s).toNat := by
  unfold postingRing
  rw [Option.mem_def.1 h]
  dsimp only
  split <;> omega

theorem ledgerRun_postDemand {d : Int} (hd : 0 < d) (s : State) :
    LedgerRun (ledgerOf s.gru) (ledgerOf (postDemand d s).gru) := by
  have hl : ledgerOf (postDemand d s).gru =
      { ledgerOf s.gru with queue := queueAfterPosting d s, posted := s.gru.posted + d } := by
    simp [ledgerOf, postDemand]
  rw [hl]
  unfold queueAfterPosting
  split
  next h =>
    refine (LedgerMove.merged d hd ?_).run
    rintro hq
    have hq : s.gru.queue = [] := hq
    simp [hq, Config.parcelLimit, mergesIntoTail] at h
  next h =>
    simp only [Bool.or_eq_true, decide_eq_true_eq, not_or, not_le] at h
    exact (LedgerMove.appended (newParcel d s) hd h.1 fun t ht => postingRing_ge_tail ht).run

theorem ledgerRun_groutIncrement (ds : Int) (s : State) :
    LedgerRun (ledgerOf s.gru) (ledgerOf (groutIncrement ds s).gru) := by
  unfold groutIncrement
  split
  · exact .refl
  · have owed : LedgerMove (ledgerOf s.gru)
        (ledgerOf (s.onGru fun g => { g with remG := groutOwed ds s % 1000000 }).gru) :=
      .owed (groutOwed ds s % 1000000) (by omega) (by omega)
    dsimp only
    split
    next hd => exact owed.run.trans (ledgerRun_postDemand hd _)
    next => exact owed.run

theorem ledgerRun_groutPulse (s : State) : LedgerRun (ledgerOf s.gru) (ledgerOf (groutPulse s).gru) := by
  have credited : LedgerRun (ledgerOf s.gru) (ledgerOf (creditPulse s).gru) := by
    have hl : ledgerOf (creditPulse s).gru =
        { ledgerOf s.gru with
          queue := (creditQueue s.gru.queue 10).1
          delivered := s.gru.delivered + (creditQueue s.gru.queue 10).2.1 } := by
      simp [ledgerOf, creditPulse]
    exact hl ▸ LedgerMove.credited.run
  unfold groutPulse
  split
  · exact .refl
  · exact .refl
  · simpa [ledgerOf] using credited
  · simpa [ledgerOf] using credited
  · simpa [ledgerOf] using credited
  · exact credited
  · exact credited

theorem ledgerRun_groutPulses (n : Nat) (s : State) :
    LedgerRun (ledgerOf s.gru) (ledgerOf (groutPulses n s).gru) := by
  induction n generalizing s with
  | zero => exact .refl
  | succ n ih => exact (ledgerRun_groutPulse s).trans (ih _)

theorem ledgerRun_strokeArrival (s : State) :
    LedgerRun (ledgerOf s.gru) (ledgerOf (strokeArrival s).gru) := by
  have h : LedgerRun (ledgerOf s.gru)
      (ledgerOf (addIncrement (ownIncrement s (takeStroke s)) (rememberCounters (takeStroke s))).gru) := by
    unfold addIncrement
    dsimp only
    split
    · simpa using ledgerRun_groutIncrement (ownIncrement s (takeStroke s))
        (setFlagIf (outside 0 250000 ((rememberCounters (takeStroke s)).thu.counter +
          ownIncrement s (takeStroke s))) .clamped ((rememberCounters (takeStroke s)).onThu fun t =>
            { t with counter := clamp 0 250000 (t.counter + ownIncrement s (takeStroke s)) }))
    · exact ledgerRun_of_eq (by simp)
  simpa [strokeArrival] using h

theorem ledgerRun_arrival (before : State) (x : FieldInputs) (c : Channel) (s : State) :
    LedgerRun (ledgerOf s.gru) (ledgerOf (arrival before x c s).gru) := by
  cases c with
  | stroke => simpa [arrival] using ledgerRun_strokeArrival s
  | groutMeter =>
    simp only [arrival, meterArrival]
    split
    · exact ledgerRun_groutPulses _ s
    · exact .refl
  | feederReady | atPosition | placementDone =>
    simp only [arrival]
    split <;> exact ledgerRun_of_eq (by simp)
  | _ => exact ledgerRun_of_eq (by simp [arrival, ledgerOf])

theorem ledgerRun_closeRing (s : State) : LedgerRun (ledgerOf s.gru) (ledgerOf (closeRing s).gru) := by
  have h : ledgerOf (closeRing s).gru =
      { ledgerOf s.gru with queue := s.gru.queue.map fun p => { p with current := false } } := by
    unfold closeRing
    (repeat' split) <;> simp [ledgerOf, groutRingClose]
  exact h ▸ LedgerMove.marksCleared.run

theorem ledgerRun_releaseExpires (s : State) :
    LedgerRun (ledgerOf s.gru) (ledgerOf (releaseExpires s).gru) := by
  unfold releaseExpires
  dsimp only
  split
  · simpa [holderRingClose] using ledgerRun_closeRing (advanceRing (handFrames
      (reportFrames (setFlagIf (volumesClamp (s.onBsq fun q => { q with placed := q.placed + 1 })) .saturated
        (s.onBsq fun q => { q with placed := q.placed + 1 })))
      (setFlagIf (volumesClamp (s.onBsq fun q => { q with placed := q.placed + 1 })) .saturated
        (s.onBsq fun q => { q with placed := q.placed + 1 }))))
  · exact ledgerRun_of_eq (by simp)

theorem ledgerRun_holderHeard (j : Nat) (r : StatusRecord) (s : State) :
    LedgerRun (ledgerOf s.gru) (ledgerOf (holderHeard j r s).gru) := by
  unfold holderHeard
  split
  · dsimp only
    split
    · unfold compareRings
      split
      · simpa using ledgerRun_closeRing ((markHolderSeen r s).setRing r.ring)
      · split <;> exact ledgerRun_of_eq (by simp)
    · exact ledgerRun_of_eq (by simp)
  · exact .refl

theorem ledgerRun_peerStatus (j : Nat) (seq : Tag) (r : StatusRecord) (s : State) :
    LedgerRun (ledgerOf s.gru) (ledgerOf (peerStatus j seq r s).gru) := by
  unfold peerStatus
  dsimp only
  split
  · simpa [countedNotice] using ledgerRun_holderHeard j r (buildCountedStatus j r (driveCountedStatus j r
      (changePeer j (statusEntry s.elapsed seq r (peerOf s j)) s)))
  · exact ledgerRun_of_eq (by simp)

theorem ledgerRun_order {s u : State} (h : OrderActs s u) : LedgerRun (ledgerOf s.gru) (ledgerOf u.gru) := by
  cases h with
  | writesOff ring =>
    have h : ledgerOf (groutWriteOff ring s).gru =
        { ledgerOf s.gru with
          queue := s.gru.queue.filter fun p => decide (p.ring ≠ ring)
          writtenOff := s.gru.writtenOff + volumeOf (s.gru.queue.filter fun p => decide (p.ring = ring)) } := by
      simp [groutWriteOff, ledgerOf]
    exact h ▸ (LedgerMove.wroteOff ring).run
  | _ => exact ledgerRun_of_eq (by simp [ledgerOf])

/-! ## Every event -/

theorem acts_ledger {s u : State} (h : Acts s u) : LedgerRun (ledgerOf s.gru) (ledgerOf u.gru) := by
  cases h with
  | statusHeard j seq r => simpa using ledgerRun_peerStatus j seq r (lineUsed s)
  | releaseEnds => exact ledgerRun_releaseExpires s
  | orderTaken tag code result acts => simpa using ledgerRun_order acts
  | channelSampled x c => simpa using ledgerRun_arrival s x c (judgeInput c x s)
  | probeEnds x probe =>
    have h : ledgerOf (endProbe (trialStep x s)).gru = ledgerOf GruState.cold := by
      unfold endProbe groutActivate
      split <;> simp [ledgerOf]
    rw [h]
    exact LedgerMove.restarted.run
  | _ => exact ledgerRun_of_eq (by simp [ledgerOf])

theorem moves_ledger {s t : State} (h : Moves s t) : LedgerRun (ledgerOf s.gru) (ledgerOf t.gru) := by
  cases h with
  | closed acts => simpa [ledgerOf] using acts_ledger acts
  | powerUp straps => exact LedgerMove.restarted.run
  | _ => exact ledgerRun_of_eq (by simp [ledgerOf])

theorem step_ledger {s t : State} (h : step s = .next t) : LedgerRun (ledgerOf s.gru) (ledgerOf t.gru) :=
  (runs_of_step h).keeps (P := fun u => LedgerRun (ledgerOf s.gru) (ledgerOf u.gru))
    (fun _ _ run move => run.trans (moves_ledger move)) .refl

/-! ## The balance of R103 -/

theorem volumeOf_nil : volumeOf [] = 0 := rfl

theorem volumeOf_cons (p : Parcel) (q : List Parcel) : volumeOf (p :: q) = p.volume + volumeOf q := by
  simp [volumeOf]

theorem volumeOf_append (q r : List Parcel) : volumeOf (q ++ r) = volumeOf q + volumeOf r := by
  simp [volumeOf]

theorem volumeOf_addToTail {q : List Parcel} (hq : q ≠ []) (d : Int) :
    volumeOf (addToTail d q) = volumeOf q + d := by
  induction q with
  | nil => exact absurd rfl hq
  | cons p rest ih =>
    cases rest with
    | nil => simp [addToTail, volumeOf]
    | cons p' rest =>
      rw [addToTail, volumeOf_cons, volumeOf_cons p, ih (by simp)]
      ring

/-- What is delivered leaves the queue. -/
theorem volumeOf_creditQueue (q : List Parcel) (part : Int) :
    volumeOf (creditQueue q part).1 + (creditQueue q part).2.1 = volumeOf q := by
  induction q generalizing part with
  | nil => simp [creditQueue]
  | cons p rest ih =>
    unfold creditQueue
    split
    · simp
    · split
      · simp only [volumeOf_cons]; ring
      · have := ih (part - p.volume)
        simp only [volumeOf_cons]; linarith

theorem volumeOf_filter_ring (q : List Parcel) (ring : RingNumber) :
    volumeOf (q.filter fun p => decide (p.ring ≠ ring)) + volumeOf (q.filter fun p => decide (p.ring = ring)) =
      volumeOf q := by
  induction q with
  | nil => simp [volumeOf]
  | cons p rest ih =>
    rw [volumeOf_cons p rest, ← ih]
    by_cases h : p.ring = ring
    · simp only [h, List.filter_cons, decide_true, ne_eq, not_true, decide_false, if_true, volumeOf_cons]
      simp only [Bool.false_eq_true, if_false]
      ring
    · simp only [h, List.filter_cons, decide_false, ne_eq, not_false_iff, decide_true, if_true, volumeOf_cons]
      simp only [Bool.false_eq_true, if_false]
      ring

theorem volumeOf_clearMarks (q : List Parcel) :
    volumeOf (q.map fun p => { p with current := false }) = volumeOf q := by
  simp [volumeOf, Function.comp_def]

/-- R103: posted grout equals delivered grout, the volume outstanding and the volume written off. -/
def Ledger.Balanced (l : Ledger) : Prop := l.posted = l.delivered + volumeOf l.queue + l.writtenOff

theorem LedgerMove.balanced {l m : Ledger} (h : LedgerMove l m) (hl : l.Balanced) : m.Balanced := by
  unfold Ledger.Balanced at *
  cases h with
  | owed r => exact hl
  | merged d _ tail => rw [volumeOf_addToTail tail]; linarith
  | appended p => rw [volumeOf_append, volumeOf_cons, volumeOf_nil]; linarith
  | credited => have := volumeOf_creditQueue l.queue 10; dsimp only; linarith
  | wroteOff ring => have := volumeOf_filter_ring l.queue ring; dsimp only; linarith
  | marksCleared => rw [volumeOf_clearMarks]; exact hl
  | restarted => rfl

/-- What every move of the ledger keeps, a step keeps. -/
theorem step_keeps_ledger {P : Ledger → Prop} (moves : ∀ l m, LedgerMove l m → P l → P m) {s t : State}
    (hs : P (ledgerOf s.gru)) (h : step s = .next t) : P (ledgerOf t.gru) := by
  generalize ledgerOf t.gru = m, step_ledger h = run
  induction run with
  | refl => exact hs
  | tail _ move ih => exact moves _ _ move ih

/-! ## The order of R101 -/

/-- R101: at most 16 parcels, none empty, the ring numbers non-decreasing from head to tail. -/
def Ledger.Ordered (l : Ledger) : Prop :=
  l.queue.length ≤ 16 ∧ (∀ p ∈ l.queue, 0 < p.volume) ∧
    l.queue.Pairwise fun p q => p.ring.toNat ≤ q.ring.toNat

/-- The ring numbers alone say how the parcels are ordered. -/
theorem pairwise_rings {q : List Parcel} :
    (q.Pairwise fun p p' => p.ring.toNat ≤ p'.ring.toNat) ↔
      (q.map fun p => p.ring.toNat).Pairwise (· ≤ ·) := by
  rw [List.pairwise_map]

theorem rings_addToTail (d : Int) (q : List Parcel) :
    ((addToTail d q).map fun p => p.ring.toNat) = q.map fun p => p.ring.toNat := by
  induction q with
  | nil => rfl
  | cons p rest ih =>
    cases rest with
    | nil => simp [addToTail]
    | cons p' rest => simp only [addToTail, List.map_cons] at *; rw [ih]

theorem length_addToTail (d : Int) (q : List Parcel) : (addToTail d q).length = q.length := by
  simpa using congrArg List.length (rings_addToTail d q)

theorem volumes_addToTail {d : Int} (hd : 0 < d) {q : List Parcel} (hq : ∀ p ∈ q, 0 < p.volume) :
    ∀ p ∈ addToTail d q, 0 < p.volume := by
  induction q with
  | nil => simp [addToTail]
  | cons p rest ih =>
    cases rest with
    | nil =>
      have := hq p (by simp)
      simp only [addToTail, List.mem_singleton, forall_eq]
      omega
    | cons p' rest =>
      rw [addToTail, List.forall_mem_cons]
      exact ⟨hq p (by simp), ih fun x hx => hq x (by simp [hx])⟩

/-- A credit takes parcels off the head and leaves the others' rings as they are. -/
theorem rings_creditQueue (q : List Parcel) (part : Int) :
    ((creditQueue q part).1.map fun p => p.ring.toNat) <:+ q.map fun p => p.ring.toNat := by
  induction q generalizing part with
  | nil => simp [creditQueue]
  | cons p rest ih =>
    unfold creditQueue
    split
    · exact List.suffix_refl _
    · split
      · exact List.suffix_refl _
      · exact (ih _).trans (List.suffix_cons _ _)

theorem length_creditQueue (q : List Parcel) (part : Int) : (creditQueue q part).1.length ≤ q.length := by
  simpa using (rings_creditQueue q part).length_le

theorem volumes_creditQueue {q : List Parcel} (hq : ∀ p ∈ q, 0 < p.volume) (part : Int) :
    ∀ p ∈ (creditQueue q part).1, 0 < p.volume := by
  induction q generalizing part with
  | nil => simp [creditQueue]
  | cons p rest ih =>
    rw [List.forall_mem_cons] at hq
    unfold creditQueue
    split
    · exact List.forall_mem_cons.2 hq
    · split
      · exact List.forall_mem_cons.2 ⟨by dsimp only; omega, hq.2⟩
      · exact ih hq.2 _

/-- A later parcel at the end keeps the order. -/
theorem pairwise_append_tail {q : List Parcel} {p : Parcel}
    (hq : q.Pairwise fun p p' => p.ring.toNat ≤ p'.ring.toNat)
    (later : ∀ t ∈ q.getLast?, t.ring.toNat ≤ p.ring.toNat) :
    (q ++ [p]).Pairwise fun p p' => p.ring.toNat ≤ p'.ring.toNat := by
  rw [List.pairwise_append]
  refine ⟨hq, List.pairwise_singleton _ _, fun a ha b hb => ?_⟩
  obtain rfl := List.mem_singleton.1 hb
  have hne := List.ne_nil_of_mem ha
  exact (hq.rel_getLast_of_rel_getLast_getLast ha le_rfl).trans
    (later _ (List.getLast_mem_getLast? hne))

theorem LedgerMove.ordered {l m : Ledger} (h : LedgerMove l m) (hl : l.Ordered) : m.Ordered := by
  obtain ⟨hlen, hvol, hring⟩ := hl
  cases h with
  | owed r => exact ⟨hlen, hvol, hring⟩
  | merged d hd tail =>
    exact ⟨by rw [length_addToTail]; exact hlen, volumes_addToTail hd hvol,
      by rw [pairwise_rings, rings_addToTail, ← pairwise_rings]; exact hring⟩
  | appended p hp room later =>
    refine ⟨by simpa using room, ?_, pairwise_append_tail hring later⟩
    rw [List.forall_mem_append]
    exact ⟨hvol, by simpa using hp⟩
  | credited =>
    exact ⟨(length_creditQueue _ _).trans hlen, volumes_creditQueue hvol 10,
      pairwise_rings.2 ((pairwise_rings.1 hring).sublist (rings_creditQueue _ _).sublist)⟩
  | wroteOff ring =>
    exact ⟨(List.length_filter_le _ _).trans hlen, fun p hp => hvol p (List.mem_of_mem_filter hp),
      hring.sublist List.filter_sublist⟩
  | marksCleared =>
    refine ⟨by simpa using hlen, ?_, ?_⟩
    · simpa using hvol
    · simpa [List.pairwise_map] using hring
  | restarted => exact ⟨by simp [ledgerOf, GruState.cold], by simp [ledgerOf, GruState.cold], .nil⟩

theorem parcelsQueued_kept {s t : State} (hs : ParcelsQueued s) (h : step s = .next t) : ParcelsQueued t :=
  step_keeps_ledger (P := Ledger.Ordered) (fun _ _ move => move.ordered) hs h

/-- Settles O37: no move of the ledger breaks the balance. -/
theorem groutBalanceIsKept : Obligations.GroutBalanceIsKept := fun _ _ hs h =>
  step_keeps_ledger (P := Ledger.Balanced) (fun _ _ move => move.balanced) hs h

end Sys2Proof.Machine
end

section
/-! What the transmit queue can do (R175): every event moves it by one of the ways of `QueueMove`, and each of
those keeps its bounds and its order. -/

namespace Sys2Proof.Machine

open Sys2Proof

/-! ## The moves of the queue -/

/-- The ways an event moves the transmit queue. -/
inductive QueueMove (q : List TxFrame) : List TxFrame → Prop
  | replaced (f : TxFrame) (status : f.body.isStatus = true) : QueueMove q (replaceStatus f q)
  | entered (f : TxFrame) (room : q.length < 8)
      (single : f.body.isStatus = true → q.any (fun g => g.body.isStatus) = false) :
      QueueMove q (insertFrame f q)
  | evicted (f : TxFrame) (lower : lowerQueued f q = true)
      (single : f.body.isStatus = true → q.any (fun g => g.body.isStatus) = false) :
      QueueMove q (insertFrame f q.dropLast)
  | left : QueueMove q q.tail
  | emptied : QueueMove q []

/-- The queue after any number of moves. -/
abbrev QueueRun : List TxFrame → List TxFrame → Prop := Relation.ReflTransGen QueueMove

/-- From `s` to `u` the transmit queue has only moved. -/
def HandsOver (s u : State) : Prop := QueueRun s.lif.queue u.lif.queue

theorem HandsOver.of_eq {s u : State} (h : u.lif.queue = s.lif.queue) : HandsOver s u := by
  unfold HandsOver; rw [h]

theorem HandsOver.trans {s u v : State} (h : HandsOver s u) (k : HandsOver u v) : HandsOver s v :=
  Relation.ReflTransGen.trans h k

/-- What is done before and after without touching the queue makes no difference. -/
theorem HandsOver.congr {s u s' u' : State} (h : HandsOver s' u') (hs : s'.lif.queue = s.lif.queue)
    (hu : u.lif.queue = u'.lif.queue) : HandsOver s u := by
  unfold HandsOver at *; rwa [hu, ← hs]

theorem handsOver_handFrame (f : TxFrame) (s : State) : HandsOver s (handFrame f s) := by
  unfold handFrame
  split
  next h => exact .single (.replaced f (by simp only [Bool.and_eq_true] at h; exact h.1))
  next h =>
    have single : f.body.isStatus = true → s.lif.queue.any (fun g => g.body.isStatus) = false := by
      intro hf
      simpa [hf] using h
    split
    next room => exact .single (.entered f room single)
    next =>
      split
      next lower =>
        have moved : QueueMove s.lif.queue (insertFrame f s.lif.queue.dropLast) := .evicted f lower single
        exact .single (by simpa [countQueueDrop] using moved)
      next => exact .of_eq (by simp [countQueueDrop])

/-! ## What the operations hand over -/

theorem handsOver_handFrames (fs : List TxFrame) (s : State) : HandsOver s (handFrames fs s) := by
  induction fs generalizing s with
  | nil => exact .of_eq rfl
  | cons f rest ih => exact (handsOver_handFrame f s).trans (ih _)

theorem handsOver_issueFrame (kind : RequestKind) (target : Nat) (s : State) :
    HandsOver s (issueFrame kind target s) :=
  (handsOver_handFrame (requestFrame kind target s.bsq) s).congr rfl (by simp [issueFrame])

theorem handsOver_sendBack (s : State) : HandsOver s (sendBack s) := by
  unfold sendBack
  split
  · exact .of_eq rfl
  · split
    · exact .of_eq rfl
    · split
      · exact .of_eq (by simp)
      · exact handsOver_issueFrame _ _ s

theorem handsOver_suspend (s : State) : HandsOver s (suspend s) := by
  unfold suspend
  split
  · exact (handsOver_sendBack (setBuild .suspended s)).congr (by simp) rfl
  · exact .of_eq rfl

theorem handsOver_stepAnswer (a : Answer) (s : State) : HandsOver s (stepAnswer a s) := by
  unfold stepAnswer
  split
  · exact .of_eq rfl
  · split
    · exact handsOver_suspend s
    · exact .of_eq rfl
  · split
    · exact handsOver_suspend s
    · exact .of_eq rfl

theorem handsOver_issueRetract (s : State) : HandsOver s (issueRetract s) := by
  unfold issueRetract
  split
  · exact (handsOver_stepAnswer _ _).congr (by simp) rfl
  · exact (handsOver_issueFrame _ _ _).congr (by simp) rfl

theorem handsOver_retractTest (s : State) : HandsOver s (retractTest s) := by
  unfold retractTest
  split
  · exact .of_eq rfl
  · split
    · exact handsOver_suspend s
    · split
      · exact .of_eq rfl
      · exact handsOver_issueRetract s

theorem handsOver_enterAwaitExtend (s : State) : HandsOver s (enterAwaitExtend s) := by
  unfold enterAwaitExtend
  dsimp only
  split
  · exact (handsOver_stepAnswer _ _).congr (by simp) rfl
  · split
    · exact (handsOver_issueFrame _ _ _).congr (by simp) rfl
    · exact (handsOver_suspend _).congr (by simp) rfl

theorem handsOver_placeTest (s : State) : HandsOver s (placeTest s) := by
  unfold placeTest
  split
  · exact (handsOver_enterAwaitExtend _).congr (by simp) rfl
  · exact .of_eq rfl

theorem handsOver_buildPresence (j : Nat) (s : State) : HandsOver s (buildPresence j s) := by
  unfold buildPresence
  split
  · split
    · split
      · exact (handsOver_sendBack s).congr rfl (by simp)
      · exact .of_eq (by simp)
    · split
      · exact (handsOver_suspend s).congr rfl (by simp)
      · exact .of_eq (by simp)
  · exact .of_eq rfl

theorem handsOver_replyArrival (source : Nat) (tag : Tag) (a : Answer) (s : State) :
    HandsOver s (replyArrival source tag a s) := by
  unfold replyArrival
  split
  · exact .of_eq rfl
  · split
    · exact (handsOver_stepAnswer a (markAnswer a s)).congr (by simp) rfl
    · exact .of_eq rfl

theorem handsOver_answerExpires (s : State) : HandsOver s (answerExpires s) := by
  unfold answerExpires
  dsimp only
  split
  · exact (handsOver_suspend _).congr (by simp) rfl
  · split
    · exact (handsOver_sendBack _).congr (by simp) rfl
    · exact .of_eq (by simp)

theorem handsOver_enterHalted (s : State) : HandsOver s (enterHalted s) :=
  (handsOver_suspend (groupFreeze (driveStandstill (clearHolderSeen (plainPhase .halted s))))).congr
    (by simp) (by simp [enterHalted])

theorem handsOver_leaveHalted (s : State) : HandsOver s (leaveHalted s) :=
  (handsOver_sendBack (groupThaw (untrip (plainPhase .idle (s.onAlu fun a => { a with estop := false }))))).congr
    (by simp) (by simp [leaveHalted])

theorem handsOver_moveEntry (k : AlarmKind) (e : AlarmEntry) (s : State) : HandsOver s (moveEntry k e s) := by
  have framed : HandsOver s (handFrame (alarmFrame s.cfg.image k true) (setEntry k e s)) :=
    (handsOver_handFrame _ _).congr (by simp) rfl
  unfold moveEntry
  dsimp only
  split
  · split
    · exact framed.congr rfl (by simp)
    · exact framed
  · split
    · exact (handsOver_handFrame _ _).congr (by simp) rfl
    · exact .of_eq (by simp)

theorem handsOver_syncKinds (ks : List AlarmKind) (s : State) : HandsOver s (syncKinds ks s) := by
  induction ks generalizing s with
  | nil => exact .of_eq rfl
  | cons k rest ih =>
    refine HandsOver.trans ?_ (ih (syncKind k s))
    unfold syncKind
    split
    · exact .of_eq rfl
    · exact handsOver_moveEntry _ _ s

theorem handsOver_settleOnce (s : State) : HandsOver s (settleOnce s) := by
  have kinds := handsOver_syncKinds AlarmKind.all (orphanTest s)
  have halt (u : State) : HandsOver u (haltTest u) := by
    unfold haltTest
    split
    · exact handsOver_enterHalted u
    · exact .of_eq rfl
  unfold settleOnce
  exact (kinds.congr (by simp) rfl).trans ((halt _).trans ((handsOver_retractTest _).congr (by simp) rfl))

theorem handsOver_settle (s : State) : HandsOver s (settle s) :=
  (handsOver_settleOnce s).trans ((handsOver_settleOnce _).trans (handsOver_settleOnce _))

theorem handsOver_changePeer (j : Nat) (e : PeerEntry) (s : State) : HandsOver s (changePeer j e s) := by
  unfold changePeer presenceNotice
  dsimp only
  split
  · refine HandsOver.congr (handsOver_buildPresence j (holderLeaves j (drivePresence j (setPeer j e s))))
      (by simp) (by simp)
  · split <;> exact .of_eq (by simp)

theorem handsOver_peerStatus (j : Nat) (seq : Tag) (r : StatusRecord) (s : State) :
    HandsOver s (peerStatus j seq r s) := by
  unfold peerStatus countedNotice
  dsimp only
  split
  · exact (handsOver_changePeer j (statusEntry s.elapsed seq r (peerOf s j)) s).congr rfl (by simp)
  · exact handsOver_changePeer j _ s

theorem handsOver_peerOther (j : Nat) (seq : Tag) (s : State) : HandsOver s (peerOther j seq s) :=
  handsOver_changePeer j _ s

theorem handsOver_handJoin (r : JoinRecord) (s : State) : HandsOver s (handJoin r s) :=
  handsOver_handFrame _ s

theorem handsOver_sendStatus (s : State) : HandsOver s (sendStatus s) := by
  have handed := handsOver_handFrame
    { dest := 15, body := .status (composeStatus (diagnosticDue s) (setFlagIf (volumesClamp s) .saturated s)) }
    (setFlagIf (volumesClamp s) .saturated s)
  exact handed.congr (by simp) rfl

theorem handsOver_startListen (warm : Bool) (s : State) : HandsOver s (startListen warm s) := by
  unfold startListen
  exact (handsOver_handJoin _ _).congr (by simp) rfl

theorem handsOver_endProbe (s : State) : HandsOver s (endProbe s) := by
  unfold endProbe
  exact (handsOver_startListen false _).congr (by simp) rfl

theorem handsOver_endListen (s : State) : HandsOver s (endListen s) := by
  unfold endListen leaveListen
  dsimp only
  split
  · exact (handsOver_enterHalted _).congr (by simp) rfl
  · exact .of_eq (by simp)

theorem handsOver_releaseExpires (s : State) : HandsOver s (releaseExpires s) := by
  have closed (s : State) : HandsOver s (holderRingClose s) :=
    (handsOver_handFrames (reportFrames (setFlagIf (volumesClamp s) .saturated s))
      (setFlagIf (volumesClamp s) .saturated s)).congr (by simp) (by simp [holderRingClose])
  unfold releaseExpires
  dsimp only
  split
  · exact (closed _).congr (by simp) rfl
  · exact .of_eq (by simp)

theorem handsOver_arrival (before : State) (x : FieldInputs) (c : Channel) (s : State) :
    HandsOver s (arrival before x c s) := by
  cases c with
  | placementDone =>
    simp only [arrival]
    split
    · exact handsOver_placeTest s
    · exact .of_eq rfl
  | feederReady | atPosition => simp only [arrival]; split <;> exact .of_eq (by simp)
  | _ => exact .of_eq (by simp [arrival])

theorem handsOver_order {s u : State} (h : OrderActs s u) : HandsOver s u := by
  cases h with
  | suspends => exact handsOver_suspend s
  | resumes phase => exact handsOver_leaveHalted s
  | _ => exact .of_eq (by simp)

/-! ## Every event -/

theorem acts_handsOver {s u : State} (h : Acts s u) : HandsOver s u := by
  have used : (lineUsed s).lif.queue = s.lif.queue := rfl
  cases h with
  | listenJoin start => exact (handsOver_handJoin _ _).congr (by simp) rfl
  | listenEnds => exact handsOver_endListen s
  | entryExpires k => exact handsOver_moveEntry k _ s
  | statusSent => exact (handsOver_sendStatus _).congr (by simp) rfl
  | statusHeard j seq r => exact (handsOver_peerStatus j seq r _).congr used rfl
  | joinHeard j seq r =>
    exact (handsOver_changePeer j (joinEntry s.cfg.digest s.elapsed seq r (peerOf s j)) (lineUsed s)).congr used
      (by simp [peerJoin, peerOf])
  | otherHeard j seq => exact (handsOver_peerOther j seq _).congr used rfl
  | requestHeard j seq kind ring tag =>
    exact ((handsOver_peerOther j seq _).congr used rfl).trans
      ((handsOver_handFrame _ _).congr (by simp) rfl)
  | replyHeard j seq tag a =>
    exact ((handsOver_peerOther j seq _).congr used rfl).trans (handsOver_replyArrival j tag a _)
  | estopHeard j seq => exact (handsOver_peerOther j seq _).congr used (by simp)
  | peerSilent j => exact handsOver_changePeer j _ s
  | peerLost j => exact handsOver_changePeer j _ s
  | consoleLeaves =>
    simp only [consoleLost]
    split
    · exact (handsOver_suspend _).congr (by simp) rfl
    · exact .of_eq (by simp)
  | buildTimesOut => exact (handsOver_suspend _).congr (by simp) rfl
  | answerMissed => exact handsOver_answerExpires s
  | releaseEnds => exact handsOver_releaseExpires s
  | orderTaken tag code result acts => exact (handsOver_order acts).congr (by simp) (by simp)
  | channelSampled x c => exact (handsOver_arrival s x c _).congr (by simp) rfl
  | probeEnds x => exact (handsOver_endProbe (trialStep x s)).congr (by simp) rfl
  | _ => exact .of_eq (by simp)

theorem handsOver_warmRestart (s : State) : HandsOver s (warmRestart s) := by
  have emptied : HandsOver s (lineRestart (s.onOru fun _ => OruState.cold)) := .single .emptied
  unfold warmRestart
  refine emptied.trans (HandsOver.trans (.of_eq ?_) (handsOver_startListen true _))
  simp

theorem moves_handsOver {s t : State} (h : Moves s t) : HandsOver s t := by
  cases h with
  | closed acts => exact (acts_handsOver acts).trans (handsOver_settle _)
  | powerUp straps => exact .single .emptied
  | configFault load =>
    exact (handsOver_handJoin (faultJoin s) ((s.setPhase .configFault).onCfg fun c =>
      { c with faultTimer := some s.elapsed })).congr (by simp) (by simp [enterConfigFault])
  | faultJoin timer => exact (handsOver_handJoin _ _).congr (by simp) rfl
  | transmits idle =>
    unfold tryTransmit
    dsimp only
    split
    · split <;> exact .of_eq rfl
    · split
      · exact .of_eq rfl
      next f rest hq =>
        split
        · have moved : QueueMove s.lif.queue rest := by simpa [hq] using QueueMove.left (q := s.lif.queue)
          exact .single moved
        · exact .of_eq rfl
  | restarts tag => exact (handsOver_warmRestart _).congr (by simp) rfl
  | _ => exact .of_eq (by simp)

/-! ## The order of R175 -/

/-- R175: at most eight frames, class by class, at most one of them a STATUS. -/
def QueueOrdered (q : List TxFrame) : Prop :=
  q.length ≤ 8 ∧ (q.Pairwise fun f g => f.rank ≤ g.rank) ∧ (q.filter fun f => f.body.isStatus).length ≤ 1

theorem rank_of_isStatus {f : TxFrame} (hf : f.body.isStatus = true) : f.rank = 1 := by
  obtain ⟨dest, body⟩ := f
  cases body <;> simp_all [Body.isStatus, TxFrame.rank, Body.frameClass, FrameClass.rank]

/-- A STATUS in the place of another keeps every rank, -/
theorem ranks_replaceStatus {f : TxFrame} (hf : f.body.isStatus = true) (q : List TxFrame) :
    (replaceStatus f q).map TxFrame.rank = q.map TxFrame.rank := by
  induction q with
  | nil => rfl
  | cons g rest ih =>
    unfold replaceStatus
    split
    next hg => simp [rank_of_isStatus hf, rank_of_isStatus hg]
    next => simp [ih]

/-- and says of every place alike whether it holds a STATUS. -/
theorem statuses_replaceStatus {f : TxFrame} (hf : f.body.isStatus = true) (q : List TxFrame) :
    ((replaceStatus f q).map fun g => g.body.isStatus) = q.map fun g => g.body.isStatus := by
  induction q with
  | nil => rfl
  | cons g rest ih =>
    unfold replaceStatus
    split
    next hg => simp [hf, hg]
    next => simp [ih]

theorem perm_insertFrame (f : TxFrame) (q : List TxFrame) : (insertFrame f q).Perm (f :: q) := by
  induction q with
  | nil => exact .refl _
  | cons g rest ih =>
    unfold insertFrame
    split
    · exact .refl _
    · exact (ih.cons g).trans (.swap f g rest)

theorem pairwise_insertFrame (f : TxFrame) {q : List TxFrame} (hq : q.Pairwise fun f g => f.rank ≤ g.rank) :
    (insertFrame f q).Pairwise fun f g => f.rank ≤ g.rank := by
  induction q with
  | nil => exact List.pairwise_singleton _ _
  | cons g rest ih =>
    obtain ⟨hg, hrest⟩ := List.pairwise_cons.1 hq
    unfold insertFrame
    split
    next lt =>
      refine List.pairwise_cons.2 ⟨fun x hx => ?_, hq⟩
      rcases List.mem_cons.1 hx with rfl | hx
      · exact lt.le
      · exact lt.le.trans (hg x hx)
    next ge =>
      refine List.pairwise_cons.2 ⟨fun x hx => ?_, ih hrest⟩
      rcases List.mem_cons.1 ((perm_insertFrame f rest).mem_iff.1 hx) with rfl | hx
      · exact Nat.le_of_not_lt ge
      · exact hg x hx

/-- How many of the frames are a STATUS. -/
def statusCount (q : List TxFrame) : Nat := (q.filter fun f => f.body.isStatus).length

theorem statusCount_eq_of_statuses {q r : List TxFrame}
    (h : (r.map fun g => g.body.isStatus) = q.map fun g => g.body.isStatus) : statusCount r = statusCount q := by
  have count (l : List TxFrame) : statusCount l = (l.map fun g => g.body.isStatus).count true := by
    rw [statusCount, ← List.countP_eq_length_filter, List.count, List.countP_map]
    exact List.countP_congr fun f _ => by simp
  rw [count, count, h]

theorem statusCount_insertFrame (f : TxFrame) (q : List TxFrame) :
    statusCount (insertFrame f q) = statusCount (f :: q) :=
  ((perm_insertFrame f q).filter _).length_eq

theorem statusCount_cons_le {f : TxFrame} {q : List TxFrame} (hq : statusCount q ≤ 1)
    (single : f.body.isStatus = true → q.any (fun g => g.body.isStatus) = false) :
    statusCount (f :: q) ≤ 1 := by
  unfold statusCount at *
  by_cases hf : f.body.isStatus = true
  · have none : q.filter (fun g => g.body.isStatus) = [] := by
      have := single hf
      rw [List.any_eq_false] at this
      exact List.filter_eq_nil_iff.2 this
    simp [hf, none]
  · simpa [List.filter_cons, hf] using hq

theorem QueueMove.ordered {q r : List TxFrame} (h : QueueMove q r) (hq : QueueOrdered q) : QueueOrdered r := by
  obtain ⟨hlen, hrank, hstatus⟩ := hq
  have ranked {l : List TxFrame} :
      (l.Pairwise fun f g => f.rank ≤ g.rank) ↔ (l.map TxFrame.rank).Pairwise (· ≤ ·) :=
    List.pairwise_map.symm
  cases h with
  | replaced f hf =>
    refine ⟨?_, ?_, ?_⟩
    · rw [← List.length_map (f := TxFrame.rank), ranks_replaceStatus hf, List.length_map]; exact hlen
    · rw [ranked, ranks_replaceStatus hf, ← ranked]; exact hrank
    · exact (statusCount_eq_of_statuses (statuses_replaceStatus hf q)).trans_le hstatus
  | entered f room single =>
    refine ⟨?_, pairwise_insertFrame f hrank, ?_⟩
    · simpa [(perm_insertFrame f q).length_eq] using room
    · exact (statusCount_insertFrame f q).trans_le (statusCount_cons_le hstatus single)
  | evicted f lower single =>
    have rest : q.dropLast.Sublist q := List.dropLast_sublist q
    refine ⟨?_, pairwise_insertFrame f (hrank.sublist rest), ?_⟩
    · rw [(perm_insertFrame f _).length_eq, List.length_cons, List.length_dropLast]
      omega
    · refine (statusCount_insertFrame f _).trans_le (statusCount_cons_le ?_ fun hf => ?_)
      · exact (rest.filter _).length_le.trans hstatus
      · exact List.any_eq_false.2 fun g hg => List.any_eq_false.1 (single hf) g (rest.subset hg)
  | left =>
    have rest : q.tail.Sublist q := List.tail_sublist q
    exact ⟨rest.length_le.trans hlen, hrank.sublist rest, (rest.filter _).length_le.trans hstatus⟩
  | emptied => exact ⟨by simp, .nil, by simp⟩

theorem framesQueued_kept {s t : State} (hs : FramesQueued s) (h : step s = .next t) : FramesQueued t := by
  refine step_keeps (P := fun s => QueueOrdered s.lif.queue) (fun s t hs move => ?_) hs h
  have run : QueueRun s.lif.queue t.lif.queue := moves_handsOver move
  generalize t.lif.queue = r at run
  induction run with
  | refl => exact hs
  | tail _ move ih => exact move.ordered ih

/-- Settles O58: each queue's moves keep its bounds and its order. -/
theorem queuesKeepTheirOrder : Obligations.QueuesKeepTheirOrder :=
  ⟨fun _ _ => parcelsQueued_kept, fun _ _ => framesQueued_kept⟩

end Sys2Proof.Machine
end

section
/-! The tables of the state keep their lengths through every operation, and so through every step. -/

namespace Sys2Proof.Machine

open Sys2Proof

@[simp] theorem length_putAt {α : Type} (l : List α) (k : Nat) (v : α) : (putAt l k v).length = l.length :=
  List.length_set

/-! ## The peer table and the stopped-since times -/

@[simp] theorem setPeer_length (j : Nat) (e : PeerEntry) (s : State) :
    (setPeer j e s).ptb.peers.length = s.ptb.peers.length := by
  simp [setPeer]

@[simp] theorem recomputeCandidate_length (s : State) :
    (recomputeCandidate s).ptb.peers.length = s.ptb.peers.length := by
  unfold recomputeCandidate; split <;> simp [clearAgreement]

@[simp] theorem riseCheck_length (s : State) : (riseCheck s).ptb.peers.length = s.ptb.peers.length := by
  unfold riseCheck; (repeat' split) <;> simp

@[simp] theorem fallCheck_length (p : Nat) (s : State) :
    (fallCheck p s).ptb.peers.length = s.ptb.peers.length := by
  unfold fallCheck; split <;> simp

@[simp] theorem repropose_length (s : State) : (repropose s).ptb.peers.length = s.ptb.peers.length := by
  unfold repropose; split <;> simp

@[simp] theorem countAgreement_length (j : Nat) (s : State) :
    (countAgreement j s).ptb.peers.length = s.ptb.peers.length := by
  unfold countAgreement; split <;> simp

@[simp] theorem driveCountedStatus_length (j : Nat) (r : StatusRecord) (s : State) :
    (driveCountedStatus j r s).ptb.peers.length = s.ptb.peers.length ∧
      (driveCountedStatus j r s).dsu.stoppedSince.length = s.dsu.stoppedSince.length := by
  simp [driveCountedStatus, watchPeer]

@[simp] theorem drivePresence_length (j : Nat) (s : State) :
    (drivePresence j s).ptb.peers.length = s.ptb.peers.length ∧
      (drivePresence j s).dsu.stoppedSince.length = s.dsu.stoppedSince.length := by
  unfold drivePresence; split <;> simp

@[simp] theorem stepChoice_length (l : Option Nat) (s : State) :
    (stepChoice l s).ptb.peers.length = s.ptb.peers.length := by
  unfold stepChoice; split <;> simp

@[simp] theorem dutyEvaluation_length (s : State) :
    (dutyEvaluation s).ptb.peers.length = s.ptb.peers.length := by
  unfold dutyEvaluation evaluateLoad compareLoad
  dsimp only
  (repeat' split) <;> simp

@[simp] theorem tempArrival_length (s : State) : (tempArrival s).ptb.peers.length = s.ptb.peers.length := by
  simp [tempArrival]

/-! ## The machine-advance sets -/

@[simp] theorem contributions_length (s : State) : (contributions s).length = 8 := by
  simp [contributions, sectorNumbers]

@[simp] theorem strokeArrival_set (s : State) : (strokeArrival s).thu.set = contributions (takeStroke s) := by
  simp [strokeArrival, addIncrement, rememberCounters]
  split <;> simp

@[simp] theorem overTest_set (img : Image) (b : BalState) : (overTest img b).set = b.set := by
  unfold overTest; (repeat' split) <;> rfl

@[simp] theorem underTest_set (img : Image) (b : BalState) : (underTest img b).set = b.set := rfl

@[simp] theorem balanceEvaluation_set (s : State) :
    (balanceEvaluation s).bal.set = contributions (clearUnread (encoderTest s)) := by
  simp [balanceEvaluation, evalInputs]

/-- BAL's set keeps its length where the activity changes. -/
@[simp] theorem evalDuties_set_length {s : State} (h : s.bal.set.length = 8) :
    (evalDuties s).bal.set.length = 8 := by
  simp [evalDuties, followConveyor, balanceActivate, balanceDeactivate]
  (repeat' split) <;> simp [h]

/-! ## The substitution marks -/

/-- The substitution marks, which closing an event and suspending a build leave alone. -/
theorem substituted_of_kept {s u : State} (h : kept u = kept s) : u.bsq.substituted = s.bsq.substituted :=
  (kept_bsq h).2.2.2.2

@[simp] theorem sendBack_substituted (s : State) :
    (sendBack s).bsq.substituted = s.bsq.substituted :=
  substituted_of_kept (kept_sendBack s)

@[simp] theorem suspend_substituted (s : State) :
    (suspend s).bsq.substituted = s.bsq.substituted :=
  substituted_of_kept (kept_suspend s)

@[simp] theorem stepAnswer_substituted (a : Answer) (s : State) :
    (stepAnswer a s).bsq.substituted = s.bsq.substituted :=
  substituted_of_kept (kept_stepAnswer a s)

@[simp] theorem markAnswer_substituted (a : Answer) (s : State) :
    (markAnswer a s).bsq.substituted = s.bsq.substituted :=
  substituted_of_kept (kept_markAnswer a s)

@[simp] theorem markAccepted_substituted (s : State) :
    (markAccepted s).bsq.substituted = s.bsq.substituted :=
  substituted_of_kept (kept_markAccepted s)

@[simp] theorem retractedSeen_substituted (j : Nat) (g : Group) (s : State) :
    (retractedSeen j g s).bsq.substituted = s.bsq.substituted :=
  substituted_of_kept (kept_retractedSeen j g s)

@[simp] theorem holdingSeen_substituted (j : Nat) (g : Group) (s : State) :
    (holdingSeen j g s).bsq.substituted = s.bsq.substituted :=
  substituted_of_kept (kept_holdingSeen j g s)

@[simp] theorem enterHalted_substituted (s : State) :
    (enterHalted s).bsq.substituted = s.bsq.substituted := by
  simp [enterHalted]

@[simp] theorem suspendTimedOut_substituted (s : State) :
    (suspendTimedOut s).bsq.substituted = s.bsq.substituted := by
  simp [suspendTimedOut]

@[simp] theorem issueLocal_substituted (kind : RequestKind) (s : State) :
    (issueLocal kind s).1.bsq.substituted = s.bsq.substituted := by
  simp [issueLocal, issueRequest]

@[simp] theorem issueFrame_substituted (kind : RequestKind) (target : Nat) (s : State) :
    (issueFrame kind target s).bsq.substituted = s.bsq.substituted := by
  simp [issueFrame, issueRequest]

@[simp] theorem leaveHalted_substituted (s : State) :
    (leaveHalted s).bsq.substituted = s.bsq.substituted := by
  simp [leaveHalted]

@[simp] theorem enterAwaitExtend_substituted (s : State) :
    (enterAwaitExtend s).bsq.substituted = s.bsq.substituted := by
  unfold enterAwaitExtend; dsimp only; (repeat' split) <;> simp

@[simp] theorem placeTest_substituted (s : State) : (placeTest s).bsq.substituted = s.bsq.substituted := by
  unfold placeTest; split <;> simp

@[simp] theorem buildWaitTest_substituted (s : State) :
    (buildWaitTest s).bsq.substituted = s.bsq.substituted := by
  unfold buildWaitTest; (repeat' split) <;> simp

@[simp] theorem buildPresence_substituted (j : Nat) (s : State) :
    (buildPresence j s).bsq.substituted = s.bsq.substituted := by
  unfold buildPresence; (repeat' split) <;> simp

@[simp] theorem replyArrival_substituted (source : Nat) (tag : Tag) (a : Answer) (s : State) :
    (replyArrival source tag a s).bsq.substituted = s.bsq.substituted := by
  unfold replyArrival; (repeat' split) <;> simp

@[simp] theorem unansweredMark_substituted (q : BsqState) : (unansweredMark q).substituted = q.substituted := by
  unfold unansweredMark; split <;> rfl

@[simp] theorem answerExpires_substituted (s : State) :
    (answerExpires s).bsq.substituted = s.bsq.substituted := by
  unfold answerExpires; dsimp only; (repeat' split) <;> simp

@[simp] theorem consoleLost_substituted (s : State) :
    (consoleLost s).bsq.substituted = s.bsq.substituted := by
  unfold consoleLost; dsimp only; split <;> simp

@[simp] theorem targetSeen_substituted (j : Nat) (r : StatusRecord) (s : State) :
    (targetSeen j r s).bsq.substituted = s.bsq.substituted := by
  unfold targetSeen; dsimp only; split <;> simp

@[simp] theorem buildCountedStatus_substituted_length (j : Nat) (r : StatusRecord) (s : State) :
    (buildCountedStatus j r s).bsq.substituted.length = s.bsq.substituted.length := by
  unfold buildCountedStatus; (repeat' split) <;> simp [markSubstituted]

@[simp] theorem changePeer_substituted (j : Nat) (e : PeerEntry) (s : State) :
    (changePeer j e s).bsq.substituted = s.bsq.substituted := by
  unfold changePeer presenceNotice; dsimp only; (repeat' split) <;> simp

@[simp] theorem changePeer_length (j : Nat) (e : PeerEntry) (s : State) :
    (changePeer j e s).ptb.peers.length = s.ptb.peers.length ∧
      (changePeer j e s).dsu.stoppedSince.length = s.dsu.stoppedSince.length := by
  unfold changePeer presenceNotice; dsimp only; (repeat' split) <;> simp

theorem changePeer_set_length (j : Nat) (e : PeerEntry) {s : State} (h : s.bal.set.length = 8) :
    (changePeer j e s).bal.set.length = 8 := by
  unfold changePeer presenceNotice; dsimp only; (repeat' split) <;> simp [h]

/-! ## Every event -/

@[simp] theorem closeRing_residency_length (s : State) : (closeRing s).dsu.residency.length = 8 := by
  unfold closeRing; (repeat' split) <;> simp [driveRingClose]

@[simp] theorem moveEntry_length (k : AlarmKind) (e : AlarmEntry) (s : State) :
    (moveEntry k e s).alu.entries.length = s.alu.entries.length := by
  unfold moveEntry; dsimp only; (repeat' split) <;> simp [setEntry]

/-! ## The fitted set and the inputs -/

@[simp] theorem fit_length (c : Channel) (s : State) :
    (fit c s).fpt.fitted.length = s.fpt.fitted.length ∧ (fit c s).fpt.inputs.length = s.fpt.inputs.length := by
  simp [fit]

@[simp] theorem setInput_length (c : Channel) (i : InputState) (s : State) :
    (setInput c i s).fpt.fitted.length = s.fpt.fitted.length ∧
      (setInput c i s).fpt.inputs.length = s.fpt.inputs.length := by
  simp [setInput]

@[simp] theorem fitInput_length (c : Channel) (v : Int) (s : State) :
    (fitInput c v s).fpt.fitted.length = s.fpt.fitted.length ∧
      (fitInput c v s).fpt.inputs.length = s.fpt.inputs.length := by
  simp [fitInput]

@[simp] theorem fitGrout_length (s : State) :
    (fitGrout s).fpt.fitted.length = s.fpt.fitted.length ∧
      (fitGrout s).fpt.inputs.length = s.fpt.inputs.length := by
  simp [fitGrout]

@[simp] theorem serveTrial_length (x : FieldInputs) (s : State) :
    (serveTrial x s).fpt.inputs.length = s.fpt.inputs.length := by
  unfold serveTrial; split <;> simp

theorem driveTrial_length {release : State → State} (hr : ∃ b, release = writeEnable0 b ∨ release = writeEnable1 b)
    (ready : Loop) (motor readyChannel : Channel) (s : State) :
    (driveTrial ready motor readyChannel release s).fpt.fitted.length = s.fpt.fitted.length ∧
      (driveTrial ready motor readyChannel release s).fpt.inputs.length = s.fpt.inputs.length := by
  obtain ⟨b, rfl | rfl⟩ := hr <;> unfold driveTrial <;> dsimp only <;> (repeat' split) <;> simp

@[simp] theorem trialStep_length (x : FieldInputs) (s : State) :
    (trialStep x s).fpt.fitted.length = s.fpt.fitted.length ∧
      (trialStep x s).fpt.inputs.length = s.fpt.inputs.length := by
  unfold trialStep
  split
  · exact driveTrial_length ⟨false, .inl rfl⟩ _ _ _ s
  · split
    · exact driveTrial_length ⟨false, .inr rfl⟩ _ _ _ s
    · split
      · unfold groutTrialStep; dsimp only; (repeat' split) <;> simp
      · unfold windowTrial; dsimp only; (repeat' split) <;> simp

@[simp] theorem fixFitted_length (s : State) : (fixFitted s).fpt.fitted.length = s.fpt.fitted.length := by
  unfold fixFitted fitIf; (repeat' split) <;> simp

@[simp] theorem judgeInput_length (c : Channel) (x : FieldInputs) (s : State) :
    (judgeInput c x s).fpt.inputs.length = s.fpt.inputs.length := by
  unfold judgeInput; (repeat' split) <;> simp

/-! ## Every event -/

theorem shaped_changePeer (j : Nat) (e : PeerEntry) {s : State} (hs : Shaped s) : Shaped (changePeer j e s) := by
  obtain ⟨hpeers, hstopped, hres, hset, hmarks, hbal, hentries, hfitted, hinputs⟩ := hs
  simp [Shaped, changePeer_set_length, *]

theorem shaped_peerOther (j : Nat) (seq : Tag) {s : State} (hs : Shaped s) : Shaped (peerOther j seq s) :=
  shaped_changePeer j _ hs

theorem shaped_holderHeard (j : Nat) (r : StatusRecord) {s : State} (hs : Shaped s) :
    Shaped (holderHeard j r s) := by
  obtain ⟨hpeers, hstopped, hres, hset, hmarks, hbal, hentries, hfitted, hinputs⟩ := hs
  unfold holderHeard compareRings
  dsimp only
  (repeat' split) <;> simp [Shaped, *]

theorem shaped_peerStatus (j : Nat) (seq : Tag) (r : StatusRecord) {s : State} (hs : Shaped s) :
    Shaped (peerStatus j seq r s) := by
  unfold peerStatus countedNotice
  dsimp only
  have changed := shaped_changePeer j (statusEntry s.elapsed seq r (peerOf s j)) hs
  split
  · refine shaped_holderHeard j r ?_
    obtain ⟨hpeers, hstopped, hres, hset, hmarks, hbal, hentries, hfitted, hinputs⟩ := changed
    simp [Shaped, *]
  · exact changed

theorem shaped_releaseExpires {s : State} (hs : Shaped s) : Shaped (releaseExpires s) := by
  obtain ⟨hpeers, hstopped, hres, hset, hmarks, hbal, hentries, hfitted, hinputs⟩ := hs
  unfold releaseExpires holderRingClose
  dsimp only
  split <;> simp [Shaped, advanceRing, *]

theorem shaped_arrival (before : State) (x : FieldInputs) (c : Channel) {s : State} (hs : Shaped s) :
    Shaped (arrival before x c s) := by
  obtain ⟨hpeers, hstopped, hres, hset, hmarks, hbal, hentries, hfitted, hinputs⟩ := hs
  cases c with
  | stroke =>
    simp only [arrival, ownMark]
    split <;> simp [Shaped, markSubstituted, *]
  | feederReady | atPosition | placementDone => simp only [arrival]; split <;> simp [Shaped, *]
  | _ => simp [Shaped, arrival, *]

theorem shaped_order {s u : State} (h : OrderActs s u) (hs : Shaped s) : Shaped u := by
  obtain ⟨hpeers, hstopped, hres, hset, hmarks, hbal, hentries, hfitted, hinputs⟩ := hs
  cases h with
  | beginsBuild phase =>
    simp only [beginBuild, cursorCheck]
    (repeat' split) <;> simp [Shaped, *]
  | _ => simp [Shaped, *]

theorem shaped_startListen (warm : Bool) {s : State} (hs : Shaped s) : Shaped (startListen warm s) := by
  obtain ⟨hpeers, hstopped, hres, hset, hmarks, hbal, hentries, hfitted, hinputs⟩ := hs
  simp [Shaped, startListen, *]

theorem shaped_trialStep (x : FieldInputs) {s : State} (hs : Shaped s) : Shaped (trialStep x s) := by
  obtain ⟨hpeers, hstopped, hres, hset, hmarks, hbal, hentries, hfitted, hinputs⟩ := hs
  simp [Shaped, *]

theorem shaped_endProbe {s : State} (hs : Shaped s) : Shaped (endProbe s) := by
  unfold endProbe
  generalize hu : groutActivate _ = u
  refine shaped_startListen false ?_
  subst hu
  obtain ⟨hpeers, hstopped, hres, hset, hmarks, hbal, hentries, hfitted, hinputs⟩ := hs
  simp [Shaped, *]

theorem shaped_endListen {s : State} (hs : Shaped s) : Shaped (endListen s) := by
  obtain ⟨hpeers, hstopped, hres, hset, hmarks, hbal, hentries, hfitted, hinputs⟩ := hs
  unfold endListen leaveListen adoptCursorRing
  dsimp only
  (repeat' split) <;> simp [Shaped, startBalanceTimer, *]

theorem acts_shaped {s u : State} (h : Acts s u) (hs : Shaped s) : Shaped u := by
  have used : Shaped (lineUsed s) := hs
  cases h with
  | listenEnds => exact shaped_endListen hs
  | statusHeard j seq r => exact shaped_peerStatus j seq r used
  | joinHeard j seq r =>
    unfold peerJoin
    obtain ⟨hpeers, hstopped, hres, hset, hmarks, hbal, hentries, hfitted, hinputs⟩ := shaped_changePeer j
      (joinEntry (lineUsed s).cfg.digest (lineUsed s).elapsed seq r (peerOf (lineUsed s) j)) used
    simp only [Shaped, evalDuties_set_length, *]
    simp [*]
  | otherHeard j seq => exact shaped_peerOther j seq used
  | requestHeard j seq =>
    obtain ⟨hpeers, hstopped, hres, hset, hmarks, hbal, hentries, hfitted, hinputs⟩ := shaped_peerOther j seq used
    simp [Shaped, *]
  | replyHeard j seq =>
    obtain ⟨hpeers, hstopped, hres, hset, hmarks, hbal, hentries, hfitted, hinputs⟩ := shaped_peerOther j seq used
    simp [Shaped, *]
  | estopHeard j seq =>
    obtain ⟨hpeers, hstopped, hres, hset, hmarks, hbal, hentries, hfitted, hinputs⟩ := shaped_peerOther j seq used
    simp [Shaped, *]
  | peerSilent j => exact shaped_changePeer j _ hs
  | peerLost j => exact shaped_changePeer j _ hs
  | releaseEnds => exact shaped_releaseExpires hs
  | orderTaken tag code result acts =>
    have ruled := shaped_order acts hs
    simpa [Shaped] using ruled
  | channelSampled x c =>
    refine shaped_arrival s x c ?_
    obtain ⟨hpeers, hstopped, hres, hset, hmarks, hbal, hentries, hfitted, hinputs⟩ := hs
    simp [Shaped, *]
  | probeBegins r =>
    obtain ⟨hpeers, hstopped, hres, hset, hmarks, hbal, hentries, hfitted, hinputs⟩ := hs
    simp [Shaped, beginProbe, ThuState.cold, BalState.cold, AluState.cold, freshEntries, *]
  | probeEnds x => exact shaped_endProbe (shaped_trialStep x hs)
  | trialSampled x => exact shaped_trialStep x hs
  | _ =>
    obtain ⟨hpeers, hstopped, hres, hset, hmarks, hbal, hentries, hfitted, hinputs⟩ := hs
    simp [Shaped, *]

@[simp] theorem settle_entries_length (s : State) : (settle s).alu.entries.length = s.alu.entries.length := by
  have kinds (ks : List AlarmKind) (u : State) : (syncKinds ks u).alu.entries.length = u.alu.entries.length := by
    induction ks generalizing u with
    | nil => rfl
    | cons k rest ih =>
      rw [syncKinds, ih]
      unfold syncKind
      split <;> simp
  have pass (u : State) : (settleOnce u).alu.entries.length = u.alu.entries.length := by
    simp [settleOnce, kinds]
  simp [settle, pass]

theorem shaped_warmRestart {s : State} (hs : Shaped s) : Shaped (warmRestart s) := by
  unfold warmRestart
  dsimp only
  generalize hu : forcingSync _ = u
  refine shaped_startListen true ?_
  subst hu
  obtain ⟨hpeers, hstopped, hres, hset, hmarks, hbal, hentries, hfitted, hinputs⟩ := hs
  simp [Shaped, peersRestart, freshPeers, driveRestart, DsuState.cold, thrustRestart, ThuState.cold,
    balanceRestart, BalState.cold, alarmsRestart, AluState.cold, freshEntries, *]

theorem moves_shaped (s t : State) (hs : Shaped s) (h : Moves s t) : Shaped t := by
  cases h with
  | closed acts =>
    obtain ⟨hpeers, hstopped, hres, hset, hmarks, hbal, hentries, hfitted, hinputs⟩ := acts_shaped acts hs
    simp [Shaped, *]
  | powerUp straps =>
    simp [Shaped, coldStart, PtbState.cold, freshPeers, DsuState.cold, ThuState.cold, BsqState.cold,
      BalState.cold, AluState.cold, freshEntries, FptState.cold]
  | restarts tag => exact shaped_warmRestart (s := echoed tag 22 .accepted (atOrder s)) hs
  | transmits idle =>
    obtain ⟨hpeers, hstopped, hres, hset, hmarks, hbal, hentries, hfitted, hinputs⟩ := hs
    simp [Shaped, *]
  | _ =>
    obtain ⟨hpeers, hstopped, hres, hset, hmarks, hbal, hentries, hfitted, hinputs⟩ := hs
    simp [Shaped, *]

/-- R4, R28, R53, R96, R142, R160, R170: every table keeps its length. -/
theorem shaped_kept {s t : State} (hs : Shaped s) (h : step s = .next t) : Shaped t :=
  step_keeps moves_shaped hs h

end Sys2Proof.Machine
end

section
/-! The alarm table keeps its soundness: each move of an entry (R143 to R145) leaves a sound entry, and nothing
else writes one. -/

namespace Sys2Proof.Machine

open Sys2Proof

/-! ## The moves of an entry -/

theorem entrySound_fresh : entrySound {} := by simp [entrySound, entryInForce]

theorem entrySound_entryChanged (p : Persistence) (now : Time) (cond : Bool) {e : AlarmEntry}
    (h : entrySound e) : entrySound (entryChanged p now cond e) := by
  obtain ⟨state, c, timer, latch⟩ := e
  cases state <;> cases cond <;> simp only [entryChanged]
  case inactive.true => split <;> simp [entrySound, entryInForce]
  case active.false => split <;> simp_all [entrySound, entryInForce]
  all_goals simp_all [entrySound, entryInForce]

theorem entrySound_entryExpired {e : AlarmEntry} (h : entrySound e) : entrySound (entryExpired e) := by
  obtain ⟨state, c, timer, latch⟩ := e
  cases state <;> simp_all [entryExpired, entrySound, entryInForce]

theorem entrySound_acknowledged {e : AlarmEntry} (h : entrySound e) : entrySound (acknowledged e) := by
  unfold acknowledged
  split
  · exact h
  next standing =>
    obtain ⟨htimer, hcond, -⟩ := h
    exact ⟨htimer, hcond, fun force => absurd force standing⟩

/-! ## The table -/

theorem entrySound_entryOf {s : State} (h : AlarmsSound s) (k : AlarmKind) : entrySound (entryOf s k) := by
  unfold entryOf
  rw [List.getD_eq_getElem?_getD]
  cases hk : s.alu.entries[k.number]? with
  | none => exact entrySound_fresh
  | some e => exact h e (List.mem_of_getElem? hk)

theorem alarmsSound_congr {s u : State} (h : AlarmsSound s) (he : u.alu.entries = s.alu.entries) :
    AlarmsSound u := by
  unfold AlarmsSound; rwa [he]

theorem alarmsSound_moveEntry (k : AlarmKind) {e : AlarmEntry} {s : State} (h : AlarmsSound s)
    (he : entrySound e) : AlarmsSound (moveEntry k e s) := by
  have moved : (moveEntry k e s).alu.entries = putAt s.alu.entries k.number e := by
    unfold moveEntry; dsimp only; (repeat' split) <;> simp [setEntry]
  unfold AlarmsSound
  rw [moved]
  intro e' he'
  rcases List.mem_or_eq_of_mem_set he' with old | rfl
  · exact h e' old
  · exact he

theorem alarmsSound_syncKinds (ks : List AlarmKind) {s : State} (h : AlarmsSound s) :
    AlarmsSound (syncKinds ks s) := by
  induction ks generalizing s with
  | nil => exact h
  | cons k rest ih =>
    refine ih ?_
    unfold syncKind
    split
    · exact h
    · exact alarmsSound_moveEntry k h (entrySound_entryChanged _ _ _ (entrySound_entryOf h k))

theorem alarmsSound_settle {s : State} (h : AlarmsSound s) : AlarmsSound (settle s) := by
  have pass (u : State) (hu : AlarmsSound u) : AlarmsSound (settleOnce u) := by
    have synced := alarmsSound_syncKinds AlarmKind.all (alarmsSound_congr (u := orphanTest u) hu (by simp))
    unfold settleOnce
    generalize syncKinds AlarmKind.all (orphanTest u) = v at synced
    exact alarmsSound_congr synced (by simp)
  unfold settle
  exact pass (settleOnce (settleOnce s)) (pass (settleOnce s) (pass s h))

/-! ## Every event -/

theorem alarmsSound_order {s u : State} (acts : OrderActs s u) (h : AlarmsSound s) : AlarmsSound u := by
  cases acts with
  | acknowledges =>
    intro e he
    obtain ⟨e', he', rfl⟩ := List.mem_map.1 he
    exact entrySound_acknowledged (h e' he')
  | _ => exact alarmsSound_congr h (by simp)

theorem alarmsSound_freshEntries : ∀ e ∈ freshEntries, entrySound e := by
  intro e he
  obtain rfl := List.eq_of_mem_replicate he
  exact entrySound_fresh

theorem acts_alarmsSound {s u : State} (acts : Acts s u) (h : AlarmsSound s) : AlarmsSound u := by
  cases acts with
  | probeBegins r =>
    have fresh : (beginProbe r s).alu.entries = freshEntries := by simp [beginProbe, AluState.cold]
    unfold AlarmsSound
    rw [fresh]
    exact alarmsSound_freshEntries
  | entryExpires k => exact alarmsSound_moveEntry k h (entrySound_entryExpired (entrySound_entryOf h k))
  | orderTaken tag code result acts => exact alarmsSound_congr (alarmsSound_order acts h) (by simp)
  | _ => exact alarmsSound_congr h (by simp)

theorem moves_alarmsSound (s t : State) (h : AlarmsSound s) (move : Moves s t) : AlarmsSound t := by
  cases move with
  | closed acts => exact alarmsSound_settle (acts_alarmsSound acts h)
  | powerUp straps => exact alarmsSound_freshEntries
  | restarts tag =>
    have fresh (u : State) : (warmRestart u).alu.entries = freshEntries := by
      simp [warmRestart, alarmsRestart, AluState.cold]
    unfold AlarmsSound
    rw [fresh]
    exact alarmsSound_freshEntries
  | _ => exact alarmsSound_congr h (by simp)

theorem alarmsSound_kept {s t : State} (hs : AlarmsSound s) (h : step s = .next t) : AlarmsSound t :=
  step_keeps moves_alarmsSound hs h

end Sys2Proof.Machine
end

section
/-! The ranges of counter, remainders and account, and the conveyor's tie to its hold causes, kept by every
step. -/

namespace Sys2Proof.Machine

open Sys2Proof

theorem clamp_bounds {lo hi : Int} (h : lo ≤ hi) (v : Int) : lo ≤ clamp lo hi v ∧ clamp lo hi v ≤ hi := by
  unfold clamp; (repeat' split) <;> omega

/-! ## The ranges -/

/-- R52: the ring-advance counter in its range. -/
def CounterInRange (s : State) : Prop := 0 ≤ s.thu.counter ∧ s.thu.counter ≤ 250000

/-- R129 to R131: the remainders and the account in their ranges. -/
def AccountInRange (s : State) : Prop :=
  (0 ≤ s.bal.remE ∧ s.bal.remE < 1000000) ∧ (0 ≤ s.bal.remX ∧ s.bal.remX < 4096) ∧
    |s.bal.account| ≤ 2147483647 ∧ |s.bal.eRing| ≤ 2147483647 ∧ |s.bal.xRing| ≤ 2147483647

theorem withinRanges_iff {s : State} :
    WithinRanges s ↔ CounterInRange s ∧ (0 ≤ s.gru.remG ∧ s.gru.remG < 1000000) ∧ AccountInRange s := Iff.rfl

theorem CounterInRange.congr {s u : State} (h : CounterInRange s) (e : u.thu.counter = s.thu.counter) :
    CounterInRange u := by
  unfold CounterInRange; rwa [e]

theorem AccountInRange.congr {s u : State} (h : AccountInRange s) (hE : u.bal.remE = s.bal.remE)
    (hX : u.bal.remX = s.bal.remX) (ha : u.bal.account = s.bal.account) (he : u.bal.eRing = s.bal.eRing)
    (hx : u.bal.xRing = s.bal.xRing) : AccountInRange u := by
  unfold AccountInRange; rwa [hE, hX, ha, he, hx]

theorem counterInRange_strokeArrival (s : State) : CounterInRange (strokeArrival s) := by
  have h : (strokeArrival s).thu.counter =
      clamp 0 250000 ((takeStroke s).thu.counter + ownIncrement s (takeStroke s)) := by
    simp only [strokeArrival, retractionTest_fields, strokeEndTest_fields, pressureUpdate_fields,
      skewUpdate_fields]
    unfold addIncrement
    dsimp only
    split <;> simp
  rw [CounterInRange, h]
  exact clamp_bounds (by norm_num) _

/-- The ring close returns the counter and BAL's ring totals to 0. -/
theorem counterInRange_closeRing (s : State) : CounterInRange (closeRing s) := by
  have h : (closeRing s).thu.counter = 0 := by
    unfold closeRing thrustRingClose; (repeat' split) <;> simp
  simp [CounterInRange, h]

theorem accountInRange_closeRing {s : State} (h : AccountInRange s) : AccountInRange (closeRing s) := by
  obtain ⟨hE, hX, ha, he, hx⟩ := h
  unfold AccountInRange closeRing balanceRingClose
  (repeat' split) <;> simp [hE, hX, ha, he, hx]

theorem accountClamp_bound (v : Int) : |accountClamp v| ≤ 2147483647 := by
  have := clamp_bounds (lo := -2147483647) (hi := 2147483647) (by norm_num) v
  rw [abs_le]
  exact this

theorem accountInRange_postAccount (dA dc : Int) (s : State) : AccountInRange (postAccount dA dc s) := by
  unfold AccountInRange postAccount
  simp only [setFlagIf_frame, State.onBal_bal]
  exact ⟨by omega, by omega, accountClamp_bound _, accountClamp_bound _, accountClamp_bound _⟩

theorem overTest_account (img : Image) (b : BalState) :
    (overTest img b).remE = b.remE ∧ (overTest img b).remX = b.remX ∧ (overTest img b).account = b.account ∧
      (overTest img b).eRing = b.eRing ∧ (overTest img b).xRing = b.xRing := by
  unfold overTest; (repeat' split) <;> simp

theorem accountInRange_balanceEvaluation (s : State) : AccountInRange (balanceEvaluation s) := by
  unfold balanceEvaluation
  dsimp only
  have posted := accountInRange_postAccount (clamp 0 100000 (evalAdvance s))
    (clamp (-65536) 65536 (clearUnread (encoderTest s)).bal.acc) (evalInputs (clearUnread (encoderTest s)))
  generalize postAccount _ _ _ = p at posted
  exact posted.congr (by simp [underTest, overTest_account]) (by simp [underTest, overTest_account])
    (by simp [underTest, overTest_account]) (by simp [underTest, overTest_account])
    (by simp [underTest, overTest_account])

theorem counterInRange_holderHeard (j : Nat) (r : StatusRecord) {s : State} (h : CounterInRange s) :
    CounterInRange (holderHeard j r s) := by
  unfold holderHeard compareRings
  dsimp only
  split
  · split
    · split
      · exact (counterInRange_closeRing ((markHolderSeen r s).setRing r.ring)).congr (by simp)
      · split <;> exact h.congr (by simp)
    · exact h.congr (by simp)
  · exact h

theorem accountInRange_holderHeard (j : Nat) (r : StatusRecord) {s : State} (h : AccountInRange s) :
    AccountInRange (holderHeard j r s) := by
  have closed : AccountInRange (closeRing ((markHolderSeen r s).setRing r.ring)) :=
    accountInRange_closeRing (h.congr (by simp) (by simp) (by simp) (by simp) (by simp))
  unfold holderHeard compareRings
  dsimp only
  split
  · split
    · split
      · exact closed.congr (by simp) (by simp) (by simp) (by simp) (by simp)
      · split <;> exact h.congr (by simp) (by simp) (by simp) (by simp) (by simp)
    · exact h.congr (by simp) (by simp) (by simp) (by simp) (by simp)
  · exact h

theorem counterInRange_peerStatus (j : Nat) (seq : Tag) (r : StatusRecord) {s : State} (h : CounterInRange s) :
    CounterInRange (peerStatus j seq r s) := by
  unfold peerStatus countedNotice
  dsimp only
  split
  · exact counterInRange_holderHeard j r (h.congr (by simp))
  · exact h.congr (by simp)

theorem accountInRange_peerStatus (j : Nat) (seq : Tag) (r : StatusRecord) {s : State} (h : AccountInRange s) :
    AccountInRange (peerStatus j seq r s) := by
  unfold peerStatus countedNotice
  dsimp only
  split
  · exact accountInRange_holderHeard j r (h.congr (by simp) (by simp) (by simp) (by simp) (by simp))
  · exact h.congr (by simp) (by simp) (by simp) (by simp) (by simp)

theorem counterInRange_releaseExpires {s : State} (h : CounterInRange s) : CounterInRange (releaseExpires s) := by
  unfold releaseExpires holderRingClose
  dsimp only
  split
  · generalize hu : advanceRing _ = u
    exact (counterInRange_closeRing u).congr (by simp)
  · exact h.congr (by simp)

theorem accountInRange_releaseExpires {s : State} (h : AccountInRange s) : AccountInRange (releaseExpires s) := by
  unfold releaseExpires holderRingClose
  dsimp only
  split
  · generalize hu : advanceRing _ = u
    have hu : AccountInRange u := by
      subst hu
      exact h.congr (by simp) (by simp) (by simp) (by simp) (by simp)
    exact (accountInRange_closeRing hu).congr (by simp) (by simp) (by simp) (by simp) (by simp)
  · exact h.congr (by simp) (by simp) (by simp) (by simp) (by simp)

theorem counterInRange_order {s u : State} (acts : OrderActs s u) (h : CounterInRange s) :
    CounterInRange u := by
  cases acts <;> exact h.congr (by simp)

theorem accountInRange_order {s u : State} (acts : OrderActs s u) (h : AccountInRange s) :
    AccountInRange u := by
  have same : u.bal.remE = s.bal.remE ∧ u.bal.remX = s.bal.remX ∧ u.bal.account = s.bal.account ∧
      u.bal.eRing = s.bal.eRing ∧ u.bal.xRing = s.bal.xRing := by
    cases acts <;> simp
  obtain ⟨hE, hX, ha, he, hx⟩ := same
  exact h.congr hE hX ha he hx

theorem acts_counterInRange {s u : State} (acts : Acts s u) (h : CounterInRange s) : CounterInRange u := by
  cases acts with
  | probeBegins r => simp [CounterInRange, beginProbe, ThuState.cold]
  | statusHeard j seq r => exact counterInRange_peerStatus j seq r (h.congr (by simp))
  | releaseEnds => exact counterInRange_releaseExpires h
  | orderTaken tag code result acts => exact (counterInRange_order acts h).congr (by simp)
  | channelSampled x c =>
    cases c with
    | stroke => exact (counterInRange_strokeArrival (judgeInput .stroke x s)).congr (by simp [arrival])
    | _ => exact h.congr (by simp [arrival] <;> split <;> simp)
  | _ => exact h.congr (by simp)

theorem acts_accountInRange {s u : State} (acts : Acts s u) (h : AccountInRange s) : AccountInRange u := by
  cases acts with
  | probeBegins r => simp [AccountInRange, beginProbe, BalState.cold]
  | balanceEvaluated timer => exact accountInRange_balanceEvaluation _
  | statusHeard j seq r =>
    exact accountInRange_peerStatus j seq r (h.congr (by simp) (by simp) (by simp) (by simp) (by simp))
  | releaseEnds => exact accountInRange_releaseExpires h
  | orderTaken tag code result acts =>
    exact (accountInRange_order acts h).congr (by simp) (by simp) (by simp) (by simp) (by simp)
  | _ => exact h.congr (by simp) (by simp) (by simp) (by simp) (by simp)

theorem moves_counterInRange (s t : State) (h : CounterInRange s) (move : Moves s t) : CounterInRange t := by
  cases move with
  | closed acts => exact (acts_counterInRange acts h).congr (by simp)
  | powerUp straps => simp [CounterInRange, coldStart, ThuState.cold]
  | restarts tag => exact h.congr (by simp)
  | _ => exact h.congr (by simp)

theorem moves_accountInRange (s t : State) (h : AccountInRange s) (move : Moves s t) : AccountInRange t := by
  cases move with
  | closed acts =>
    exact (acts_accountInRange acts h).congr (by simp) (by simp) (by simp) (by simp) (by simp)
  | powerUp straps => simp [AccountInRange, coldStart, BalState.cold]
  | restarts tag =>
    obtain ⟨-, -, -, he, hx⟩ := h
    simp [AccountInRange, warmRestart, balanceRestart, BalState.cold, he, hx]
  | _ => exact h.congr (by simp) (by simp) (by simp) (by simp) (by simp)

/-- R100: every move of the ledger leaves a remainder in its range. -/
theorem LedgerMove.remainder {l m : Ledger} (h : LedgerMove l m) (hl : 0 ≤ l.remG ∧ l.remG < 1000000) :
    0 ≤ m.remG ∧ m.remG < 1000000 := by
  cases h with
  | owed r low high => exact ⟨low, high⟩
  | restarted => exact ⟨le_rfl, by decide⟩
  | _ => exact hl

theorem withinRanges_kept {s t : State} (hs : WithinRanges s) (h : step s = .next t) : WithinRanges t := by
  rw [withinRanges_iff] at *
  obtain ⟨counter, remainder, account⟩ := hs
  exact ⟨step_keeps moves_counterInRange counter h,
    step_keeps_ledger (P := fun l => 0 ≤ l.remG ∧ l.remG < 1000000) (fun _ _ move => move.remainder) remainder h,
    step_keeps moves_accountInRange account h⟩

/-! ## The conveyor -/

/-- R121: n_cmd is 0 outside RUNNING. -/
def ScrewRests (b : BalState) : Prop := b.conveyor ≠ .running → b.nCmd = 0

/-- What `ConveyorHeld` says of BAL's registers. -/
def BalHeld (b : BalState) : Prop :=
  ScrewRests b ∧ (b.active = true → b.conveyor = .running → ¬heldBack b) ∧
    (b.active = true → b.conveyor = .holding → heldBack b)

theorem conveyorHeld_iff {s : State} : ConveyorHeld s ↔ BalHeld s.bal := Iff.rfl

theorem heldBack_iff {b : BalState} : heldBack b ↔ holdCause b = true :=
  (holdCause_iff b).symm

/-- A conveyor at rest or in FAULT with n_cmd 0 has nothing more to answer for. -/
theorem balHeld_of_rest {b : BalState} (hn : b.nCmd = 0) (hr : b.conveyor ≠ .running)
    (hh : b.conveyor ≠ .holding) : BalHeld b :=
  ⟨fun _ => hn, fun _ h => absurd h hr, fun _ h => absurd h hh⟩

theorem balHeld_cold (target band : Int) : BalHeld (BalState.cold target band) :=
  balHeld_of_rest rfl (by simp [BalState.cold]) (by simp [BalState.cold])

theorem setConveyor_bal (c : Conveyor) (s : State) :
    (setConveyor c s).bal = { s.bal with conveyor := c, nCmd := if c = .running then s.bal.nCmd else 0 } := by
  simp [setConveyor]

theorem balHeld_setConveyor {c : Conveyor} (hr : c ≠ .running) (hh : c ≠ .holding) (s : State) :
    BalHeld (setConveyor c s).bal := by
  rw [setConveyor_bal]
  exact balHeld_of_rest (by simp [hr]) hr hh

/-- The test of the hold causes leaves the conveyor as they have it. -/
theorem balHeld_holdTest {s : State} (h : ScrewRests s.bal) : BalHeld (holdTest s).bal := by
  unfold holdTest
  split
  next hold =>
    obtain ⟨-, cause⟩ := hold
    rw [setConveyor_bal]
    refine ⟨fun _ => by simp, fun _ h => by simp at h, fun _ _ => heldBack_iff.2 cause⟩
  next running =>
    split
    next free =>
      obtain ⟨-, cause⟩ := free
      rw [setConveyor_bal]
      refine ⟨fun h => by simp at h, fun _ _ held => ?_, fun _ h => by simp at h⟩
      rw [heldBack_iff] at held
      have : holdCause s.bal = true := held
      simp [cause] at this
    next holding =>
      refine ⟨h, fun _ hr held => running ⟨hr, heldBack_iff.1 held⟩, fun _ hh => ?_⟩
      by_contra held
      rw [heldBack_iff, Bool.not_eq_true] at held
      exact holding ⟨hh, held⟩

theorem balHeld_setStopHold {s : State} (h : BalHeld s.bal) : BalHeld (setStopHold s).bal := by
  unfold setStopHold
  split
  · exact balHeld_holdTest h.1
  · exact h

theorem balHeld_clearStopHold {s : State} (h : BalHeld s.bal) : BalHeld (clearStopHold s).bal := by
  unfold clearStopHold
  split
  · exact balHeld_holdTest h.1
  · exact h

theorem balHeld_encoderTest {s : State} (h : BalHeld s.bal) : BalHeld (encoderTest s).bal := by
  unfold encoderTest
  split
  · exact balHeld_setConveyor (by simp) (by simp) s
  · exact h

theorem balHeld_clearUnread {s : State} (h : BalHeld s.bal) : BalHeld (clearUnread s).bal := by
  unfold clearUnread
  split
  · exact h
  · exact h

theorem balHeld_enterHalted {s : State} (h : BalHeld s.bal) : BalHeld (enterHalted s).bal := by
  unfold enterHalted
  refine balHeld_setStopHold ?_
  simpa using h

theorem balHeld_followConveyor (was : Bool) {s : State} (h : BalHeld s.bal) :
    BalHeld (followConveyor was s).bal := by
  unfold followConveyor balanceActivate balanceDeactivate
  split
  · exact h
  · split
    · split <;> exact balHeld_setConveyor (by simp) (by simp) _
    · exact balHeld_setConveyor (by simp) (by simp) _

theorem balHeld_evalDuties {s : State} (h : BalHeld s.bal) : BalHeld (evalDuties s).bal :=
  balHeld_followConveyor _ (by simpa using h)

theorem balHeld_changePeer (j : Nat) (e : PeerEntry) {s : State} (h : BalHeld s.bal) :
    BalHeld (changePeer j e s).bal := by
  unfold changePeer presenceNotice
  dsimp only
  split
  · exact balHeld_evalDuties (by simpa using h)
  · split
    · exact balHeld_evalDuties (by simpa using h)
    · exact h

/-- What BAL's registers say of the conveyor, from those that say it. -/
theorem BalHeld.congr {a b : BalState} (h : BalHeld a) (active : b.active = a.active)
    (conveyor : b.conveyor = a.conveyor) (nCmd : b.nCmd = a.nCmd) (cause : holdCause b = holdCause a) :
    BalHeld b := by
  unfold BalHeld ScrewRests at *
  rwa [heldBack_iff, active, conveyor, nCmd, cause, ← heldBack_iff]

theorem balHeld_closeRing {s : State} (h : BalHeld s.bal) : BalHeld (closeRing s).bal :=
  h.congr (by simp) (by simp) (by simp) (by simp [holdCause])

theorem balHeld_peerStatus (j : Nat) (seq : Tag) (r : StatusRecord) {s : State} (h : BalHeld s.bal) :
    BalHeld (peerStatus j seq r s).bal := by
  have changed := balHeld_changePeer j (statusEntry s.elapsed seq r (peerOf s j)) h
  unfold peerStatus countedNotice
  dsimp only
  split
  · exact changed.congr (by simp) (by simp) (by simp) (by simp [holdCause])
  · exact changed

theorem balHeld_screwStage {s : State} (h : BalHeld s.bal) : BalHeld (screwStage s).bal := by
  unfold screwStage
  split
  next running =>
    obtain ⟨-, free, -⟩ := h
    simp only [writeChangedScrew_frame, setFlagIf_frame, State.onBal_bal]
    exact ⟨fun h => absurd running h, fun ha hr => free ha hr, fun _ hh => by simp [running] at hh⟩
  next => exact h

theorem overTest_conveyor (img : Image) (b : BalState) :
    (overTest img b).conveyor = b.conveyor ∧ (overTest img b).nCmd = b.nCmd := by
  unfold overTest; (repeat' split) <;> simp

theorem balHeld_balanceEvaluation {s : State} (h : BalHeld s.bal) : BalHeld (balanceEvaluation s).bal := by
  have rests := (balHeld_clearUnread (balHeld_encoderTest h)).1
  unfold balanceEvaluation
  refine balHeld_screwStage (balHeld_holdTest ?_)
  simpa [ScrewRests, underTest, overTest_conveyor] using rests

theorem balHeld_arrival (before : State) (x : FieldInputs) (c : Channel) {s : State} (h : BalHeld s.bal) :
    BalHeld (arrival before x c s).bal := by
  cases c with
  | screwEncoder =>
    simp only [arrival, screwArrival, encoderReport, encoderArrival]
    have reported := balHeld_clearUnread (balHeld_encoderTest h)
    (repeat' split)
    all_goals first | exact h | exact reported
  | feederReady | atPosition | placementDone => simp only [arrival]; split <;> simpa using h
  | _ => simpa [arrival] using h

theorem balHeld_order {s u : State} (acts : OrderActs s u) (h : BalHeld s.bal) : BalHeld u.bal := by
  cases acts with
  | startsScrew rest =>
    rw [setConveyor_bal]
    split
    next cause =>
      exact ⟨fun _ => by simp, fun _ hr => by simp at hr, fun _ _ => heldBack_iff.2 cause⟩
    next free =>
      exact ⟨fun hr => absurd rfl hr, fun _ _ held => free (heldBack_iff.1 held), fun _ hh => by simp at hh⟩
  | stopsScrew => exact balHeld_setConveyor (by simp) (by simp) s
  | gates opens => exact balHeld_holdTest h.1
  | resumes phase =>
    unfold leaveHalted
    refine balHeld_clearStopHold ?_
    simpa using h
  | _ => exact h.congr (by simp) (by simp) (by simp) (by simp [holdCause])

theorem balHeld_activateEstop {s : State} (h : BalHeld s.bal) : BalHeld (activateEstop s).bal := by
  unfold activateEstop
  split
  · exact h
  · exact balHeld_setStopHold h

theorem balHeld_leaveListen {s : State} (h : BalHeld s.bal) : BalHeld (leaveListen s).bal := by
  unfold leaveListen
  split
  · exact balHeld_enterHalted h
  · exact h

theorem balHeld_endListen {s : State} (h : BalHeld s.bal) : BalHeld (endListen s).bal := by
  unfold endListen
  dsimp only
  generalize hu : evalDuties _ = u
  have evaluated : BalHeld u.bal := hu ▸ balHeld_evalDuties (by simpa using h)
  exact balHeld_leaveListen (evaluated.congr rfl rfl rfl rfl)

theorem balHeld_startListen (warm : Bool) {s : State} (h : BalHeld s.bal) : BalHeld (startListen warm s).bal := by
  unfold startListen
  simp only [handJoin_frame]
  exact balHeld_evalDuties (by simpa using h)

theorem acts_balHeld {s u : State} (acts : Acts s u) (h : BalHeld s.bal) : BalHeld u.bal := by
  have other (j : Nat) (seq : Tag) : BalHeld (peerOther j seq (lineUsed s)).bal := balHeld_changePeer j _ h
  cases acts with
  | probeBegins r =>
    have cold : (beginProbe r s).bal = BalState.cold r.fields.pTargetInit r.fields.bandInit := by simp [beginProbe]
    rw [cold]
    exact balHeld_cold _ _
  | listenEnds => exact balHeld_endListen h
  | balanceEvaluated timer => exact balHeld_balanceEvaluation h
  | statusHeard j seq r => exact balHeld_peerStatus j seq r h
  | joinHeard j seq r => exact balHeld_evalDuties (balHeld_changePeer j _ h)
  | otherHeard j seq => exact other j seq
  | requestHeard j seq => simpa using other j seq
  | replyHeard j seq => simpa using other j seq
  | estopHeard j seq => exact balHeld_activateEstop (other j seq)
  | peerSilent j => exact balHeld_changePeer j _ h
  | peerLost j => exact balHeld_changePeer j _ h
  | orderTaken tag code result acts => simpa using balHeld_order acts h
  | estopSampled l =>
    unfold estopSample
    dsimp only
    split
    · exact balHeld_activateEstop h
    · exact h
  | channelSampled x c => exact balHeld_arrival s x c (by simpa using h)
  | probeEnds x =>
    unfold endProbe
    exact balHeld_startListen false (by simpa using h)
  | _ => exact h.congr (by simp) (by simp) (by simp) (by simp [holdCause])

theorem balHeld_settle {s : State} (h : BalHeld s.bal) : BalHeld (settle s).bal := by
  have pass (u : State) (hu : BalHeld u.bal) : BalHeld (settleOnce u).bal := by
    have halted : BalHeld (haltTest (syncKinds AlarmKind.all (orphanTest u))).bal := by
      unfold haltTest
      split
      · exact balHeld_enterHalted (by simpa using hu)
      · simpa using hu
    simpa [settleOnce] using halted
  exact pass _ (pass _ (pass _ h))

theorem moves_conveyorHeld (s t : State) (h : BalHeld s.bal) (move : Moves s t) : BalHeld t.bal := by
  cases move with
  | closed acts => exact balHeld_settle (acts_balHeld acts h)
  | powerUp straps => exact balHeld_cold 0 0
  | restarts tag =>
    unfold warmRestart
    dsimp only
    generalize hu : forcingSync _ = u
    refine balHeld_startListen true ?_
    subst hu
    simp only [forcingSync_frame, State.onCfg_bal, plainPhase_frame, alarmsRestart_frame]
    unfold balanceRestart
    split <;> exact balHeld_setConveyor (by simp) (by simp) _
  | _ => exact h.congr (by simp) (by simp) (by simp) (by simp [holdCause])

theorem conveyorHeld_kept {s t : State} (hs : ConveyorHeld s) (h : step s = .next t) : ConveyorHeld t :=
  step_keeps moves_conveyorHeld hs h

end Sys2Proof.Machine
end

section
/-! The halt under a stop: every event that settles ends with no running phase under a stop and with the outputs
forced exactly while ALU forces them, wherever it began. -/

namespace Sys2Proof.Machine

open Sys2Proof

theorem stopInForce_congr {s u : State} (image : u.cfg.image = s.cfg.image)
    (entries : u.alu.entries = s.alu.entries) : stopInForce u = stopInForce s := by
  simp only [stopInForce, classInForce, inForce, entryOf, image, entries]

/-- R147, R148: no phase that a stop halts stands under one, and the ports apply ALU's forcing. -/
def HaltSettled (s : State) : Prop :=
  (s.phase.halts = true → stopInForce s = false ∧ s.alu.estop = false) ∧ s.fpt.forced = forcingNow s

theorem stopsHalt_iff {s : State} : StopsHalt s ↔ HaltSettled s := by
  have running : (s.phase = .idle ∨ s.phase = .advancing ∨ s.phase = .paused ∨ s.phase = .building) ↔
      s.phase.halts = true := by
    cases s.phase <;> simp [Phase.halts]
  have forced : (s.fpt.forced = true ↔
      s.alu.active = true ∧ (s.phase = .halted ∨ s.alu.estop = true ∨ classStands s .stop)) ↔
      s.fpt.forced = forcingNow s := by
    rw [Bool.eq_iff_iff (a := s.fpt.forced) (b := forcingNow s), forcingNow]
    simp only [Bool.and_eq_true, Bool.or_eq_true, decide_eq_true_eq, or_assoc, stopInForce_iff]
  unfold StopsHalt HaltSettled
  rw [running, forced, ← stopInForce_iff, Bool.not_eq_true]

/-- What the halt and the forcing are judged by. -/
theorem HaltSettled.congr {s u : State} (h : HaltSettled s) (image : u.cfg.image = s.cfg.image)
    (phase : u.phase = s.phase) (active : u.alu.active = s.alu.active) (estop : u.alu.estop = s.alu.estop)
    (entries : u.alu.entries = s.alu.entries) (forced : u.fpt.forced = s.fpt.forced) : HaltSettled u := by
  have stop : stopInForce u = stopInForce s := stopInForce_congr image entries
  unfold HaltSettled forcingNow at *
  rwa [phase, stop, active, estop, forced]

theorem enterHalted_phase (s : State) : (enterHalted s).phase = .halted := by
  simp [enterHalted, plainPhase]

/-- No running phase stands under a stop once the halt is tested. -/
theorem haltTest_runs (s : State) (h : (haltTest s).phase.halts = true) :
    stopInForce (haltTest s) = false ∧ (haltTest s).alu.estop = false := by
  unfold haltTest at *
  split at h
  · rw [enterHalted_phase] at h
    cases h
  next running =>
    rw [if_neg running]
    simpa [h, not_or] using running

theorem haltSettled_forcingSync {s : State}
    (h : s.phase.halts = true → stopInForce s = false ∧ s.alu.estop = false) : HaltSettled (forcingSync s) := by
  have stop : stopInForce (forcingSync s) = stopInForce s := stopInForce_congr (by simp) (by simp)
  have forcing : forcingNow (forcingSync s) = forcingNow s := by simp [forcingNow, stop]
  refine ⟨by simpa [stop] using h, ?_⟩
  rw [forcing]
  unfold forcingSync
  split
  next same => exact same
  next => simp

/-- The advance gate and the end of excavation lead from a running phase to a running phase. -/
theorem gate_phase (s : State) :
    (excavationTest (gateTest s)).phase = s.phase ∨
      (s.phase.halts = true ∧ (excavationTest (gateTest s)).phase.halts = true ∧
        (excavationTest (gateTest s)).phase ≠ .halted ∧ s.phase ≠ .halted) := by
  have gate : (gateTest s).phase = s.phase ∨ ((s.phase = .advancing ∨ s.phase = .paused) ∧
      ((gateTest s).phase = .advancing ∨ (gateTest s).phase = .paused)) := by
    unfold gateTest
    split
    next h => exact .inr ⟨.inl h.1, .inr (by simp [enterPaused])⟩
    next =>
      split
      next h =>
        refine .inr ⟨.inr h.1, .inl ?_⟩
        unfold enterAdvancing
        dsimp only
        split <;> simp
      next => exact .inl rfl
  unfold excavationTest
  split
  next h =>
    right
    rcases gate with same | ⟨before, -⟩
    · rcases h.1 with h | h <;> simp [← same, h, Phase.halts, plainPhase]
    · rcases before with h | h <;> simp [h, Phase.halts, plainPhase]
  next =>
    rcases gate with same | ⟨before, after⟩
    · exact .inl same
    · right
      rcases before with h | h <;> rcases after with k | k <;> simp [h, k, Phase.halts]

theorem haltSettled_settleOnce (s : State) : HaltSettled (settleOnce s) := by
  have forced := haltSettled_forcingSync (haltTest_runs (syncKinds AlarmKind.all (orphanTest s)))
  unfold settleOnce
  generalize forcingSync _ = u at forced
  have gate := gate_phase (enableSync u)
  have gated : HaltSettled (excavationTest (gateTest (enableSync u))) := by
    have stop : stopInForce (excavationTest (gateTest (enableSync u))) = stopInForce u :=
      stopInForce_congr (by simp) (by simp)
    obtain ⟨runs, forces⟩ := forced
    rcases gate with same | ⟨before, -, after, halted⟩
    · exact HaltSettled.congr ⟨runs, forces⟩ (by simp) (by simpa using same) (by simp) (by simp) (by simp) (by simp)
    · have halted : u.phase ≠ .halted := by simpa using halted
      refine ⟨fun _ => ?_, ?_⟩
      · rw [stop]
        simpa using runs (by simpa using before)
      · simpa [forcingNow, stop, after, halted] using forces
  exact gated.congr (by simp) (by simp) (by simp) (by simp) (by simp) (by simp)

theorem haltSettled_settle (s : State) : HaltSettled (settle s) := haltSettled_settleOnce _

/-- The phase LISTEN, in which a warm restart and the end of PROBE leave the station, is halted by no stop. -/
theorem haltSettled_startListen (warm : Bool) {s : State} (forced : s.fpt.forced = forcingNow s)
    (phase : s.phase ≠ .halted) : HaltSettled (startListen warm s) := by
  have listen : (startListen warm s).phase = .listen := by simp [startListen, plainPhase]
  have stop : stopInForce (startListen warm s) = stopInForce s := stopInForce_congr (by simp) (by simp)
  refine ⟨fun h => by simp [listen, Phase.halts] at h, ?_⟩
  simpa [forcingNow, listen, stop, phase] using forced

theorem haltSettled_warmRestart (s : State) : HaltSettled (warmRestart s) := by
  unfold warmRestart
  dsimp only
  refine haltSettled_startListen true (haltSettled_forcingSync fun h => ?_).2 ?_
  · simp [plainPhase, Phase.halts] at h
  · simp [plainPhase]

theorem moves_haltSettled (s t : State) (h : HaltSettled s) (move : Moves s t) : HaltSettled t := by
  cases move with
  | closed acts => exact haltSettled_settle _
  | powerUp straps =>
    exact ⟨fun h => by simp [coldStart, Phase.halts] at h, by
      simp [coldStart, forcingNow, FptState.cold, AluState.cold]⟩
  | configFault load =>
    have stop : stopInForce (enterConfigFault s) = stopInForce s := stopInForce_congr (by simp) (by simp)
    have phase : (enterConfigFault s).phase = .configFault := by simp [enterConfigFault]
    obtain ⟨-, forces⟩ := h
    refine ⟨fun h => by simp [phase, Phase.halts] at h, ?_⟩
    simpa [forcingNow, phase, load, stop] using forces
  | restarts tag => exact haltSettled_warmRestart _
  | _ => exact h.congr (by simp) (by simp) (by simp) (by simp) (by simp) (by simp)

theorem stopsHalt_kept {s t : State} (hs : StopsHalt s) (h : step s = .next t) : StopsHalt t :=
  stopsHalt_iff.2 (step_keeps moves_haltSettled (stopsHalt_iff.1 hs) h)

/-- Settles O59: each of the five invariants is kept by every event. -/
theorem tablesRangesAndHoldsAreKept : Obligations.TablesRangesAndHoldsAreKept :=
  ⟨fun _ _ => shaped_kept, fun _ _ => alarmsSound_kept, fun _ _ => withinRanges_kept,
    fun _ _ => conveyorHeld_kept, fun _ _ => stopsHalt_kept⟩

end Sys2Proof.Machine
end

section
/-! The peer table as the blocks read it: what an entry written changes of what each sector serves, and what the
agreement counters leave of it. -/

namespace Sys2Proof.Machine

open Sys2Proof

theorem peerOf_setPeer_same {j : Nat} (e : PeerEntry) {s : State} (h : j < s.ptb.peers.length) :
    peerOf (setPeer j e s) j = e := by
  simp [peerOf, setPeer, putAt, List.getD_eq_getElem?_getD, h]

theorem peerOf_setPeer_ne {j k : Nat} (e : PeerEntry) (s : State) (h : k ≠ j) :
    peerOf (setPeer j e s) k = peerOf s k := by
  simp [peerOf, setPeer, putAt, List.getD_eq_getElem?_getD, List.getElem?_set_ne (Ne.symm h)]

/-- No entry past the table's end. -/
theorem setPeer_of_length_le {j : Nat} (e : PeerEntry) {s : State} (h : s.ptb.peers.length ≤ j) :
    setPeer j e s = s := by
  simp [setPeer, putAt, State.onPtb, List.set_eq_of_length_le h]

theorem peerOf_of_length_le {j : Nat} {s : State} (h : s.ptb.peers.length ≤ j) : peerOf s j = {} := by
  simp [peerOf, List.getD_eq_getElem?_getD, List.getElem?_eq_none h]

theorem peerOf_congr {s u : State} (h : u.ptb.peers = s.ptb.peers) (j : Nat) : peerOf u j = peerOf s j := by
  simp [peerOf, h]

theorem peerOf_clearAgreement (j : Nat) (s : State) :
    peerOf (clearAgreement s) j = { peerOf s j with agreement := 0 } := by
  simp only [peerOf, clearAgreement, State.onPtb_ptb, List.getD_eq_getElem?_getD, List.getElem?_map]
  cases s.ptb.peers[j]? <;> rfl

/-! ## What a sector serves -/

/-- What an entry serves: its record while it is present. -/
def servedBy (e : PeerEntry) : Option StatusRecord :=
  if entryPresent e then e.record else none

theorem served_eq (s : State) (j : Nat) : served s j = servedBy (peerOf s j) := rfl

theorem present_eq (s : State) (j : Nat) : present s j = entryPresent (peerOf s j) := rfl

/-- What an entry serves is a matter of its liveness and its record. -/
theorem servedBy_congr {e e' : PeerEntry} (hl : e'.liveness = e.liveness) (hr : e'.record = e.record) :
    servedBy e' = servedBy e := by
  unfold servedBy entryPresent; rw [hl, hr]

theorem served_setPeer_ne {j k : Nat} (e : PeerEntry) (s : State) (h : k ≠ j) :
    served (setPeer j e s) k = served s k := by
  rw [served_eq, peerOf_setPeer_ne e s h, ← served_eq]

theorem served_setPeer_same {j : Nat} (e : PeerEntry) {s : State} (h : j < s.ptb.peers.length) :
    served (setPeer j e s) j = servedBy e := by
  rw [served_eq, peerOf_setPeer_same e h]

/-- An entry written that serves what the one before served changes nothing that a sector serves. -/
theorem served_setPeer_of_servedBy {j : Nat} {e : PeerEntry} {s : State} (h : servedBy e = served s j) (k : Nat) :
    served (setPeer j e s) k = served s k := by
  rcases Nat.lt_or_ge j s.ptb.peers.length with hj | hj
  · by_cases hk : k = j
    · rw [hk, served_setPeer_same e hj, h]
    · exact served_setPeer_ne e s hk
  · rw [setPeer_of_length_le e hj]

theorem served_clearAgreement (s : State) (j : Nat) : served (clearAgreement s) j = served s j := by
  rw [served_eq, peerOf_clearAgreement, served_eq]
  exact servedBy_congr rfl rfl

theorem presentPeers_congr {s u : State} (h : ∀ j, served u j = served s j) : presentPeers u = presentPeers s := by
  simp only [presentPeers, h]

theorem mem_presentPeers {s : State} {p : Nat × StatusRecord} :
    p ∈ presentPeers s ↔ p.1 < 8 ∧ served s p.1 = some p.2 := by
  obtain ⟨j, r⟩ := p
  have sectors : j ∈ sectorNumbers ↔ j < 8 := by simp [sectorNumbers]; omega
  simp only [presentPeers, List.mem_filterMap, Option.map_eq_some_iff, Prod.mk.injEq]
  constructor
  · rintro ⟨k, hk, r', hr, rfl, rfl⟩
    exact ⟨sectors.1 hk, hr⟩
  · rintro ⟨hj, hr⟩
    exact ⟨j, sectors.2 hj, r, hr, rfl, rfl⟩

theorem served_some_present {s : State} {j : Nat} {r : StatusRecord} (h : served s j = some r) :
    present s j = true := by
  by_contra hp
  rw [served, if_neg hp] at h
  cases h

end Sys2Proof.Machine
end

section
/-! The agreement of the duty levels (R38 to R42): the applied level against the proposals, and the candidate, as
each of DSU's operations leaves them. -/

namespace Sys2Proof.Machine

open Sys2Proof

/-! ## The lowest proposal and the candidate (R40) -/

theorem foldl_min_le_iff (l : List (Nat × StatusRecord)) (a x : Nat) :
    x ≤ l.foldl (fun acc p => min acc p.2.proposed) a ↔ x ≤ a ∧ ∀ p ∈ l, x ≤ p.2.proposed := by
  induction l generalizing a with
  | nil => simp
  | cons p rest ih => rw [List.foldl_cons, ih, List.forall_mem_cons, le_min_iff, and_assoc]

theorem foldl_min_attained (l : List (Nat × StatusRecord)) (a : Nat) :
    l.foldl (fun acc p => min acc p.2.proposed) a = a ∨
      ∃ p ∈ l, p.2.proposed = l.foldl (fun acc p => min acc p.2.proposed) a := by
  induction l generalizing a with
  | nil => exact .inl rfl
  | cons p rest ih =>
    rw [List.foldl_cons]
    rcases ih (min a p.2.proposed) with h | ⟨q, hq, h⟩
    · rw [h]
      rcases min_choice a p.2.proposed with hm | hm
      · exact .inl hm
      · exact .inr ⟨p, List.mem_cons_self, hm.symm⟩
    · exact .inr ⟨q, List.mem_cons_of_mem p hq, h⟩

theorem le_lowestProposal_iff {s : State} {x : Nat} :
    x ≤ lowestProposal s ↔ x ≤ s.dsu.proposed ∧ ∀ p ∈ presentPeers s, x ≤ p.2.proposed :=
  foldl_min_le_iff _ _ _

theorem lowestProposal_attained (s : State) :
    lowestProposal s = s.dsu.proposed ∨ ∃ p ∈ presentPeers s, p.2.proposed = lowestProposal s :=
  foldl_min_attained _ _

/-- R39: the applied level is at or below every proposal. -/
theorem levelsAgree_iff {s : State} : LevelsAgree s ↔ s.dsu.applied ≤ lowestProposal s :=
  le_lowestProposal_iff.symm

theorem lowestProposal_congr {s u : State} (hd : u.dsu.proposed = s.dsu.proposed)
    (hp : presentPeers u = presentPeers s) : lowestProposal u = lowestProposal s := by
  unfold lowestProposal; rw [hd, hp]

theorem candidateNow_eq_some_iff {s : State} {c : Nat} :
    candidateNow s = some c ↔ s.dsu.applied < c ∧ c = lowestProposal s := by
  unfold candidateNow
  split
  next h => rw [Option.some.injEq]; exact ⟨fun hc => ⟨hc ▸ h, hc.symm⟩, fun hc => hc.2.symm⟩
  next h =>
    simp only [reduceCtorEq, false_iff, not_and]
    rintro ha rfl
    exact h ha

theorem lowest_iff {s : State} {c : Nat} :
    c = lowestProposal s ↔ c ≤ s.dsu.proposed ∧ (∀ p ∈ presentPeers s, c ≤ p.2.proposed) ∧
      (c = s.dsu.proposed ∨ ∃ p ∈ presentPeers s, p.2.proposed = c) := by
  constructor
  · rintro rfl
    obtain ⟨own, peers⟩ := le_lowestProposal_iff.1 (le_refl (lowestProposal s))
    exact ⟨own, peers, lowestProposal_attained s⟩
  · rintro ⟨own, peers, attained⟩
    refine le_antisymm (le_lowestProposal_iff.2 ⟨own, peers⟩) ?_
    obtain ⟨low, lows⟩ := le_lowestProposal_iff.1 (le_refl (lowestProposal s))
    rcases attained with rfl | ⟨p, hp, rfl⟩
    · exact low
    · exact lows p hp

/-- R40: the candidate stands as the proposals give it. -/
def HasCandidate (s : State) : Prop := s.dsu.candidate = candidateNow s

theorem candidateHeld_iff {s : State} :
    CandidateHeld s ↔ HasCandidate s ∧ (s.dsu.candidate ≠ none → allAgree s = false) := by
  have now : HasCandidate s ↔ ∀ c, s.dsu.candidate = some c ↔
      s.dsu.applied < c ∧ c ≤ s.dsu.proposed ∧ (∀ p ∈ presentPeers s, c ≤ p.2.proposed) ∧
        (c = s.dsu.proposed ∨ ∃ p ∈ presentPeers s, p.2.proposed = c) := by
    simp only [← lowest_iff, ← candidateNow_eq_some_iff]
    exact ⟨fun h c => by rw [h], fun h => Option.ext h⟩
  have agree : (∃ p ∈ presentPeers s, (peerOf s p.1).agreement < 2) ↔ allAgree s = false := by
    simp [allAgree, -Prod.exists]
  unfold CandidateHeld
  rw [← now, agree]

/-! ## What DSU's operations leave of the proposals -/

theorem presentPeers_clearAgreement (s : State) : presentPeers (clearAgreement s) = presentPeers s :=
  presentPeers_congr (served_clearAgreement s)

theorem presentPeers_of_ptb {s u : State} (h : u.ptb.peers = s.ptb.peers) : presentPeers u = presentPeers s :=
  presentPeers_congr fun j => by rw [served_eq, served_eq, peerOf_congr h]

@[simp] theorem presentPeers_setApplied (l : Nat) (s : State) : presentPeers (setApplied l s) = presentPeers s :=
  presentPeers_of_ptb (by simp)

@[simp] theorem presentPeers_recomputeCandidate (s : State) :
    presentPeers (recomputeCandidate s) = presentPeers s := by
  unfold recomputeCandidate
  split
  · rfl
  · rw [presentPeers_clearAgreement]; rfl

@[simp] theorem presentPeers_riseCheck (s : State) : presentPeers (riseCheck s) = presentPeers s := by
  unfold riseCheck; (repeat' split) <;> simp

@[simp] theorem presentPeers_fallCheck (p : Nat) (s : State) : presentPeers (fallCheck p s) = presentPeers s := by
  unfold fallCheck; split <;> simp

@[simp] theorem presentPeers_countAgreement (j : Nat) (s : State) :
    presentPeers (countAgreement j s) = presentPeers s := by
  unfold countAgreement
  split
  · rfl
  · exact presentPeers_congr (served_setPeer_of_servedBy (servedBy_congr rfl rfl))

@[simp] theorem setApplied_applied (l : Nat) (s : State) : (setApplied l s).dsu.applied = l := by
  unfold setApplied; dsimp only; (repeat' split) <;> simp

@[simp] theorem recomputeCandidate_candidate (s : State) :
    (recomputeCandidate s).dsu.candidate = candidateNow s := by
  unfold recomputeCandidate
  split
  next h => exact h.symm
  next => rfl

@[simp] theorem lowestProposal_setApplied (l : Nat) (s : State) :
    lowestProposal (setApplied l s) = lowestProposal s :=
  lowestProposal_congr (by simp) (by simp)

@[simp] theorem lowestProposal_recomputeCandidate (s : State) :
    lowestProposal (recomputeCandidate s) = lowestProposal s :=
  lowestProposal_congr (by simp) (by simp)

@[simp] theorem fallCheck_applied (p : Nat) (s : State) :
    (fallCheck p s).dsu.applied = min s.dsu.applied p := by
  unfold fallCheck
  split
  next h => simp [Nat.min_eq_right h.le]
  next h => rw [Nat.min_eq_left (Nat.le_of_not_lt h)]

@[simp] theorem lowestProposal_fallCheck (p : Nat) (s : State) :
    lowestProposal (fallCheck p s) = lowestProposal s :=
  lowestProposal_congr (by simp) (by simp)

@[simp] theorem lowestProposal_countAgreement (j : Nat) (s : State) :
    lowestProposal (countAgreement j s) = lowestProposal s :=
  lowestProposal_congr (by simp) (by simp)

/-! ## The candidate after them -/

theorem hasCandidate_recomputeCandidate (s : State) : HasCandidate (recomputeCandidate s) := by
  simp [HasCandidate, candidateNow]

theorem HasCandidate.countAgreement {s : State} (h : HasCandidate s) (j : Nat) :
    HasCandidate (countAgreement j s) := by
  simpa [HasCandidate, candidateNow] using h

/-- R41: after the test for the rise no candidate stands on which every peer agrees. -/
theorem candidateHeld_riseCheck {s : State} (h : HasCandidate s) : CandidateHeld (riseCheck s) := by
  rw [candidateHeld_iff]
  unfold riseCheck
  split
  next none => exact ⟨h, fun some => absurd none some⟩
  next c hc =>
    split
    next agree =>
      refine ⟨hasCandidate_recomputeCandidate _, fun some => absurd ?_ some⟩
      obtain ⟨-, rfl⟩ := candidateNow_eq_some_iff.1 (h.symm.trans hc)
      simp [candidateNow]
    next differ => exact ⟨h, fun _ => by simpa using differ⟩

theorem candidateHeld_driveCountedStatus (j : Nat) (r : StatusRecord) (s : State) :
    CandidateHeld (driveCountedStatus j r s) :=
  candidateHeld_riseCheck ((hasCandidate_recomputeCandidate _).countAgreement j)

theorem candidateHeld_drivePresence (j : Nat) (s : State) : CandidateHeld (drivePresence j s) := by
  unfold drivePresence
  split <;> exact candidateHeld_riseCheck (hasCandidate_recomputeCandidate _)

theorem candidateHeld_repropose {s : State} (h : CandidateHeld s) : CandidateHeld (repropose s) := by
  unfold repropose
  split
  · exact h
  · exact candidateHeld_riseCheck (hasCandidate_recomputeCandidate _)

/-! ## The applied level after them -/

/-- R39: a fall to a proposal that is at or below every other. -/
theorem levelsAgree_fallCheck {p : Nat} {s : State} (h : min s.dsu.applied p ≤ lowestProposal s) :
    LevelsAgree (fallCheck p s) := by
  rw [levelsAgree_iff]
  simpa using h

theorem levelsAgree_recomputeCandidate {s : State} (h : LevelsAgree s) : LevelsAgree (recomputeCandidate s) := by
  rw [levelsAgree_iff] at *
  simpa using h

theorem levelsAgree_countAgreement (j : Nat) {s : State} (h : LevelsAgree s) : LevelsAgree (countAgreement j s) := by
  rw [levelsAgree_iff] at *
  simpa using h

/-- R41: the rise goes no higher than the lowest proposal. -/
theorem levelsAgree_riseCheck {s : State} (h : LevelsAgree s) (hc : HasCandidate s) :
    LevelsAgree (riseCheck s) := by
  unfold riseCheck
  split
  · exact h
  next c some =>
    split
    · obtain ⟨-, rfl⟩ := candidateNow_eq_some_iff.1 (hc.symm.trans some)
      rw [levelsAgree_iff]
      simp
    · exact h

theorem levelsAgree_repropose {s : State} (h : LevelsAgree s) : LevelsAgree (repropose s) := by
  unfold repropose
  split
  · exact h
  · refine levelsAgree_riseCheck (levelsAgree_recomputeCandidate (levelsAgree_fallCheck ?_))
      (hasCandidate_recomputeCandidate _)
    obtain ⟨own, peers⟩ := h
    rw [le_lowestProposal_iff]
    exact ⟨Nat.min_le_right _ _, fun p hp => (Nat.min_le_left _ _).trans (peers p hp)⟩

/-- Every present peer but one proposes at least the applied level, and so does the station itself. -/
def LevelsAgreeBut (j : Nat) (s : State) : Prop :=
  s.dsu.applied ≤ s.dsu.proposed ∧ ∀ p ∈ presentPeers s, p.1 ≠ j → s.dsu.applied ≤ p.2.proposed

theorem LevelsAgree.but {s : State} (h : LevelsAgree s) (j : Nat) : LevelsAgreeBut j s :=
  ⟨h.1, fun p hp _ => h.2 p hp⟩

/-- R39: the fall to the proposal of that one. -/
theorem LevelsAgreeBut.fallCheck {j : Nat} {r : StatusRecord} {s : State} (h : LevelsAgreeBut j s)
    (hr : served s j = some r) : LevelsAgree (fallCheck r.proposed s) := by
  obtain ⟨own, peers⟩ := h
  refine levelsAgree_fallCheck (le_lowestProposal_iff.2 ⟨(Nat.min_le_left _ _).trans own, fun p hp => ?_⟩)
  by_cases hj : p.1 = j
  · have same := (mem_presentPeers.1 hp).2
    rw [hj, hr, Option.some.injEq] at same
    exact (Nat.min_le_right _ _).trans_eq (by rw [same])
  · exact (Nat.min_le_left _ _).trans (peers p hp hj)

theorem levelsAgree_driveCountedStatus {j : Nat} {r : StatusRecord} {s : State} (h : LevelsAgreeBut j s)
    (hr : served s j = some r) : LevelsAgree (driveCountedStatus j r s) :=
  levelsAgree_riseCheck (levelsAgree_countAgreement j (levelsAgree_recomputeCandidate
    (LevelsAgreeBut.fallCheck (s := watchPeer j r.cutterhead s) h hr)))
    ((hasCandidate_recomputeCandidate _).countAgreement j)

theorem levelsAgree_drivePresence {j : Nat} {s : State} (h : LevelsAgreeBut j s) :
    LevelsAgree (drivePresence j s) := by
  unfold drivePresence
  split
  next r hr =>
    exact levelsAgree_riseCheck (levelsAgree_recomputeCandidate (h.fallCheck hr))
      (hasCandidate_recomputeCandidate _)
  next hr =>
    refine levelsAgree_riseCheck (levelsAgree_recomputeCandidate ?_) (hasCandidate_recomputeCandidate _)
    refine ⟨h.1, fun p hp => h.2 p hp ?_⟩
    rintro rfl
    have some : served s p.1 = some p.2 := (mem_presentPeers.1 hp).2
    rw [hr] at some
    cases some

end Sys2Proof.Machine
end

section
/-! The agreement of the duty levels through every event. -/

namespace Sys2Proof.Machine

open Sys2Proof

/-! ## What the agreement is judged by -/

theorem levelsAgree_congr {s u : State} (h : LevelsAgree s) (applied : u.dsu.applied = s.dsu.applied)
    (proposed : u.dsu.proposed = s.dsu.proposed) (peers : presentPeers u = presentPeers s) : LevelsAgree u := by
  unfold LevelsAgree; rwa [applied, proposed, peers]

theorem candidateHeld_congr {s u : State} (h : CandidateHeld s) (applied : u.dsu.applied = s.dsu.applied)
    (proposed : u.dsu.proposed = s.dsu.proposed) (candidate : u.dsu.candidate = s.dsu.candidate)
    (peers : presentPeers u = presentPeers s)
    (agreement : ∀ p ∈ presentPeers s, (peerOf u p.1).agreement = (peerOf s p.1).agreement) :
    CandidateHeld u := by
  unfold CandidateHeld
  rw [applied, proposed, candidate, peers]
  obtain ⟨now, differ⟩ := h
  refine ⟨now, fun some => ?_⟩
  obtain ⟨p, hp, low⟩ := differ some
  exact ⟨p, hp, by rwa [agreement p hp]⟩

/-- The levels and the peer table as they are. -/
structure SameLevels (s u : State) : Prop where
  applied : u.dsu.applied = s.dsu.applied
  proposed : u.dsu.proposed = s.dsu.proposed
  candidate : u.dsu.candidate = s.dsu.candidate
  peers : u.ptb.peers = s.ptb.peers

theorem SameLevels.levels {s u : State} (h : SameLevels s u) (hs : LevelsAgree s) : LevelsAgree u :=
  levelsAgree_congr hs h.applied h.proposed (presentPeers_of_ptb h.peers)

theorem SameLevels.held {s u : State} (h : SameLevels s u) (hs : CandidateHeld s) : CandidateHeld u :=
  candidateHeld_congr hs h.applied h.proposed h.candidate (presentPeers_of_ptb h.peers)
    fun p _ => by rw [peerOf_congr h.peers]

/-! ## An entry written and its notices -/

/-- What follows the drive notice in a presence change keeps the levels. -/
theorem sameLevels_presenceNotice (j : Nat) (s : State) : SameLevels (drivePresence j s) (presenceNotice j s) := by
  constructor <;> simp [presenceNotice]

theorem sameLevels_evalDuties (s : State) : SameLevels s (evalDuties s) := by
  constructor <;> simp

theorem presentPeers_drivePresence (j : Nat) (s : State) : presentPeers (drivePresence j s) = presentPeers s := by
  unfold drivePresence
  split
  · simp
  · rw [presentPeers_riseCheck, presentPeers_recomputeCandidate]; rfl

theorem presentPeers_changePeer (j : Nat) (e : PeerEntry) (s : State) :
    presentPeers (changePeer j e s) = presentPeers (setPeer j e s) := by
  unfold changePeer
  dsimp only
  split
  · rw [presentPeers_of_ptb (sameLevels_presenceNotice j _).peers, presentPeers_drivePresence]
  · split
    · exact presentPeers_of_ptb (sameLevels_evalDuties _).peers
    · rfl

/-- One entry written: every other sector proposes what it did. -/
theorem levelsAgreeBut_setPeer (j : Nat) (e : PeerEntry) {s : State} (h : LevelsAgree s) :
    LevelsAgreeBut j (setPeer j e s) := by
  refine ⟨h.1, fun p hp hj => h.2 p ?_⟩
  rw [mem_presentPeers, served_setPeer_ne e s hj] at hp
  exact mem_presentPeers.2 hp

theorem levelsAgreeBut_changePeer (j : Nat) (e : PeerEntry) {s : State} (h : LevelsAgree s) :
    LevelsAgreeBut j (changePeer j e s) := by
  have set := levelsAgreeBut_setPeer j e h
  unfold changePeer
  dsimp only
  split
  · exact ((sameLevels_presenceNotice j _).levels (levelsAgree_drivePresence set)).but j
  · split
    · unfold LevelsAgreeBut at *
      rwa [(sameLevels_evalDuties _).applied, (sameLevels_evalDuties _).proposed,
        presentPeers_of_ptb (sameLevels_evalDuties _).peers]
    · exact set

/-- What an entry may change without touching the agreement: nothing that it serves, or its presence. -/
def Announced (before after : PeerEntry) : Prop :=
  entryPresent after = entryPresent before → entryPresent before = true →
    after.record = before.record ∧ after.agreement = before.agreement

theorem Announced.servedBy {before after : PeerEntry} (h : Announced before after)
    (same : entryPresent after = entryPresent before) : servedBy after = servedBy before := by
  unfold Machine.servedBy
  rw [same]
  split
  next present => exact (h same present).1
  next => rfl

theorem sameLevels_setPeer_of_announced {j : Nat} {e : PeerEntry} {s : State} (h : Announced (peerOf s j) e)
    (same : entryPresent e = entryPresent (peerOf s j)) :
    presentPeers (setPeer j e s) = presentPeers s ∧
      ∀ p ∈ presentPeers s, (peerOf (setPeer j e s) p.1).agreement = (peerOf s p.1).agreement := by
  refine ⟨presentPeers_congr (served_setPeer_of_servedBy (h.servedBy same)), fun p hp => ?_⟩
  rcases Nat.lt_or_ge j s.ptb.peers.length with hj | hj
  · by_cases hk : p.1 = j
    · have present := served_some_present (mem_presentPeers.1 hp).2
      rw [hk] at *
      rw [peerOf_setPeer_same e hj, (h same present).2]
    · rw [peerOf_setPeer_ne e s hk]
  · rw [setPeer_of_length_le e hj]

theorem levelsAgree_changePeer {j : Nat} {e : PeerEntry} {s : State} (h : LevelsAgree s)
    (announced : Announced (peerOf s j) e) : LevelsAgree (changePeer j e s) := by
  unfold changePeer
  dsimp only
  split
  · exact (sameLevels_presenceNotice j _).levels (levelsAgree_drivePresence (levelsAgreeBut_setPeer j e h))
  next same =>
    have set : LevelsAgree (setPeer j e s) :=
      levelsAgree_congr h rfl rfl (sameLevels_setPeer_of_announced announced (not_not.1 same).symm).1
    split
    · exact (sameLevels_evalDuties _).levels set
    · exact set

theorem candidateHeld_changePeer {j : Nat} {e : PeerEntry} {s : State} (h : CandidateHeld s)
    (announced : Announced (peerOf s j) e) : CandidateHeld (changePeer j e s) := by
  unfold changePeer
  dsimp only
  split
  · exact (sameLevels_presenceNotice j _).held (candidateHeld_drivePresence j _)
  next same =>
    obtain ⟨peers, agreement⟩ := sameLevels_setPeer_of_announced announced (not_not.1 same).symm
    have set : CandidateHeld (setPeer j e s) := candidateHeld_congr h rfl rfl rfl peers agreement
    split
    · exact (sameLevels_evalDuties _).held set
    · exact set

theorem announced_joinEntry (own : Digest) (now : Time) (seq : Tag) (r : JoinRecord) (e : PeerEntry) :
    Announced e (joinEntry own now seq r e) := by
  intro same present
  unfold joinEntry at *
  split at same
  · rw [if_pos ‹_›]; exact ⟨rfl, rfl⟩
  · split at same <;> rw [present] at same <;> simp [entryPresent] at same

theorem announced_otherEntry (now : Time) (seq : Tag) (e : PeerEntry) : Announced e (otherEntry now seq e) := by
  intro _ present
  unfold entryPresent at present
  unfold otherEntry
  cases h : e.liveness <;> simp_all [noteFrame]

theorem announced_silentEntry (e : PeerEntry) : Announced e (silentEntry e) := fun _ _ => ⟨rfl, rfl⟩

theorem announced_lostEntry (e : PeerEntry) : Announced e (lostEntry e) := by
  intro same present
  rw [present] at same
  simp [entryPresent, lostEntry] at same

/-! ## A STATUS -/

/-- What follows the drive notice in the notice of a counted STATUS keeps the levels. -/
theorem sameLevels_countedNotice (j : Nat) (r : StatusRecord) (s : State) :
    SameLevels (driveCountedStatus j r s) (countedNotice j r s) := by
  constructor <;> simp [countedNotice]

/-- An entry a STATUS makes LIVE serves that STATUS; -/
theorem servedBy_statusEntry {now : Time} {seq : Tag} {r : StatusRecord} {e : PeerEntry}
    (live : (statusEntry now seq r e).liveness = .live) : servedBy (statusEntry now seq r e) = some r := by
  have record : (statusEntry now seq r e).record = some r := by
    unfold statusEntry at *
    cases h : e.liveness <;> simp_all [storeStatus, addClaims, noteFrame]
    split at live <;> simp_all
  simp [servedBy, entryPresent, live, record]

/-- any other is present neither before nor after. -/
theorem announced_statusEntry {now : Time} {seq : Tag} {r : StatusRecord} {e : PeerEntry}
    (dead : (statusEntry now seq r e).liveness ≠ .live) : Announced e (statusEntry now seq r e) := by
  intro _ present
  unfold entryPresent at present
  unfold statusEntry at dead
  cases h : e.liveness <;> simp_all [storeStatus, addClaims, noteFrame]

theorem levelsAgree_peerStatus {j : Nat} (seq : Tag) (r : StatusRecord) {s : State} (sector : j < 8)
    (table : s.ptb.peers.length = 8) (h : LevelsAgree s) : LevelsAgree (peerStatus j seq r s) := by
  unfold peerStatus
  dsimp only
  split
  next live =>
    have serves : served (changePeer j (statusEntry s.elapsed seq r (peerOf s j)) s) j = some r := by
      have mem : (j, r) ∈ presentPeers (changePeer j (statusEntry s.elapsed seq r (peerOf s j)) s) := by
        rw [presentPeers_changePeer, mem_presentPeers, served_setPeer_same _ (table ▸ sector),
          servedBy_statusEntry live]
        exact ⟨sector, rfl⟩
      exact (mem_presentPeers.1 mem).2
    exact (sameLevels_countedNotice j r _).levels
      (levelsAgree_driveCountedStatus (levelsAgreeBut_changePeer j _ h) serves)
  next dead => exact levelsAgree_changePeer h (announced_statusEntry dead)

theorem candidateHeld_peerStatus (j : Nat) (seq : Tag) (r : StatusRecord) {s : State} (h : CandidateHeld s) :
    CandidateHeld (peerStatus j seq r s) := by
  unfold peerStatus
  dsimp only
  split
  next live => exact (sameLevels_countedNotice j r _).held (candidateHeld_driveCountedStatus j r _)
  next dead => exact candidateHeld_changePeer h (announced_statusEntry dead)

/-! ## Every event -/

/-- The duty evaluation moves the levels only where the own choice steps. -/
theorem dutyEvaluation_levels (s : State) :
    SameLevels s (dutyEvaluation s) ∨ ∃ u, SameLevels s u ∧ dutyEvaluation s = repropose u := by
  unfold dutyEvaluation evaluateLoad compareLoad stepChoice
  dsimp only
  (repeat' split)
  all_goals first
    | exact .inr ⟨_, by constructor <;> simp, rfl⟩
    | exact .inl (by constructor <;> simp)

/-- The levels agree as they did, and the candidate stands as it did. -/
def KeepsLevels (s u : State) : Prop :=
  (LevelsAgree s → LevelsAgree u) ∧ (CandidateHeld s → CandidateHeld u)

theorem SameLevels.keeps {s u : State} (h : SameLevels s u) : KeepsLevels s u := ⟨h.levels, h.held⟩

theorem KeepsLevels.trans {s u v : State} (h : KeepsLevels s u) (k : KeepsLevels u v) : KeepsLevels s v :=
  ⟨k.1 ∘ h.1, k.2 ∘ h.2⟩

theorem keepsLevels_repropose (s : State) : KeepsLevels s (repropose s) :=
  ⟨levelsAgree_repropose, candidateHeld_repropose⟩

theorem keepsLevels_changePeer {j : Nat} {e : PeerEntry} {s : State} (announced : Announced (peerOf s j) e) :
    KeepsLevels s (changePeer j e s) :=
  ⟨fun h => levelsAgree_changePeer h announced, fun h => candidateHeld_changePeer h announced⟩

theorem keepsLevels_order {s u : State} (acts : OrderActs s u) : KeepsLevels s u := by
  cases acts with
  | limitsLevel out l =>
    exact SameLevels.keeps (u := setFlagIf out .clamped (s.onDsu fun d => { d with consoleMax := l }))
      (by constructor <;> simp) |>.trans (keepsLevels_repropose _)
  | _ => exact SameLevels.keeps (by constructor <;> simp)

theorem keepsLevels_arrival (before : State) (x : FieldInputs) (c : Channel) (s : State) :
    KeepsLevels s (arrival before x c s) := by
  have temp : KeepsLevels s (tempArrival s) :=
    (SameLevels.keeps (u := s.onDsu fun d => { d with throttle := throttleNow s })
      (by constructor <;> simp)).trans (keepsLevels_repropose _)
  cases c with
  | motorTemp0 | motorTemp1 => exact temp
  | feederReady | atPosition | placementDone =>
    simp only [arrival]
    split <;> exact SameLevels.keeps (by constructor <;> simp)
  | _ => exact SameLevels.keeps (by constructor <;> simp [arrival])

theorem acts_keepLevels {s u : State} (acts : Acts s u) (table : s.ptb.peers.length = 8) : KeepsLevels s u := by
  have used : SameLevels s (lineUsed s) := by constructor <;> simp
  have other (j : Nat) (seq : Tag) : KeepsLevels s (peerOther j seq (lineUsed s)) :=
    used.keeps.trans (keepsLevels_changePeer (announced_otherEntry _ _ _))
  cases acts with
  | dutyEvaluated timer =>
    have timed : SameLevels s (s.onDsu fun d => { d with timer := timer }) := by constructor <;> simp
    rcases dutyEvaluation_levels (s.onDsu fun d => { d with timer := timer }) with same | ⟨v, same, hv⟩
    · exact timed.keeps.trans same.keeps
    · rw [hv]
      exact timed.keeps.trans (same.keeps.trans (keepsLevels_repropose v))
  | statusHeard j seq r sector =>
    exact ⟨fun h => levelsAgree_peerStatus seq r sector table (used.levels h),
      fun h => candidateHeld_peerStatus j seq r (used.held h)⟩
  | joinHeard j seq r =>
    exact used.keeps.trans ((keepsLevels_changePeer (announced_joinEntry _ _ _ _ _)).trans
      (sameLevels_evalDuties _).keeps)
  | otherHeard j seq => exact other j seq
  | requestHeard j seq => exact (other j seq).trans (SameLevels.keeps (by constructor <;> simp))
  | replyHeard j seq => exact (other j seq).trans (SameLevels.keeps (by constructor <;> simp))
  | estopHeard j seq => exact (other j seq).trans (SameLevels.keeps (by constructor <;> simp))
  | peerSilent j => exact keepsLevels_changePeer (announced_silentEntry _)
  | peerLost j => exact keepsLevels_changePeer (announced_lostEntry _)
  | orderTaken tag code result acts =>
    have heard : SameLevels s (atOrder s) := by constructor <;> simp
    exact heard.keeps.trans ((keepsLevels_order acts).trans (SameLevels.keeps (by constructor <;> simp)))
  | channelSampled x c =>
    have judged : SameLevels s (judgeInput c x s) := by constructor <;> simp
    exact judged.keeps.trans (keepsLevels_arrival s x c _)
  | _ => exact SameLevels.keeps (by constructor <;> simp)

theorem peerOf_of_freshPeers {own j : Nat} {u : State} (peers : u.ptb.peers = freshPeers own) (sector : j < 8) :
    peerOf u j = if j = own then { liveness := .self } else {} := by
  rw [peerOf, peers, freshPeers, putAt, List.getD_eq_getElem?_getD]
  by_cases h : j = own
  · subst h
    simp [sector]
  · rw [List.getElem?_set_ne (Ne.symm h), if_neg h, List.getElem?_replicate_of_lt sector]
    rfl

theorem presentPeers_of_freshPeers {own : Nat} {u : State} (peers : u.ptb.peers = freshPeers own) :
    presentPeers u = [] := by
  refine List.eq_nil_iff_forall_not_mem.2 fun p hp => ?_
  obtain ⟨sector, serves⟩ := mem_presentPeers.1 hp
  have present := served_some_present serves
  rw [present_eq, peerOf_of_freshPeers peers sector] at present
  split at present <;> cases present

/-- With no peer present and all three levels at their cold start no candidate stands. -/
theorem candidateHeld_of_cold {u : State} {own : Nat} (peers : u.ptb.peers = freshPeers own)
    (applied : u.dsu.applied = 0) (proposed : u.dsu.proposed = 0) (candidate : u.dsu.candidate = none) :
    CandidateHeld u := by
  refine candidateHeld_iff.2 ⟨?_, fun some => absurd candidate some⟩
  simp [HasCandidate, candidate, candidateNow, lowestProposal, presentPeers_of_freshPeers peers, applied, proposed]

theorem keepsLevels_of_cold (s : State) {u : State} (own : Nat) (peers : u.ptb.peers = freshPeers own)
    (applied : u.dsu.applied = 0) (proposed : u.dsu.proposed = 0) (candidate : u.dsu.candidate = none) :
    KeepsLevels s u :=
  ⟨fun _ => ⟨by omega, by simp [presentPeers_of_freshPeers peers]⟩,
    fun _ => candidateHeld_of_cold peers applied proposed candidate⟩

theorem moves_keepLevels {s t : State} (move : Moves s t) (table : s.ptb.peers.length = 8) : KeepsLevels s t := by
  cases move with
  | closed acts => exact (acts_keepLevels acts table).trans (SameLevels.keeps (by constructor <;> simp))
  | powerUp straps => exact keepsLevels_of_cold s (Straps.station straps) rfl rfl rfl rfl
  | restarts tag =>
    refine keepsLevels_of_cold s s.own ?_ ?_ ?_ ?_
    all_goals simp [warmRestart, peersRestart, driveRestart, DsuState.cold]
    simp [State.own]
  | _ => exact SameLevels.keeps (by constructor <;> simp)

/-- Settles O56: no event leaves the applied level above a proposal, or a candidate that the proposals do not
give or that every peer agrees on. -/
theorem appliedLevelStaysAgreed : Obligations.AppliedLevelStaysAgreed := by
  have moves (P : State → Prop) (keeps : ∀ {s t}, KeepsLevels s t → P s → P t) {s t : State}
      (shaped : Shaped s) (hs : P s) (h : step s = .next t) : P t :=
    (step_keeps (P := fun s => Shaped s ∧ P s)
      (fun s t hs move => ⟨moves_shaped s t hs.1 move, keeps (moves_keepLevels move hs.1.1) hs.2⟩)
      ⟨shaped, hs⟩ h).2
  exact ⟨fun _ _ => moves LevelsAgree fun keeps => keeps.1, fun _ _ => moves CandidateHeld fun keeps => keeps.2⟩

end Sys2Proof.Machine
end

section
/-! The group through every operation that is no change of phase: it stays, or it moves without advancing. -/

namespace Sys2Proof.Machine

open Sys2Proof

/-- What a movement does to the group: nothing, or one of the movements other than the advance, and neither to
nor from a FROZEN group. -/
inductive GroupMove : Group → Group → Prop
  | stays (g : Group) : GroupMove g g
  | moves (m : GroupMotion) {m' : GroupMotion} (rest : m' ≠ .advancing) : GroupMove (.moving m) (.moving m')

theorem GroupMove.of_eq {g g' : Group} (h : g' = g) : GroupMove g g' := h ▸ .stays g

theorem GroupMove.trans {g g' g'' : Group} (h : GroupMove g g') (k : GroupMove g' g'') : GroupMove g g'' := by
  cases h with
  | stays => exact k
  | moves m rest =>
    cases k with
    | stays => exact .moves m rest
    | moves _ rest => exact .moves m rest

/-- An operation before which the group stayed, and after which it stays. -/
theorem GroupMove.congr {s s' u u' : State} (h : GroupMove s'.thu.group u'.thu.group)
    (before : s'.thu.group = s.thu.group) (after : u.thu.group = u'.thu.group) :
    GroupMove s.thu.group u.thu.group := by
  rwa [after, ← before]

theorem GroupMove.of_moving {g g' : Group} {m m' : GroupMotion} (before : g = .moving m) (after : g' = .moving m')
    (rest : m' ≠ .advancing) : GroupMove g g' := by
  subst before after; exact .moves m rest

theorem GroupMove.isFrozen_eq {g g' : Group} (h : GroupMove g g') : isFrozen g' = isFrozen g := by
  cases h with
  | stays => rfl
  | moves => rfl

/-- No movement begins the advance. -/
theorem GroupMove.advancing {g g' : Group} (h : GroupMove g g') (advancing : g' = .moving .advancing) :
    g = .moving .advancing := by
  cases h with
  | stays => exact advancing
  | moves m rest => exact absurd (Group.moving.inj advancing) rest

/-! ## THU -/

@[simp] theorem setGroup_group (g : Group) (s : State) : (setGroup g s).thu.group = g := by
  simp [setGroup]

theorem groupMove_completeRetraction (s : State) : GroupMove s.thu.group (completeRetraction s).thu.group := by
  unfold completeRetraction
  split
  next h => exact .of_moving h (m' := .retracted) (by simp) (by simp)
  next => exact .stays _

theorem groupMove_groupPressureArrival (s : State) :
    GroupMove s.thu.group (groupPressureArrival s).thu.group := by
  unfold groupPressureArrival
  split
  next h => exact .of_moving h.1 (m' := .holding) (by simp) (by simp)
  next => exact .stays _

theorem groupMove_limitArrival (wasTrue : Bool) (s : State) :
    GroupMove s.thu.group (limitArrival wasTrue s).thu.group := by
  unfold limitArrival
  split
  · exact groupMove_completeRetraction s
  · exact .stays _

theorem groupMove_autoClose (s : State) : GroupMove s.thu.group (autoClose s).thu.group := by
  unfold autoClose
  split
  next h =>
    rcases h with h | h <;> exact .of_moving h (m' := .extending) (by simp) (by simp)
  next => exact .stays _

theorem groupMove_groupLeaveBuilding (s : State) :
    GroupMove s.thu.group (groupLeaveBuilding s).thu.group := by
  unfold groupLeaveBuilding
  split
  next h =>
    rcases h with h | h | h <;> exact .of_moving h (m' := .holding) (by simp) (by simp)
  next => exact .of_eq (by simp)

/-- A request is accepted only from a group that holds, retracts or is retracted. -/
theorem groupMove_answerRequest (source : Nat) (kind : RequestKind) (ring : RingNumber) (tag : Tag) (s : State) :
    GroupMove s.thu.group (answerRequest source kind ring tag s).1.thu.group := by
  have moving (h : freshAnswer s source kind ring = .accepted) : ∃ m, s.thu.group = .moving m := by
    cases kind with
    | retract =>
      simp only [freshAnswer, retractAnswer] at h
      split at h
      · cases h
      · split at h
        next accepted => exact ⟨_, accepted.2.1⟩
        next => cases h
    | extend =>
      simp only [freshAnswer, extendAnswer] at h
      split at h
      · cases h
      · split at h
        next accepted => exact accepted.1.elim (⟨_, ·⟩) (⟨_, ·⟩)
        next => cases h
  unfold answerRequest
  split
  · exact .stays _
  · unfold takeAnswer
    dsimp only
    split
    next accepted =>
      obtain ⟨m, hm⟩ := moving accepted
      exact .of_moving hm (m' := requestMotion kind) (by simp) (by cases kind <;> simp [requestMotion])
    next => exact .stays _

theorem groupMove_replyRequest (source : Nat) (kind : RequestKind) (ring : RingNumber) (tag : Tag) (s : State) :
    GroupMove s.thu.group (replyRequest source kind ring tag s).thu.group :=
  (groupMove_answerRequest source kind ring tag s).congr rfl (by simp [replyRequest])

/-! ## BSQ, on its own station's group -/

theorem groupMove_issueLocal (kind : RequestKind) (s : State) :
    GroupMove s.thu.group (issueLocal kind s).1.thu.group :=
  (groupMove_answerRequest s.own kind s.bsq.cursorRing s.bsq.nextTag
    (s.onBsq (issueRequest kind s.own none))).congr rfl (by simp [issueLocal])

theorem groupMove_sendBack (s : State) : GroupMove s.thu.group (sendBack s).thu.group := by
  unfold sendBack
  split
  · exact .stays _
  · split
    · exact .stays _
    · split
      · exact groupMove_issueLocal _ s
      · exact .of_eq (by simp)

theorem groupMove_suspend (s : State) : GroupMove s.thu.group (suspend s).thu.group := by
  unfold suspend
  split
  · exact (groupMove_sendBack (setBuild .suspended s)).congr (by simp) rfl
  · exact .stays _

theorem groupMove_stepAnswer (a : Answer) (s : State) : GroupMove s.thu.group (stepAnswer a s).thu.group := by
  unfold stepAnswer
  cases a with
  | accepted => exact .stays _
  | busy | refused =>
    dsimp only
    split
    · exact groupMove_suspend s
    · exact .stays _

theorem groupMove_retractTest (s : State) : GroupMove s.thu.group (retractTest s).thu.group := by
  unfold retractTest issueRetract
  split
  · exact .stays _
  · split
    · exact groupMove_suspend s
    · split
      · exact .stays _
      · split
        · exact ((groupMove_issueLocal .retract (s.onBsq fun q => { q with issued := true })).congr
            (s := s) rfl rfl).trans (groupMove_stepAnswer _ _)
        · exact .of_eq (by simp)

theorem groupMove_enterAwaitExtend (s : State) : GroupMove s.thu.group (enterAwaitExtend s).thu.group := by
  unfold enterAwaitExtend
  dsimp only
  split
  · exact ((groupMove_issueLocal .extend (setBuild .awaitExtend s)).congr (s := s) (by simp) rfl).trans
      (groupMove_stepAnswer _ _)
  · split
    · exact .of_eq (by simp)
    · exact (groupMove_suspend (setBuild .awaitExtend s)).congr (by simp) rfl

theorem groupMove_placeTest (s : State) : GroupMove s.thu.group (placeTest s).thu.group := by
  unfold placeTest
  split
  · exact (groupMove_enterAwaitExtend (s.onBsq fun q => { q with progress := .placed })).congr (s := s) rfl rfl
  · exact .stays _

theorem groupMove_buildPresence (j : Nat) (s : State) : GroupMove s.thu.group (buildPresence j s).thu.group := by
  unfold buildPresence
  split
  · split
    · split
      · exact (groupMove_sendBack s).congr rfl (by simp)
      · exact .of_eq (by simp)
    · split
      · exact (groupMove_suspend s).congr rfl (by simp)
      · exact .of_eq (by simp)
  · exact .stays _

theorem groupMove_replyArrival (source : Nat) (tag : Tag) (a : Answer) (s : State) :
    GroupMove s.thu.group (replyArrival source tag a s).thu.group := by
  unfold replyArrival
  split
  · exact .stays _
  · split
    · exact (groupMove_stepAnswer a (markAnswer a s)).congr (by simp) rfl
    · exact .stays _

theorem groupMove_answerExpires (s : State) : GroupMove s.thu.group (answerExpires s).thu.group := by
  unfold answerExpires
  dsimp only
  split
  · exact (groupMove_suspend (s.onBsq unansweredMark)).congr (s := s) rfl rfl
  · split
    · exact (groupMove_sendBack (s.onBsq unansweredMark)).congr (s := s) rfl rfl
    · exact .stays _

theorem groupMove_consoleLost (s : State) : GroupMove s.thu.group (consoleLost s).thu.group := by
  unfold consoleLost
  dsimp only
  split
  · exact (groupMove_suspend (s.onPtb fun p => { p with console := { p.console with liveness := .lost } })).congr
      (s := s) rfl rfl
  · exact .stays _

/-! ## The duties and the peer table -/

theorem groupMove_evalDuties (s : State) : GroupMove s.thu.group (evalDuties s).thu.group := by
  have followed (was : Option Nat) (u : State) : GroupMove u.thu.group (followHolder was u).thu.group := by
    unfold followHolder
    split
    · exact .stays _
    · exact groupMove_autoClose u
  exact (followed s.ptb.erector.holder (recordDuties s)).congr (by simp) (by simp [evalDuties])

theorem groupMove_presenceNotice (j : Nat) (s : State) :
    GroupMove s.thu.group (presenceNotice j s).thu.group := by
  have leaves : GroupMove s.thu.group (holderLeaves j (drivePresence j s)).thu.group := by
    unfold holderLeaves
    split
    · exact (groupMove_autoClose (drivePresence j s)).congr (by simp) rfl
    · exact .of_eq (by simp)
  exact leaves.trans ((groupMove_buildPresence j _).trans (groupMove_evalDuties _))

theorem groupMove_changePeer (j : Nat) (e : PeerEntry) (s : State) :
    GroupMove s.thu.group (changePeer j e s).thu.group := by
  unfold changePeer
  dsimp only
  split
  · exact (groupMove_presenceNotice j (setPeer j e s)).congr (by simp) rfl
  · split
    · exact (groupMove_evalDuties (setPeer j e s)).congr (by simp) rfl
    · exact .of_eq (by simp)

end Sys2Proof.Machine
end

section
/-! The phase, the cause of a pause and the group through every event. -/

namespace Sys2Proof.Machine

open Sys2Proof

/-- R48, R61, R69: the cause of a pause, the group and LISTEN's timer go with the phase. -/
structure Gated (s : State) : Prop where
  cause : s.pauseCause ≠ .none ↔ s.phase = .paused
  advances : s.thu.group = .moving .advancing → s.phase = .advancing ∧ s.thu.strokeEnd = false
  frozen : s.phase = .halted ↔ isFrozen s.thu.group = true
  listens : s.cfg.listenTimer ≠ none → s.phase = .listen

/-- A movement within a phase; the stroke-end flag may be cleared. -/
theorem Gated.move {s u : State} (h : Gated s) (group : GroupMove s.thu.group u.thu.group)
    (phase : u.phase = s.phase) (cause : u.pauseCause = s.pauseCause)
    (strokeEnd : u.thu.strokeEnd = s.thu.strokeEnd ∨ u.thu.strokeEnd = false)
    (timer : u.cfg.listenTimer = s.cfg.listenTimer) : Gated u := by
  constructor
  · rw [cause, phase]; exact h.cause
  · intro advancing
    obtain ⟨ph, clear⟩ := h.advances (group.advancing advancing)
    exact ⟨by rw [phase, ph], strokeEnd.elim (· ▸ clear) id⟩
  · rw [phase, group.isFrozen_eq]; exact h.frozen
  · rw [timer, phase]; exact h.listens

theorem Gated.congr {s u : State} (h : Gated s) (phase : u.phase = s.phase) (cause : u.pauseCause = s.pauseCause)
    (group : u.thu.group = s.thu.group) (strokeEnd : u.thu.strokeEnd = s.thu.strokeEnd)
    (timer : u.cfg.listenTimer = s.cfg.listenTimer) : Gated u :=
  h.move (.of_eq group) phase cause (.inl strokeEnd) timer

/-- The group of a phase other than ADVANCING and HALTED moves, and does not advance. -/
theorem Gated.rests {s : State} (h : Gated s) (halted : s.phase ≠ .halted) (advancing : s.phase ≠ .advancing) :
    ∃ m, s.thu.group = .moving m ∧ m ≠ .advancing := by
  cases hg : s.thu.group with
  | frozen m => exact absurd (h.frozen.2 (by rw [hg]; rfl)) halted
  | moving m => exact ⟨m, rfl, fun hm => advancing (h.advances (by rw [hg, hm])).1⟩

theorem Gated.no_timer {s : State} (h : Gated s) (phase : s.phase ≠ .listen) : s.cfg.listenTimer = none :=
  by_contra fun ht => phase (h.listens ht)

/-- A phase other than PAUSED, HALTED and LISTEN, with a group that does not advance. -/
theorem gated_of_rest {u : State} {p : Phase} {m : GroupMotion} (phase : u.phase = p) (plain : p ≠ .paused)
    (free : p ≠ .halted) (cause : u.pauseCause = .none) (group : u.thu.group = .moving m) (rest : m ≠ .advancing)
    (timer : u.cfg.listenTimer = none ∨ p = .listen) : Gated u := by
  constructor
  · simp [cause, phase, plain]
  · intro h
    rw [group] at h
    exact absurd (Group.moving.inj h) rest
  · simp [phase, free, group, isFrozen]
  · intro h
    rw [phase]
    exact timer.resolve_left h

/-! ## The changes of phase -/

/-- From PAUSED, IDLE, BUILDING or LISTEN's end the phase becomes IDLE. -/
theorem gated_plainPhase {s : State} {p : Phase} (plain : p ≠ .paused) (free : p ≠ .halted)
    (timer : s.cfg.listenTimer = none ∨ p = .listen) {m : GroupMotion} (group : s.thu.group = .moving m)
    (rest : m ≠ .advancing) : Gated (plainPhase p s) :=
  gated_of_rest rfl plain free rfl group rest timer

theorem gated_enterAdvancing {s : State} (h : Gated s) (phase : s.phase = .idle ∨ s.phase = .paused) :
    Gated (enterAdvancing s) := by
  have timer := h.no_timer (by rcases phase with h | h <;> simp [h])
  obtain ⟨m, group, rest⟩ := h.rests (by rcases phase with h | h <;> simp [h]) (by rcases phase with h | h <;> simp [h])
  unfold enterAdvancing
  dsimp only
  split
  next => exact gated_of_rest rfl (by simp) (by simp) rfl group rest (.inl timer)
  next clear =>
    constructor
    · simp
    · simpa using clear
    · simp [isFrozen]
    · simp [timer]

theorem gated_enterPaused {s : State} {c : PauseCause} (given : c ≠ .none) (h : Gated s)
    (phase : s.phase = .advancing) : Gated (enterPaused c s) := by
  have timer := h.no_timer (by simp [phase])
  have free : isFrozen s.thu.group ≠ true := fun hf => by simpa [phase] using h.frozen.2 hf
  unfold enterPaused groupStop groupAdvancing
  split
  · constructor <;> simp [given, timer, isFrozen]
  next still =>
    have still : s.thu.group ≠ .moving .advancing := fun hg => still (decide_eq_true hg)
    constructor <;> simp_all

theorem gated_waits {s : State} (h : Gated s) (phase : s.phase = .idle ∨ s.phase = .paused) :
    Gated ((s.setPhase .paused).setPauseCause .automatic) := by
  have timer := h.no_timer (by rcases phase with h | h <;> simp [h])
  obtain ⟨m, group, rest⟩ := h.rests (by rcases phase with h | h <;> simp [h]) (by rcases phase with h | h <;> simp [h])
  constructor <;> simp_all [isFrozen]

theorem gated_endBuilding {s : State} (h : Gated s) (phase : s.phase = .building) : Gated (endBuilding s) := by
  obtain ⟨m, group, rest⟩ := h.rests (by simp [phase]) (by simp [phase])
  have idle : Gated (plainPhase .idle s) :=
    gated_plainPhase (by simp) (by simp) (.inl (h.no_timer (by simp [phase]))) group rest
  exact idle.move ((groupMove_groupLeaveBuilding (clearHolderSeen (plainPhase .idle s))).congr (by simp) rfl)
    (by simp [endBuilding]) (by simp [endBuilding]) (.inl (by simp [endBuilding])) (by simp [endBuilding])

theorem gated_enterBuilding {s : State} (h : Gated s) (phase : s.phase = .idle) : Gated (enterBuilding s) := by
  obtain ⟨m, group, rest⟩ := h.rests (by simp [phase]) (by simp [phase])
  have building : Gated (plainPhase .building s) :=
    gated_plainPhase (by simp) (by simp) (.inl (h.no_timer (by simp [phase]))) group rest
  exact building.congr (by simp [enterBuilding]) (by simp [enterBuilding]) (by simp [enterBuilding])
    (by simp [enterBuilding]) (by simp [enterBuilding])

theorem isFrozen_groupFreeze (s : State) : isFrozen (groupFreeze s).thu.group = true := by
  unfold groupFreeze
  split
  · simp [isFrozen]
  next m h => rw [h]; rfl

theorem gated_enterHalted {s : State} (timer : s.cfg.listenTimer = none) : Gated (enterHalted s) := by
  have frozen := isFrozen_groupFreeze (driveStandstill (clearHolderSeen (plainPhase .halted s)))
  have stands : Gated (groupFreeze (driveStandstill (clearHolderSeen (plainPhase .halted s)))) := by
    constructor
    · simp [plainPhase]
    · intro h
      rw [h] at frozen
      cases frozen
    · simp only [frozen, iff_true]
      simp [plainPhase]
    · simp [timer]
  exact stands.move ((groupMove_suspend _).congr rfl (by simp [enterHalted])) (by simp [enterHalted])
    (by simp [enterHalted]) (.inl (by simp [enterHalted])) (by simp [enterHalted])

theorem gated_leaveHalted {s : State} (h : Gated s) (phase : s.phase = .halted) : Gated (leaveHalted s) := by
  have thawed : Gated (groupThaw (untrip (plainPhase .idle (s.onAlu fun a => { a with estop := false })))) :=
    gated_of_rest (p := .idle) (m := .holding) (by simp [plainPhase]) (by simp) (by simp) (by simp [plainPhase])
      (by simp [groupThaw]) (by simp) (.inl (by simpa using h.no_timer (by simp [phase])))
  exact thawed.move ((groupMove_sendBack _).congr rfl (by simp [leaveHalted])) (by simp [leaveHalted])
    (by simp [leaveHalted]) (.inl (by simp [leaveHalted])) (by simp [leaveHalted])

theorem gated_startListen (warm : Bool) {s : State} {m : GroupMotion} (group : s.thu.group = .moving m)
    (rest : m ≠ .advancing) : Gated (startListen warm s) := by
  have listening (timer : Timer) : Gated ((plainPhase .listen s).onCfg fun c =>
      { c with warm := warm, listenTimer := timer, joinTimer := timer, joinCount := 1 }) :=
    gated_of_rest (p := .listen) rfl (by simp) (by simp) rfl group rest (.inr rfl)
  exact (listening (some s.elapsed)).move ((groupMove_evalDuties _).congr rfl (by simp [startListen]))
    (by simp [startListen]) (by simp [startListen]) (.inl (by simp [startListen])) (by simp [startListen])

theorem gated_closeRing {s : State} (h : Gated s) : Gated (closeRing s) := by
  have closed : Gated (thrustRingClose s) := h.move (.stays _) rfl rfl (.inr rfl) rfl
  have balanced : Gated (if s.bal.active
      then balanceRingClose (driveRingClose (groutRingClose (thrustRingClose s)))
      else driveRingClose (groutRingClose (thrustRingClose s))) := by
    split <;> exact closed.congr (by simp) (by simp) (by simp) (by simp) (by simp)
  unfold closeRing
  dsimp only
  split
  next building => exact gated_endBuilding balanced (by split <;> simpa using building)
  next => exact balanced

/-! ## The acts -/

theorem gated_changePeer (j : Nat) (e : PeerEntry) {s : State} (h : Gated s) : Gated (changePeer j e s) :=
  h.move (groupMove_changePeer j e s) (by simp) (by simp) (.inl (by simp)) (by simp)

theorem gated_evalDuties {s : State} (h : Gated s) : Gated (evalDuties s) :=
  h.move (groupMove_evalDuties s) (by simp) (by simp) (.inl (by simp)) (by simp)

theorem gated_suspend {s : State} (h : Gated s) : Gated (suspend s) :=
  h.move (groupMove_suspend s) (by simp) (by simp) (.inl (by simp)) (by simp)

theorem gated_countedNotice (j : Nat) (r : StatusRecord) {s : State} (h : Gated s) :
    Gated (countedNotice j r s) := by
  have compared {u : State} (hu : Gated u) : Gated (compareRings r.ring u) := by
    unfold compareRings
    split
    · exact gated_closeRing (hu.congr rfl rfl rfl rfl rfl)
    · split
      · exact hu
      · exact hu.congr (by simp) (by simp) (by simp) (by simp) (by simp)
  have ends {u : State} (hu : Gated u) : Gated (buildEndHeard r u) := by
    unfold buildEndHeard
    split
    next building => exact gated_endBuilding hu building.1
    next => exact hu
  have notified : Gated (buildCountedStatus j r (driveCountedStatus j r s)) :=
    h.congr (by simp) (by simp) (by simp) (by simp) (by simp)
  unfold countedNotice holderHeard
  split
  · have marked : Gated (markHolderSeen r (buildCountedStatus j r (driveCountedStatus j r s))) :=
      notified.congr (by simp) (by simp) (by simp) (by simp) (by simp)
    dsimp only
    refine ends ?_
    split
    · exact compared marked
    · exact marked
  · exact notified

theorem gated_peerStatus (j : Nat) (seq : Tag) (r : StatusRecord) {s : State} (h : Gated s) :
    Gated (peerStatus j seq r s) := by
  unfold peerStatus
  dsimp only
  split
  · exact gated_countedNotice j r (gated_changePeer j _ h)
  · exact gated_changePeer j _ h

theorem gated_endListen {s : State} (h : Gated s) (listening : s.phase = .listen) : Gated (endListen s) := by
  have noted : Gated (((adoptCursorRing (s.setRing (adoptedRing s))).onPtb fun p =>
      { p with endOfListen := true, listenEnd := s.elapsed }).onCfg
        fun c => { c with listenTimer := none, joinTimer := none }) := by
    obtain ⟨m, group, rest⟩ := h.rests (by simp [listening]) (by simp [listening])
    exact gated_of_rest (p := .listen) (m := m) (by simpa using listening) (by simp) (by simp)
      (by_contra fun hc => by
        have := h.cause.1 (by simpa using hc)
        simp [listening] at this)
      (by simpa using group) rest (.inr rfl)
  have timed := gated_evalDuties noted
  unfold endListen leaveListen
  dsimp only
  split
  · exact gated_enterHalted (by simp)
  · obtain ⟨m, group, rest⟩ := timed.rests (by simp [listening]) (by simp [listening])
    exact gated_plainPhase (by simp) (by simp) (.inl (by simp)) (by simpa using group) rest

theorem gated_releaseExpires {s : State} (h : Gated s) : Gated (releaseExpires s) := by
  have closed {u : State} (hu : Gated u) : Gated (holderRingClose u) := by
    unfold holderRingClose
    dsimp only
    have handed : Gated (advanceRing (handFrames (reportFrames (setFlagIf (volumesClamp u) .saturated u))
        (setFlagIf (volumesClamp u) .saturated u))) :=
      hu.congr (by simp) (by simp) (by simp) (by simp) (by simp)
    exact (gated_closeRing handed).congr (by simp) (by simp) (by simp) (by simp) (by simp)
  unfold releaseExpires
  dsimp only
  split
  · exact closed (h.congr rfl rfl rfl rfl rfl)
  · exact h.congr (by simp) (by simp) (by simp) (by simp) (by simp)

theorem gated_strokeArrival {s : State} (h : Gated s) : Gated (strokeArrival s) := by
  have taken : Gated (pressureUpdate (skewUpdate (addIncrement (ownIncrement s (takeStroke s))
      (rememberCounters (takeStroke s))))) :=
    h.congr (by simp) (by simp) (by simp) (by simp) (by simp)
  have tested {u : State} (hu : Gated u) : Gated (strokeEndTest u) := by
    unfold strokeEndTest groupAdvancing
    split
    next stroke =>
      obtain ⟨advancing, -, -⟩ := stroke
      obtain ⟨phase, -⟩ := hu.advances (by simpa using advancing)
      exact gated_of_rest (p := .advancing) (m := .holding) (by simpa using phase) (by simp) (by simp)
        (by_contra fun hc => by
          have := hu.cause.1 (by simpa using hc)
          simp [phase] at this)
        (by simp) (by simp) (.inl (by simpa using hu.no_timer (by simp [phase])))
    next => exact hu
  unfold strokeArrival retractionTest
  dsimp only
  split
  · exact (tested taken).move (groupMove_completeRetraction _) (by simp) (by simp) (.inl (by simp)) (by simp)
  · exact tested taken

theorem gated_arrival (before : State) (x : FieldInputs) (c : Channel) {s : State} (h : Gated s) :
    Gated (arrival before x c s) := by
  have moved {u : State} (group : GroupMove s.thu.group u.thu.group) (phase : u.phase = s.phase)
      (cause : u.pauseCause = s.pauseCause) (strokeEnd : u.thu.strokeEnd = s.thu.strokeEnd)
      (timer : u.cfg.listenTimer = s.cfg.listenTimer) : Gated u :=
    h.move group phase cause (.inl strokeEnd) timer
  cases c with
  | stroke =>
    simp only [arrival]
    exact (gated_strokeArrival h).congr (by simp) (by simp) (by simp) (by simp) (by simp)
  | groupPressure =>
    simp only [arrival]
    exact moved (groupMove_groupPressureArrival s) (by simp) (by simp) (by simp) (by simp)
  | retractedLimit =>
    simp only [arrival]
    exact moved (groupMove_limitArrival _ s) (by simp) (by simp) (by simp) (by simp)
  | placementDone =>
    simp only [arrival]
    split
    · exact moved (groupMove_placeTest s) (by simp) (by simp) (by simp) (by simp)
    · exact h
  | feederReady | atPosition =>
    simp only [arrival]
    split
    · exact h.congr (by simp) (by simp) (by simp) (by simp) (by simp)
    · exact h
  | _ =>
    simp only [arrival]
    exact h.congr (by simp) (by simp) (by simp) (by simp) (by simp)

theorem gated_order {s u : State} (acts : OrderActs s u) (h : Gated s) : Gated u := by
  cases acts with
  | advances phase => exact gated_enterAdvancing h phase
  | waits phase => exact gated_waits h phase
  | pauses phase => exact gated_enterPaused (by simp) h phase
  | staysPaused phase => exact ⟨by simp [phase], h.advances, h.frozen, h.listens⟩
  | entersBuilding phase => exact gated_enterBuilding h phase
  | beginsBuild phase =>
    exact (gated_enterBuilding h phase).congr (by simp) (by simp) (by simp) (by simp) (by simp)
  | suspends => exact gated_suspend h
  | abandons phase =>
    exact gated_endBuilding (h.congr (by simp) (by simp) (by simp) (by simp) (by simp)) (by simpa using phase)
  | endsBuilding phase => exact gated_endBuilding h phase
  | resumes phase => exact gated_leaveHalted h phase
  | _ => exact h.congr (by simp) (by simp) (by simp) (by simp) (by simp)

theorem gated_endProbe {s : State} (h : Gated s) (probe : s.phase = .probe) : Gated (endProbe s) := by
  obtain ⟨m, group, rest⟩ := h.rests (by simp [probe]) (by simp [probe])
  unfold endProbe
  exact gated_startListen false (m := m) (by simpa using group) rest

theorem gated_acts {s u : State} (acts : Acts s u) (h : Gated s) : Gated u := by
  have used : Gated (lineUsed s) := h.congr rfl rfl rfl rfl rfl
  have other (j : Nat) (seq : Tag) : Gated (peerOther j seq (lineUsed s)) := gated_changePeer j _ used
  cases acts with
  | probeBegins r load =>
    exact gated_of_rest (p := .probe) (m := .holding) (by simp [beginProbe]) (by simp) (by simp)
      (by_contra fun hc => by
        have := h.cause.1 (by simpa using hc)
        simp [load] at this)
      (by simp [beginProbe, ThuState.cold]) (by simp) (.inl (by simpa using h.no_timer (by simp [load])))
  | listenEnds start runs => exact gated_endListen h (h.listens (by simp [runs]))
  | statusHeard j seq r => exact gated_peerStatus j seq r used
  | joinHeard j seq r => exact gated_evalDuties (gated_changePeer j _ used)
  | otherHeard j seq => exact other j seq
  | requestHeard j seq kind ring tag =>
    exact (other j seq).move (groupMove_replyRequest j kind ring tag _) (by simp) (by simp) (.inl (by simp)) (by simp)
  | replyHeard j seq tag a =>
    exact (other j seq).move (groupMove_replyArrival j tag a _) (by simp) (by simp) (.inl (by simp)) (by simp)
  | estopHeard j seq => exact (other j seq).congr (by simp) (by simp) (by simp) (by simp) (by simp)
  | peerSilent j => exact gated_changePeer j _ h
  | peerLost j => exact gated_changePeer j _ h
  | consoleLeaves => exact h.move (groupMove_consoleLost s) (by simp) (by simp) (.inl (by simp)) (by simp)
  | buildTimesOut => exact gated_suspend (h.congr rfl rfl rfl rfl rfl)
  | answerMissed => exact h.move (groupMove_answerExpires s) (by simp) (by simp) (.inl (by simp)) (by simp)
  | releaseEnds => exact gated_releaseExpires h
  | orderTaken tag code result acts =>
    have heard : Gated (atOrder s) := h.congr rfl rfl rfl rfl rfl
    exact (gated_order acts heard).congr rfl rfl rfl rfl rfl
  | channelSampled x c => exact gated_arrival s x c (h.congr (by simp) (by simp) (by simp) (by simp) (by simp))
  | probeEnds x probe =>
    exact gated_endProbe (h.congr (by simp) (by simp) (by simp) (by simp) (by simp)) (by simpa using probe)
  | _ => exact h.congr (by simp) (by simp) (by simp) (by simp) (by simp)

/-! ## Settling -/

theorem gated_haltTest {s : State} (h : Gated s) : Gated (haltTest s) := by
  unfold haltTest
  split
  next halts => exact gated_enterHalted (h.no_timer fun hp => by simp [hp, Phase.halts] at halts)
  next => exact h

theorem gated_gateTest {s : State} (h : Gated s) : Gated (gateTest s) := by
  unfold gateTest
  split
  next down => exact gated_enterPaused (by simp) h down.1
  next =>
    split
    next up => exact gated_enterAdvancing h (.inr up.1)
    next => exact h

theorem gated_excavationTest {s : State} (h : Gated s) : Gated (excavationTest s) := by
  unfold excavationTest
  split
  next ended =>
    obtain ⟨phase, strokes⟩ := ended
    have timer := h.no_timer (by rcases phase with h | h <;> simp [h])
    cases hg : s.thu.group with
    | frozen m => rcases phase with hp | hp <;> simpa [hg, hp, isFrozen] using h.frozen
    | moving m =>
      refine gated_plainPhase (by simp) (by simp) (.inl timer) hg fun hm => ?_
      obtain ⟨-, clear⟩ := h.advances (by rw [hg, hm])
      simp [excavationEnded, clear] at strokes
  next => exact h

theorem gated_settleOnce {s : State} (h : Gated s) : Gated (settleOnce s) := by
  have synced : Gated (syncKinds AlarmKind.all (orphanTest s)) :=
    h.congr (by simp) (by simp) (by simp) (by simp) (by simp)
  have enabled : Gated (enableSync (forcingSync (haltTest (syncKinds AlarmKind.all (orphanTest s))))) :=
    (gated_haltTest synced).congr (by simp) (by simp) (by simp) (by simp) (by simp)
  have seen : Gated (ownGroupSeen (excavationTest (gateTest (enableSync (forcingSync
      (haltTest (syncKinds AlarmKind.all (orphanTest s)))))))) :=
    (gated_excavationTest (gated_gateTest enabled)).congr (by simp) (by simp) (by simp) (by simp) (by simp)
  unfold settleOnce
  exact seen.move (groupMove_retractTest _) (by simp) (by simp) (.inl (by simp)) (by simp)

theorem gated_settle {s : State} (h : Gated s) : Gated (settle s) :=
  gated_settleOnce (gated_settleOnce (gated_settleOnce h))

end Sys2Proof.Machine
end

section
/-! The advance gate through every event. -/

namespace Sys2Proof.Machine

open Sys2Proof

theorem classInForce_congr {s u : State} (c : AlarmClass) (image : u.cfg.image = s.cfg.image)
    (entries : u.alu.entries = s.alu.entries) : classInForce u c = classInForce s c := by
  simp only [classInForce, inForce, entryOf, image, entries]

theorem enableNow_congr {s u : State} (cutterhead : u.dsu.cutterhead = s.dsu.cutterhead)
    (image : u.cfg.image = s.cfg.image) (entries : u.alu.entries = s.alu.entries) (own : u.own = s.own)
    (ptb : u.ptb = s.ptb) (bal : u.bal = s.bal) : enableNow u = enableNow s := by
  have serves (j : Nat) : served u j = served s j := by
    rw [served_eq, served_eq, peerOf_congr (congrArg PtbState.peers ptb)]
  have balanced : holderBalanceValid u = holderBalanceValid s := by
    simp only [holderBalanceValid, balanceValid, serves, own, ptb, bal]
  simp only [enableNow, cutterhead, classInForce_congr _ image entries, balanced]

theorem enablesUp_congr {s u : State} (enable : u.thu.enable = s.thu.enable) (ptb : u.ptb = s.ptb) :
    enablesUp u = enablesUp s := by
  simp only [enablesUp, enable, presentPeers_of_ptb (congrArg PtbState.peers ptb)]

/-- R58, R59: the enable is as its conditions give, and the phase as the enables let it. -/
structure EnableSettled (s : State) : Prop where
  enable : s.thu.enable = enableNow s
  advances : s.phase = .advancing → enablesUp s = true
  waits : s.phase = .paused → s.pauseCause = .automatic → enablesUp s = false

theorem advanceGated_iff {s : State} : AdvanceGated s ↔ EnableSettled s ∧ Gated s := by
  have enable : (s.thu.enable = true ↔ enableConditions s) ↔ s.thu.enable = enableNow s := by
    rw [Bool.eq_iff_iff (a := s.thu.enable) (b := enableNow s), enableNow_iff]
  have up : allEnabled s ↔ enablesUp s = true := (enablesUp_iff s).symm
  unfold AdvanceGated
  rw [enable, up]
  constructor
  · rintro ⟨e, a, p, c, g, f, l⟩
    exact ⟨⟨e, a, fun hp hc => by simpa using p hp hc⟩, ⟨c, g, f, l⟩⟩
  · rintro ⟨⟨e, a, p⟩, ⟨c, g, f, l⟩⟩
    exact ⟨e, a, fun hp hc => by simp [p hp hc], c, g, f, l⟩

/-- Nothing changed that the enable and the phase are judged by. -/
theorem EnableSettled.congr {s u : State} (h : EnableSettled s) (phase : u.phase = s.phase)
    (cause : u.pauseCause = s.pauseCause) (enable : u.thu.enable = s.thu.enable)
    (cutterhead : u.dsu.cutterhead = s.dsu.cutterhead) (image : u.cfg.image = s.cfg.image)
    (entries : u.alu.entries = s.alu.entries) (own : u.own = s.own) (ptb : u.ptb = s.ptb) (bal : u.bal = s.bal) :
    EnableSettled u := by
  have up := enablesUp_congr enable ptb
  constructor
  · rw [enable, enableNow_congr cutterhead image entries own ptb bal]; exact h.enable
  · rw [phase, up]; exact h.advances
  · rw [phase, cause, up]; exact h.waits

/-- A disabled station in a phase that neither advances nor waits. -/
theorem enableSettled_of_rest {s : State} (enable : s.thu.enable = false) (cutterhead : s.dsu.cutterhead ≠ .running)
    (advancing : s.phase ≠ .advancing) (paused : s.phase ≠ .paused) : EnableSettled s :=
  ⟨by simp [enable, enableNow, cutterhead], fun h => absurd h advancing, fun h => absurd h paused⟩

theorem enableSettled_gateTest {s : State} (h : s.thu.enable = enableNow s) : EnableSettled (gateTest s) := by
  have same : (gateTest s).thu.enable = enableNow (gateTest s) := by
    rw [enableNow_congr (s := s) (by simp) (by simp) (by simp) (by simp [State.own]) (by simp) (by simp)]
    simpa using h
  have up : enablesUp (gateTest s) = enablesUp s := enablesUp_congr (by simp) (by simp)
  refine ⟨same, ?_, ?_⟩ <;> rw [up] <;> unfold gateTest
  · split
    next down => simp [enterPaused]
    next up =>
      split
      next back => intro _; exact back.2.2
      next => intro advancing; simpa [advancing] using up
  · split
    next down => intro _ _; exact down.2
    next =>
      split
      next back => intro paused; unfold enterAdvancing at paused; split at paused <;> simp at paused
      next down => intro paused cause; simpa [paused, cause] using down

theorem enableSettled_settleOnce (s : State) : EnableSettled (settleOnce s) := by
  have synced (u : State) : (enableSync u).thu.enable = enableNow (enableSync u) :=
    (enableNow_congr rfl rfl rfl rfl rfl rfl).symm
  have gated := enableSettled_gateTest (synced (forcingSync (haltTest (syncKinds AlarmKind.all (orphanTest s)))))
  unfold settleOnce
  generalize gateTest _ = u at gated
  have ended : EnableSettled (excavationTest u) := by
    unfold excavationTest
    split
    next => exact ⟨gated.enable, fun h => by simp [plainPhase] at h, fun h => by simp [plainPhase] at h⟩
    next => exact gated
  exact ended.congr (by simp) (by simp) (by simp) (by simp) (by simp) (by simp) (by simp [State.own]) (by simp)
    (by simp)

theorem enableSettled_warmRestart (s : State) : EnableSettled (warmRestart s) :=
  enableSettled_of_rest (by simp [warmRestart, thrustRestart, ThuState.cold])
    (by simp [warmRestart, driveRestart, DsuState.cold]) (by simp [warmRestart, startListen, plainPhase])
    (by simp [warmRestart, startListen, plainPhase])

theorem gated_warmRestart (s : State) : Gated (warmRestart s) := by
  unfold warmRestart
  exact gated_startListen true (m := .holding) (by simp [thrustRestart, ThuState.cold]) (by simp)

theorem moves_advanceGated (s t : State) (h : EnableSettled s ∧ Gated s) (move : Moves s t) :
    EnableSettled t ∧ Gated t := by
  obtain ⟨settled, gated⟩ := h
  cases move with
  | closed acts => exact ⟨enableSettled_settleOnce _, gated_settle (gated_acts acts gated)⟩
  | powerUp straps =>
    exact ⟨enableSettled_of_rest rfl (by simp [coldStart, DsuState.cold]) (by simp [coldStart]) (by simp [coldStart]),
      gated_of_rest (p := .load) (m := .holding) rfl (by simp) (by simp) rfl rfl (by simp) (.inl rfl)⟩
  | configFault load =>
    have cause : s.pauseCause = .none := by_contra fun hc => by simpa [load] using gated.cause.1 hc
    obtain ⟨m, group, rest⟩ := gated.rests (by simp [load]) (by simp [load])
    have phase : (enterConfigFault s).phase = .configFault := by simp [enterConfigFault]
    refine ⟨⟨?_, fun h => by simp [phase] at h, fun h => by simp [phase] at h⟩,
      gated_of_rest phase (by simp) (by simp) (by simpa using cause) (by simpa using group) rest
        (.inl (by simpa using gated.no_timer (by simp [load])))⟩
    rw [enableNow_congr (s := s) (by simp) (by simp) (by simp) (by simp [State.own]) (by simp) (by simp)]
    simpa using settled.enable
  | restarts tag => exact ⟨enableSettled_warmRestart _, gated_warmRestart _⟩
  | _ =>
    exact ⟨settled.congr (by simp) (by simp) (by simp) (by simp) (by simp) (by simp) (by simp [State.own]) (by simp)
      (by simp), gated.congr (by simp) (by simp) (by simp) (by simp) (by simp)⟩

/-- Settles O57: every event that settles ends with the enable as its conditions give and the phase as the enables
let it, and every event keeps the group and the cause of a pause with the phase. -/
theorem advanceGateIsKept : Obligations.AdvanceGateIsKept := fun _ _ hs h =>
  advanceGated_iff.2 (step_keeps moves_advanceGated (advanceGated_iff.1 hs) h)

end Sys2Proof.Machine
end

section
/-! The step, the cold start and the start of the invariants. -/

namespace Sys2Proof.Machine

open Sys2Proof

/-- Settles O1: a step is its front command run. -/
theorem stepRunsFrontCommand : Obligations.StepRunsFrontCommand := fun _ _ _ => rfl

/-- Settles O60: the state after power-up meets each invariant. -/
theorem resetMeetsTheInvariants : Obligations.ResetMeetsTheInvariants :=
  ⟨by decide +kernel, by decide +kernel, by decide +kernel, by decide +kernel, by decide +kernel, by decide +kernel,
   by decide +kernel, by decide +kernel, by decide +kernel, by decide +kernel,
   candidateHeld_of_cold (own := State.reset.own) rfl rfl rfl rfl⟩

/-- A list of one value read anywhere, that value being the default. -/
theorem getD_replicate_same {α : Type} (n : Nat) (d : α) (j : Nat) : (List.replicate n d).getD j d = d := by
  rw [List.getD_eq_getElem?_getD, List.getElem?_getD_replicate_default_eq]

/-- Settles O2: the cold start is the record of the blocks' cold registers. -/
theorem powerUpGivesColdStart : Obligations.PowerUpGivesColdStart := by
  intro p s
  refine ⟨coldStart p s.pending, rfl, rfl, rfl, rfl, rfl, rfl, fun j sector => peerOf_of_freshPeers rfl sector, ?_⟩
  simp only [coldStart, PtbState.cold, OruState.cold, DsuState.cold, ThuState.cold, BsqState.cold, GruState.cold,
    BalState.cold, AluState.cold, FptState.cold, LifState.cold, entryOf, freshEntries, getD_replicate_same,
    builtInReferences]
  simp

end Sys2Proof.Machine
end

section
/-! The image's checks and the start of the station. -/

namespace Sys2Proof.Machine

open Sys2Proof

/-! ## The image (R193) -/

theorem within_iff {lo hi v : Int} : within lo hi v = true ↔ lo ≤ v ∧ v ≤ hi := by
  simp [within]

theorem within_natCast_iff {lo hi n : Nat} : within lo hi n = true ↔ lo ≤ n ∧ n ≤ hi := by
  rw [within_iff, Nat.cast_le, Nat.cast_le]

/-- One key alone, and it last, is a key after placements that are none. -/
theorem single_key_last_iff (plan : List Placement) :
    ((plan.filter fun p => p.key).length = 1 ∧ ∃ last, plan.getLast? = some last ∧ last.key = true) ↔
      ∃ before last, plan = before ++ [last] ∧ last.key = true ∧ ∀ p ∈ before, p.key = false := by
  constructor
  · rintro ⟨single, last, ends, key⟩
    obtain ⟨before, rfl⟩ := List.getLast?_eq_some_iff.1 ends
    refine ⟨before, last, rfl, key, ?_⟩
    simpa [List.filter_append, key, List.filter_eq_nil_iff] using single
  · rintro ⟨before, last, rfl, key, plain⟩
    have none : before.filter (fun p => p.key) = [] := List.filter_eq_nil_iff.2 fun p hp => by simp [plain p hp]
    simp [List.filter_append, none, key]

theorem planPasses_iff (plan : List Placement) :
    planPasses plan = true ↔ (3 ≤ plan.length ∧ plan.length ≤ 10) ∧
      ∃ before last, plan = before ++ [last] ∧ last.key = true ∧ ∀ p ∈ before, p.key = false := by
  have range : within 3 10 plan.length = true ↔ 3 ≤ plan.length ∧ plan.length ≤ 10 := within_natCast_iff
  rw [← single_key_last_iff]
  unfold planPasses
  cases h : plan.getLast? <;> simp [range, and_assoc]

/-- Settles O3: the checks of the model one by one are those of R193. -/
theorem imagePassesExactlyByItsChecks : Obligations.ImagePassesExactlyByItsChecks := by
  intro station spent r
  have sectors : within 4 8 r.fields.nS = true ↔ 4 ≤ r.fields.nS ∧ r.fields.nS ≤ 8 := within_natCast_iff
  dsimp only
  simp only [imagePasses, imageWhole, checkValuePasses, fieldsPass, fieldsInRange, strokeFieldsInRange,
    driveFieldsInRange, groutFieldsInRange, portFieldsInRange, safeReferencesZero, levelInRange, placementInRange,
    analogInRange, outputInRange, persistenceInRange, planPasses_iff, sectors, within_iff, Bool.and_eq_true,
    decide_eq_true_eq, List.all_eq_true, and_assoc]
  exact Iff.rfl

end Sys2Proof.Machine
end

section
/-! The pins: what every channel's pin carries once all are driven again. -/

namespace Sys2Proof.Machine

open Sys2Proof

/-- Every pin as R148, R165, R166 and R194 give it, from the values written. -/
def pinsOf (s : State) : Outputs :=
  let safe := s.cfg.image
  { motor0 := (driven s .motorRef0 0 600 safe.safeMotor0 s.fpt.written.motor0).1
    motor1 := (driven s .motorRef1 1 600 safe.safeMotor1 s.fpt.written.motor1).1
    enable0 := !builtInPhase s && s.fpt.written.enable0
    enable1 := !builtInPhase s && s.fpt.written.enable1
    valveMode := if builtInPhase s || carriesSafe s .groupValve then .hold else s.fpt.written.valveMode
    valvePressure := (driven s .groupValve 2 4000 safe.pHold s.fpt.written.valvePressure).1
    pump := (driven s .groutPump 3 60 safe.safePump s.fpt.written.pump).1
    flushOpen :=
      if builtInPhase s then false
      else if carriesSafe s .flushValve then safe.safeFlushOpen else s.fpt.written.flushOpen
    screw := (driven s .screwRef 4 3000 safe.safeScrew s.fpt.written.screw).1
    gateOpen := !(builtInPhase s || carriesSafe s .gateCmd) && s.fpt.written.gateOpen
    erector := if builtInPhase s || carriesSafe s .erectorCmd then .hold else s.fpt.written.erector }

theorem refreshAll_wires (s : State) : (refreshAll s).fpt.wires = pinsOf s := by
  simp [refreshAll, refreshMotor0, refreshMotor1, refreshValve, refreshPump, refreshFlush, refreshScrew,
    refreshGate, refreshErector, driven, carriesSafe, builtInPhase, groutTrial, isFitted, outputScale, pinsOf]

/-- R194: the pins of LOAD and CONFIG_FAULT. -/
theorem pinsOf_builtIn {s : State} (h : builtInPhase s = true) : pinsOf s = builtInReferences := by
  simp [pinsOf, driven, h, builtInReferences]

/-- R165: a number on its pin, scaled and clamped. -/
theorem driven_number {s : State} {c : Channel} {k : Nat} {hi safe v : Int} (run : builtInPhase s = false) :
    (driven s c k hi safe v).1 =
      clamp 0 65535 ((outputScale s k).offset +
        squot (clamp 0 hi (if carriesSafe s c then safe else v) * (outputScale s k).gain) 65536) := by
  simp [driven, run, driveNumber]

theorem carriesSafe_forced {s : State} (c : Channel) (h : s.fpt.forced = true) : carriesSafe s c = true := by
  simp [carriesSafe, h]

theorem carriesSafe_fitted {s : State} {c : Channel} (forced : s.fpt.forced = false) (probe : s.phase ≠ .probe)
    (fitted : isFitted s c = true) : carriesSafe s c = false := by
  simp [carriesSafe, forced, probe, fitted]

/-- Settles O48: the pins as `pinsOf` gives them, every one of them safe under the forcing. -/
theorem forcedOutputsAreSafe : Obligations.ForcedOutputsAreSafe := by
  intro s load fault
  have run (w : Outputs) : builtInPhase { s with fpt := { s.fpt with written := w } } = false := by
    simp [builtInPhase, load, fault]
  refine ⟨fun forced w => ?_, fun forced probe w => ?_⟩
  · have safe (c : Channel) : carriesSafe { s with fpt := { s.fpt with written := w } } c = true :=
      carriesSafe_forced c forced
    dsimp only
    rw [refreshAll_wires]
    simp only [pinsOf, driven_number (run w), safe, run w]
    simp [outputScale]
  · have free (c : Channel) (fitted : isFitted s c = true) :
        carriesSafe { s with fpt := { s.fpt with written := w } } c = false :=
      carriesSafe_fitted forced probe fitted
    dsimp only
    rw [refreshAll_wires]
    simp only [pinsOf, driven_number (run w), run w]
    refine ⟨?_, ?_, ?_, ?_, ?_, ?_, ?_, ?_⟩ <;> intro fitted <;> simp [free _ fitted, outputScale]

end Sys2Proof.Machine
end

section
/-! The duty evaluation: its table, and what the blocks do at its changes. -/

namespace Sys2Proof.Machine

open Sys2Proof

/-! ## The table (R14, R16) -/

/-- R14: a sector claims a duty. -/
def ClaimsDuty (s : State) (strap : Bool) (duty : Claims → Bool) (j : Nat) : Prop :=
  j < 8 ∧ if j = s.own then strap = true
    else ((peerOf s j).liveness = .joining ∨ (peerOf s j).liveness = .live ∨
        (peerOf s j).liveness = .silent) ∧ duty (peerOf s j).claims = true

theorem mem_sectorNumbers {j : Nat} : j ∈ sectorNumbers ↔ j < 8 := by
  simp only [sectorNumbers, List.mem_cons, List.not_mem_nil, or_false]
  omega

theorem claiming_iff (e : PeerEntry) :
    claiming e = true ↔ e.liveness = .joining ∨ e.liveness = .live ∨ e.liveness = .silent := by
  unfold claiming
  cases e.liveness <;> simp

theorem mem_claimants {s : State} {strap : Bool} {duty : Claims → Bool} {j : Nat} :
    j ∈ claimants s strap duty ↔ ClaimsDuty s strap duty j := by
  unfold claimants ClaimsDuty
  rw [List.mem_filter, mem_sectorNumbers]
  split <;> simp [claiming_iff]

theorem nodup_claimants (s : State) (strap : Bool) (duty : Claims → Bool) : (claimants s strap duty).Nodup :=
  (by decide : sectorNumbers.Nodup).filter _

theorem dutyOutcome_of_none {s : State} {claimed : List Nat} (h : ∀ j, j ∉ claimed) :
    dutyOutcome s claimed = { holder := none, conflict := false, missing := true } := by
  rw [List.eq_nil_iff_forall_not_mem.2 h]
  rfl

theorem dutyOutcome_of_one {s : State} {claimed : List Nat} {k : Nat} (nodup : claimed.Nodup) (h : k ∈ claimed)
    (only : ∀ j ∈ claimed, j = k) :
    dutyOutcome s claimed =
      { holder := some k, conflict := false
        missing := decide (k ≠ s.own) && decide ((peerOf s k).liveness = .joining) } := by
  have single : claimed = [k] := by
    rw [List.eq_replicate_of_mem only, ← List.count_eq_length.2 fun j hj => (only j hj).symm,
      List.count_eq_one_of_mem nodup h]
    rfl
  rw [single]
  rfl

theorem dutyOutcome_of_two {s : State} {claimed : List Nat} {j k : Nat} (hj : j ∈ claimed) (hk : k ∈ claimed)
    (differ : j ≠ k) : dutyOutcome s claimed = { holder := none, conflict := true, missing := false } := by
  match claimed, hj, hk with
  | [], hj, _ => cases hj
  | [l], hj, hk => exact absurd ((List.mem_singleton.1 hj).trans (List.mem_singleton.1 hk).symm) differ
  | _ :: _ :: _, _, _ => rfl

/-- R14, R16: the outcome of the evaluation for one duty, by its claimants. -/
theorem dutyOutcome_table (s : State) (strap : Bool) (duty : Claims → Bool) :
    let o := dutyOutcome s (claimants s strap duty)
    ((∀ j, ¬ClaimsDuty s strap duty j) → o.holder = none ∧ o.conflict = false ∧ o.missing = true) ∧
    (∀ k, ClaimsDuty s strap duty k → (∀ j, ClaimsDuty s strap duty j → j = k) →
      o.holder = some k ∧ o.conflict = false ∧
        (o.missing = true ↔ k ≠ s.own ∧ (peerOf s k).liveness = .joining)) ∧
    (∀ j k, ClaimsDuty s strap duty j → ClaimsDuty s strap duty k → j ≠ k →
      o.holder = none ∧ o.conflict = true ∧ o.missing = false) := by
  refine ⟨fun none => ?_, fun k claims only => ?_, fun j k hj hk differ => ?_⟩
  · rw [dutyOutcome_of_none fun j hj => none j (mem_claimants.1 hj)]
    exact ⟨rfl, rfl, rfl⟩
  · rw [dutyOutcome_of_one (nodup_claimants s strap duty) (mem_claimants.2 claims)
      fun j hj => only j (mem_claimants.1 hj)]
    simp
  · rw [dutyOutcome_of_two (mem_claimants.2 hj) (mem_claimants.2 hk) differ]
    exact ⟨rfl, rfl, rfl⟩

/-! ## The changes of the evaluation (R15, R68) -/

theorem evalDuties_ptb (s : State) : (evalDuties s).ptb = (recordDuties s).ptb := by
  simp [evalDuties]

theorem setBuild_bsq (b : BuildState) (s : State) : (setBuild b s).bsq = enterBuild b s.elapsed s.bsq := by
  simp [setBuild]

theorem setBuild_written (b : BuildState) (s : State) :
    (setBuild b s).fpt.written =
      { s.fpt.written with erector := erectorCmdOf (placementInHand s) b } := by
  simp [setBuild]

theorem gateWait_congr {s u : State} (h : u.fpt = s.fpt) : gateWait u = gateWait s := by
  simp [gateWait, inputTrue, inputValid, inputOf, isFitted, h]

/-- The conveyor's outputs follow its state. -/
theorem setConveyor_written (c : Conveyor) (s : State) :
    (setConveyor c s).fpt.written =
      { s.fpt.written with
        screw := if c = .running ∧ gateWait s = false then s.bal.nCmd else 0
        gateOpen := decide (c = .running) } := by
  rw [setConveyor, writeConveyor, writeGate_written, writeScrew_written,
    gateWait_congr (s := s) (State.onBal_fpt _ _)]
  by_cases h : c = .running <;> simp [h]

theorem followErector_fpt (was : Bool) (s : State) : ∃ c,
    (followErector was s).fpt.written = { s.fpt.written with erector := c } := by
  unfold followErector buildActivate buildDeactivate
  split
  · exact ⟨_, rfl⟩
  · split <;> exact ⟨_, setBuild_written .idle s⟩

theorem followConveyor_fpt (was : Bool) (s : State) : ∃ v g,
    (followConveyor was s).fpt.written = { s.fpt.written with screw := v, gateOpen := g } := by
  unfold followConveyor balanceActivate balanceDeactivate
  split
  · exact ⟨_, _, rfl⟩
  · split <;> exact ⟨_, _, setConveyor_written _ _⟩

theorem followHolder_fpt (was : Option Nat) (s : State) : ∃ m p,
    (followHolder was s).fpt.written = { s.fpt.written with valveMode := m, valvePressure := p } := by
  unfold followHolder autoClose
  split
  · exact ⟨_, _, rfl⟩
  · split
    · exact ⟨_, _, setGroup_written _ _⟩
    · exact ⟨_, _, rfl⟩

/-- The station between the evaluation and BSQ's part: the duties recorded, the group closed. -/
def dutiesRecorded (s : State) : State := followHolder s.ptb.erector.holder (recordDuties s)

theorem evalDuties_eq (s : State) :
    evalDuties s = followConveyor s.ptb.exConveyor (followErector s.ptb.exErector (dutiesRecorded s)) := rfl

theorem evalDuties_erector_written (s : State) :
    (evalDuties s).fpt.written.erector =
      (followErector s.ptb.exErector (dutiesRecorded s)).fpt.written.erector := by
  obtain ⟨v, g, written⟩ := followConveyor_fpt s.ptb.exConveyor (followErector s.ptb.exErector (dutiesRecorded s))
  rw [evalDuties_eq, written]

theorem dutiesRecorded_erector_written (s : State) :
    (dutiesRecorded s).fpt.written.erector = s.fpt.written.erector := by
  obtain ⟨m, p, written⟩ := followHolder_fpt s.ptb.erector.holder (recordDuties s)
  rw [dutiesRecorded, written]
  rfl

theorem evalDuties_bsq (s : State) :
    (evalDuties s).bsq = (followErector s.ptb.exErector (dutiesRecorded s)).bsq := by
  simp [evalDuties_eq]

theorem exErector_followed (s : State) : (dutiesRecorded s).ptb.exErector = (evalDuties s).ptb.exErector := by
  simp [evalDuties_ptb, dutiesRecorded]

theorem exConveyor_followed (s : State) :
    (followErector s.ptb.exErector (dutiesRecorded s)).ptb.exConveyor = (evalDuties s).ptb.exConveyor := by
  simp [evalDuties_ptb, dutiesRecorded]

/-- R15: with the ERECTOR duty unchanged BSQ does not move; -/
theorem evalDuties_bsq_same {s : State} (h : (evalDuties s).ptb.exErector = s.ptb.exErector) :
    (evalDuties s).bsq = s.bsq ∧ (evalDuties s).fpt.written.erector = s.fpt.written.erector := by
  have same : followErector s.ptb.exErector (dutiesRecorded s) = dutiesRecorded s :=
    if_pos ((exErector_followed s).trans h)
  rw [evalDuties_bsq, evalDuties_erector_written, same, dutiesRecorded_erector_written]
  exact ⟨by simp [dutiesRecorded, recordDuties], rfl⟩

/-- R75: with it changed BSQ is IDLE, its request and timers gone. -/
theorem evalDuties_bsq_changed {s : State} (h : (evalDuties s).ptb.exErector ≠ s.ptb.exErector) :
    (evalDuties s).bsq =
      { enterBuild .idle s.elapsed s.bsq with
        timedOut := (evalDuties s).ptb.exErector && (enterBuild .idle s.elapsed s.bsq).timedOut } ∧
      (evalDuties s).fpt.written.erector = .hold := by
  have changed : followErector s.ptb.exErector (dutiesRecorded s) =
      if (evalDuties s).ptb.exErector then buildActivate (dutiesRecorded s)
      else buildDeactivate (dutiesRecorded s) := by
    rw [followErector, exErector_followed, if_neg h]
  have bsq : (dutiesRecorded s).bsq = s.bsq := by simp [dutiesRecorded, recordDuties]
  have elapsed : (dutiesRecorded s).elapsed = s.elapsed := by simp [dutiesRecorded, recordDuties]
  rw [evalDuties_bsq, evalDuties_erector_written, changed]
  cases (evalDuties s).ptb.exErector with
  | true => simp [buildActivate, setBuild_bsq, setBuild_written, bsq, elapsed, erectorCmdOf]
  | false =>
    simp [buildDeactivate, setBuild_bsq, setBuild_written, bsq, elapsed, erectorCmdOf]
    simp [enterBuild]

/-- R15: with the CONVEYOR duty unchanged BAL does not move; -/
theorem evalDuties_bal_same {s : State} (h : (evalDuties s).ptb.exConveyor = s.ptb.exConveyor) :
    (evalDuties s).bal = s.bal ∧ (evalDuties s).fpt.written.screw = s.fpt.written.screw ∧
      (evalDuties s).fpt.written.gateOpen = s.fpt.written.gateOpen := by
  have same : evalDuties s = followErector s.ptb.exErector (dutiesRecorded s) :=
    (evalDuties_eq s).trans (if_pos ((exConveyor_followed s).trans h))
  obtain ⟨c, erector⟩ := followErector_fpt s.ptb.exErector (dutiesRecorded s)
  obtain ⟨m, p, holder⟩ := followHolder_fpt s.ptb.erector.holder (recordDuties s)
  rw [same, erector, dutiesRecorded, holder]
  exact ⟨by simp [recordDuties], rfl, rfl⟩

/-- R120: with it gained or lost BAL becomes active or inactive. -/
theorem evalDuties_bal_changed {s : State} (h : (evalDuties s).ptb.exConveyor ≠ s.ptb.exConveyor) :
    evalDuties s =
      if (evalDuties s).ptb.exConveyor then balanceActivate (followErector s.ptb.exErector (dutiesRecorded s))
      else balanceDeactivate (followErector s.ptb.exErector (dutiesRecorded s)) := by
  refine (evalDuties_eq s).trans ?_
  rw [followConveyor, exConveyor_followed, if_neg h]

theorem evalDuties_gained {s : State} (now : (evalDuties s).ptb.exConveyor = true)
    (before : s.ptb.exConveyor = false) :
    (evalDuties s).bal =
        { s.bal with
          active := true, timer := if s.ptb.endOfListen then some s.elapsed else none
          conveyor := if inputValid s .screwEncoder then .stopped else .fault, nCmd := 0
          stopHold := decide (s.phase = .halted ∨ s.alu.estop = true), acc := 0
          set := List.replicate 8 none, blind := true } ∧
      (evalDuties s).fpt.written.screw = 0 ∧ (evalDuties s).fpt.written.gateOpen = false := by
  have valid : inputValid (followErector s.ptb.exErector (dutiesRecorded s)) .screwEncoder =
      inputValid s .screwEncoder := by
    simp [inputValid, inputOf, isFitted, dutiesRecorded, recordDuties]
  rw [evalDuties_bal_changed (by simp [now, before]), if_pos now, balanceActivate, setConveyor_bal,
    setConveyor_written, valid]
  cases inputValid s .screwEncoder <;> simp [dutiesRecorded, recordDuties]

theorem evalDuties_lost {s : State} (now : (evalDuties s).ptb.exConveyor = false)
    (before : s.ptb.exConveyor = true) :
    (evalDuties s).bal =
        { s.bal with
          active := false, timer := none, conveyor := .stopped, nCmd := 0, acc := 0, overCount := 0
          recoverCount := 0, pMean := 0, nP := 0, overdrawn := false, owed := false, pLow := false
          pHigh := false, pressureBlind := false } ∧
      (evalDuties s).fpt.written.screw = 0 ∧ (evalDuties s).fpt.written.gateOpen = false := by
  rw [evalDuties_bal_changed (by simp [now, before]), if_neg (by simp [now]), balanceDeactivate, setConveyor_bal,
    setConveyor_written]
  simp [dutiesRecorded, recordDuties]

/-- R68: what follows BSQ and BAL leaves THU and its valve. -/
theorem evalDuties_thu (s : State) :
    (evalDuties s).thu = (dutiesRecorded s).thu ∧
      (evalDuties s).fpt.written.valveMode = (dutiesRecorded s).fpt.written.valveMode ∧
      (evalDuties s).fpt.written.valvePressure = (dutiesRecorded s).fpt.written.valvePressure := by
  obtain ⟨c, erector⟩ := followErector_fpt s.ptb.exErector (dutiesRecorded s)
  obtain ⟨v, g, conveyor⟩ := followConveyor_fpt s.ptb.exConveyor (followErector s.ptb.exErector (dutiesRecorded s))
  rw [evalDuties_eq, conveyor, erector]
  exact ⟨by simp, rfl, rfl⟩

/-- No duty drives the grout line. -/
theorem evalDuties_line_written (s : State) :
    (evalDuties s).fpt.written.pump = s.fpt.written.pump ∧
      (evalDuties s).fpt.written.flushOpen = s.fpt.written.flushOpen := by
  obtain ⟨m, p, holder⟩ := followHolder_fpt s.ptb.erector.holder (recordDuties s)
  obtain ⟨c, erector⟩ := followErector_fpt s.ptb.exErector (dutiesRecorded s)
  obtain ⟨v, g, conveyor⟩ := followConveyor_fpt s.ptb.exConveyor (followErector s.ptb.exErector (dutiesRecorded s))
  rw [evalDuties_eq, conveyor, erector, dutiesRecorded, holder]
  exact ⟨rfl, rfl⟩

/-- R68: the auto-close of a group that is out. -/
theorem autoClose_out {s : State} (out : s.thu.group = .moving .retracting ∨ s.thu.group = .moving .retracted) :
    (autoClose s).thu = { s.thu with group := .moving .extending, slot := none, orphaned := true } ∧
      (autoClose s).fpt.written.valveMode = .extend ∧
      (autoClose s).fpt.written.valvePressure = s.cfg.image.pHold := by
  rw [autoClose, if_pos out, setGroup_written]
  refine ⟨?_, by simp [valveOf], by simp [valveOf]⟩
  rcases out with out | out <;> simp [setGroup, pRefAfter, emptySlot, out]

theorem dutiesRecorded_of_changed {s : State}
    (changed : (evalDuties s).ptb.erector.holder ≠ s.ptb.erector.holder) :
    dutiesRecorded s = autoClose (recordDuties s) :=
  if_neg (by rwa [evalDuties_ptb] at changed)

theorem dutiesRecorded_of_standing {s : State}
    (stands : (evalDuties s).ptb.erector.holder = s.ptb.erector.holder ∨
      (s.thu.group ≠ .moving .retracting ∧ s.thu.group ≠ .moving .retracted)) :
    dutiesRecorded s = recordDuties s := by
  rw [evalDuties_ptb] at stands
  unfold dutiesRecorded followHolder
  split
  · rfl
  next changed =>
    obtain ⟨retracting, retracted⟩ := stands.resolve_left changed
    exact if_neg (by simp [recordDuties, retracting, retracted])

theorem keepDeadline_kept (q : BsqState) :
    (keepDeadline q).map (fun r => (r.placement, r.target, r.proven)) =
      q.retraction.map fun r => (r.placement, r.target, r.proven) := by
  unfold keepDeadline
  split
  · rfl
  · split
    · simp [Option.map_map, Function.comp_def]
    · rfl

/-- Settles O13: the table for both duties, and each block's part. -/
theorem dutyEvaluationFollowsItsTable : Obligations.DutyEvaluationFollowsItsTable := by
  intro s claims E C t joins
  have erector : t.ptb.erector = dutyOutcome s (claimants s s.cfg.straps.erector fun c => c.erector) := by
    simp [t, evalDuties_ptb, recordDuties, erectorOutcome]
  have conveyor : t.ptb.conveyor = dutyOutcome s (claimants s s.cfg.straps.conveyor fun c => c.conveyor) := by
    simp [t, evalDuties_ptb, recordDuties, conveyorOutcome]
  obtain ⟨eNone, eOne, eTwo⟩ := dutyOutcome_table s s.cfg.straps.erector fun c => c.erector
  obtain ⟨cNone, cOne, cTwo⟩ := dutyOutcome_table s s.cfg.straps.conveyor fun c => c.conveyor
  rw [← erector] at eNone eOne eTwo
  rw [← conveyor] at cNone cOne cTwo
  refine ⟨eNone, eOne, eTwo, ?_, cNone, cOne, cTwo, ?_, evalDuties_bsq_same, fun changed => ?_,
    evalDuties_bal_same, fun changed => ?_, fun now before => (evalDuties_gained now before).1,
    fun now before => (evalDuties_lost now before).1, fun changed out => ?_, fun stands => ?_, ?_⟩
  · simp [t, evalDuties_ptb, recordDuties]
  · simp [t, evalDuties_ptb, recordDuties]
  · obtain ⟨bsq, hold⟩ := evalDuties_bsq_changed changed
    simp only [t]
    rw [bsq, hold]
    simp [enterBuild, BuildState.stepping, keepDeadline_kept]
    intro lost now
    rw [now] at lost
    cases lost
  · cases now : t.ptb.exConveyor with
    | true => exact (evalDuties_gained now (by simpa [now] using changed.symm)).2
    | false => exact (evalDuties_lost now (by simpa [now] using changed.symm)).2
  · obtain ⟨thu, mode, pressure⟩ := evalDuties_thu s
    rw [dutiesRecorded_of_changed changed] at thu mode pressure
    obtain ⟨thu', mode', pressure'⟩ := autoClose_out (s := recordDuties s) out
    exact ⟨thu.trans thu', mode.trans mode', pressure.trans pressure'⟩
  · obtain ⟨thu, mode, pressure⟩ := evalDuties_thu s
    rw [dutiesRecorded_of_standing stands] at thu mode pressure
    exact ⟨thu, mode, pressure⟩
  · simp [t]

end Sys2Proof.Machine
end

section
/-! The start of the station: the JOIN timers, the end of LOAD, of PROBE and of LISTEN. -/

namespace Sys2Proof.Machine

open Sys2Proof

/-- Settles O5: each JOIN timer that is due acts on its phase's JOIN. -/
theorem joinTimersHandTheJoin : Obligations.JoinTimersHandTheJoin := by
  constructor
  · intro s start timer due
    change execFaultJoinTimerExpiry s = _
    rw [execFaultJoinTimerExpiry, timer, onExpiry_due (span := Config.joinPeriod) due]
    rfl
  · intro s start timer due
    change execListenJoinTimerExpiry s = _
    rw [execListenJoinTimerExpiry, timer, onExpiry_due (span := Config.joinPeriod) due]
    rfl

/-! ## LOAD_END and the end of PROBE -/

theorem enterConfigFault_wires (s : State) : (enterConfigFault s).fpt.wires = builtInReferences := by
  rw [enterConfigFault, refreshAll_wires, pinsOf_builtIn]
  simp [builtInPhase, handJoin]

/-- A frame handed to LIF is queued by what LIF holds. -/
theorem handFrame_lif_congr (f : TxFrame) {s u : State} (h : u.lif = s.lif) :
    (handFrame f u).lif = (handFrame f s).lif := by
  unfold handFrame
  rw [h]
  (repeat' split) <;> simp [countQueueDrop, h]

theorem enterConfigFault_lif (s : State) :
    (enterConfigFault s).lif = (handFrame { dest := 15, body := .join (faultJoin s) } s).lif := by
  rw [← handFrame_lif_congr (s := s)
    (u := (s.setPhase .configFault).onCfg fun c => { c with faultTimer := some s.elapsed }) _ rfl]
  simp [enterConfigFault, handJoin]

theorem execLoadEnd_passes {r : ImageRead} {s : State} (load : s.phase = .load)
    (passes : imagePasses s.own s.elapsed.toNat r = true) :
    execLoadEnd (some r) s = .next (settle (beginProbe r s)) := by
  simp [execLoadEnd, load, passes]

theorem execLoadEnd_fails {read : Option ImageRead} {s : State} (load : s.phase = .load)
    (fails : ∀ r, read = some r → imagePasses s.own s.elapsed.toNat r = false) :
    execLoadEnd read s = .next (enterConfigFault s) := by
  cases read with
  | none => simp [execLoadEnd, load]
  | some r => simp [execLoadEnd, load, fails r rfl]

theorem isFitted_fitIf (b : Bool) (c d : Channel) {s : State} (hl : s.fpt.fitted.length = 26) :
    isFitted (fitIf b c s) d = true ↔ (b = true ∧ d = c) ∨ isFitted s d = true := by
  cases b with
  | true => simp [fitIf, isFitted_fit c d s hl]
  | false => simp [fitIf]

theorem length_fitted_fit (c : Channel) (s : State) : (fit c s).fpt.fitted.length = s.fpt.fitted.length := by
  simp [fit]

theorem length_fitted_fitIf (b : Bool) (c : Channel) (s : State) :
    (fitIf b c s).fpt.fitted.length = s.fpt.fitted.length := by
  cases b <;> simp [fitIf, fit]

/-- R170: what is fitted at the end of PROBE. -/
theorem isFitted_fixFitted (d : Channel) {s : State} (hl : s.fpt.fitted.length = 26) :
    isFitted (fixFitted s) d = true ↔
      (d = .estopIn ∨ d = .groupValve ∨ ((d = .screwRef ∨ d = .gateCmd) ∧ s.cfg.straps.conveyor = true) ∨
        (d = .erectorCmd ∧ s.cfg.straps.erector = true)) ∨ isFitted s d = true := by
  unfold fixFitted
  rw [isFitted_fitIf, isFitted_fitIf, isFitted_fitIf, isFitted_fit, isFitted_fit _ _ _ hl]
  · tauto
  all_goals simp [length_fitted_fitIf, hl]

/-- R99: GRU at the end of PROBE, on a fitted grout line and on none. -/
theorem groutActivate_gru (s : State) :
    (groutActivate s).gru =
      if isFitted s .groutPump = true then
        { GruState.cold with active := true, settingTimer := some s.elapsed, line := .idle }
      else { GruState.cold with active := true, line := .absent } := by
  unfold groutActivate
  split <;> simp [setLine, *]

theorem groutActivate_pump (s : State) :
    (groutActivate s).fpt.written.pump = 0 ∧ (groutActivate s).fpt.written.flushOpen = false := by
  unfold groutActivate
  split <;> simp [setLine, pumpChoice, writePump, writeFlush]

theorem startListen_lif (warm : Bool) (s : State) :
    (startListen warm s).lif =
      (handFrame
        { dest := 15
          body := .join
            { station := s.own
              claims := { erector := s.cfg.straps.erector, conveyor := s.cfg.straps.conveyor }
              warm := warm, fault := false, digest := s.cfg.digest, fitted := fittedBits s.fpt.fitted
              ring := s.ring } } s).lif := by
  unfold startListen handJoin
  dsimp only
  rw [handFrame_lif_congr (s := s) _ (by simp)]
  simp [listenJoin, State.own]

theorem endProbe_cfg (s : State) :
    (endProbe s).cfg =
      { s.cfg with
        warm := false, listenTimer := some s.elapsed, joinTimer := some s.elapsed, joinCount := 1 } := by
  simp [endProbe, startListen, handJoin]

theorem beginProbe_settled (r : ImageRead) (s : State) :
    let t := settle (beginProbe r s)
    t.phase = .probe ∧ t.cfg.image = r.fields ∧ t.cfg.digest = checkValue r.bytes ∧
      t.cfg.straps = s.cfg.straps ∧ t.alu.active = true ∧ t.fpt.timer = some s.elapsed ∧
      t.fpt.probe.trial = 1 ∧ t.bal.pTarget = r.fields.pTargetInit ∧ t.bal.band = r.fields.bandInit ∧
      t.fpt.estopIn = s.fpt.estopIn := by
  have phase : (beginProbe r s).phase = .probe := by simp [beginProbe]
  refine ⟨?_, ?_⟩
  · rw [settle_phase_stays, phase] <;> simp [phase, Phase.halts]
  · simp [beginProbe, beginTrial_holds, BalState.cold]

theorem endProbe_gru {s : State} (length : s.fpt.fitted.length = 26) :
    (endProbe s).gru =
      if isFitted s .groutPump = true then
        { GruState.cold with active := true, settingTimer := some s.elapsed, line := .idle }
      else { GruState.cold with active := true, line := .absent } := by
  have pump : isFitted (refreshAll ((fixFitted s).setPhase .listen)) .groutPump = true ↔
      isFitted s .groutPump = true := by
    have same : isFitted (refreshAll ((fixFitted s).setPhase .listen)) .groutPump =
        isFitted (fixFitted s) .groutPump := by simp [isFitted]
    rw [same, isFitted_fixFitted _ length]
    simp
  unfold endProbe
  simp [groutActivate_gru, pump]

theorem endProbe_lif (s : State) :
    (endProbe s).lif =
      (handFrame
        { dest := 15
          body := .join
            { station := s.own
              claims := { erector := s.cfg.straps.erector, conveyor := s.cfg.straps.conveyor }
              warm := false, fault := false, digest := s.cfg.digest, fitted := fittedBits (endProbe s).fpt.fitted
              ring := s.ring } } s).lif := by
  have fitted : (endProbe s).fpt.fitted = (fixFitted s).fpt.fitted := by simp [endProbe]
  rw [fitted, endProbe, startListen_lif, handFrame_lif_congr (s := s) _ (by simp)]
  simp [State.own]

theorem endProbe_grout (s : State) :
    (endProbe s).fpt.written.pump = 0 ∧ (endProbe s).fpt.written.flushOpen = false := by
  obtain ⟨pump, flush⟩ := groutActivate_pump (refreshAll ((fixFitted s).setPhase .listen))
  simp [endProbe, startListen, handJoin, evalDuties_line_written, plainPhase, pump, flush]

theorem endProbe_phase (s : State) : (endProbe s).phase = .listen ∧ (endProbe s).pauseCause = .none := by
  simp [endProbe, startListen, handJoin, plainPhase]

/-- Settles O4: LOAD_END by the image's checks, and the end of PROBE by the straps and the grout line. -/
theorem loadEndGoesToProbeOrConfigFault : Obligations.LoadEndGoesToProbeOrConfigFault := by
  refine ⟨fun read s load => ?load, fun s length => ?probe⟩
  case load =>
    by_cases passes : ∃ r, read = some r ∧ imagePasses s.own s.elapsed.toNat r = true
    · obtain ⟨r, rfl, pass⟩ := passes
      refine ⟨_, execLoadEnd_passes load pass, fun r' same _ => ?_, fun fails => ?_⟩
      · obtain rfl := Option.some.inj same
        exact beginProbe_settled r s
      · rw [fails r rfl] at pass
        cases pass
    · have fails : ∀ r, read = some r → imagePasses s.own s.elapsed.toNat r = false :=
        fun r h => Bool.eq_false_iff.2 fun pass => passes ⟨r, h, pass⟩
      refine ⟨_, execLoadEnd_fails load fails, fun r h pass => absurd ⟨r, h, pass⟩ passes, fun _ => ?_⟩
      refine ⟨by simp [enterConfigFault, handJoin], by simp [enterConfigFault, handJoin], enterConfigFault_wires s,
        by simp [enterConfigFault, handJoin], ?_⟩
      simp [enterConfigFault_lif, faultJoin]
  case probe =>
    intro t unprobed
    have fitted (c : Channel) : isFitted t c = isFitted (fixFitted s) c := by simp [t, endProbe, isFitted]
    refine ⟨fun c => by rw [fitted, isFitted_fixFitted c length], by simp [t, endProbe], by simp [t, endProbe],
      by simp [t, endProbe], ?_⟩
    simp only [t]
    rw [endProbe_gru length, endProbe_cfg, endProbe_lif]
    obtain ⟨pump, flush⟩ := endProbe_grout s
    obtain ⟨phase, cause⟩ := endProbe_phase s
    rw [pump, flush, phase, cause]
    split <;> simp [GruState.cold]
end Sys2Proof.Machine
end

section
/-! The cutterhead's watch and the elapsed-time count. -/

namespace Sys2Proof.Machine

open Sys2Proof

/-- Two stations are the same where every block is. -/
theorem state_ext {s u : State} (pending : u.pending = s.pending) (elapsed : u.elapsed = s.elapsed)
    (phase : u.phase = s.phase) (cause : u.pauseCause = s.pauseCause) (ring : u.ring = s.ring)
    (cfg : u.cfg = s.cfg) (ptb : u.ptb = s.ptb) (oru : u.oru = s.oru) (dsu : u.dsu = s.dsu)
    (thu : u.thu = s.thu) (bsq : u.bsq = s.bsq) (gru : u.gru = s.gru) (bal : u.bal = s.bal)
    (alu : u.alu = s.alu) (fpt : u.fpt = s.fpt) (lif : u.lif = s.lif) : u = s := by
  cases u
  cases s
  simp_all

/-- R151: one flag set. -/
theorem setFlagIf_flags (b : Bool) (f : Flag) (s : State) :
    (setFlagIf b f s).alu = { s.alu with flags := if b then flagUp f s.alu.flags else s.alu.flags } := by
  cases b <;> rfl

theorem due_iff {t : Timer} {span : Nat} {now : Time} :
    due t span now = true ↔ ∃ t0, t = some t0 ∧ span ≤ elapsedSince t0 now := by
  cases t <;> simp [due]

theorem watchExpired_iff (peer : Nat) (s : State) :
    watchExpired peer s = true ↔
      s.dsu.cutterhead = .starting ∧ present s peer = true ∧ 30 ≤ elapsedSince s.dsu.startedAt s.elapsed ∧
        ∃ t0, s.dsu.stoppedSince.getD peer none = some t0 ∧ 30 ≤ elapsedSince t0 s.elapsed := by
  have span : Config.startWatchSpan = 30 := rfl
  rw [watchExpired, span]
  simp only [Bool.and_eq_true, decide_eq_true_eq, due_iff]
  tauto

theorem residencyStep_counts {s : State} (length : s.dsu.residency.length = 8) (level : s.dsu.applied < 8) :
    let u := residencyStep s
    u.dsu.residency.length = 8 ∧
      u.dsu.residency.getD s.dsu.applied 0 = min 4294967295 (s.dsu.residency.getD s.dsu.applied 0 + 1) ∧
      (∀ l, l ≠ s.dsu.applied → u.dsu.residency.getD l 0 = s.dsu.residency.getD l 0) ∧
      u.alu.flags.counterWrap =
        (s.alu.flags.counterWrap || decide (4294967295 ≤ s.dsu.residency.getD s.dsu.applied 0 + 1)) := by
  simp only [residencyStep, setFlagIf_frame, setFlagIf_flags, State.onDsu_dsu, State.onDsu_alu, putAt,
    List.length_set, List.getD_eq_getElem?_getD]
  refine ⟨length, ?_, fun l other => ?_, ?_⟩
  · simp [length, level]
  · rw [List.getElem?_set_ne (Ne.symm other)]
  · split <;> simp_all [flagUp]

/-- Beside the count and its flag a residency step leaves the station as it was. -/
theorem residencyStep_rest (s : State) :
    { residencyStep s with
        dsu := { (residencyStep s).dsu with residency := s.dsu.residency }
        alu := { (residencyStep s).alu with
          flags := { (residencyStep s).alu.flags with counterWrap := s.alu.flags.counterWrap } } } = s := by
  unfold residencyStep setFlagIf
  dsimp only
  split <;> rfl

/-- Settles O18: the watch by its three conditions, and the tick by one step of each count. -/
theorem startWatchAndResidencyTick : Obligations.StartWatchAndResidencyTick := by
  refine ⟨fun s peer => ⟨fun expired => ?_, fun unexpired => ?_⟩,
    fun s => ⟨fun before => ?_, fun after length level => ?_⟩⟩
  · exact if_pos ((watchExpired_iff peer s).2 expired)
  · exact if_neg (mt (watchExpired_iff peer s).1 unexpired)
  · change Host.Outcome.next (settle (if s.ptb.endOfListen then _ else _)) = _
    rw [before]
    rfl
  · obtain ⟨places, counted, others, wraps⟩ :=
      residencyStep_counts (s := s.setElapsed (s.elapsed + 1)) length level
    refine ⟨residencyStep (s.setElapsed (s.elapsed + 1)), ?_, by simp, places, counted, others, wraps, ?_⟩
    · change Host.Outcome.next (settle (if s.ptb.endOfListen then _ else _)) = _
      rw [after]
      rfl
    · exact congrArg (fun u : State => { u with elapsed := s.elapsed }) (residencyStep_rest _)

end Sys2Proof.Machine
end

section
/-! The face balance: its conditions and its orders (06_face_balance_and_muck_removal). -/

namespace Sys2Proof.Machine

open Sys2Proof

/-! ## The conditions (R132, R133, R135) -/

theorem overTest_of_clear {img : Image} {b : BalState} (clear : b.overdrawn = false) :
    overTest img b =
      if b.account < -img.lOver then
        if 1 ≤ b.overCount then { b with overdrawn := true, overCount := 0, recoverCount := 0 }
        else { b with overCount := b.overCount + 1 }
      else { b with overCount := 0 } := by
  simp [overTest, clear]

theorem overTest_of_overdrawn {img : Image} {b : BalState} (drawn : b.overdrawn = true) :
    overTest img b =
      if -img.lOver + img.lHyst ≤ b.account then
        if 1 ≤ b.recoverCount then { b with overdrawn := false, overCount := 0, recoverCount := 0 }
        else { b with recoverCount := b.recoverCount + 1 }
      else { b with recoverCount := 0 } := by
  simp [overTest, drawn]

/-- Settles O39: each test by the thresholds it names. -/
theorem balanceConditionsFollowTheirThresholds : Obligations.BalanceConditionsFollowTheirThresholds := by
  intro img b
  refine ⟨fun clear low => ?_, fun clear high => ?_, fun drawn high => ?_, fun drawn low => ?_, fun more => ?_,
    fun least less => ?_, fun less between => ?_, fun low => ?_, fun least high => ?_, fun least between => ?_,
    fun high => ?_, fun most low => ?_, fun most between => ?_, rfl⟩
  · rw [overTest_of_clear clear, if_pos low]
    exact ⟨fun first => by simp [first], fun second => if_pos second⟩
  · rw [overTest_of_clear clear, if_neg (by omega)]
  · rw [overTest_of_overdrawn drawn, if_pos high]
    exact ⟨fun first => by simp [first], fun second => if_pos second⟩
  · rw [overTest_of_overdrawn drawn, if_neg (by omega)]
  · simp [underTest, more]
  · simp [underTest, not_lt.2 least, less]
  · simp [underTest, not_lt.2 less, not_le.2 between]
  · exact if_pos low
  · exact (if_neg (not_lt.2 least)).trans (if_pos high)
  · exact (if_neg (not_lt.2 least)).trans (if_neg (not_le.2 between))
  · exact if_pos high
  · exact (if_neg (not_lt.2 most)).trans (if_pos low)
  · exact (if_neg (not_lt.2 most)).trans (if_neg (not_le.2 between))

/-! ## SCREW_MODE and SET_FACE_PRESSURE (R126, R127) -/

/-- An order that sets what it is given clamped, with the flag where a clamp changed it. -/
theorem setFlagIf_clamped_flags (out : Bool) (s : State) :
    (setFlagIf out .clamped s).alu.flags = { s.alu.flags with clamped := s.alu.flags.clamped || out } := by
  cases out <;> simp [setFlagIf, setFlag, flagUp]

/-- A flag and BAL written leave every other block. -/
theorem setFlagIf_onBal_rest (out : Bool) (k : Flag) (f : BalState → BalState) (s : State) :
    { setFlagIf out k (s.onBal f) with bal := s.bal, alu := s.alu } = s := by
  cases out <;> rfl

theorem ruleScrewMode_auto {params : List Int} {s : State} (h : param params 0 = 0) :
    ruleScrewMode params s = (.done, { s with bal := { s.bal with manual := false } }) :=
  if_pos h

theorem clampResult_outside (lo hi v : Int) (r : OrderResult) :
    clampResult (outside lo hi v) r = if v < lo ∨ hi < v then .clamped else r := by
  simp only [clampResult, outside_iff]

theorem ruleScrewMode_manual (reference : Int) (s : State) :
    ruleScrewMode [1, reference] s =
      (if reference < 0 ∨ s.cfg.image.nMax < reference then .clamped else .done,
        setFlagIf (outside 0 s.cfg.image.nMax reference) .clamped (s.onBal fun b =>
          { b with manual := true, manualRef := clamp 0 s.cfg.image.nMax reference })) := by
  rw [← clampResult_outside]
  rfl

theorem ruleSetFacePressure_eq (target band : Int) (s : State) :
    ruleSetFacePressure [target, band] s =
      (if target < 0 ∨ 8000 < target ∨ band < 0 ∨ 1000 < band then .clamped else .done,
        setFlagIf (outside 0 8000 target || outside 0 1000 band) .clamped (s.onBal fun b =>
          { b with pTarget := clamp 0 8000 target, band := clamp 0 1000 band })) := by
  rw [← clampResult_outside_or]
  rfl

/-- Settles O41: each order sets what it is given, clamped. -/
theorem balanceSettingsAreClamped : Obligations.BalanceSettingsAreClamped := by
  intro s chars tag
  refine ⟨fun mode reference ho => ⟨fun auto => ?_, fun manual => ?_⟩, fun target band ho => ?_⟩
  · exact hear_ordered_of_rule ho rfl (ruleScrewMode_auto (s := atOrder s) auto)
  · subst manual
    refine ⟨_, hear_ordered_of_rule ho rfl (ruleScrewMode_manual reference (atOrder s)), by simp [atOrder], ?_,
      setFlagIf_onBal_rest _ _ _ _, by simp [atOrder]⟩
    rw [setFlagIf_clamped_flags, Bool.eq_iff_iff.2 ((outside_iff _ _ _).trans decide_eq_true_iff.symm)]
    rfl
  · refine ⟨_, hear_ordered_of_rule ho rfl (ruleSetFacePressure_eq target band (atOrder s)), by simp [atOrder], ?_,
      setFlagIf_onBal_rest _ _ _ _, by simp [atOrder]⟩
    have out : (outside 0 8000 target || outside 0 1000 band) =
        decide (target < 0 ∨ 8000 < target ∨ band < 0 ∨ 1000 < band) :=
      Bool.eq_iff_iff.2 (by simp only [Bool.or_eq_true, outside_iff, decide_eq_true_eq, or_assoc])
    rw [setFlagIf_clamped_flags, out]
    rfl

/-! ## SCREW_START, SCREW_STOP and GATE (R122, R124) -/

/-- A conveyor moved leaves every block but BAL, the pins and the flags. -/
theorem setConveyor_rest (c : Conveyor) (s : State) :
    { setConveyor c s with bal := s.bal, fpt := s.fpt, alu := s.alu } = s :=
  state_ext (by simp) (by simp) (by simp) (by simp) (by simp) (by simp) (by simp) (by simp) (by simp) (by simp)
    (by simp) (by simp) rfl rfl rfl (by simp)

/-- R121: what a move of the conveyor leaves. -/
theorem setConveyor_moved (c : Conveyor) (s : State) :
    (setConveyor c s).bal = { s.bal with conveyor := c, nCmd := if c = .running then s.bal.nCmd else 0 } ∧
      (setConveyor c s).fpt.written.gateOpen = decide (c = .running) ∧
      (c ≠ .running → (setConveyor c s).fpt.written.screw = 0) ∧
      { setConveyor c s with bal := s.bal, fpt := s.fpt, alu := s.alu } = s ∧
      (setConveyor c s).alu.entries = s.alu.entries := by
  refine ⟨setConveyor_bal c s, ?_, fun stands => ?_, setConveyor_rest c s, by simp⟩
  · rw [setConveyor_written]
  · rw [setConveyor_written]
    simp [stands]

theorem ruleScrewStart_accepted {s : State} (params : List Int) (phase : s.phase ≠ .halted)
    (rest : s.bal.conveyor = .stopped) :
    ruleScrewStart params s =
      (.accepted, setConveyor (if heldBack s.bal then .holding else .running) s) := by
  simp only [ruleScrewStart, if_neg phase, rest, holdCause_iff]

theorem ruleScrewStart_done {s : State} (params : List Int) (phase : s.phase ≠ .halted)
    (runs : s.bal.conveyor = .running ∨ s.bal.conveyor = .holding) : ruleScrewStart params s = (.done, s) := by
  rcases runs with runs | runs <;> simp only [ruleScrewStart, if_neg phase, runs]

theorem ruleScrewStart_refused {s : State} (params : List Int)
    (bars : s.phase = .halted ∨ s.bal.conveyor = .fault) : ruleScrewStart params s = (.refusedState, s) := by
  rcases bars with halted | fault
  · exact if_pos halted
  · simp only [ruleScrewStart, fault]
    split <;> rfl

theorem ruleScrewStop_accepted {s : State} (params : List Int)
    (runs : s.bal.conveyor = .running ∨ s.bal.conveyor = .holding ∨
      (s.bal.conveyor = .fault ∧ inputValid s .screwEncoder = true)) :
    ruleScrewStop params s = (.accepted, setConveyor .stopped s) := by
  rcases runs with runs | runs | ⟨fault, valid⟩
  · simp only [ruleScrewStop, runs]
  · simp only [ruleScrewStop, runs]
  · simp only [ruleScrewStop, fault, valid, if_true]

theorem ruleScrewStop_done {s : State} (params : List Int) (rest : s.bal.conveyor = .stopped) :
    ruleScrewStop params s = (.done, s) := by
  simp only [ruleScrewStop, rest]

theorem ruleScrewStop_refused {s : State} (params : List Int) (fault : s.bal.conveyor = .fault)
    (blind : inputValid s .screwEncoder = false) : ruleScrewStop params s = (.refusedState, s) := by
  simp [ruleScrewStop, fault, blind]

theorem ruleGate_done {s : State} {value : Int} (same : s.bal.gateOpen = decide (value = 0)) :
    ruleGate [value] s = (.done, s) :=
  if_pos same

theorem ruleGate_accepted {s : State} {value : Int} (differs : s.bal.gateOpen ≠ decide (value = 0)) :
    ruleGate [value] s =
      (.accepted, holdTest (s.onBal fun b => { b with gateOpen := decide (value = 0) })) :=
  if_neg differs

/-- R123: the conveyor held back and let go. -/
theorem holdTest_bal (s : State) :
    (holdTest s).bal.conveyor =
        (if s.bal.conveyor = .running ∧ heldBack s.bal then .holding
        else if s.bal.conveyor = .holding ∧ ¬heldBack s.bal then .running else s.bal.conveyor) ∧
      { (holdTest s).bal with conveyor := s.bal.conveyor, nCmd := s.bal.nCmd } = s.bal := by
  unfold holdTest
  simp only [← Bool.not_eq_true, holdCause_iff]
  split
  · simp [setConveyor_bal]
  · split <;> simp [setConveyor_bal]

/-- Settles O40: each order by the conveyor state and the hold causes. -/
theorem conveyorOrdersMoveTheConveyor : Obligations.ConveyorOrdersMoveTheConveyor := by
  intro s chars tag moved
  have moves (c : Conveyor) : moved c (setConveyor c (atOrder s)) := setConveyor_moved c (atOrder s)
  refine ⟨fun ho => ⟨fun phase rest => ?start, fun phase runs => ?running, fun bars => ?barred⟩,
    fun ho => ⟨fun runs => ?stop, fun rest => ?rests, fun fault blind => ?blind⟩,
    fun value ho => ⟨fun same => ?same, fun differs => ?gate⟩⟩
  case start =>
    exact ⟨_, hear_ordered_of_rule ho rfl (ruleScrewStart_accepted (s := atOrder s) [] phase rest), moves _⟩
  case running => exact hear_ordered_of_rule ho rfl (ruleScrewStart_done (s := atOrder s) [] phase runs)
  case barred => exact hear_ordered_of_rule ho rfl (ruleScrewStart_refused (s := atOrder s) [] bars)
  case stop => exact ⟨_, hear_ordered_of_rule ho rfl (ruleScrewStop_accepted (s := atOrder s) [] runs), moves _⟩
  case rests => exact hear_ordered_of_rule ho rfl (ruleScrewStop_done (s := atOrder s) [] rest)
  case blind => exact hear_ordered_of_rule ho rfl (ruleScrewStop_refused (s := atOrder s) [] fault blind)
  case same => exact hear_ordered_of_rule ho rfl (ruleGate_done (s := atOrder s) same)
  case gate =>
    obtain ⟨conveyor, rest⟩ := holdTest_bal ((atOrder s).onBal fun b => { b with gateOpen := decide (value = 0) })
    refine ⟨_, hear_ordered_of_rule ho rfl (ruleGate_accepted (s := atOrder s) differs), by simp, conveyor,
      congrArg (fun b : BalState => { b with gateOpen := s.bal.gateOpen }) rest, ?_⟩
    simp [atOrder]

end Sys2Proof.Machine
end

section
/-! The balance evaluation, stage by stage (06_face_balance_and_muck_removal section 6.3 to 6.6). -/

namespace Sys2Proof.Machine

open Sys2Proof

/-! ## The flags of an evaluation -/

/-- Only the two flags of an evaluation have moved, and CLAMPED not down. -/
structure ClampFlags (s u : State) : Prop where
  rest : u.alu =
    { s.alu with
      flags := { s.alu.flags with saturated := u.alu.flags.saturated, clamped := u.alu.flags.clamped } }
  up : s.alu.flags.clamped = true → u.alu.flags.clamped = true

theorem ClampFlags.of_eq {s u : State} (h : u.alu = s.alu) : ClampFlags s u := by
  constructor <;> rw [h]
  exact id

theorem ClampFlags.trans {s u v : State} (h : ClampFlags s u) (k : ClampFlags u v) : ClampFlags s v :=
  ⟨by rw [k.rest, h.rest], k.up ∘ h.up⟩

theorem ClampFlags.alu {s u : State} (h : ClampFlags s u) :
    { u.alu with
      flags := { u.alu.flags with saturated := s.alu.flags.saturated, clamped := s.alu.flags.clamped } } =
      s.alu := by
  rw [h.rest]

theorem clampFlags_setFlagIf (b : Bool) {f : Flag} (hf : f = .clamped ∨ f = .saturated) (s : State) :
    ClampFlags s (setFlagIf b f s) := by
  rcases hf with rfl | rfl <;> cases b <;> exact ⟨rfl, by simp [setFlagIf, setFlag, flagUp]⟩

/-- Not even SATURATED has moved. -/
def ClampedOnly (s u : State) : Prop := ClampFlags s u ∧ u.alu.flags.saturated = s.alu.flags.saturated

theorem ClampedOnly.of_eq {s u : State} (h : u.alu = s.alu) : ClampedOnly s u := ⟨.of_eq h, by rw [h]⟩

theorem ClampedOnly.trans {s u v : State} (h : ClampedOnly s u) (k : ClampedOnly u v) : ClampedOnly s v :=
  ⟨h.1.trans k.1, k.2.trans h.2⟩

theorem clampedOnly_setFlagIf (b : Bool) (s : State) : ClampedOnly s (setFlagIf b .clamped s) :=
  ⟨clampFlags_setFlagIf b (.inl rfl) s, by cases b <;> rfl⟩

theorem ClampedOnly.congr {s s' u u' : State} (h : ClampedOnly s' u') (before : s'.alu = s.alu)
    (after : u.alu = u'.alu) : ClampedOnly s u :=
  ((ClampedOnly.of_eq before).trans h).trans (.of_eq after)

theorem clampedOnly_writeScrew (v : Int) (s : State) : ClampedOnly s (writeScrew v s) := by
  unfold writeScrew refreshScrew
  dsimp only
  refine ClampedOnly.congr (clampedOnly_setFlagIf _ _) ?_ rfl
  rfl

theorem clampedOnly_setConveyor (c : Conveyor) (s : State) : ClampedOnly s (setConveyor c s) := by
  unfold setConveyor writeConveyor writeGate
  refine ClampedOnly.congr (clampedOnly_writeScrew _ _) ?_ rfl
  rfl

theorem clampedOnly_holdTest (s : State) : ClampedOnly s (holdTest s) := by
  unfold holdTest
  split
  · exact clampedOnly_setConveyor _ s
  · split
    · exact clampedOnly_setConveyor _ s
    · exact .of_eq rfl

theorem clampedOnly_encoderTest (s : State) : ClampedOnly s (encoderTest s) := by
  unfold encoderTest
  split
  · exact clampedOnly_setConveyor _ s
  · exact .of_eq rfl

theorem clampedOnly_screwStage (s : State) : ClampedOnly s (screwStage s) := by
  have written (u : State) : ClampedOnly u (writeChangedScrew u) := by
    unfold writeChangedScrew
    split
    · exact .of_eq rfl
    · exact clampedOnly_writeScrew _ u
  unfold screwStage
  split
  · exact (ClampedOnly.congr (clampedOnly_setFlagIf _ _) (by rfl) rfl).trans (written _)
  · exact .of_eq rfl

/-! ## The stages -/

/-- R128: the two inputs are read: the encoder tested, an unread encoder's count dropped, the set renewed. -/
def inputStage (s : State) : State := evalInputs (clearUnread (encoderTest s))

/-- R129 to R133: the account posted and its two tests made. -/
def testedStage (s : State) : State :=
  let posted := postAccount (clamp 0 100000 (evalAdvance s))
    (clamp (-65536) 65536 (clearUnread (encoderTest s)).bal.acc) (inputStage s)
  posted.onBal fun b => underTest posted.cfg.image (overTest posted.cfg.image b)

theorem balanceEvaluation_eq (s : State) :
    balanceEvaluation s = screwStage (holdTest (pressureStage (testedStage s))) := by
  simp only [balanceEvaluation, testedStage, inputStage]

theorem overTest_writes (img : Image) (b : BalState) :
    ∃ drawn n m, overTest img b = { b with overdrawn := drawn, overCount := n, recoverCount := m } := by
  unfold overTest
  (repeat' split) <;> exact ⟨_, _, _, rfl⟩

/-- R132 reads the account, the mark and the two counts, and writes the mark and the counts. -/
theorem overTest_eq (img : Image) (b : BalState) :
    overTest img b =
      { b with
        overdrawn := (overTest img b).overdrawn, overCount := (overTest img b).overCount
        recoverCount := (overTest img b).recoverCount } := by
  obtain ⟨drawn, n, m, h⟩ := overTest_writes img b
  rw [h]

theorem overTest_reads (img : Image) {b b' : BalState} (account : b'.account = b.account)
    (overdrawn : b'.overdrawn = b.overdrawn) (overCount : b'.overCount = b.overCount)
    (recoverCount : b'.recoverCount = b.recoverCount) :
    (overTest img b').overdrawn = (overTest img b).overdrawn ∧
      (overTest img b').overCount = (overTest img b).overCount ∧
      (overTest img b').recoverCount = (overTest img b).recoverCount := by
  unfold overTest
  rw [account, overdrawn, overCount, recoverCount]
  (repeat' split) <;> simp_all

/-- The conveyor stays, or a change moves it with its outputs. -/
inductive ConveyorMove (s : State) : State → Prop
  | stays : ConveyorMove s s
  | moves (c : Conveyor) (changes : c ≠ s.bal.conveyor) : ConveyorMove s (setConveyor c s)

theorem conveyorMove_holdTest (s : State) : ConveyorMove s (holdTest s) := by
  unfold holdTest
  split
  next h => exact .moves _ (by simp [h.1])
  next =>
    split
    next h => exact .moves _ (by simp [h.1])
    next => exact .stays

/-- What a move of the conveyor says of its outputs and of n_cmd. -/
theorem ConveyorMove.outputs {s u : State} (move : ConveyorMove s u) :
    (u.bal.conveyor ≠ s.bal.conveyor →
        u.fpt.written.gateOpen = decide (u.bal.conveyor = .running) ∧
        (u.bal.conveyor ≠ .running → u.bal.nCmd = 0 ∧ u.fpt.written.screw = 0)) ∧
      (u.bal.conveyor = s.bal.conveyor → u.bal.nCmd = s.bal.nCmd ∧ u.fpt = s.fpt) ∧
      (u.bal.conveyor = .running → u.bal.nCmd = s.bal.nCmd) := by
  cases move with
  | stays => simp
  | moves c changes =>
    simp only [setConveyor_bal, setConveyor_written]
    refine ⟨fun _ => ⟨by simp, fun stands => ?_⟩, fun same => absurd same changes, fun runs => if_pos runs⟩
    simp [stands]

/-- R128: with the encoder VALID the conveyor is let alone, and otherwise it is in FAULT. -/
theorem encoderTest_valid {s : State} (valid : inputValid s .screwEncoder = true) : encoderTest s = s :=
  if_neg (by simp [valid])

theorem encoderTest_invalid {s : State} (active : s.bal.active = true)
    (invalid : inputValid s .screwEncoder = false) :
    (encoderTest s).bal.conveyor = .fault ∧ ConveyorMove s (encoderTest s) := by
  unfold encoderTest
  split
  next h => exact ⟨by simp [setConveyor_bal], .moves _ (Ne.symm h.2.2)⟩
  next h => exact ⟨by_contra fun other => h ⟨active, invalid, other⟩, .stays⟩

/-- R137: the screw stage in RUNNING, and out of it. -/
theorem screwStage_running {s : State} (runs : s.bal.conveyor = .running) :
    (screwStage s).bal = { s.bal with nCmd := nextNcmd s } ∧
      (screwStage s).fpt.written = { s.fpt.written with screw := nextNcmd s } := by
  unfold screwStage writeChangedScrew
  rw [if_pos runs]
  split
  next same =>
    obtain ⟨-, same⟩ := same
    refine ⟨by simp, ?_⟩
    have same : s.fpt.written.screw = nextNcmd s := by simpa using same
    simp [← same]
  next => simp

theorem screwStage_standing {s : State} (stands : s.bal.conveyor ≠ .running) : screwStage s = s :=
  if_neg stands

theorem contributions_congr {s u : State} (own : u.own = s.own) (quality : u.thu.quality = s.thu.quality)
    (counter : u.thu.counter = s.thu.counter) (peers : u.ptb.peers = s.ptb.peers) :
    contributions u = contributions s := by
  have serves (j : Nat) : served u j = served s j := by rw [served_eq, served_eq, peerOf_congr peers]
  simp only [contributions, own, quality, counter, serves]

/-- R128: the advance counted, the encoder's count read and the volumes of an evaluation. -/
def advanceIn (s : State) : Int := clamp 0 100000 (evalAdvance s)
def countIn (s : State) : Int :=
  if inputValid s .screwEncoder = true then clamp (-65536) 65536 s.bal.acc else 0
def cutIn (s : State) : Int := spoilCut s.cfg.image (advanceIn s) s.bal.remE
def drawnIn (s : State) : Int := spoilDrawn s.cfg.image (countIn s) s.bal.remX

theorem inputValid_encoderTest (s : State) (c : Channel) : inputValid (encoderTest s) c = inputValid s c := by
  simp [inputValid, inputOf, isFitted]

theorem readCount_eq (s : State) :
    clamp (-65536) 65536 (clearUnread (encoderTest s)).bal.acc = countIn s := by
  unfold clearUnread countIn
  rw [inputValid_encoderTest]
  split <;> simp [clamp]

theorem inputStage_set (s : State) :
    (inputStage s).bal.set = contributions s ∧
      (inputStage s).bal.blind = (advances s.bal.set (contributions s)).isEmpty ∧ (inputStage s).bal.acc = 0 := by
  have same : contributions (clearUnread (encoderTest s)) = contributions s :=
    contributions_congr (by simp [State.own]) (by simp) (by simp) (by simp)
  simp [inputStage, evalInputs, same, machineBlind]

/-- The account posted, before its tests. -/
def postedIn (s : State) : BalState :=
  { s.bal with
    conveyor := (encoderTest s).bal.conveyor, nCmd := (encoderTest s).bal.nCmd
    acc := 0, set := contributions s, blind := (advances s.bal.set (contributions s)).isEmpty
    remE := cutIn s % 1000000, remX := drawnIn s % 4096
    account := accountClamp (s.bal.account + cutIn s / 1000000 - drawnIn s / 4096)
    eRing := accountClamp (s.bal.eRing + cutIn s / 1000000)
    xRing := accountClamp (s.bal.xRing + drawnIn s / 4096) }

theorem testedStage_bal (s : State) :
    (testedStage s).bal = underTest s.cfg.image (overTest s.cfg.image (postedIn s)) := by
  obtain ⟨set, blind, acc⟩ := inputStage_set s
  rw [inputStage] at set blind acc
  simp only [testedStage, readCount_eq]
  simp [postAccount, cutIn, drawnIn, advanceIn, inputStage, set, blind, acc, postedIn]

theorem testedStage_rest (s : State) :
    (testedStage s).fpt = (encoderTest s).fpt ∧ (testedStage s).phase = s.phase ∧ (testedStage s).ring = s.ring ∧
      (testedStage s).cfg = s.cfg ∧ (testedStage s).ptb = s.ptb ∧ (testedStage s).dsu = s.dsu ∧
      (testedStage s).thu = s.thu ∧ (testedStage s).bsq = s.bsq ∧ (testedStage s).gru = s.gru ∧
      (testedStage s).lif = s.lif := by
  simp [testedStage, inputStage]


/-! ## The flags of the evaluation -/

theorem clampedOnly_inputStage (s : State) : ClampedOnly s (inputStage s) := by
  have unread (u : State) : ClampedOnly u (clearUnread u) := by
    unfold clearUnread
    split <;> exact .of_eq rfl
  have evaluated (u : State) : ClampedOnly u (evalInputs u) := by
    unfold evalInputs
    refine ClampedOnly.congr (clampedOnly_setFlagIf _ _) ?_ rfl
    rfl
  exact (clampedOnly_encoderTest s).trans ((unread _).trans (evaluated _))

theorem clampFlags_postAccount (dA dc : Int) (s : State) : ClampFlags s (postAccount dA dc s) := by
  unfold postAccount
  refine ClampFlags.trans (.of_eq ?_) (clampFlags_setFlagIf _ (.inr rfl) _)
  rfl

theorem clampFlags_posted (s : State) : ClampFlags (inputStage s) (testedStage s) :=
  (clampFlags_postAccount _ _ _).trans (.of_eq rfl)

theorem clampFlags_testedStage (s : State) : ClampFlags s (testedStage s) :=
  (clampedOnly_inputStage s).1.trans (clampFlags_posted s)

/-- R130: SATURATED where one of the three sums lies outside its range. -/
theorem testedStage_saturated (s : State) :
    (testedStage s).alu.flags.saturated =
      (s.alu.flags.saturated ||
        (accountOutside (s.bal.account + cutIn s / 1000000 - drawnIn s / 4096) ||
          accountOutside (s.bal.eRing + cutIn s / 1000000) || accountOutside (s.bal.xRing + drawnIn s / 4096))) := by
  have same : (inputStage s).alu.flags.saturated = s.alu.flags.saturated := (clampedOnly_inputStage s).2
  have flag (b : Bool) (u : State) :
      (setFlagIf b .saturated u).alu.flags.saturated = (u.alu.flags.saturated || b) := by
    cases b <;> simp [setFlagIf, setFlag, flagUp]
  rw [← same]
  simp only [testedStage, readCount_eq, postAccount, State.onBal_alu, flag]
  simp [inputStage, cutIn, drawnIn, advanceIn]

theorem outside_of_clamp_ne {lo hi v : Int} (h : clamp lo hi v ≠ v) : outside lo hi v = true := by
  rw [outside_iff]
  unfold clamp at h
  split at h
  next low => exact .inl low
  next =>
    split at h
    next high => exact .inr high
    next => exact absurd rfl h

theorem clamp_ne_of_outside {lo hi v : Int} (range : lo ≤ hi) (h : outside lo hi v = true) : clamp lo hi v ≠ v := by
  obtain ⟨low, high⟩ := clamp_bounds range v
  rcases (outside_iff _ _ _).1 h with h | h <;> omega

/-- R128, R188: CLAMPED where one of the two inputs was clamped. -/
theorem testedStage_clamped {s : State}
    (clamps : advanceIn s ≠ machineAdvance s.bal.set (contributions s) ∨
      (inputValid s .screwEncoder = true ∧ countIn s ≠ s.bal.acc)) :
    (testedStage s).alu.flags.clamped = true := by
  have advance : evalAdvance (clearUnread (encoderTest s)) = evalAdvance s := by
    rw [evalAdvance, contributions_congr (s := s) (by simp [State.own]) (by simp) (by simp) (by simp)]
    simp [evalAdvance]
  have out : (outside 0 100000 (evalAdvance (clearUnread (encoderTest s))) ||
      outside (-65536) 65536 (clearUnread (encoderTest s)).bal.acc) = true := by
    rw [advance, Bool.or_eq_true]
    rcases clamps with dA | ⟨valid, dc⟩
    · exact .inl (outside_of_clamp_ne dA)
    · refine .inr ?_
      rw [encoderTest_valid valid, clearUnread, if_pos valid]
      rw [countIn, if_pos valid] at dc
      exact outside_of_clamp_ne dc
  have inputs : (inputStage s).alu.flags.clamped = true := by
    rw [inputStage, evalInputs, out]
    rfl
  exact (clampFlags_posted s).up inputs

/-! ## The mean pressure (R134, R135) -/

theorem filterMap_ite {α β : Type} (c : α → Bool) (f : α → β) (l : List α) :
    (l.filterMap fun p => if c p then some (f p) else none) = (l.filter c).map f := by
  induction l with
  | nil => rfl
  | cons p rest ih => cases h : c p <;> simp [h, ih]

theorem chamberCells_congr {s u : State} (fitted : u.fpt.fitted = s.fpt.fitted) (inputs : u.fpt.inputs = s.fpt.inputs)
    (ptb : u.ptb.peers = s.ptb.peers) : chamberCells u = chamberCells s := by
  have valid : inputValid u .chamberPressure = inputValid s .chamberPressure := by
    simp [inputValid, inputOf, isFitted, fitted, inputs]
  have value : inputValue u .chamberPressure = inputValue s .chamberPressure := by
    simp [inputValue, inputOf, isFitted, fitted, inputs]
  rw [chamberCells, chamberCells, valid, value, presentPeers_of_ptb ptb]

theorem pressureStage_bal (s : State) :
    (pressureStage s).bal =
      if (chamberCells s).length < 2 then { s.bal with pressureBlind := true }
      else faceTest
        { s.bal with
          pressureBlind := false, pMean := meanDiv (chamberCells s)
          nP := pressureTerm s.cfg.image (meanDiv (chamberCells s)) s.bal.pTarget } := by
  unfold pressureStage
  split <;> rfl

theorem pressureStage_rest (s : State) :
    (pressureStage s).fpt = s.fpt ∧ (pressureStage s).alu = s.alu := by
  unfold pressureStage
  split <;> exact ⟨rfl, rfl⟩

end Sys2Proof.Machine
end

section
/-! The balance evaluation as a whole. -/

namespace Sys2Proof.Machine

open Sys2Proof

/-! ## From the pressure stage on -/

theorem ConveyorMove.bal {s u : State} (move : ConveyorMove s u) :
    ∃ n, u.bal = { s.bal with conveyor := u.bal.conveyor, nCmd := n } := by
  cases move with
  | stays => exact ⟨_, rfl⟩
  | moves c changes => exact ⟨_, by rw [setConveyor_bal]⟩

/-- R123, R137: what holding the conveyor and the screw stage do to BAL. -/
theorem screwStage_bal (s : State) : ∃ n, (screwStage s).bal = { s.bal with nCmd := n } := by
  by_cases runs : s.bal.conveyor = .running
  · exact ⟨_, (screwStage_running runs).1⟩
  · exact ⟨_, by rw [screwStage_standing runs]⟩

theorem evaluated_bal (s : State) :
    ∃ c n, (balanceEvaluation s).bal = { (pressureStage (testedStage s)).bal with conveyor := c, nCmd := n } := by
  rw [balanceEvaluation_eq]
  generalize pressureStage (testedStage s) = p
  obtain ⟨n, held⟩ := (conveyorMove_holdTest p).bal
  obtain ⟨m, screwed⟩ := screwStage_bal (holdTest p)
  rw [screwed, held]
  exact ⟨_, _, rfl⟩

/-- The pressure stage leaves what is no pressure register. -/
theorem pressureStage_keeps (s : State) :
    ∃ mean n low high blind, (pressureStage s).bal =
      { s.bal with pMean := mean, nP := n, pLow := low, pHigh := high, pressureBlind := blind } := by
  rw [pressureStage_bal]
  split <;> exact ⟨_, _, _, _, _, rfl⟩

/-- The account, the set and the tests at the end of an evaluation. -/
theorem evaluated_account (s : State) :
    ∃ c n mean np low high blind, (balanceEvaluation s).bal =
      { underTest s.cfg.image (overTest s.cfg.image (postedIn s)) with
        conveyor := c, nCmd := n, pMean := mean, nP := np, pLow := low, pHigh := high, pressureBlind := blind } := by
  obtain ⟨c, n, evaluated⟩ := evaluated_bal s
  obtain ⟨mean, np, low, high, blind, pressed⟩ := pressureStage_keeps (testedStage s)
  rw [evaluated, pressed, testedStage_bal]
  exact ⟨_, _, _, _, _, _, _, rfl⟩

/-- R132, R133: both tests are made on the account posted. -/
theorem evaluated_tests (s : State) :
    let u := (balanceEvaluation s).bal
    let posted : BalState := { s.bal with account := u.account }
    u.overdrawn = (overTest s.cfg.image posted).overdrawn ∧
      u.overCount = (overTest s.cfg.image posted).overCount ∧
      u.recoverCount = (overTest s.cfg.image posted).recoverCount ∧
      u.owed = (underTest s.cfg.image posted).owed := by
  obtain ⟨c, n, mean, np, low, high, blind, evaluated⟩ := evaluated_account s
  have account : (balanceEvaluation s).bal.account = (postedIn s).account := by
    rw [evaluated]
    simp [underTest, overTest_account]
  obtain ⟨drawn, overs, recovers⟩ := overTest_reads s.cfg.image (b := { s.bal with account := (postedIn s).account })
    (b' := postedIn s) rfl rfl rfl rfl
  obtain ⟨d, m, k, writes⟩ := overTest_writes s.cfg.image (postedIn s)
  dsimp only
  rw [account, ← drawn, ← overs, ← recovers, evaluated, writes]
  exact ⟨rfl, rfl, rfl, rfl⟩

/-- R134, R135: the pressure registers at the end of an evaluation. -/
theorem evaluated_pressure (s : State) :
    let u := (balanceEvaluation s).bal
    u.pressureBlind = decide ((chamberCells s).length < 2) ∧
      (2 ≤ (chamberCells s).length → u.pMean = (chamberCells s).sum / (chamberCells s).length ∧
        u.nP = squot (s.cfg.image.kP * (u.pMean - s.bal.pTarget)) 100 ∧
        u.pLow = (faceTest { s.bal with pMean := u.pMean }).pLow ∧
        u.pHigh = (faceTest { s.bal with pMean := u.pMean }).pHigh) ∧
      ((chamberCells s).length < 2 → u.pMean = s.bal.pMean ∧ u.nP = s.bal.nP ∧ u.pLow = s.bal.pLow ∧
        u.pHigh = s.bal.pHigh) := by
  obtain ⟨c, n, evaluated⟩ := evaluated_bal s
  obtain ⟨d, m, k, writes⟩ := overTest_writes s.cfg.image (postedIn s)
  obtain ⟨fpt, -, -, cfg, ptb, -⟩ := testedStage_rest s
  have cells : chamberCells (testedStage s) = chamberCells s :=
    chamberCells_congr (by simp [fpt]) (by simp [fpt]) (by rw [ptb])
  dsimp only
  rw [evaluated, pressureStage_bal, cells, cfg, testedStage_bal, writes]
  split
  next few => exact ⟨by simp [few], fun many => by omega, fun _ => ⟨rfl, rfl, rfl, rfl⟩⟩
  next many => exact ⟨by simp [many, faceTest], fun _ => ⟨rfl, rfl, rfl, rfl⟩, fun few => absurd few many⟩

/-! ## The conveyor and the screw -/

theorem pressed_conveyor (s : State) :
    (pressureStage (testedStage s)).bal.conveyor = (encoderTest s).bal.conveyor ∧
      (pressureStage (testedStage s)).bal.nCmd = (encoderTest s).bal.nCmd ∧
      (pressureStage (testedStage s)).fpt = (encoderTest s).fpt := by
  obtain ⟨d, m, k, writes⟩ := overTest_writes s.cfg.image (postedIn s)
  obtain ⟨mean, np, low, high, blind, pressed⟩ := pressureStage_keeps (testedStage s)
  obtain ⟨fpt, -⟩ := testedStage_rest s
  rw [pressed, testedStage_bal, writes, (pressureStage_rest _).1, fpt]
  exact ⟨rfl, rfl, rfl⟩

/-- The registers of the hold causes are set before the conveyor is tested. -/
theorem heldBack_evaluated (s : State) :
    heldBack (balanceEvaluation s).bal ↔ heldBack (pressureStage (testedStage s)).bal := by
  obtain ⟨c, n, evaluated⟩ := evaluated_bal s
  rw [evaluated]

theorem screwStage_conveyor (s : State) : (screwStage s).bal.conveyor = s.bal.conveyor := by
  obtain ⟨n, screwed⟩ := screwStage_bal s
  rw [screwed]

/-- R123, R125: where the conveyor ends, with its encoder VALID, -/
theorem evaluated_conveyor_valid {s : State} (valid : inputValid s .screwEncoder = true) :
    (balanceEvaluation s).bal.conveyor =
      if s.bal.conveyor = .running ∧ heldBack (balanceEvaluation s).bal then .holding
      else if s.bal.conveyor = .holding ∧ ¬heldBack (balanceEvaluation s).bal then .running
      else s.bal.conveyor := by
  obtain ⟨conveyor, -, -⟩ := pressed_conveyor s
  rw [encoderTest_valid valid] at conveyor
  simp only [heldBack_evaluated]
  rw [balanceEvaluation_eq, screwStage_conveyor, (holdTest_bal _).1, conveyor]

/-- and without. -/
theorem evaluated_conveyor_invalid {s : State} (active : s.bal.active = true)
    (invalid : inputValid s .screwEncoder = false) : (balanceEvaluation s).bal.conveyor = .fault := by
  obtain ⟨conveyor, -, -⟩ := pressed_conveyor s
  obtain ⟨fault, -⟩ := encoderTest_invalid active invalid
  rw [balanceEvaluation_eq, screwStage_conveyor, (holdTest_bal _).1, conveyor, fault]
  simp

/-- Up to the screw stage the conveyor has made one move at most. -/
theorem held_outputs {s : State} (active : s.bal.active = true) :
    let h := holdTest (pressureStage (testedStage s))
    (h.bal.conveyor ≠ s.bal.conveyor →
        h.fpt.written.gateOpen = decide (h.bal.conveyor = .running) ∧
        (h.bal.conveyor ≠ .running → h.bal.nCmd = 0 ∧ h.fpt.written.screw = 0)) ∧
      (h.bal.conveyor = s.bal.conveyor → h.bal.nCmd = s.bal.nCmd ∧ h.fpt = s.fpt) ∧
      (h.bal.conveyor = .running → h.bal.nCmd = s.bal.nCmd) := by
  obtain ⟨conveyor, n, fpt⟩ := pressed_conveyor s
  cases valid : inputValid s .screwEncoder with
  | true =>
    rw [encoderTest_valid valid] at conveyor n fpt
    obtain ⟨changed, same, runs⟩ := (conveyorMove_holdTest (pressureStage (testedStage s))).outputs
    rw [conveyor] at changed same
    rw [n, fpt] at same
    rw [n] at runs
    exact ⟨changed, same, runs⟩
  | false =>
    obtain ⟨fault, move⟩ := encoderTest_invalid active valid
    have stands : holdTest (pressureStage (testedStage s)) = pressureStage (testedStage s) := by
      rw [holdTest, conveyor, fault, if_neg (by simp), if_neg (by simp)]
    dsimp only
    rw [stands, conveyor, n, fpt]
    exact move.outputs

theorem feedForward_congr {s u : State} (cfg : u.cfg = s.cfg) (thu : u.thu = s.thu) (ptb : u.ptb = s.ptb) :
    feedForward u = feedForward s := by
  have peers : presentPeers u = presentPeers s := presentPeers_of_ptb (by rw [ptb])
  simp only [feedForward, advanceRate, contributingRates, contributingRecords, cfg, thu, peers]

/-- R136: the feed-forward term by the rates of the contributing sectors. -/
theorem feedForward_eq (s : State) :
    feedForward s =
      (max 0 ((if s.thu.quality = .valid then [s.thu.rate] else []) ++
          ((presentPeers s).filter fun p => decide (p.2.quality = .valid)).map fun p => p.2.rate).sum /
        (((if s.thu.quality = .valid then [s.thu.rate] else []) ++
          ((presentPeers s).filter fun p => decide (p.2.quality = .valid)).map fun p => p.2.rate).length : Nat)) *
        s.cfg.image.aFace * s.cfg.image.bulking * 6 / (1000 * s.cfg.image.vS) := by
  have records : (contributingRecords s).map (fun r => r.rate) =
      ((presentPeers s).filter fun p => decide (p.2.quality = .valid)).map fun p => p.2.rate := by
    have filtered := filterMap_ite (fun p : Nat × StatusRecord => decide (p.2.quality = .valid)) (fun p => p.2)
      (presentPeers s)
    simp only [decide_eq_true_eq] at filtered
    rw [contributingRecords, filtered, List.map_map]
    rfl
  simp only [feedForward, advanceRate, contributingRates, records]

theorem chamberCells_eq (s : State) :
    chamberCells s =
      (if inputValid s .chamberPressure then [inputValue s .chamberPressure] else []) ++
        ((presentPeers s).filter fun p => p.2.chamberValid).map fun p => p.2.chamberPressure := by
  rw [chamberCells, filterMap_ite (fun p : Nat × StatusRecord => p.2.chamberValid) fun p => p.2.chamberPressure]

/-- R136, R137: the screw's reference at the end of an evaluation in RUNNING. -/
theorem evaluated_screw {s : State} (active : s.bal.active = true)
    (runs : (balanceEvaluation s).bal.conveyor = .running) :
    (balanceEvaluation s).bal.nCmd =
        (if inputTrue s .gateClosed then 0
        else slewed s.cfg.image
          (clamp 0 s.cfg.image.nMax
            (if s.bal.manual then s.bal.manualRef
            else feedForward s + (balanceEvaluation s).bal.nP +
              squot (s.cfg.image.kB * (balanceEvaluation s).bal.account) 1000000)) s.bal.nCmd) ∧
      (balanceEvaluation s).fpt.written.screw = (balanceEvaluation s).bal.nCmd := by
  obtain ⟨-, -, kept⟩ := held_outputs active
  have manual : (pressureStage (testedStage s)).bal.manual = s.bal.manual ∧
      (pressureStage (testedStage s)).bal.manualRef = s.bal.manualRef := by
    obtain ⟨d, m, k, writes⟩ := overTest_writes s.cfg.image (postedIn s)
    obtain ⟨mean, np, low, high, blind, pressed⟩ := pressureStage_keeps (testedStage s)
    rw [pressed, testedStage_bal, writes]
    exact ⟨rfl, rfl⟩
  have rest : (pressureStage (testedStage s)).cfg = s.cfg ∧ (pressureStage (testedStage s)).thu = s.thu ∧
      (pressureStage (testedStage s)).ptb = s.ptb ∧
      (pressureStage (testedStage s)).fpt.inputs = s.fpt.inputs ∧
      (pressureStage (testedStage s)).fpt.fitted = s.fpt.fitted := by simp [testedStage, inputStage]
  rw [balanceEvaluation_eq, screwStage_conveyor] at runs
  rw [balanceEvaluation_eq]
  generalize pressureStage (testedStage s) = p at *
  obtain ⟨mode, ref⟩ := manual
  obtain ⟨cfg, thu, ptb, inputs, fitted⟩ := rest
  obtain ⟨n, held⟩ := (conveyorMove_holdTest p).bal
  obtain ⟨screwed, written⟩ := screwStage_running runs
  have wait : gateWait (holdTest p) = inputTrue s .gateClosed := by
    simp [gateWait, inputTrue, inputValid, inputOf, isFitted, inputs, fitted]
  have forward : feedForward (holdTest p) = feedForward s :=
    feedForward_congr (by simp [cfg]) (by simp [thu]) (by simp [ptb])
  rw [written, screwed]
  refine ⟨?_, rfl⟩
  have aim : rawAim (holdTest p) =
      if s.bal.manual then s.bal.manualRef
      else feedForward s + (holdTest p).bal.nP + squot (s.cfg.image.kB * (holdTest p).bal.account) 1000000 := by
    rw [rawAim, forward, balanceTerm]
    simp [mode, ref, cfg]
  dsimp only
  rw [nextNcmd, wait, aim, kept runs]
  simp [cfg]

/-! ## The flags and the outputs -/

theorem clampedOnly_held (s : State) : ClampedOnly (testedStage s) (balanceEvaluation s) := by
  rw [balanceEvaluation_eq]
  exact (ClampedOnly.of_eq (pressureStage_rest _).2).trans
    ((clampedOnly_holdTest _).trans (clampedOnly_screwStage _))

theorem evaluated_outputs {s : State} (active : s.bal.active = true) :
    let u := balanceEvaluation s
    (u.bal.conveyor ≠ s.bal.conveyor →
        u.fpt.written.gateOpen = decide (u.bal.conveyor = .running) ∧
        (u.bal.conveyor ≠ .running → u.bal.nCmd = 0 ∧ u.fpt.written.screw = 0)) ∧
      (u.bal.conveyor = s.bal.conveyor →
        u.fpt.written.gateOpen = s.fpt.written.gateOpen ∧
        (u.bal.conveyor ≠ .running → u.bal.nCmd = s.bal.nCmd ∧ u.fpt = s.fpt)) := by
  obtain ⟨changed, same, -⟩ := held_outputs active
  rw [balanceEvaluation_eq]
  dsimp only at *
  generalize holdTest (pressureStage (testedStage s)) = h at *
  by_cases runs : h.bal.conveyor = .running
  · obtain ⟨screwed, written⟩ := screwStage_running runs
    rw [written, screwed]
    exact ⟨fun c => ⟨(changed c).1, fun stands => absurd runs stands⟩,
      fun c => ⟨by rw [(same c).2], fun stands => absurd runs stands⟩⟩
  · rw [screwStage_standing runs]
    exact ⟨changed, fun c => ⟨by rw [(same c).2], fun _ => same c⟩⟩

/-- R128 to R131: the registers an evaluation forms, and those it leaves. -/
theorem evaluated_registers (s : State) :
    let u := (balanceEvaluation s).bal
    (u.timer = s.bal.timer ∧ u.set = contributions s ∧ u.acc = 0 ∧
      u.blind = (advances s.bal.set (contributions s)).isEmpty ∧ u.remE = cutIn s % 1000000 ∧
      u.remX = drawnIn s % 4096 ∧
      u.account = accountClamp (s.bal.account + cutIn s / 1000000 - drawnIn s / 4096) ∧
      u.eRing = accountClamp (s.bal.eRing + cutIn s / 1000000) ∧
      u.xRing = accountClamp (s.bal.xRing + drawnIn s / 4096)) ∧
    u.active = s.bal.active ∧ u.manual = s.bal.manual ∧ u.manualRef = s.bal.manualRef ∧
      u.gateOpen = s.bal.gateOpen ∧ u.stopHold = s.bal.stopHold ∧ u.restarted = s.bal.restarted ∧
      u.pTarget = s.bal.pTarget ∧ u.band = s.bal.band := by
  obtain ⟨c, n, mean, np, low, high, blind, account⟩ := evaluated_account s
  obtain ⟨d, m, k, writes⟩ := overTest_writes s.cfg.image (postedIn s)
  dsimp only
  rw [account, writes]
  exact ⟨⟨rfl, rfl, rfl, rfl, rfl, rfl, rfl, rfl, rfl⟩, rfl, rfl, rfl, rfl, rfl, rfl, rfl, rfl⟩

theorem accountOutside_iff (v : Int) : accountOutside v = true ↔ clamp (-2147483647) 2147483647 v ≠ v :=
  ⟨clamp_ne_of_outside (by decide), outside_of_clamp_ne⟩

/-- R130, R188: the flags at the end of an evaluation. -/
theorem evaluated_saturated (s : State) :
    (balanceEvaluation s).alu.flags.saturated = (s.alu.flags.saturated ||
      decide (clamp (-2147483647) 2147483647 (s.bal.account + cutIn s / 1000000 - drawnIn s / 4096) ≠
          s.bal.account + cutIn s / 1000000 - drawnIn s / 4096 ∨
        clamp (-2147483647) 2147483647 (s.bal.eRing + cutIn s / 1000000) ≠ s.bal.eRing + cutIn s / 1000000 ∨
        clamp (-2147483647) 2147483647 (s.bal.xRing + drawnIn s / 4096) ≠ s.bal.xRing + drawnIn s / 4096)) := by
  obtain ⟨-, sat⟩ := clampedOnly_held s
  rw [sat, testedStage_saturated, Bool.or_assoc, Bool.eq_iff_iff]
  simp only [Bool.or_eq_true, accountOutside_iff, decide_eq_true_eq]

theorem evaluated_clampFlags (s : State) : ClampFlags s (balanceEvaluation s) :=
  (clampFlags_testedStage s).trans (clampedOnly_held s).1

theorem evaluated_clamped {s : State}
    (clamps : advanceIn s ≠ machineAdvance s.bal.set (contributions s) ∨
      (inputValid s .screwEncoder = true ∧ countIn s ≠ s.bal.acc)) :
    (balanceEvaluation s).alu.flags.clamped = true :=
  (clampedOnly_held s).1.up (testedStage_clamped clamps)

/-- Settles O38: the stages of an evaluation, one after another. -/
theorem balanceEvaluationKeepsTheAccount : Obligations.BalanceEvaluationKeepsTheAccount := by
  intro s start timer due active
  have run : exec .balanceEvaluationExpiry s =
      .next (settle (balanceEvaluation (s.onBal fun b => { b with timer := some (start + 10) }))) := by
    change execBalanceEvaluationExpiry s = _
    rw [execBalanceEvaluationExpiry, timer, onExpiry_due (span := Config.evaluationPeriod) due]
    rfl
  refine ⟨_, run, ?_⟩
  have active' : (s.onBal fun b => { b with timer := some (start + 10) }).bal.active = true := active
  obtain ⟨⟨renewed, set, acc, blind, remE, remX, account, eRing, xRing⟩, kept⟩ :=
    evaluated_registers (s.onBal fun b => { b with timer := some (start + 10) })
  have saturated := evaluated_saturated (s.onBal fun b => { b with timer := some (start + 10) })
  have flags := (evaluated_clampFlags (s.onBal fun b => { b with timer := some (start + 10) })).alu
  obtain ⟨drawn, overs, recovers, owed⟩ := evaluated_tests (s.onBal fun b => { b with timer := some (start + 10) })
  obtain ⟨changed, same⟩ := evaluated_outputs active'
  obtain ⟨few, cells, blinded⟩ := evaluated_pressure (s.onBal fun b => { b with timer := some (start + 10) })
  rw [chamberCells_eq] at few cells blinded
  refine ⟨renewed, set, acc, blind, remE, remX, account, eRing, xRing, saturated,
    evaluated_clamped (s := s.onBal fun b => { b with timer := some (start + 10) }), flags, ?_, fun invalid => ?_,
    evaluated_conveyor_valid (s := s.onBal fun b => { b with timer := some (start + 10) }), changed, same, few, cells,
    blinded, fun runs => ?_, ?_⟩
  · obtain ⟨d, o, r⟩ := overTest_reads s.cfg.image
      (b := { s.bal with
        account := (balanceEvaluation (s.onBal fun b => { b with timer := some (start + 10) })).bal.account })
      (b' := { (s.onBal fun b => { b with timer := some (start + 10) }).bal with
        account := (balanceEvaluation (s.onBal fun b => { b with timer := some (start + 10) })).bal.account })
      rfl rfl rfl rfl
    exact ⟨drawn.trans d, overs.trans o, recovers.trans r, owed⟩
  · exact evaluated_conveyor_invalid active' (Bool.eq_false_iff.2 invalid)
  · obtain ⟨nCmd, screw⟩ := evaluated_screw active' runs
    rw [feedForward_eq] at nCmd
    exact ⟨nCmd, screw⟩
  · obtain ⟨stays, manual, ref, gate, hold, restarted, target, band⟩ := kept
    refine ⟨stays.trans active', manual, ref, gate, hold, restarted, target, band, ?_⟩
    simp

end Sys2Proof.Machine
end

section
/-! The orders: heard, checked, and the housekeeping orders (10_orders_from_the_console). -/

namespace Sys2Proof.Machine

open Sys2Proof

/-! ## An ORDER on its row (R184) -/

/-- R183: no order of kind code 0 is valid. -/
theorem code_ne_zero_of_hears {s : State} {chars : Chars} {h : Header} {tag : Tag} {code : Nat} {params : List Int}
    (heard : hears s chars h (.order tag code params)) : code ≠ 0 := by
  obtain ⟨-, valid, -⟩ := heard
  obtain ⟨-, -, read, -, -⟩ := Laws.judge_valid valid
  have kind : frameKindCode chars = 3 := (Laws.readBody_kindCode read).symm
  rw [kind] at read
  change readOrder _ = _ at read
  unfold readOrder at read
  split at read
  · cases read
  next nonzero =>
    obtain ⟨-, rfl, -⟩ := Body.order.inj (Option.some.inj read)
    exact nonzero

/-- Every order row but that of RESTART_STATION hears its orders alike. -/
theorem exec_orderRow {code : Nat} (nonzero : code ≠ 0) (restart : code ≠ 22) (chars : Chars) (s : State) :
    ∃ fits rule, exec (orderRow code chars) s = hear chars (orderHeard fits rule) s ∧
      ∀ params, fits code params = true := by
  by_cases undefined_ : 24 ≤ code
  · obtain ⟨n, rfl⟩ := Nat.exists_eq_add_of_le' undefined_
    exact ⟨_, _, rfl, fun params => by simp [undefinedOrder]⟩
  · have positive : 0 < code := Nat.pos_of_ne_zero nonzero
    rcases Nat.lt_or_gt_of_ne restart with below | above
    · interval_cases code <;> exact ⟨_, _, rfl, fun params => rfl⟩
    · interval_cases code
      exact ⟨_, _, rfl, fun params => rfl⟩

theorem hear_order {s : State} {chars : Chars} {h : Header} {tag : Tag} {code : Nat} {params : List Int}
    {rule : List Int → State → Judged} {fits : Nat → List Int → Bool}
    (heard : hears s chars h (.order tag code params)) (fit : fits code params = true) :
    hear chars (orderHeard fits rule) s =
      .next (settle (handleOrder h.dest tag code params rule (atOrder s))) :=
  hear_valid heard (if_pos fit)

/-- RESTART_STATION that is not taken or not accepted is handled as any order. -/
theorem exec_restartStation_stays {s : State} {chars : Chars} {h : Header} {tag : Tag} {params : List Int}
    (heard : hears s chars h (.order tag 22 params))
    (stays : ¬(takes h.dest tag 22 (atOrder s) = true ∧
      (judgeOrder 22 params ruleRestart (atOrder s)).1 = .accepted)) :
    exec (.restartStation chars) s =
      .next (settle (handleOrder h.dest tag 22 params ruleRestart (atOrder s))) := by
  obtain ⟨receives, valid, other⟩ := heard
  have acts : restartHeard h (.order tag 22 params) (lineUsed s) =
      some (settle (handleOrder h.dest tag 22 params ruleRestart (atOrder s))) :=
    congrArg some (if_neg stays)
  change hearClosed chars restartHeard s = _
  simp [hearClosed, receives, valid, other, acts]

/-- An order that the first four checks decide, or that is not taken, on its own row. -/
theorem exec_orderRow_heard {s : State} {chars : Chars} {h : Header} {tag : Tag} {code : Nat} {params : List Int}
    (heard : hears s chars h (.order tag code params)) :
    ∃ rule, (takes h.dest tag code (atOrder s) = false ∨ (judgeOrder code params rule (atOrder s)).1 ≠ .accepted →
      exec (orderRow code chars) s =
        .next (settle (handleOrder h.dest tag code params rule (atOrder s)))) := by
  by_cases restart : code = 22
  · subst restart
    refine ⟨ruleRestart, fun stays => exec_restartStation_stays heard ?_⟩
    rintro ⟨taken, accepted⟩
    rcases stays with untaken | refused
    · rw [untaken] at taken
      cases taken
    · exact refused accepted
  · obtain ⟨fits, rule, row, fit⟩ := exec_orderRow (code_ne_zero_of_hears heard) restart chars s
    exact ⟨rule, fun _ => row.trans (hear_order heard (fit params))⟩

/-! ## The first four checks (R187) -/

theorem takes_iff (dest : Nat) (tag : Tag) (code : Nat) (s : State) :
    takes dest tag code s = true ↔ code ≠ 1 ∧ (dest = s.own ∨ dest = 15) ∧ s.oru.lastTag ≠ some tag := by
  simp [takes, and_assoc]

theorem undefinedOrder_iff {code : Nat} (nonzero : code ≠ 0) (n : Nat) :
    undefinedOrder code n = true ↔ 24 ≤ code ∨ n ≠ orderParams code := by
  simp [undefinedOrder, nonzero, Nat.succ_le_iff]

theorem dutyRefuses_iff (code : Nat) (s : State) :
    dutyRefuses code s = true ↔ (code = 10 ∧ s.ptb.exErector = false) ∨
      (11 ≤ code ∧ code ≤ 15 ∧ s.ptb.exConveyor = false) := by
  have range : ((((code = 11 ∨ code = 12) ∨ code = 13) ∨ code = 14) ∨ code = 15) ↔ 11 ≤ code ∧ code ≤ 15 := by omega
  simp only [dutyRefuses, Bool.or_eq_true, Bool.and_eq_true, beq_iff_eq, Bool.not_eq_true', range, and_assoc]

theorem codedRefuses_iff (code : Nat) (params : List Int) :
    codedRefuses code params = true ↔
      ((code = 14 ∨ code = 15) ∧ ¬(param params 0 = 0 ∨ param params 0 = 1)) ∨
        ((code = 17 ∨ code = 23) ∧ ¬(0 ≤ param params 0 ∧ param params 0 ≤ 65535)) := by
  simp only [codedRefuses, Bool.or_eq_true, Bool.and_eq_true, beq_iff_eq, outside_iff]
  constructor <;> intro h <;> omega

/-- An order taken and refused by one of the checks, on its row. -/
theorem exec_orderRow_refused {s : State} {chars : Chars} {h : Header} {tag : Tag} {code : Nat} {params : List Int}
    {result : OrderResult} (heard : hears s chars h (.order tag code params))
    (taken : takes h.dest tag code (atOrder s) = true)
    (judged : ∀ rule, judgeOrder code params rule (atOrder s) = (result, atOrder s)) (refused : result ≠ .accepted) :
    exec (orderRow code chars) s = .next (settle (echoed tag code result (atOrder s))) := by
  obtain ⟨rule, row⟩ := exec_orderRow_heard heard
  rw [row (.inr (by rwa [judged rule])), handleOrder, if_pos taken, judged rule]
  rfl

/-- Settles O54: an order not taken meets no rule; one taken is judged by the first check that refuses it. -/
theorem ordersAreTakenAndChecked : Obligations.OrdersAreTakenAndChecked := by
  intro s chars h tag code params heard
  have nonzero := code_ne_zero_of_hears heard
  refine ⟨fun untaken => ?_, fun taken undef => ⟨?_, ?_⟩, fun taken defined listen => ?_,
    fun taken defined phase dutyless => ?_, fun taken defined phase duty bad => ?_⟩
  · have untaken : takes h.dest tag code (atOrder s) = false :=
      Bool.eq_false_iff.2 (mt (takes_iff _ _ _ _).1 untaken)
    obtain ⟨rule, row⟩ := exec_orderRow_heard heard
    rw [row (.inl untaken), handleOrder_not_taken params rule untaken]
  · refine exec_orderRow_refused heard ((takes_iff _ _ _ _).2 taken) (fun rule => if_pos ?_) (by simp)
    exact (undefinedOrder_iff nonzero _).2 undef
  · have undef := (undefinedOrder_iff nonzero params.length).2 undef
    change hear chars (orderHeard (fun code params => undefinedOrder code params.length) ruleNone) s = _
    rw [hear_order heard undef, handleOrder, if_pos ((takes_iff h.dest tag code (atOrder s)).2 taken), judgeOrder,
      if_pos undef]
    rfl
  · refine exec_orderRow_refused heard ((takes_iff _ _ _ _).2 taken) (fun rule => ?_) (by simp)
    rw [judgeOrder, if_neg (mt (undefinedOrder_iff nonzero _).1 defined)]
    exact if_pos listen
  · refine exec_orderRow_refused heard ((takes_iff _ _ _ _).2 taken) (fun rule => ?_) (by simp)
    rw [judgeOrder, if_neg (mt (undefinedOrder_iff nonzero _).1 defined)]
    exact (if_neg phase).trans (if_pos ((dutyRefuses_iff code (atOrder s)).2 dutyless))
  · refine exec_orderRow_refused heard ((takes_iff _ _ _ _).2 taken) (fun rule => ?_) (by simp)
    rw [judgeOrder, if_neg (mt (undefinedOrder_iff nonzero _).1 defined)]
    exact (if_neg phase).trans ((if_neg (mt (dutyRefuses_iff code (atOrder s)).1 duty)).trans
      (if_pos ((codedRefuses_iff code params).2 bad)))

/-! ## The housekeeping orders (R145, R151, R181, R190) -/

theorem entryInForce_iff (e : AlarmEntry) :
    entryInForce e = true ↔ e.state = .active ∨ e.state = .pendingClear := by
  unfold entryInForce
  cases e.state <;> simp

theorem entryInForce_not_iff (e : AlarmEntry) :
    entryInForce e = false ↔ e.state = .inactive ∨ e.state = .pendingRaise := by
  unfold entryInForce
  cases e.state <;> simp

theorem ackResult_iff (entries : List AlarmEntry) :
    (entries.any fun e => e.latch && !entryInForce e) = true ↔
      ∃ e ∈ entries, e.latch = true ∧ (e.state = .inactive ∨ e.state = .pendingRaise) := by
  simp [List.any_eq_true, entryInForce_not_iff]

/-- R145: the entry of a kind after its latches are acknowledged. -/
theorem entryOf_acknowledged (k : AlarmKind) (s : State) :
    entryOf (s.onAlu fun a => { a with entries := a.entries.map acknowledged }) k = acknowledged (entryOf s k) := by
  simp only [entryOf, State.onAlu_alu, List.getD_eq_getElem?_getD, List.getElem?_map]
  cases s.alu.entries[k.number]? with
  | none => rfl
  | some e => rfl

theorem ringParam_toNat {ring : Int} (low : 0 ≤ ring) (high : ring ≤ 65535) :
    ((ringParam [ring]).toNat : Int) = ring := by
  have param : param [ring] 0 = ring := rfl
  rw [ringParam, param, BitVec.toNat_ofInt]
  omega

/-- Settles O45: each order's rule, and what it leaves. -/
theorem housekeepingOrdersTakeTheirEffect : Obligations.HousekeepingOrdersTakeTheirEffect := by
  intro s chars tag
  refine ⟨fun ho => ?ack, fun ho => ?flags, fun ho => ?counters, fun ring ho => ⟨fun taken => ?set, fun barred => ?bar⟩⟩
  case ack =>
    refine ⟨_, _, hear_ordered_of_rule (u := (atOrder s).onAlu fun a => { a with entries := a.entries.map acknowledged })
      (rule := ruleAckAlarms) ho rfl rfl, ?_, ?_, by simp [atOrder], fun k => ⟨fun out => ?_, fun stands => ?_⟩, rfl⟩
    · rw [← ackResult_iff]
      change (if (s.alu.entries.any fun e => e.latch && !entryInForce e) = true then _ else _) = _ ↔ _
      split <;> simp_all
    · have none : (∀ e ∈ s.alu.entries, ¬(e.latch = true ∧ (e.state = .inactive ∨ e.state = .pendingRaise))) ↔
          ¬∃ e ∈ s.alu.entries, e.latch = true ∧ (e.state = .inactive ∨ e.state = .pendingRaise) := by simp
      rw [none, ← ackResult_iff]
      change (if (s.alu.entries.any fun e => e.latch && !entryInForce e) = true then _ else _) = _ ↔ _
      split <;> simp_all
    · rw [entryOf_acknowledged, acknowledged]
      exact if_neg (fun inForce => by
        have out : entryInForce (entryOf s k) = false := (entryInForce_not_iff _).2 out
        exact absurd (inForce.symm.trans out) (by decide))
    · rw [entryOf_acknowledged, acknowledged]
      exact if_pos ((entryInForce_iff _).2 stands)
  case flags => exact hear_ordered_of_rule (rule := ruleClearFlags) ho rfl rfl
  case counters => exact hear_ordered_of_rule (rule := ruleClearCounters) ho rfl rfl
  case set =>
    have ⟨_, _, _, _, coded⟩ := ho
    have range := mt (codedRefuses_iff 23 [ring]).2 (by rw [coded]; simp)
    have first : param [ring] 0 = ring := rfl
    rw [first] at range
    have low : 0 ≤ ring := by omega
    have high : ring ≤ 65535 := by omega
    exact ⟨ringParam [ring], ringParam_toNat low high,
      hear_ordered_of_rule (rule := ruleSetRing) ho rfl (if_pos taken)⟩
  case bar => exact hear_ordered_of_rule (rule := ruleSetRing) ho rfl (if_neg barred)

end Sys2Proof.Machine
end

section
/-! The grout line: its state, its queue and its meter (05_grout_injection). -/

namespace Sys2Proof.Machine

open Sys2Proof

/-! ## What the line's operations write -/

theorem setLine_gru (l : GroutLine) (s : State) : (setLine l s).gru = { s.gru with line := l } := by
  simp [setLine]

theorem setLine_written (l : GroutLine) (s : State) :
    (setLine l s).fpt.written =
      { s.fpt.written with
        pump := pumpChoice (s.onGru fun g => { g with line := l }), flushOpen := decide (l = .flushing) } := by
  simp [setLine]

/-- R98: a line that neither pumps nor flushes has its pump at 0 and its flush valve shut. -/
theorem setLine_written_at_rest {l : GroutLine} (pumping : l ≠ .pumping) (flushing : l ≠ .flushing) (s : State) :
    (setLine l s).fpt.written = { s.fpt.written with pump := 0, flushOpen := false } := by
  rw [setLine_written]
  cases l <;> simp_all [pumpChoice]

theorem choosePump_pump (s : State) : (choosePump s).fpt.written.pump = pumpChoice s := by
  unfold choosePump
  split
  · next same => exact same.symm
  · simp

theorem volumeChanged_gru (s : State) :
    (volumeChanged s).gru = { s.gru with lag := lagAfter s.cfg.image s.gru.lag (volumeOf s.gru.queue) } := by
  simp [volumeChanged]

theorem pumpChoice_congr {s u : State} (gru : u.gru = s.gru) (cfg : u.cfg = s.cfg) : pumpChoice u = pumpChoice s := by
  rw [pumpChoice, pumpChoice, outstanding, outstanding, gru, cfg]

theorem volumeChanged_pump (s : State) : (volumeChanged s).fpt.written.pump = pumpChoice (volumeChanged s) := by
  rw [volumeChanged, choosePump_pump]
  exact (pumpChoice_congr (by simp) (by simp)).symm

/-- R105: the start of pumping. -/
theorem startTest_gru (s : State) :
    (startTest s).gru =
      { s.gru with
        line :=
          if s.gru.line = .idle ∧ s.cfg.image.vStart ≤ volumeOf s.gru.queue then .pumping else s.gru.line } := by
  unfold startTest outstanding
  split
  · exact setLine_gru _ _
  · rfl

theorem startTest_stays {s : State} (h : ¬(s.gru.line = .idle ∧ s.cfg.image.vStart ≤ volumeOf s.gru.queue)) :
    startTest s = s :=
  if_neg h

/-- R105: a pumping line carries its pump reference, whether the test started it or found it pumping. -/
theorem startTest_pump {s : State} (before : s.fpt.written.pump = pumpChoice s)
    (pumping : (startTest s).gru.line = .pumping) :
    (startTest s).fpt.written.pump =
      if s.cfg.image.lBoost ≤ volumeOf s.gru.queue then s.cfg.image.rateHigh else s.cfg.image.rateLow := by
  unfold startTest at pumping ⊢
  split at pumping
  · next starts => rw [if_pos starts, setLine_written]; rfl
  · next stays => rw [if_neg stays, before, pumpChoice, pumping]; rfl

theorem startTest_flush (s : State) (shut : s.fpt.written.flushOpen = false) :
    (startTest s).fpt.written.flushOpen = false := by
  unfold startTest
  split
  · rw [setLine_written]; rfl
  · exact shut

/-! ## What they leave -/

/-- Nothing but GRU, the pins and the sticky flags has moved, and of the flags CLAMPED alone. -/
structure GroutOnly (s u : State) : Prop where
  rest : { u with gru := s.gru, fpt := s.fpt, alu := s.alu } = s
  flags : ClampedOnly s u

namespace GroutOnly

theorem trans {s u v : State} (h : GroutOnly s u) (k : GroutOnly u v) : GroutOnly s v := by
  refine ⟨?_, h.flags.trans k.flags⟩
  have := congrArg (fun x => { x with gru := s.gru, fpt := s.fpt, alu := s.alu }) k.rest
  exact this.trans h.rest

theorem onGru (f : GruState → GruState) (s : State) : GroutOnly s (s.onGru f) :=
  ⟨rfl, .of_eq rfl⟩

theorem entries {s u : State} (h : GroutOnly s u) : u.alu.entries = s.alu.entries := by
  rw [h.flags.1.rest]

theorem blocks {s u : State} (h : GroutOnly s u) :
    u.dsu = s.dsu ∧ u.thu = s.thu ∧ u.bsq = s.bsq ∧ u.bal = s.bal ∧ u.ptb = s.ptb ∧ u.lif = s.lif ∧
      u.phase = s.phase ∧ u.ring = s.ring := by
  have rest := h.rest
  exact ⟨congrArg (·.dsu) rest, congrArg (·.thu) rest, congrArg (·.bsq) rest, congrArg (·.bal) rest,
    congrArg (·.ptb) rest, congrArg (·.lif) rest, congrArg (·.phase) rest, congrArg (·.ring) rest⟩

theorem moved {s u : State} (h : GroutOnly s u) :
    { u with gru := s.gru, fpt := s.fpt, alu := s.alu } = s ∧ u.alu.entries = s.alu.entries :=
  ⟨h.rest, h.entries⟩

end GroutOnly

theorem clampedOnly_writePump (v : Int) (s : State) : ClampedOnly s (writePump v s) := by
  unfold writePump refreshPump
  dsimp only
  refine ClampedOnly.congr (clampedOnly_setFlagIf _ _) ?_ rfl
  rfl

theorem clampedOnly_setLine (l : GroutLine) (s : State) : ClampedOnly s (setLine l s) := by
  unfold setLine writeFlush refreshFlush
  refine ClampedOnly.congr (clampedOnly_writePump _ _) ?_ rfl
  rfl

theorem groutOnly_writePump (v : Int) (s : State) : GroutOnly s (writePump v s) :=
  ⟨state_ext (by simp) (by simp) (by simp) (by simp) (by simp) (by simp) (by simp) (by simp) (by simp) (by simp)
    (by simp) rfl (by simp) rfl rfl (by simp), clampedOnly_writePump v s⟩

theorem groutOnly_setLine (l : GroutLine) (s : State) : GroutOnly s (setLine l s) :=
  ⟨state_ext (by simp) (by simp) (by simp) (by simp) (by simp) (by simp) (by simp) (by simp) (by simp) (by simp)
    (by simp) rfl (by simp) rfl rfl (by simp),
    clampedOnly_setLine l s⟩

theorem groutOnly_choosePump (s : State) : GroutOnly s (choosePump s) := by
  unfold choosePump
  split
  · exact .onGru id s
  · exact groutOnly_writePump _ s

theorem groutOnly_volumeChanged (s : State) : GroutOnly s (volumeChanged s) :=
  (GroutOnly.onGru _ s).trans (groutOnly_choosePump _)

theorem groutOnly_startTest (s : State) : GroutOnly s (startTest s) := by
  unfold startTest
  split
  · exact groutOnly_setLine _ s
  · exact .onGru id s

/-! ## The orders (R112, R115) -/

theorem beginFlush_gru (s : State) :
    (beginFlush s).gru =
      { s.gru with
        line := .flushing, flushTimer := some s.elapsed, flushRun := 0, flushStop := false
        settingTimer := none, blockTimer := none } :=
  setLine_gru _ _

theorem beginFlush_written (s : State) :
    (beginFlush s).fpt.written = { s.fpt.written with pump := s.cfg.image.rateLow, flushOpen := true } :=
  setLine_written _ _

theorem groutOnly_beginFlush (s : State) : GroutOnly s (beginFlush s) :=
  (GroutOnly.onGru _ s).trans (groutOnly_setLine _ _)

theorem ruleGroutFlush_starts {s : State} (p : List Int) (free : forcingNow s = false)
    (startable : s.gru.line = .idle ∨ s.gru.line = .blocked ∨ s.gru.line = .needsFlush) :
    ruleGroutFlush p s = (.accepted, beginFlush s) := by
  rcases startable with line | line | line <;> simp [ruleGroutFlush, free, line]

theorem ruleGroutFlush_running {s : State} (p : List Int) (free : forcingNow s = false)
    (flushing : s.gru.line = .flushing) : ruleGroutFlush p s = (.done, s) := by
  simp [ruleGroutFlush, free, flushing]

theorem ruleGroutFlush_refused {s : State} (p : List Int)
    (h : forcingNow s = true ∨ ¬(s.gru.line = .idle ∨ s.gru.line = .blocked ∨ s.gru.line = .needsFlush) ∧
      s.gru.line ≠ .flushing) : ruleGroutFlush p s = (.refusedState, s) := by
  rcases h with forced | ⟨unstartable, dry⟩
  · exact if_pos forced
  · unfold ruleGroutFlush
    split
    · rfl
    · cases line : s.gru.line <;> simp_all

theorem groutWriteOff_gru (ring : RingNumber) (s : State) :
    (groutWriteOff ring s).gru =
      let kept := s.gru.queue.filter fun p => decide (p.ring ≠ ring)
      { s.gru with
        queue := kept
        writtenOff := s.gru.writtenOff + volumeOf (s.gru.queue.filter fun p => decide (p.ring = ring))
        lag := lagAfter s.cfg.image s.gru.lag (volumeOf kept)
        line := if s.gru.line = .idle ∧ s.cfg.image.vStart ≤ volumeOf kept then .pumping else s.gru.line } := by
  rw [groutWriteOff, startTest_gru, volumeChanged_gru]
  simp

theorem groutOnly_groutWriteOff (ring : RingNumber) (s : State) : GroutOnly s (groutWriteOff ring s) :=
  ((GroutOnly.onGru _ s).trans (groutOnly_volumeChanged _)).trans (groutOnly_startTest _)

theorem filter_ring_ne {ring : Int} (low : 0 ≤ ring) (high : ring ≤ 65535) (q : List Parcel) :
    (q.filter fun p => decide (p.ring ≠ ringParam [ring])) =
      q.filter fun p => decide ((p.ring.toNat : Int) ≠ ring) := by
  refine List.filter_congr fun p _ => decide_eq_decide.2 (not_congr ?_)
  have same := ringParam_toNat low high
  rw [← BitVec.toNat_inj]
  omega

/-- Settles O36: the two orders' rules, by the line state. -/
theorem groutOrdersTakeTheirEffect : Obligations.GroutOrdersTakeTheirEffect := by
  intro s chars tag
  refine ⟨fun ho => ⟨fun free startable => ?begin, fun free flushing => ?done, fun barred => ?refused⟩,
    fun ring ho => ⟨fun pumping => ?busy, fun absent => ?state, fun still fitted => ?off⟩⟩
  case begin =>
    exact ⟨_, hear_ordered_of_rule (rule := ruleGroutFlush) ho rfl
      (ruleGroutFlush_starts (s := atOrder s) [] free startable), beginFlush_gru (atOrder s),
      beginFlush_written (atOrder s), (groutOnly_beginFlush (atOrder s)).rest⟩
  case done =>
    exact hear_ordered_of_rule (rule := ruleGroutFlush) ho rfl
      (ruleGroutFlush_running (s := atOrder s) [] free flushing)
  case refused =>
    exact hear_ordered_of_rule (rule := ruleGroutFlush) ho rfl
      (ruleGroutFlush_refused (s := atOrder s) [] barred)
  case busy => exact hear_ordered_of_rule (rule := ruleGroutWriteOff) ho rfl (if_pos pumping)
  case state =>
    refine hear_ordered_of_rule (rule := ruleGroutWriteOff) ho rfl ((if_neg ?_).trans (if_pos absent))
    exact fun pumping => absurd (absent.symm.trans pumping) (by decide)
  case off =>
    have ⟨_, _, _, _, coded⟩ := ho
    have range := mt (codedRefuses_iff 17 [ring]).2 (by rw [coded]; simp)
    have first : param [ring] 0 = ring := rfl
    rw [first] at range
    have kept := filter_ring_ne (ring := ring) (by omega) (by omega) s.gru.queue
    have removed := volumeOf_filter_ring s.gru.queue (ringParam [ring])
    have gru := groutWriteOff_gru (ringParam [ring]) (atOrder s)
    obtain ⟨dsu, thu, bsq, bal, ptb, lif, phase, ringKept⟩ :=
      (groutOnly_groutWriteOff (ringParam [ring]) (atOrder s)).blocks
    refine ⟨groutWriteOff (ringParam [ring]) (atOrder s),
      hear_ordered_of_rule (rule := ruleGroutWriteOff) ho rfl ((if_neg still).trans (if_neg fitted)), ?_, ?_,
      by rw [gru]; rfl, by rw [gru]; rfl, by rw [gru]; rfl, by rw [gru]; rfl, by rw [gru]; rfl, by rw [gru]; rfl,
      dsu, thu, bsq, bal, phase, ringKept, ptb, lif⟩
    · rw [gru]; exact kept
    · rw [gru]
      change s.gru.writtenOff + volumeOf (s.gru.queue.filter fun p => decide (p.ring = ringParam [ring])) =
        s.gru.writtenOff + (volumeOf s.gru.queue -
          volumeOf (s.gru.queue.filter fun p => decide (p.ring ≠ ringParam [ring])))
      omega

/-! ## The timers (R110, R111, R113) -/

theorem endFlush_gru (s : State) :
    (endFlush s).gru =
      { s.gru with
        line := if s.cfg.image.vStart ≤ volumeOf s.gru.queue then .pumping else .idle
        flushTimer := none, flushRun := 0, flushStop := false, settingTimer := some s.elapsed } := by
  rw [endFlush, startTest_gru, setLine_gru]
  simp

theorem groutOnly_endFlush (s : State) : GroutOnly s (endFlush s) :=
  ((GroutOnly.onGru _ s).trans (groutOnly_setLine _ _)).trans (groutOnly_startTest _)

theorem endFlush_flush (s : State) : (endFlush s).fpt.written.flushOpen = false :=
  startTest_flush _ (by rw [setLine_written]; rfl)

theorem endFlush_pump {s : State} (short : volumeOf s.gru.queue < s.cfg.image.vStart) :
    (endFlush s).fpt.written.pump = 0 := by
  rw [endFlush, startTest_stays, setLine_written_at_rest (by simp) (by simp)]
  rw [setLine_gru, not_and]
  exact fun _ => by simpa using short

/-- Settles O35: each timer's act at its expiry. -/
theorem groutTimersMoveTheLine : Obligations.GroutTimersMoveTheLine := by
  refine ⟨fun s start timer due => ?block, fun s start timer due => ?setting, fun s start timer due => ?flush⟩
  case block =>
    refine ⟨groutBlocks s, ?_, setLine_gru _ _, setLine_written_at_rest (by simp) (by simp) _,
      ((GroutOnly.onGru _ s).trans (groutOnly_setLine _ _)).moved⟩
    change execBlockTimerExpiry s = _
    rw [execBlockTimerExpiry, timer, onExpiry_due (span := s.cfg.image.tBlock) due]
  case setting =>
    refine ⟨groutSets s, ?_, setLine_gru _ _, setLine_written_at_rest (by simp) (by simp) _,
      ((GroutOnly.onGru _ s).trans (groutOnly_setLine _ _)).moved⟩
    change execSettingTimerExpiry s = _
    rw [execSettingTimerExpiry, timer, onExpiry_due (span := s.cfg.image.tSet) due]
  case flush =>
    refine ⟨endFlush s, ?_, endFlush_gru s, endFlush_flush s, endFlush_pump, (groutOnly_endFlush s).moved⟩
    exact if_pos ⟨by rw [timer]; rfl, by rw [flushTime, timer]; exact due⟩

/-! ## The pressure sample (R108, R109, R113) -/

theorem groutOnly_enterPressureHold (s : State) : GroutOnly s (enterPressureHold s) :=
  (GroutOnly.onGru _ s).trans (groutOnly_setLine _ _)

theorem groutOnly_resumeLine (s : State) : GroutOnly s (resumeLine s) := by
  unfold resumeLine
  dsimp only
  split
  · exact (GroutOnly.onGru _ s).trans (groutOnly_setLine _ _)
  · exact ((GroutOnly.onGru _ s).trans (groutOnly_setLine _ _)).trans (groutOnly_startTest _)

theorem groutOnly_groutPressureArrival (s : State) : GroutOnly s (groutPressureArrival s) := by
  have stays : GroutOnly s s := .onGru id s
  unfold groutPressureArrival
  split
  · split
    · exact groutOnly_enterPressureHold s
    · exact stays
  · split
    · exact groutOnly_enterPressureHold s
    · exact stays
  · split
    · exact groutOnly_resumeLine s
    · exact stays
  · exact (GroutOnly.onGru _ s).trans (groutOnly_choosePump _)
  · exact stays
  · exact stays
  · exact stays

theorem pressureStops_iff (s : State) :
    pressureStops s = true ↔
      ¬inputValid s .groutPressure = true ∨ s.cfg.image.pMax ≤ inputValue s .groutPressure := by
  simp [pressureStops]

theorem pressureResumes_iff (s : State) :
    pressureResumes s = true ↔
      inputValid s .groutPressure = true ∧ inputValue s .groutPressure ≤ s.cfg.image.pResume := by
  simp [pressureResumes]

theorem resumeLine_pumps {s : State} (owed : 0 < volumeOf s.gru.queue) :
    (resumeLine s).gru = { s.gru with line := .pumping, blockTimer := none } := by
  have outs : 0 < outstanding s := owed
  rw [resumeLine, if_pos outs, setLine_gru]
  rfl

theorem resumeLine_idles {s : State} (empty : volumeOf s.gru.queue = 0) (positive : 0 < s.cfg.image.vStart) :
    (resumeLine s).gru = { s.gru with line := .idle, blockTimer := none } ∧
      (resumeLine s).fpt.written.pump = 0 := by
  have none : ¬0 < outstanding s := by simp [outstanding, empty]
  rw [resumeLine, if_neg none, startTest_stays (by simp [setLine_gru, empty, positive]), setLine_gru,
    setLine_written_at_rest (by simp) (by simp)]
  exact ⟨rfl, rfl⟩

/-- R113: a flushing sample's pressure stop, by its two thresholds. -/
theorem flushStopAfter_high {s : State}
    (tie : ¬(inputValid s .groutPressure = true ∧ s.cfg.image.pMax ≤ inputValue s .groutPressure ∧
      inputValue s .groutPressure ≤ s.cfg.image.pResume))
    (high : ¬inputValid s .groutPressure = true ∨ s.cfg.image.pMax ≤ inputValue s .groutPressure) :
    flushStopAfter s = true := by
  unfold flushStopAfter
  dsimp only
  split
  · rfl
  · next valid =>
    have valid : inputValid s .groutPressure = true := by simpa using valid
    have reached := high.resolve_left (not_not.2 valid)
    rw [if_neg fun both => tie ⟨valid, both⟩, if_pos reached]

theorem flushStopAfter_low {s : State}
    (tie : ¬(inputValid s .groutPressure = true ∧ s.cfg.image.pMax ≤ inputValue s .groutPressure ∧
      inputValue s .groutPressure ≤ s.cfg.image.pResume))
    (low : inputValid s .groutPressure = true ∧ inputValue s .groutPressure ≤ s.cfg.image.pResume) :
    flushStopAfter s = false := by
  obtain ⟨valid, below⟩ := low
  have unreached : ¬s.cfg.image.pMax ≤ inputValue s .groutPressure := fun high => tie ⟨valid, high, below⟩
  simp [flushStopAfter, valid, below, unreached]

theorem flushStopAfter_between {s : State}
    (high : ¬(¬inputValid s .groutPressure = true ∨ s.cfg.image.pMax ≤ inputValue s .groutPressure))
    (low : ¬(inputValid s .groutPressure = true ∧ inputValue s .groutPressure ≤ s.cfg.image.pResume)) :
    flushStopAfter s = s.gru.flushStop := by
  obtain ⟨valid, unreached⟩ := not_or.1 high
  have valid := not_not.1 valid
  have above : ¬inputValue s .groutPressure ≤ s.cfg.image.pResume := fun h => low ⟨valid, h⟩
  simp [flushStopAfter, valid, above, unreached]

theorem groutPressureArrival_flushing {s : State} (line : s.gru.line = .flushing) :
    (groutPressureArrival s).gru = { s.gru with flushStop := flushStopAfter s } ∧
      (groutPressureArrival s).fpt.written.pump = if flushStopAfter s then 0 else s.cfg.image.rateLow := by
  have arrives : groutPressureArrival s =
      choosePump (s.onGru fun g => { g with flushStop := flushStopAfter s }) := by
    rw [groutPressureArrival, line]
  rw [arrives, choosePump_pump]
  refine ⟨by simp, ?_⟩
  simp [pumpChoice, line]

theorem groutPressureArrival_running {s : State} (line : s.gru.line = .idle ∨ s.gru.line = .pumping) :
    groutPressureArrival s = if pressureStops s = true then enterPressureHold s else s := by
  rcases line with line | line <;> rw [groutPressureArrival, line]

/-- Settles O34: what each line state makes of a sample. -/
theorem groutPressureMovesTheLine : Obligations.GroutPressureMovesTheLine := by
  intro s
  refine ⟨fun line => ?_, fun line => ?_, fun line tie => ?_, fun line => ?_,
    (groutOnly_groutPressureArrival s).blocks⟩
  · rw [groutPressureArrival_running line]
    refine ⟨fun high => ?_, fun high => if_neg (mt (pressureStops_iff s).1 high)⟩
    rw [if_pos ((pressureStops_iff s).2 high)]
    exact ⟨setLine_gru _ _, setLine_written_at_rest (by simp) (by simp) _⟩
  · have arrives : groutPressureArrival s = if pressureResumes s = true then resumeLine s else s := by
      rw [groutPressureArrival, line]
    rw [arrives]
    refine ⟨fun low owed => ?_, fun low empty positive => ?_, fun low => if_neg (mt (pressureResumes_iff s).1 low)⟩
    · rw [if_pos ((pressureResumes_iff s).2 low)]
      exact resumeLine_pumps owed
    · rw [if_pos ((pressureResumes_iff s).2 low)]
      exact resumeLine_idles empty positive
  · obtain ⟨gru, pump⟩ := groutPressureArrival_flushing line
    refine ⟨fun high => ?_, fun low => ?_, fun high low => ?_⟩
    · rw [gru, pump, flushStopAfter_high tie high]
      exact ⟨rfl, rfl⟩
    · rw [gru, pump, flushStopAfter_low tie low]
      exact ⟨rfl, rfl⟩
    · rw [gru, flushStopAfter_between high low]
  · rcases line with line | line | line <;> rw [groutPressureArrival, line]

end Sys2Proof.Machine
end

section
/-! Demands posted and pulses credited (05_grout_injection section 5.3 to 5.5). -/

namespace Sys2Proof.Machine

open Sys2Proof

/-! ## A demand posted (R101 to R105) -/

theorem getLast?_of_append {α : Type} (before : List α) (p : α) : (before ++ [p]).getLast? = some p := by simp

theorem addToTail_append (d : Int) (before : List Parcel) (p : Parcel) :
    addToTail d (before ++ [p]) = before ++ [{ p with volume := p.volume + d }] := by
  induction before with
  | nil => rfl
  | cons q rest ih =>
    cases rest with
    | nil => rfl
    | cons r more => simpa [addToTail] using ih

theorem postingRing_tail {s : State} {before : List Parcel} {p : Parcel} (queue : s.gru.queue = before ++ [p]) :
    postingRing s = if s.ring.toNat < p.ring.toNat then p.ring else s.ring := by
  rw [postingRing, queue, getLast?_of_append]

theorem mergesIntoTail_iff {s : State} {before : List Parcel} {p : Parcel}
    (queue : s.gru.queue = before ++ [p]) :
    mergesIntoTail s = true ↔
      p.started = false ∧ p.current = true ∧
        p.ring = (if s.ring.toNat < p.ring.toNat then p.ring else s.ring) ∧
        p.volume < s.cfg.image.vParcel := by
  rw [mergesIntoTail, queue, getLast?_of_append, postingRing_tail queue]
  simp only [Bool.and_eq_true, Bool.not_eq_true', decide_eq_true_eq, and_assoc]

theorem queueAfterPosting_empty (d : Int) {s : State} (queue : s.gru.queue = []) :
    queueAfterPosting d s =
      [{ ring := s.ring, volume := d, posted := s.elapsed, started := false, current := true }] := by
  simp [queueAfterPosting, mergesIntoTail, newParcel, postingRing, queue, Config.parcelLimit]

theorem queueAfterPosting_merged (d : Int) {s : State} {before : List Parcel} {p : Parcel}
    (queue : s.gru.queue = before ++ [p]) (h : 16 ≤ s.gru.queue.length ∨ mergesIntoTail s = true) :
    queueAfterPosting d s = before ++ [{ p with volume := p.volume + d }] := by
  rw [← addToTail_append, ← queue, queueAfterPosting, if_pos]
  rw [Bool.or_eq_true, decide_eq_true_eq]
  exact h

theorem queueAfterPosting_appended (d : Int) {s : State} (room : s.gru.queue.length < 16)
    (stands : ¬mergesIntoTail s = true) : queueAfterPosting d s = s.gru.queue ++ [newParcel d s] := by
  rw [queueAfterPosting, if_neg]
  rw [Bool.or_eq_true, decide_eq_true_eq]
  exact fun h => h.elim (not_le.2 room) stands

/-- What a posted demand makes of GRU. -/
theorem postDemand_gru (d : Int) (s : State) :
    (postDemand d s).gru =
      let q := queueAfterPosting d s
      { s.gru with
        queue := q, posted := s.gru.posted + d, postedRing := s.gru.postedRing + d
        lag := lagAfter s.cfg.image s.gru.lag (volumeOf q)
        line := if s.gru.line = .idle ∧ s.cfg.image.vStart ≤ volumeOf q then .pumping else s.gru.line } := by
  rw [postDemand, startTest_gru, volumeChanged_gru]
  simp

theorem postDemand_pump {d : Int} {s : State} (pumping : (postDemand d s).gru.line = .pumping) :
    (postDemand d s).fpt.written.pump =
      if s.cfg.image.lBoost ≤ volumeOf (queueAfterPosting d s) then s.cfg.image.rateHigh
      else s.cfg.image.rateLow := by
  rw [postDemand, startTest_pump (volumeChanged_pump _) pumping]
  simp

theorem postDemand_fifoMergedFull (d : Int) (s : State) :
    (postDemand d s).alu.flags.fifoMergedFull =
      (s.alu.flags.fifoMergedFull || decide (16 ≤ s.gru.queue.length)) := by
  have tested := ((groutOnly_volumeChanged _).trans (groutOnly_startTest (volumeChanged
    ((setFlagIf (decide (Config.parcelLimit ≤ s.gru.queue.length)) .fifoMergedFull s).onGru fun g =>
      { g with
        queue := queueAfterPosting d s, posted := g.posted + d, postedRing := g.postedRing + d })))).flags.1.rest
  rw [postDemand, tested, State.onGru_alu]
  by_cases full : 16 ≤ s.gru.queue.length <;>
    simp [setFlagIf, setFlag, flagUp, Config.parcelLimit, full]

/-- Settles O32: the queue after the posting, and what the volume brings. -/
theorem demandsMergeOrAppend : Obligations.DemandsMergeOrAppend := by
  intro d s _
  have gru := postDemand_gru d s
  have queue : (postDemand d s).gru.queue = queueAfterPosting d s := by rw [gru]
  refine ⟨fun empty => ?_, fun before p tail => ⟨fun merges => ?_, fun room stands => ?_⟩,
    postDemand_fifoMergedFull d s, by rw [gru], by rw [gru], by rw [gru], by rw [gru], by rw [gru], by rw [gru],
    by rw [gru], by rw [gru], by rw [gru], by rw [gru], fun pumping => ?_, by simp⟩
  · exact queue.trans (queueAfterPosting_empty d empty)
  · exact queue.trans (queueAfterPosting_merged d tail (merges.imp id (mergesIntoTail_iff tail).2))
  · rw [queue, queueAfterPosting_appended d room (mt (mergesIntoTail_iff tail).1 stands), newParcel,
      postingRing_tail tail]
  · rw [queue]
    exact postDemand_pump pumping

/-! ## A pulse credited (R106, R107, R111) -/

theorem volumeOf_nonneg {q : List Parcel} (positive : ∀ p ∈ q, 0 < p.volume) : 0 ≤ volumeOf q :=
  List.sum_nonneg (by
    intro v hv
    obtain ⟨p, hp, rfl⟩ := List.mem_map.1 hv
    exact (positive p hp).le)

/-- R106: what a part credits is the smaller of the part and the volume outstanding. -/
theorem creditQueue_credits {q : List Parcel} (positive : ∀ p ∈ q, 0 < p.volume) {part : Int} (h : 0 ≤ part) :
    (creditQueue q part).2.1 = min part (volumeOf q) := by
  induction q generalizing part with
  | nil => simp [creditQueue, volumeOf, h]
  | cons p rest ih =>
    have restPositive : ∀ x ∈ rest, 0 < x.volume := fun x hx => positive x (List.mem_cons_of_mem p hx)
    have restVolume := volumeOf_nonneg restPositive
    have head := positive p List.mem_cons_self
    rw [volumeOf_cons]
    unfold creditQueue
    split
    · dsimp only; omega
    · split
      · dsimp only; omega
      · next full => simp only [ih restPositive (part := part - p.volume) (by omega)]; omega

theorem creditQueue_head {p : Parcel} {part : Int} (rest : List Parcel) (positive : 0 < part)
    (large : part < p.volume) :
    creditQueue (p :: rest) part =
      ({ p with volume := p.volume - part, started := true } :: rest, part, if p.current then part else 0) := by
  rw [creditQueue, if_neg (not_le.2 positive), if_pos large]

theorem creditQueue_last {p : Parcel} {part : Int} (positive : 0 < part) (small : p.volume ≤ part) :
    creditQueue [p] part = ([], p.volume, if p.current then p.volume else 0) := by
  rw [creditQueue, if_neg (not_le.2 positive), if_neg (not_lt.2 small), creditQueue]
  simp

theorem creditPulse_gru (s : State) :
    (creditPulse s).gru =
      let r := creditQueue s.gru.queue 10
      { s.gru with
        queue := r.1, delivered := s.gru.delivered + r.2.1, deliveredRing := s.gru.deliveredRing + r.2.2
        overrun := s.gru.overrun + (10 - r.2.1)
        lag := lagAfter s.cfg.image s.gru.lag (volumeOf r.1) } := by
  rw [creditPulse, volumeChanged_gru]
  rfl

theorem emptiedTest_stays {s : State} (h : s.gru.line ≠ .pumping ∨ s.gru.queue ≠ []) : emptiedTest s = s :=
  if_neg fun both => h.elim (· both.1) (· both.2)

theorem emptiedTest_idles {s : State} (pumping : s.gru.line = .pumping) (empty : s.gru.queue = [])
    (positive : 0 < s.cfg.image.vStart) :
    (emptiedTest s).gru.line = .idle ∧ (emptiedTest s).fpt.written.pump = 0 := by
  rw [emptiedTest, if_pos ⟨pumping, empty⟩,
    startTest_stays (by simp [setLine_gru, empty, volumeOf_nil, positive]), setLine_gru,
    setLine_written_at_rest (by simp) (by simp)]
  exact ⟨rfl, rfl⟩

theorem groutOnly_creditPulse (s : State) : GroutOnly s (creditPulse s) :=
  (GroutOnly.onGru _ s).trans (groutOnly_volumeChanged _)

theorem groutOnly_emptiedTest (s : State) : GroutOnly s (emptiedTest s) := by
  unfold emptiedTest
  split
  · exact (groutOnly_setLine _ s).trans (groutOnly_startTest _)
  · exact .onGru id s

theorem groutOnly_groutPulse (s : State) : GroutOnly s (groutPulse s) := by
  have credited := groutOnly_creditPulse s
  have restarted : GroutOnly s (restartSetting (creditPulse s)) := credited.trans (.onGru _ _)
  unfold groutPulse
  split
  · exact .onGru id s
  · exact .onGru _ s
  · exact restarted.trans (groutOnly_emptiedTest _)
  · exact restarted.trans (groutOnly_emptiedTest _)
  · exact restarted.trans (.onGru _ _)
  · exact credited
  · exact credited

/-- R106: in every line state that credits a pulse, what it makes of the queue and of the totals. -/
theorem groutPulse_credits {s : State} (fitted : s.gru.line ≠ .absent) (dry : s.gru.line ≠ .flushing) :
    (groutPulse s).gru.queue = (creditQueue s.gru.queue 10).1 ∧
      (groutPulse s).gru.delivered = s.gru.delivered + (creditQueue s.gru.queue 10).2.1 ∧
      (groutPulse s).gru.deliveredRing = s.gru.deliveredRing + (creditQueue s.gru.queue 10).2.2 ∧
      (groutPulse s).gru.overrun = s.gru.overrun + (10 - (creditQueue s.gru.queue 10).2.1) ∧
      (groutPulse s).gru.flushed = s.gru.flushed := by
  unfold groutPulse
  split
  case h_1 line => exact absurd line fitted
  case h_2 line => exact absurd line dry
  all_goals simp [creditPulse_gru, restartSetting]

/-- R107: an IDLE or PUMPING line is tested for an emptied queue. -/
theorem groutPulse_running {s : State} (line : s.gru.line = .idle ∨ s.gru.line = .pumping) :
    groutPulse s = emptiedTest (restartSetting (creditPulse s)) := by
  rcases line with line | line <;> rw [groutPulse, line]

/-- R107: a line that is not pumping, or that has parcels left, keeps its state. -/
theorem groutPulse_line {s : State} (h : s.gru.line ≠ .pumping ∨ (groutPulse s).gru.queue ≠ []) :
    (groutPulse s).gru.line = s.gru.line := by
  by_cases running : s.gru.line = .idle ∨ s.gru.line = .pumping
  · rw [groutPulse_running running] at h ⊢
    rw [emptiedTest_stays (by simpa using h)]
    simp
  · unfold groutPulse
    split <;> simp_all

/-- Settles O33: the credit by its queue, and the timers by the line state. -/
theorem pulseCreditsTenMillilitres : Obligations.PulseCreditsTenMillilitres := by
  intro s positive
  refine ⟨fun absent => by rw [groutPulse, absent], fun flushing => by rw [groutPulse, flushing]; rfl,
    fun fitted dry => ?_, (groutOnly_groutPulse s).blocks⟩
  obtain ⟨queue, delivered, deliveredRing, overrun, flushed⟩ := groutPulse_credits fitted dry
  have credited := creditQueue_credits positive (part := 10) (by omega)
  have left := volumeOf_creditQueue s.gru.queue 10
  refine ⟨by rw [delivered, credited], by rw [overrun, credited], by rw [queue, ← credited]; omega,
    fun p rest head large => ?large, fun p last small => ?last, fun empty => ?empty, by simp, by simp, flushed,
    fun line => ?setting, fun line => ?stands, fun line => ?block, fun line empty start => ?emptied,
    groutPulse_line⟩
  case large =>
    rw [queue, deliveredRing, head, creditQueue_head rest (by omega) large]
    exact ⟨rfl, rfl⟩
  case last =>
    rw [queue, deliveredRing, last, creditQueue_last (by omega) small]
    exact ⟨rfl, rfl⟩
  case empty =>
    rw [queue, deliveredRing, empty]
    exact ⟨rfl, add_zero _⟩
  case setting =>
    rcases line with line | line | line
    · rw [groutPulse_running (.inl line)]; simp [restartSetting]
    · rw [groutPulse_running (.inr line)]; simp [restartSetting]
    · rw [groutPulse, line]; simp [restartSetting]
  case stands => rcases line with line | line <;> rw [groutPulse, line] <;> simp
  case block => rw [groutPulse, line]; rfl
  case emptied =>
    rw [groutPulse_running (.inr line)] at empty ⊢
    exact emptiedTest_idles (by simpa using line) (by simpa using empty) (by simpa using start)

end Sys2Proof.Machine
end

section
/-! The ring record and the ring close heard (04_ring_building section 4.7 and 4.8). -/

namespace Sys2Proof.Machine

open Sys2Proof

/-! ## The ring record (R96, R97) -/

theorem sectorNumbers_first {n : Nat} (four : 4 ≤ n) (eight : n ≤ 8) :
    (sectorNumbers.filter fun j => decide (0 ≤ j) && decide (j < 0 + 4) && decide (j < n)) =
      (List.range 4).drop 0 := by
  interval_cases n <;> decide

theorem sectorNumbers_second {n : Nat} (four : 4 ≤ n) (eight : n ≤ 8) :
    (sectorNumbers.filter fun j => decide (4 ≤ j) && decide (j < 4 + 4) && decide (j < n)) =
      (List.range n).drop 4 := by
  interval_cases n <;> decide

theorem reportFrames_eq {s : State} (four : 4 ≤ s.cfg.image.nS) (eight : s.cfg.image.nS ≤ 8) :
    reportFrames s =
      [reportFrame s 0 (.summary (closeSummary s)), reportFrame s 1 (.residency s.dsu.residency),
        reportFrame s 2 (.sectors (((List.range 4).drop 0).map (closeItem s)))] ++
        if s.cfg.image.nS = 4 then []
        else [reportFrame s 3 (.sectors (((List.range s.cfg.image.nS).drop 4).map (closeItem s)))] := by
  rw [reportFrames, ← sectorNumbers_first four eight, ← sectorNumbers_second four eight]

/-- R96: the volumes and marks of a CONVEYOR holder that is a peer come from the record served. -/
theorem closeVolumes_of_peer {s : State} {h : Nat} (holder : s.ptb.conveyor.holder = some h) (peer : h ≠ s.own) :
    closeVolumes s = (served s h).bind fun r => r.conveyorPart.bind fun c => c.account.map fun a =>
      (a.2.1, a.2.2, a.1) := by
  rw [closeVolumes, holder]
  dsimp only
  rw [if_neg peer]
  cases served s h with
  | none => rfl
  | some r => cases part : r.conveyorPart <;> simp [part]

theorem closeMarks_of_peer {s : State} {h : Nat} (holder : s.ptb.conveyor.holder = some h) (peer : h ≠ s.own) :
    closeMarks s = (served s h).bind fun r => r.conveyorPart.map fun c => (c.restarted, r.flags.saturated) := by
  rw [closeMarks, holder]
  dsimp only
  rw [if_neg peer]
  cases served s h <;> rfl

theorem closeItem_own (s : State) :
    closeItem s s.own =
      { posted := publishedVolume s.gru.postedRing, delivered := publishedVolume s.gru.deliveredRing
        outstanding := publishedVolume (outstanding s), heard := true
        substituted := s.bsq.substituted.getD s.own false } :=
  if_pos rfl

theorem closeItem_heard {s : State} {j : Nat} {r : StatusRecord} (peer : j ≠ s.own) (record : served s j = some r)
    (ring : r.ring = s.ring) :
    closeItem s j =
      { posted := r.postedRing, delivered := r.deliveredRing, outstanding := r.outstanding, heard := true
        substituted := s.bsq.substituted.getD j false } := by
  rw [closeItem, if_neg peer, record]
  exact if_pos ring

theorem closeItem_unheard {s : State} {j : Nat} (peer : j ≠ s.own)
    (h : ∀ r, served s j = some r → r.ring ≠ s.ring) : (closeItem s j).heard = false := by
  rw [closeItem, if_neg peer]
  split
  · rfl
  · next r record => rw [if_neg (h r record)]

theorem closeItem_substituted (s : State) (j : Nat) :
    (closeItem s j).substituted = s.bsq.substituted.getD j false := by
  unfold closeItem
  dsimp only
  split
  · rfl
  · split
    · rfl
    · split <;> rfl

/-- Settles O30: the parts, the summary's sources and each sector's item. -/
theorem ringRecordTakesItsFieldsFromTheirSources : Obligations.RingRecordTakesItsFieldsFromTheirSources := by
  intro s four eight
  refine ⟨reportFrames_eq four eight, rfl, rfl, rfl, rfl, fun holder => ?none, fun holder => ?own,
    fun h r c v holder peer record part account => ?peer, fun h holder peer record => ?unserved,
    closeItem_substituted s, ?_, fun j r peer record ring => ?_, fun j peer unheard => closeItem_unheard peer unheard⟩
  case none =>
    change closeVolumes s = none ∧ closeMarks s = none
    rw [closeVolumes, closeMarks, holder]
    exact ⟨rfl, rfl⟩
  case own =>
    change closeVolumes s = _ ∧ closeMarks s = _
    rw [closeVolumes, closeMarks, holder]
    exact ⟨if_pos rfl, if_pos rfl⟩
  case peer =>
    change closeVolumes s = _ ∧ closeMarks s = _
    rw [closeVolumes_of_peer holder peer, closeMarks_of_peer holder peer, record]
    simp [part, account]
  case unserved =>
    change closeVolumes s = _ ∧ closeMarks s = _
    rw [closeVolumes_of_peer holder peer, closeMarks_of_peer holder peer, record]
    exact ⟨rfl, rfl⟩
  · rw [closeItem_own]
    exact ⟨rfl, rfl, rfl, rfl⟩
  · rw [closeItem_heard peer record ring]
    exact ⟨rfl, rfl, rfl, rfl⟩

/-! ## The ring close of a block (R46, R47, R70, R94, R104, R139) -/

/-- What the blocks clear at a ring close, before the phase BUILDING ends. -/
def ringClosed (s : State) : State :=
  { s with
    dsu := { s.dsu with residency := List.replicate 8 0, ringMax := 0 }
    thu := { s.thu with counter := 0, strokeEnd := false }
    gru :=
      { s.gru with
        postedRing := 0, deliveredRing := 0, queue := s.gru.queue.map fun p => { p with current := false } }
    bal := if s.bal.active then { s.bal with eRing := 0, xRing := 0, restarted := false } else s.bal }

theorem closeRing_eq (s : State) :
    closeRing s = if s.phase = .building then endBuilding (ringClosed s) else ringClosed s := by
  have closed : (if s.bal.active then balanceRingClose (driveRingClose (groutRingClose (thrustRingClose s)))
      else driveRingClose (groutRingClose (thrustRingClose s))) = ringClosed s := by
    unfold ringClosed
    cases s.bal.active <;> rfl
  rw [closeRing, closed]

/-! ## The end of BUILDING (R69, R73) -/

theorem clampedOnly_writeValve (m : ValveMode) (p : Int) (s : State) : ClampedOnly s (writeValve m p s) := by
  unfold writeValve refreshValve
  dsimp only
  refine ClampedOnly.congr (clampedOnly_setFlagIf _ _) ?_ rfl
  rfl

theorem clampedOnly_setGroup (g : Group) (s : State) : ClampedOnly s (setGroup g s) := by
  unfold setGroup writeGroupValve
  refine ClampedOnly.congr (clampedOnly_writeValve _ _ _) ?_ rfl
  rfl

theorem clampedOnly_groupLeaveBuilding (s : State) : ClampedOnly s (groupLeaveBuilding s) := by
  unfold groupLeaveBuilding
  split
  · exact (clampedOnly_setGroup (.moving .holding) s).trans (.of_eq (by simp))
  · exact .of_eq (by simp)

theorem clampedOnly_endBuilding (s : State) : ClampedOnly s (endBuilding s) := by
  unfold endBuilding
  refine ClampedOnly.congr (clampedOnly_groupLeaveBuilding _) ?_ rfl
  rfl

theorem endBuilding_phase (s : State) : (endBuilding s).phase = .idle := by
  simp [endBuilding, clearHolderSeen, plainPhase]

theorem endBuilding_pauseCause (s : State) : (endBuilding s).pauseCause = .none := by
  simp [endBuilding, clearHolderSeen, plainPhase]

theorem endBuilding_bsq (s : State) : (endBuilding s).bsq = { s.bsq with holderSeen := false } := by
  simp [endBuilding, clearHolderSeen, plainPhase]

theorem endBuilding_slot (s : State) : (endBuilding s).thu.slot = none := by
  rw [endBuilding, groupLeaveBuilding]
  split <;> rfl

/-- R69: a group out for a placement comes to HOLDING. -/
theorem endBuilding_group {s : State}
    (out : s.thu.group = .moving .retracting ∨ s.thu.group = .moving .retracted ∨
      s.thu.group = .moving .extending) : (endBuilding s).thu.group = .moving .holding := by
  rw [endBuilding, groupLeaveBuilding, if_pos (by simpa [clearHolderSeen, plainPhase] using out)]
  simp

/-! ## The holder's ring number (R95) -/

theorem compareRings_close {h : RingNumber} {s : State} (next : h = s.ring + 1) :
    compareRings h s = closeRing (s.setRing h) :=
  if_pos next

theorem ringNumber_succ_ne (r : RingNumber) : r + 1 ≠ r := by
  bv_omega

theorem compareRings_same (s : State) : compareRings s.ring s = s := by
  rw [compareRings, if_neg (ringNumber_succ_ne s.ring).symm, if_pos rfl]

theorem compareRings_resync {h : RingNumber} {s : State} (moved : h ≠ s.ring) (jump : h ≠ s.ring + 1) :
    compareRings h s =
      { s with ring := h, alu := { s.alu with flags := { s.alu.flags with ringResync := true } } } := by
  rw [compareRings, if_neg jump, if_neg moved]
  rfl

theorem compareRings_ring (h : RingNumber) (s : State) : (compareRings h s).ring = h := by
  unfold compareRings
  split
  · simp
  · split
    · next same => exact same.symm
    · rfl

/-- R94: what every station clears at a ring close heard. -/
theorem closeRing_clears (s : State) :
    (closeRing s).thu.counter = 0 ∧ (closeRing s).thu.strokeEnd = false ∧ (closeRing s).gru.postedRing = 0 ∧
      (closeRing s).gru.deliveredRing = 0 ∧ (closeRing s).dsu.residency = List.replicate 8 0 ∧
      (closeRing s).dsu.ringMax = 0 := by
  rw [closeRing_eq]
  split <;> simp [ringClosed]

theorem closeRing_of_building {s : State} (building : s.phase = .building) :
    closeRing s = endBuilding (ringClosed s) := by
  rw [closeRing_eq, if_pos building]

theorem closeRing_of_other {s : State} (other : s.phase ≠ .building) : closeRing s = ringClosed s := by
  rw [closeRing_eq, if_neg other]

theorem clampedOnly_closeRing (s : State) : ClampedOnly s (closeRing s) := by
  rw [closeRing_eq]
  split
  · exact (ClampedOnly.of_eq (s := s) (u := ringClosed s) rfl).trans (clampedOnly_endBuilding _)
  · exact .of_eq rfl

/-! ## The holder heard (R73, R95) -/

theorem shows_iff (r : StatusRecord) (idle : Bool) :
    (∃ e, r.erectorPart = some e ∧ (e.state = .idle ↔ idle = true)) ↔
      ∃ b, buildStateShown r = some b ∧ (b = .idle ↔ idle = true) := by
  simp [buildStateShown]

theorem markHolderSeen_marks {r : StatusRecord} {s : State} {b : BuildState} (shown : buildStateShown r = some b)
    (stepping : b ≠ .idle) (building : s.phase = .building) :
    markHolderSeen r s = { s with bsq := { s.bsq with holderSeen := true } } := by
  rw [markHolderSeen, shown]
  exact if_pos ⟨building, stepping⟩

theorem markHolderSeen_stays {r : StatusRecord} {s : State}
    (h : s.phase ≠ .building ∨ buildStateShown r = none ∨ buildStateShown r = some .idle) :
    markHolderSeen r s = s := by
  unfold markHolderSeen
  split
  · rfl
  · next b shown =>
    refine if_neg fun both => ?_
    rcases h with other | unshown | idle
    · exact other both.1
    · rw [unshown] at shown; cases shown
    · rw [idle] at shown; exact both.2 (Option.some.inj shown).symm

theorem buildEndHeard_ends {r : StatusRecord} {s : State} (building : s.phase = .building)
    (seen : s.bsq.holderSeen = true) (shown : buildStateShown r = some .idle) :
    buildEndHeard r s = endBuilding s :=
  if_pos ⟨building, seen, shown⟩

theorem buildEndHeard_stays {r : StatusRecord} {s : State}
    (h : s.phase ≠ .building ∨ s.bsq.holderSeen = false ∨ buildStateShown r ≠ some .idle) :
    buildEndHeard r s = s := by
  refine if_neg fun all => ?_
  obtain ⟨building, seen, shown⟩ := all
  rcases h with other | unseen | unshown
  · exact other building
  · rw [unseen] at seen; cases seen
  · exact unshown shown

/-- R95: with no ring number to compare, the mark and the end of BUILDING alone. -/
theorem holderHeard_uncompared {s : State} {j : Nat} {r : StatusRecord}
    (heard : s.ptb.exErector = false ∧ s.ptb.erector.holder = some j)
    (h : ¬(s.ptb.endOfListen = true ∧ r.ring ≠ s.ring)) :
    holderHeard j r s = buildEndHeard r (markHolderSeen r s) := by
  rw [holderHeard, if_pos heard]
  dsimp only
  split
  · next ended =>
    have same : r.ring = (markHolderSeen r s).ring := by
      simpa using fun moved => h ⟨ended, moved⟩
    rw [same, compareRings_same]
  · rfl

theorem holderHeard_compared {s : State} {j : Nat} {r : StatusRecord}
    (heard : s.ptb.exErector = false ∧ s.ptb.erector.holder = some j) (ended : s.ptb.endOfListen = true) :
    holderHeard j r s = buildEndHeard r (compareRings r.ring (markHolderSeen r s)) := by
  rw [holderHeard, if_pos heard]
  dsimp only
  rw [if_pos ended]

theorem markHolderSeen_idle {r : StatusRecord} (s : State) (idle : buildStateShown r = some .idle) :
    markHolderSeen r s = s :=
  markHolderSeen_stays (.inr (.inr idle))

/-- R73, R95: the resynchronisation in BUILDING: nothing but the number, the mark and RING_RESYNC. -/
theorem compareRings_marked_resync {r : StatusRecord} {s : State} (moved : r.ring ≠ s.ring)
    (jump : r.ring ≠ s.ring + 1) :
    compareRings r.ring (markHolderSeen r s) =
      { markHolderSeen r s with
        ring := r.ring, alu := { s.alu with flags := { s.alu.flags with ringResync := true } } } := by
  rw [compareRings_resync (by simpa using moved) (by simpa using jump)]
  simp

/-- Settles O31: the comparison of the numbers, and then the holder's STATUS by what it shows. -/
theorem holderRingNumberIsFollowed : Obligations.HolderRingNumberIsFollowed := by
  refine ⟨fun s h => ⟨fun same => ?_, fun _ => compareRings_ring h s, fun next => ?_, compareRings_resync⟩,
    fun s j r => ⟨fun unheard => if_neg unheard, fun heard uncompared => ⟨?_, ?_, ?_⟩, fun heard compared => ?_⟩⟩
  · rw [same, compareRings_same]
  · rw [compareRings_close next]
    obtain ⟨counter, strokeEnd, posted, delivered, residency, ringMax⟩ := closeRing_clears (s.setRing h)
    refine ⟨counter, strokeEnd, posted, delivered, residency, ringMax, fun building => ?_, fun other => ?_, ?_⟩
    · rw [closeRing_of_building (by simpa using building)]
      exact ⟨endBuilding_phase _, endBuilding_slot _⟩
    · rw [closeRing_of_other (by simpa using other)]
      exact ⟨rfl, rfl⟩
    · rw [(clampedOnly_closeRing _).1.rest]
      rfl
  · rintro building stepping
    obtain ⟨b, shown, state⟩ := (shows_iff r false).1 stepping
    rw [holderHeard_uncompared heard uncompared, markHolderSeen_marks shown (by simpa using state) building]
    exact buildEndHeard_stays (.inr (.inr (by rw [shown]; simpa using state)))
  · rintro building idle seen
    obtain ⟨b, shown, state⟩ := (shows_iff r true).1 idle
    obtain rfl : b = .idle := by simpa using state
    rw [holderHeard_uncompared heard uncompared, markHolderSeen_idle s shown, buildEndHeard_ends building seen shown]
    exact ⟨endBuilding_phase s, endBuilding_pauseCause s, endBuilding_bsq s, endBuilding_slot s, endBuilding_group,
      by simp⟩
  · rintro stands
    rw [holderHeard_uncompared heard uncompared]
    rcases stands with other | unshown | ⟨idle, unseen⟩
    · rw [markHolderSeen_stays (.inl other), buildEndHeard_stays (.inl other)]
    · have unshown : buildStateShown r = none := by rw [buildStateShown, unshown]; rfl
      rw [markHolderSeen_stays (.inr (.inl unshown)), buildEndHeard_stays (.inr (.inr (by rw [unshown]; simp)))]
    · obtain ⟨b, shown, state⟩ := (shows_iff r true).1 idle
      obtain rfl : b = .idle := by simpa using state
      rw [markHolderSeen_idle s shown, buildEndHeard_stays (.inr (.inl (by simpa using unseen)))]
  · obtain ⟨ended, moved⟩ := compared
    rw [holderHeard_compared heard ended]
    refine ⟨by simp [compareRings_ring], fun building next => ?_, fun building jump => ?_⟩
    · have closed : compareRings r.ring (markHolderSeen r s) =
          endBuilding (ringClosed ((markHolderSeen r s).setRing r.ring)) := by
        rw [compareRings_close (by simpa using next), closeRing_of_building (by simpa using building)]
      have idle := endBuilding_phase (ringClosed ((markHolderSeen r s).setRing r.ring))
      rw [closed, buildEndHeard_stays (.inl (by rw [idle]; simp)), endBuilding_bsq]
      exact ⟨idle, rfl⟩
    · rw [compareRings_marked_resync moved jump]
      refine ⟨fun idle seen => ?_, fun idle unseen => ?_, fun stepping => ?_, ?_⟩
      · obtain ⟨b, shown, state⟩ := (shows_iff r true).1 idle
        obtain rfl : b = .idle := by simpa using state
        rw [markHolderSeen_idle s shown, buildEndHeard_ends ?_ ?_ shown]
        · exact ⟨endBuilding_phase _, endBuilding_slot _⟩
        · exact building
        · exact seen
      · obtain ⟨b, shown, state⟩ := (shows_iff r true).1 idle
        obtain rfl : b = .idle := by simpa using state
        rw [markHolderSeen_idle s shown, buildEndHeard_stays (.inr (.inl ?_))]
        · exact building
        · exact unseen
      · obtain ⟨b, shown, state⟩ := (shows_iff r false).1 stepping
        have stepping : b ≠ .idle := by simpa using state
        rw [markHolderSeen_marks shown stepping building,
          buildEndHeard_stays (.inr (.inr (by rw [shown]; simpa using stepping)))]
        exact ⟨building, rfl⟩
      · unfold buildEndHeard
        split
        · rw [(clampedOnly_endBuilding _).1.rest]
          simp
        · simp

end Sys2Proof.Machine
end

section
/-! The stroke sample: quality, increment and control law (03_thrust_stroke_and_advance section 3.2 to 3.4). -/

namespace Sys2Proof.Machine

open Sys2Proof

/-! ## The stroke judged (R49 to R51) -/

/-- R49: the rate of a measured stroke: 0 where the history has just been filled with it. -/
theorem rawRate_eq (s : State) (v : Int) :
    rawRate s v =
      if s.thu.fresh = true ∨ s.thu.quality ≠ .valid then 0 else (v - s.thu.history.headD v) * 10 := by
  unfold rawRate historyFor
  split <;> simp

theorem historyFor_shifted (s : State) (v : Int) :
    (historyFor s v).drop 1 ++ [v] =
      if s.thu.fresh = true ∨ s.thu.quality ≠ .valid then List.replicate 10 v else s.thu.history.drop 1 ++ [v] := by
  unfold historyFor
  split <;> rfl

theorem takeStroke_measured {s : State} (valid : inputValid s .stroke = true) :
    takeStroke s = strokeMeasured (inputValue s .stroke) s :=
  if_pos valid

theorem substitutes_eq_some {s : State} {a b : StatusRecord} :
    substitutes s = some (a, b) ↔
      served s (lowerNeighbour s) = some a ∧ served s (upperNeighbour s) = some b ∧ a.quality = .valid ∧
        b.quality = .valid := by
  unfold substitutes
  split
  · next a' b' lower upper =>
    rw [lower, upper]
    constructor
    · intro h
      split at h
      next both => cases h; exact ⟨rfl, rfl, both⟩
      next => cases h
    · rintro ⟨la, lb, both⟩
      cases la
      cases lb
      rw [if_pos both]
  · next none => exact ⟨fun h => (nomatch h), fun ⟨la, lb, _⟩ => (none a b la lb).elim⟩

theorem substitutes_eq_none {s : State} :
    substitutes s = none ↔
      ¬∃ a b, served s (lowerNeighbour s) = some a ∧ served s (upperNeighbour s) = some b ∧ a.quality = .valid ∧
        b.quality = .valid := by
  rw [Option.eq_none_iff_forall_ne_some]
  constructor
  · rintro h ⟨a, b, both⟩
    exact h (a, b) (substitutes_eq_some.2 both)
  · rintro h ⟨a, b⟩ both
    exact h ⟨a, b, substitutes_eq_some.1 both⟩

theorem takeStroke_substituted {s : State} {a b : StatusRecord} (unread : inputValid s .stroke = false)
    (both : substitutes s = some (a, b)) : takeStroke s = strokeSubstituted a b s := by
  rw [takeStroke, if_neg (by simp [unread]), both]

theorem takeStroke_invalid {s : State} (unread : inputValid s .stroke = false) (neither : substitutes s = none) :
    takeStroke s = strokeInvalid s := by
  rw [takeStroke, if_neg (by simp [unread]), neither]

theorem setFlagIf_rest (b : Bool) (f : Flag) (s : State) : { setFlagIf b f s with alu := s.alu } = s := by
  unfold setFlagIf
  split <;> rfl

theorem strokeMeasured_thu (v : Int) (s : State) :
    (strokeMeasured v s).thu =
      { s.thu with
        quality := .valid, stroke := v, rate := clamp (-1000) 1000 (rawRate s v)
        history := (historyFor s v).drop 1 ++ [v], fresh := false, strokeFault := false, denied := false } := by
  simp [strokeMeasured]

theorem strokeMeasured_clamped (v : Int) (s : State) :
    (strokeMeasured v s).alu.flags.clamped =
      (s.alu.flags.clamped || outside (-1000) 1000 (rawRate s v)) := by
  rw [strokeMeasured, setFlagIf_clamped_flags]
  rfl

/-- A stroke sample moves THU's registers and CLAMPED alone. -/
theorem takeStroke_rest (s : State) : { takeStroke s with thu := s.thu, alu := s.alu } = s := by
  refine state_ext ?_ ?_ ?_ ?_ ?_ ?_ ?_ ?_ ?_ rfl ?_ ?_ ?_ rfl ?_ ?_ <;> simp

/-- Settles O19: the three qualities and their registers. -/
theorem strokeSampleJudgesTheQuality : Obligations.StrokeSampleJudgesTheQuality := by
  intro s
  refine ⟨fun valid => ?_, fun a b unread lower upper va vb => ?_, fun unread neither => ?_, takeStroke_rest s⟩
  · rw [takeStroke_measured valid, strokeMeasured_thu, historyFor_shifted, ← rawRate_eq]
    exact ⟨rfl, strokeMeasured_clamped _ s⟩
  · rw [takeStroke_substituted unread (substitutes_eq_some.2 ⟨lower, upper, va, vb⟩)]
    exact ⟨rfl, rfl⟩
  · rw [takeStroke_invalid unread (substitutes_eq_none.2 neither)]
    exact ⟨rfl, rfl⟩

/-! ## What each sector contributes (R12, R53) -/

theorem own_lt_eight (s : State) : s.own < 8 := by
  have bit (b : Bool) : b.toNat ≤ 1 := Bool.toNat_le b
  have zero := bit s.cfg.straps.stn0
  have one := bit s.cfg.straps.stn1
  have two := bit s.cfg.straps.stn2
  unfold State.own Straps.station
  omega

theorem getD_sectorNumbers_map {α : Type} (f : Nat → Option α) {j : Nat} (h : j < 8) :
    (sectorNumbers.map f).getD j none = f j := by
  interval_cases j <;> rfl

theorem contributions_getD (s : State) {j : Nat} (h : j < 8) :
    (contributions s).getD j none =
      if j = s.own then (if s.thu.quality = .valid then some s.thu.counter else none)
      else
        match served s j with
        | none => none
        | some r => if r.quality = .valid then some r.counter else none := by
  rw [contributions]
  exact getD_sectorNumbers_map _ h

theorem zipWith_of_length {α β : Type} (f : α → α → β) (d : α) {l m : List α} (hl : l.length = 8)
    (hm : m.length = 8) :
    List.zipWith f l m = [0, 1, 2, 3, 4, 5, 6, 7].map fun j => f (l.getD j d) (m.getD j d) := by
  refine List.ext_getElem (by simp [hl, hm]) fun j h _ => ?_
  have bound : j < 8 := by simpa [hl, hm] using h
  simp only [List.getElem_zipWith, List.getElem_map]
  rw [List.getD_eq_getElem _ _ (by simp [hl]; interval_cases j <;> simp),
    List.getD_eq_getElem _ _ (by simp [hm]; interval_cases j <;> simp)]
  interval_cases j <;> rfl

theorem advances_eq {before now : MachineSet} (hb : before.length = 8) (hn : now.length = 8) :
    advances before now =
      [0, 1, 2, 3, 4, 5, 6, 7].filterMap fun j => advanceOf (before.getD j none) (now.getD j none) := by
  rw [advances, zipWith_of_length advanceOf none hb hn, List.filterMap_map]
  rfl

theorem advanceOf_eq (b n : Option Int) :
    advanceOf b n =
      match b, n with
      | some b, some n => some (if n - b < 0 then n else n - b)
      | _, _ => none := by
  cases b <;> cases n <;> rfl

/-! ## The own increment (R52) and the grout it owes (R100) -/

theorem neighbourCounters_some {s : State} {a b : StatusRecord} (both : substitutes s = some (a, b)) :
    neighbourCounters s = some (a.counter, b.counter) := by
  rw [neighbourCounters, both]
  rfl

theorem substitutes_congr {s u : State} (ptb : u.ptb = s.ptb) (cfg : u.cfg = s.cfg) :
    substitutes u = substitutes s := by
  have own : u.own = s.own := by simp only [State.own, cfg]
  have serves (j : Nat) : served u j = served s j := by rw [served_eq, served_eq, peerOf_congr (s := s) (by rw [ptb])]
  simp only [substitutes, serves, lowerNeighbour, upperNeighbour, own, cfg]

/-- A sample is SUBSTITUTED only with both neighbours usable. -/
theorem substitutes_of_taken {s : State} (h : (takeStroke s).thu.quality = .substituted) :
    ∃ a b, substitutes s = some (a, b) := by
  by_cases valid : inputValid s .stroke = true
  · rw [takeStroke_measured valid, strokeMeasured_thu] at h
    cases h
  · have unread := Bool.eq_false_iff.2 valid
    cases both : substitutes s with
    | some p => exact ⟨p.1, p.2, rfl⟩
    | none => rw [takeStroke_invalid unread both] at h; cases h

theorem ownIncrement_still {before s : State} (still : s.thu.group ≠ .moving .advancing) :
    ownIncrement before s = 0 := by
  simp [ownIncrement, groupAdvancing, still]

theorem ownIncrement_advancing {before s : State} (advancing : s.thu.group = .moving .advancing) :
    ownIncrement before s =
      match s.thu.quality with
      | .valid => if before.thu.quality = .valid then max 0 (s.thu.stroke - before.thu.stroke) else 0
      | .substituted =>
        if before.thu.quality = .substituted then substitutedIncrement s.thu.neighbours (neighbourCounters s) else 0
      | .invalid => machineAdvance s.thu.set (contributions s) :=
  if_pos (by simp [groupAdvancing, advancing])

theorem groutOwed_congr {s u : State} (ds : Int) (cfg : u.cfg = s.cfg) (gru : u.gru = s.gru) :
    groutOwed ds u = groutOwed ds s := by
  rw [groutOwed, groutOwed, cfg, gru]

/-- R100: the demand of an increment and its remainder. -/
theorem groutIncrement_owes {ds : Int} {s : State} (active : s.gru.active = true) (fitted : s.gru.line ≠ .absent) :
    (groutIncrement ds s).gru.remG = groutOwed ds s % 1000000 ∧
      (groutIncrement ds s).gru.posted = s.gru.posted + max 0 (groutOwed ds s / 1000000) ∧
      (groutIncrement ds s).gru.postedRing = s.gru.postedRing + max 0 (groutOwed ds s / 1000000) := by
  rw [groutIncrement, if_neg (by simp [active, fitted])]
  dsimp only
  split
  · next owed => rw [postDemand_gru, max_eq_right owed.le]; exact ⟨rfl, rfl, rfl⟩
  · next none => rw [max_eq_left (not_lt.1 none), add_zero, add_zero]; exact ⟨rfl, rfl, rfl⟩

theorem addIncrement_counter (ds : Int) (s : State) :
    (addIncrement ds s).thu.counter = clamp 0 250000 (s.thu.counter + ds) := by
  unfold addIncrement
  dsimp only
  split <;> simp

/-- The clamped counter of R52, before GRU is handed the increment. -/
def countedIncrement (ds : Int) (s : State) : State :=
  setFlagIf (outside 0 250000 (s.thu.counter + ds)) .clamped
    (s.onThu fun t => { t with counter := clamp 0 250000 (t.counter + ds) })

theorem addIncrement_eq (ds : Int) (s : State) :
    addIncrement ds s = if 0 < ds then groutIncrement ds (countedIncrement ds s) else countedIncrement ds s := rfl

theorem countedIncrement_gru (ds : Int) (s : State) : (countedIncrement ds s).gru = s.gru := by
  simp [countedIncrement]

theorem countedIncrement_cfg (ds : Int) (s : State) : (countedIncrement ds s).cfg = s.cfg := by
  simp [countedIncrement]

theorem addIncrement_gru (ds : Int) (s : State) :
    if 0 < ds ∧ s.gru.active = true ∧ s.gru.line ≠ .absent then
      (addIncrement ds s).gru.remG = groutOwed ds s % 1000000 ∧
        (addIncrement ds s).gru.posted = s.gru.posted + max 0 (groutOwed ds s / 1000000) ∧
        (addIncrement ds s).gru.postedRing = s.gru.postedRing + max 0 (groutOwed ds s / 1000000)
    else (addIncrement ds s).gru = s.gru := by
  have gru := countedIncrement_gru ds s
  rw [addIncrement_eq]
  split
  · next owing =>
    obtain ⟨positive, active, fitted⟩ := owing
    rw [if_pos positive, ← groutOwed_congr ds (countedIncrement_cfg ds s) gru, ← gru]
    exact groutIncrement_owes (by rw [gru]; exact active) (by rw [gru]; exact fitted)
  · next quiet =>
    split
    · next positive =>
      rw [groutIncrement, if_pos ?_]
      · exact gru
      · rw [gru]
        by_cases active : s.gru.active = true
        · exact .inr (not_not.1 fun fitted => quiet ⟨positive, active, fitted⟩)
        · exact .inl (Bool.eq_false_iff.2 active)
    · exact gru

/-- Settles O20: the increment by quality, the counter it moves and the demand it posts; and the machine set. -/
theorem strokeSampleFormsTheIncrement : Obligations.StrokeSampleFormsTheIncrement := by
  refine ⟨fun s => ⟨ownIncrement s (takeStroke s), fun still => ?still, fun advancing valid => ?valid,
    fun advancing sub => ⟨fun was => ?entered, fun la lb a b was last lower upper => ?substituted⟩,
    fun advancing invalid => ?invalid, ?counter, strokeArrival_set s, ?blind,
    fun a b sub lower upper => ?neighbours, fun other => ?kept, ?grout, ?rest⟩, fun s => ?contributions,
    fun before now hb hn => ?advances⟩
  case still => exact ownIncrement_still (by simpa using still)
  case valid => rw [ownIncrement_advancing (by simpa using advancing), valid]
  case entered =>
    rw [ownIncrement_advancing (by simpa using advancing), sub]
    exact if_neg was
  case substituted =>
    obtain ⟨a', b', both⟩ := substitutes_of_taken sub
    obtain ⟨lower', upper', -⟩ := substitutes_eq_some.1 both
    obtain rfl : a = a' := by simpa [lower] using lower'
    obtain rfl : b = b' := by simpa [upper] using upper'
    have now : neighbourCounters (takeStroke s) = some (a.counter, b.counter) :=
      neighbourCounters_some (by rw [substitutes_congr (s := s) (by simp) (by simp), both])
    rw [ownIncrement_advancing (by simpa using advancing), sub, now, (takeStroke_fields s).2.2.1, last]
    exact if_pos was
  case invalid =>
    rw [ownIncrement_advancing (by simpa using advancing), invalid]
    simp
  case counter =>
    simp [strokeArrival, addIncrement_counter]
  case blind => simp [strokeArrival, rememberCounters, machineBlind]
  case neighbours =>
    obtain ⟨a', b', both⟩ := substitutes_of_taken sub
    obtain ⟨lower', upper', -⟩ := substitutes_eq_some.1 both
    obtain rfl : a = a' := by simpa [lower] using lower'
    obtain rfl : b = b' := by simpa [upper] using upper'
    have now : neighbourCounters (takeStroke s) = some (a.counter, b.counter) :=
      neighbourCounters_some (by rw [substitutes_congr (s := s) (by simp) (by simp), both])
    simp [strokeArrival, rememberCounters, sub, now]
  case kept => simp [strokeArrival, rememberCounters, other]
  case grout =>
    have gru : (strokeArrival s).gru =
        (addIncrement (ownIncrement s (takeStroke s)) (rememberCounters (takeStroke s))).gru := by
      simp [strokeArrival]
    have before : (rememberCounters (takeStroke s)).gru = s.gru := by simp
    have owed := addIncrement_gru (ownIncrement s (takeStroke s)) (rememberCounters (takeStroke s))
    rw [groutOwed_congr (s := s) _ (by simp) before, before, ← gru] at owed
    exact owed
  case rest => simp
  case contributions =>
    refine ⟨contributions_length s, ?_, fun j r hj peer record => ?_, fun j hj peer unserved => ?_⟩
    · rw [contributions_getD s (own_lt_eight s), if_pos rfl]
    · rw [contributions_getD s hj, if_neg peer, record]
    · rw [contributions_getD s hj, if_neg peer, unserved]
  case advances =>
    have same : advances before now = [0, 1, 2, 3, 4, 5, 6, 7].filterMap fun j =>
        advanceOf (before.getD j none) (now.getD j none) := advances_eq hb hn
    simp only [advanceOf_eq] at same
    refine ⟨same.trans rfl, fun none => ?_, fun some => ?_⟩
    · rw [machineAdvance, same.trans none]; rfl
    · rw [machineAdvance, same]; rfl

/-! ## The control law (R56, R57) -/

theorem ClampedOnly.alu_eq {s u : State} (h : ClampedOnly s u) :
    u.alu = { s.alu with flags := { s.alu.flags with clamped := u.alu.flags.clamped } } := by
  have rest := h.1.rest
  rwa [h.2] at rest

theorem writeGroupValve_written (s : State) :
    (writeGroupValve s).fpt.written =
      { s.fpt.written with
        valveMode := (valveOf s.cfg.image s.thu.pRef s.thu.group).1
        valvePressure := (valveOf s.cfg.image s.thu.pRef s.thu.group).2 } := by
  simp [writeGroupValve]

theorem clampedOnly_writeGroupValve (s : State) : ClampedOnly s (writeGroupValve s) := clampedOnly_writeValve _ _ s

theorem pressureUpdate_moves {s : State} (advancing : s.thu.group = .moving .advancing)
    (read : s.thu.quality ≠ .invalid) :
    pressureUpdate s =
      writeGroupValve (setFlagIf (outside 0 s.cfg.image.pGroupMax (rawPressure s)) .clamped
        (s.onThu fun t => { t with pRef := clamp 0 s.cfg.image.pGroupMax (rawPressure s) })) :=
  if_neg (by simp [groupAdvancing, advancing, read])

/-- What the control law does with a pressure reference of an ADVANCING group. -/
theorem pressureUpdate_moved {s : State} {p : Int} (advancing : s.thu.group = .moving .advancing)
    (read : s.thu.quality ≠ .invalid) (raw : rawPressure s = p) :
    (pressureUpdate s).thu = { s.thu with pRef := clamp 0 s.cfg.image.pGroupMax p } ∧
      (pressureUpdate s).fpt.written =
        { s.fpt.written with valveMode := .advance, valvePressure := clamp 0 s.cfg.image.pGroupMax p } ∧
      (outside 0 s.cfg.image.pGroupMax p = true → (pressureUpdate s).alu.flags.clamped = true) ∧
      (pressureUpdate s).alu =
        { s.alu with flags := { s.alu.flags with clamped := (pressureUpdate s).alu.flags.clamped } } ∧
      { pressureUpdate s with thu := s.thu, fpt := s.fpt, alu := s.alu } = s := by
  subst raw
  rw [pressureUpdate_moves advancing read]
  generalize clamp 0 s.cfg.image.pGroupMax (rawPressure s) = reference
  generalize outside 0 s.cfg.image.pGroupMax (rawPressure s) = out
  have flagged := clampedOnly_setFlagIf out (s.onThu fun t => { t with pRef := reference })
  have written := clampedOnly_writeGroupValve
    (setFlagIf out .clamped (s.onThu fun t => { t with pRef := reference }))
  refine ⟨by simp, ?_, fun hout => ?_, ?_, ?_⟩
  · rw [writeGroupValve_written]
    simp [advancing, valveOf]
  · exact written.1.up (by rw [hout]; rfl)
  · exact ((flagged.congr (s := s) rfl rfl).trans written).alu_eq
  · refine state_ext ?_ ?_ ?_ ?_ ?_ ?_ ?_ ?_ ?_ rfl ?_ ?_ ?_ rfl rfl ?_ <;> simp

theorem rawPressure_valid {s : State} (valid : s.thu.quality = .valid) :
    rawPressure s =
      s.thu.pRef + s.thu.bias + squot (s.cfg.image.kA * (effectiveTarget s - s.thu.rate)) 100 := by
  rw [rawPressure, valid]

theorem rawPressure_substituted {s : State} {a b : StatusRecord} (sub : s.thu.quality = .substituted)
    (both : substitutes s = some (a, b)) : rawPressure s = (a.groupPressure + b.groupPressure) / 2 := by
  rw [rawPressure, sub, both]

theorem effectiveTarget_valid {s : State} (valid : s.thu.quality = .valid) :
    effectiveTarget s =
      if s.cfg.image.lSkew < s.thu.stroke - meanStroke s then 0
      else if inForce s .cutterheadOvertorque = true then min s.thu.rateTarget (advanceCap s) / 2
      else min s.thu.rateTarget (advanceCap s) := by
  have skewed : skewHold s = true ↔ s.cfg.image.lSkew < s.thu.stroke - meanStroke s := by simp [skewHold, valid]
  rw [effectiveTarget]
  simp only [skewed]

theorem skewNow_iff (s : State) :
    skewNow s = true ↔
      s.thu.group = .moving .advancing ∧ s.thu.quality = .valid ∧
        s.cfg.image.lSkewAlarm < |s.thu.stroke - meanStroke s| := by
  simp [skewNow, groupAdvancing, and_assoc]

theorem meanStroke_congr {s u : State} (stroke : u.thu.stroke = s.thu.stroke) (ptb : u.ptb = s.ptb) :
    meanStroke u = meanStroke s := by
  have records : contributingRecords u = contributingRecords s := by
    rw [contributingRecords, contributingRecords, presentPeers_of_ptb (s := s) (by rw [ptb])]
  rw [meanStroke, meanStroke, stroke, records]

theorem strokeArrival_skew (s : State) :
    (strokeArrival s).thu.skew =
      skewNow (addIncrement (ownIncrement s (takeStroke s)) (rememberCounters (takeStroke s))) := by
  simp [strokeArrival, skewUpdate]

/-- Settles O21: the reference by quality, and SKEW. -/
theorem controlLawMovesThePressure : Obligations.ControlLawMovesThePressure := by
  refine ⟨fun s advancing valid => ?valid, fun s a b advancing sub lower upper va vb => ?substituted,
    fun s held => ?held, fun s => ⟨rfl, skewNow_iff s⟩, fun s => ?arrival⟩
  case valid =>
    refine pressureUpdate_moved advancing (by rw [valid]; simp) ?_
    rw [rawPressure_valid valid, effectiveTarget_valid valid]
    rfl
  case substituted =>
    exact pressureUpdate_moved advancing (by rw [sub]; simp)
      (rawPressure_substituted sub (substitutes_eq_some.2 ⟨lower, upper, va, vb⟩))
  case held => exact if_pos (by simpa [groupAdvancing] using held)
  case arrival =>
    dsimp only
    rw [strokeArrival_skew, skewNow_iff, meanStroke_congr (s := takeStroke s) (by simp) (by simp)]
    simp only [addIncrement_fields, rememberCounters_fields, takeStroke_fields, addIncrement_frame,
      rememberCounters_frame]
    rw [show (takeStroke s).cfg = s.cfg by simp]
    rfl

end Sys2Proof.Machine
end

section
/-! The group's movements and the request responder (03_thrust_stroke_and_advance section 3.6 and 3.7). -/

namespace Sys2Proof.Machine

open Sys2Proof

/-! ## Changes of the group that are no advance (R48) -/

/-- R48: a change between two states other than ADVANCING keeps the pressure reference. -/
theorem setGroup_thu_of_other {g : Group} {s : State} (before : s.thu.group ≠ .moving .advancing)
    (after : g ≠ .moving .advancing) : (setGroup g s).thu = { s.thu with group := g } := by
  simp [setGroup, pRefAfter, before, after]

theorem strokeEndTest_ends {s : State} (advancing : s.thu.group = .moving .advancing)
    (read : s.thu.quality ≠ .invalid) (reached : s.cfg.image.sEnd ≤ s.thu.stroke) :
    (strokeEndTest s).thu =
      { s.thu with strokeEnd := true, group := .moving .holding, pRef := s.cfg.image.pHold } := by
  rw [strokeEndTest, if_pos ⟨by simp [groupAdvancing, advancing], read, reached⟩]
  exact setGroup_thu_of_advancing (.inl advancing)

theorem strokeEndTest_stays {s : State}
    (h : s.thu.group ≠ .moving .advancing ∨ s.thu.quality = .invalid ∨ s.thu.stroke < s.cfg.image.sEnd) :
    strokeEndTest s = s := by
  refine if_neg fun all => ?_
  obtain ⟨advancing, read, reached⟩ := all
  rcases h with other | unread | short
  · exact other (by simpa [groupAdvancing] using advancing)
  · exact read unread
  · exact not_le.2 short reached

/-- R67: a RETRACTING group that is out. -/
theorem completeRetraction_completes {s : State} (retracting : s.thu.group = .moving .retracting) :
    (completeRetraction s).thu = { s.thu with group := .moving .retracted, slot := none } ∧
      (completeRetraction s).fpt.written = { s.fpt.written with valveMode := .hold, valvePressure := 0 } := by
  rw [completeRetraction, if_pos retracting]
  constructor
  · change { (setGroup (.moving .retracted) s).thu with slot := none } = _
    rw [setGroup_thu_of_other (by simp [retracting]) (by simp)]
  · exact setGroup_written _ _

theorem groupPressureArrival_holds {s : State} (extending : s.thu.group = .moving .extending)
    (valid : inputValid s .groupPressure = true) (reached : s.cfg.image.pHold ≤ inputValue s .groupPressure) :
    (groupPressureArrival s).thu = { s.thu with group := .moving .holding, slot := none } := by
  rw [groupPressureArrival, if_pos ⟨extending, valid, reached⟩]
  change { (setGroup (.moving .holding) s).thu with slot := none } = _
  rw [setGroup_thu_of_other (by simp [extending]) (by simp)]

theorem groupPressureArrival_stays {s : State}
    (h : s.thu.group ≠ .moving .extending ∨ inputValid s .groupPressure = false ∨
      inputValue s .groupPressure < s.cfg.image.pHold) : groupPressureArrival s = s := by
  refine if_neg fun all => ?_
  obtain ⟨extending, valid, reached⟩ := all
  rcases h with other | unread | short
  · exact other extending
  · rw [unread] at valid; cases valid
  · exact not_le.2 short reached

/-! ## The request responder (R64 to R66) -/

theorem repeatAnswer_slot {s : State} {source : Nat} {kind : RequestKind} {tag : Tag}
    (slot : s.thu.slot = some { kind := kind, tag := tag, source := source }) :
    repeatAnswer s source kind tag = some .accepted :=
  if_pos slot

theorem repeatAnswer_last {s : State} {source : Nat} {kind : RequestKind} {tag : Tag} {b : Answer}
    (slot : s.thu.slot ≠ some { kind := kind, tag := tag, source := source })
    (last : s.thu.lastAnswer = some { source := source, kind := kind, tag := tag, answer := b }) :
    repeatAnswer s source kind tag = some b := by
  rw [repeatAnswer, if_neg slot, last]
  exact if_pos ⟨rfl, rfl, rfl⟩

theorem repeatAnswer_none {s : State} {source : Nat} {kind : RequestKind} {tag : Tag}
    (slot : s.thu.slot ≠ some { kind := kind, tag := tag, source := source })
    (last : ∀ b, s.thu.lastAnswer ≠ some { source := source, kind := kind, tag := tag, answer := b }) :
    repeatAnswer s source kind tag = none := by
  rw [repeatAnswer, if_neg slot]
  split
  · rfl
  · next l answered =>
    refine if_neg ?_
    rintro ⟨rfl, rfl, rfl⟩
    exact last l.answer answered

theorem answerRequest_repeat {s : State} {source : Nat} {kind : RequestKind} {tag : Tag} {a : Answer}
    (ring : RingNumber) (repeated : repeatAnswer s source kind tag = some a) :
    answerRequest source kind ring tag s = (s, a) := by
  rw [answerRequest, repeated]

theorem answerRequest_fresh {s : State} {source : Nat} {kind : RequestKind} {tag : Tag} (ring : RingNumber)
    (fresh : repeatAnswer s source kind tag = none) :
    answerRequest source kind ring tag s =
      (takeAnswer source kind tag (freshAnswer s source kind ring) s, freshAnswer s source kind ring) := by
  rw [answerRequest, fresh]

/-- R65: the answer to a RETRACT_GROUP by the slot, and then by the three conditions. -/
theorem retractAnswer_cases (s : State) (source : Nat) (ring : RingNumber) :
    (s.thu.slot ≠ none → retractAnswer s source ring = .busy) ∧
      (s.thu.slot = none ∧ s.phase = .building ∧ s.thu.group = .moving .holding ∧
        s.ptb.erector.holder = some source ∧ ring = s.ring → retractAnswer s source ring = .accepted) ∧
      (s.thu.slot = none → ¬(s.thu.slot = none ∧ s.phase = .building ∧ s.thu.group = .moving .holding ∧
        s.ptb.erector.holder = some source ∧ ring = s.ring) → retractAnswer s source ring = .refused) := by
  refine ⟨fun filled => if_pos (Option.isSome_iff_ne_none.2 filled), fun may => ?_, fun empty mayNot => ?_⟩
  · obtain ⟨empty, may⟩ := may
    exact (if_neg (by simp [empty])).trans (if_pos may)
  · exact (if_neg (by simp [empty])).trans (if_neg fun may => mayNot ⟨empty, may⟩)

/-- R66: the answer to an EXTEND_GROUP. -/
theorem extendAnswer_cases (s : State) (source : Nat) (ring : RingNumber) :
    let slotExtends := ∃ k, s.thu.slot = some k ∧ k.kind = .extend
    let may := ¬slotExtends ∧ (s.ptb.erector.holder = some source ∧ ring = s.ring) ∧
      (s.thu.group = .moving .retracting ∨ s.thu.group = .moving .retracted)
    (slotExtends → extendAnswer s source ring = .busy) ∧ (may → extendAnswer s source ring = .accepted) ∧
      (¬slotExtends → ¬may → extendAnswer s source ring = .refused) := by
  have slot : (s.thu.slot.map fun k => k.kind) = some .extend ↔ ∃ k, s.thu.slot = some k ∧ k.kind = .extend := by
    simp
  refine ⟨fun extending => if_pos (slot.2 extending), fun may => ?_, fun other mayNot => ?_⟩
  · obtain ⟨other, holder, out⟩ := may
    exact (if_neg (mt slot.1 other)).trans (if_pos ⟨out, holder⟩)
  · exact (if_neg (mt slot.1 other)).trans (if_neg fun both => mayNot ⟨other, both.2, both.1⟩)

theorem takeAnswer_refused {source : Nat} {kind : RequestKind} {tag : Tag} {a : Answer} (s : State)
    (h : a ≠ .accepted) :
    takeAnswer source kind tag a s =
      { s with
        thu :=
          { s.thu with lastAnswer := some { source := source, kind := kind, tag := tag, answer := a } } } :=
  if_neg h

theorem takeAnswer_accepted (source : Nat) (kind : RequestKind) (tag : Tag) (s : State) :
    (takeAnswer source kind tag .accepted s).thu.slot = some { kind := kind, tag := tag, source := source } ∧
      (takeAnswer source kind tag .accepted s).thu.group = .moving (requestMotion kind) ∧
      (takeAnswer source kind tag .accepted s).fpt.written =
        { s.fpt.written with
          valveMode := match kind with | .retract => .retract | .extend => .extend
          valvePressure :=
            match kind with | .retract => s.cfg.image.pRetract | .extend => s.cfg.image.pHold } := by
  unfold takeAnswer
  dsimp only
  rw [if_pos rfl, setGroup_written]
  refine ⟨by simp, by simp, ?_⟩
  cases kind <;> rfl

theorem takeAnswer_lastAnswer (source : Nat) (kind : RequestKind) (tag : Tag) (a : Answer) (s : State) :
    (takeAnswer source kind tag a s).thu.lastAnswer =
      some { source := source, kind := kind, tag := tag, answer := a } := by
  unfold takeAnswer
  dsimp only
  split <;> simp

/-- Settles O24: a repeat, then the answer by the rules of its kind and what it sets going. -/
theorem requestsAreAnswered : Obligations.RequestsAreAnswered := by
  unfold Obligations.RequestsAreAnswered
  intro answered
  have answers (source : Nat) (kind : RequestKind) (ring : RingNumber) (tag : Tag) (s : State) :
      answered source kind ring tag s (answerRequest source kind ring tag s).2
        (answerRequest source kind ring tag s).1 := by
    refine ⟨fun slot => ?_, fun b slot last => ?_, fun slot last => ?_⟩
    · rw [answerRequest_repeat ring (repeatAnswer_slot slot)]
      exact ⟨rfl, rfl⟩
    · rw [answerRequest_repeat ring (repeatAnswer_last slot last)]
      exact ⟨rfl, rfl⟩
    · rw [answerRequest_fresh ring (repeatAnswer_none slot last)]
      refine ⟨?retract, ?extend, fun accepted => ?accepted, takeAnswer_lastAnswer _ _ _ _ _, fun other => ?other,
        by simp⟩
      case retract =>
        rintro rfl
        have cases := retractAnswer_cases s source ring
        exact ⟨cases.1, fun may => cases.2.1 may, cases.2.2⟩
      case extend =>
        rintro rfl
        exact extendAnswer_cases s source ring
      case accepted =>
        dsimp only at accepted ⊢
        rw [accepted]
        obtain ⟨slot, group, written⟩ := takeAnswer_accepted source kind tag s
        exact ⟨slot, group.trans (by cases kind <;> rfl), written⟩
      case other =>
        dsimp only at other ⊢
        rw [takeAnswer_refused s other]
  refine ⟨fun s kind ring tag => answers s.own kind ring tag s, fun s chars h kind ring tag heard => ?_⟩
  intro row s1
  have runs : exec row s = hear chars (requestHeard kind) s := by cases kind <;> rfl
  refine ⟨fun elsewhere => ?_, fun here => ?_⟩
  · rw [runs]
    refine hear_valid heard ?_
    have elsewhere : h.dest ≠ (lineUsed s).own := elsewhere
    rw [requestHeard, if_pos rfl, if_neg elsewhere]
  · refine ⟨_, _, ?_, answers h.source kind ring tag (peerOther h.source h.seq (lineUsed s))⟩
    rw [runs]
    refine hear_valid heard ?_
    have here : h.dest = (lineUsed s).own := here
    rw [requestHeard, if_pos rfl, if_pos here]
    rfl

/-! ## The auto-close (R68) -/

/-- R65, R66: no request is accepted from an EXTENDING group. -/
theorem answerRequest_extending {source : Nat} {kind : RequestKind} {ring : RingNumber} {tag : Tag} {s : State}
    (extending : s.thu.group = .moving .extending) :
    (answerRequest source kind ring tag s).1.thu.group = .moving .extending := by
  unfold answerRequest
  split
  · exact extending
  · have refused : freshAnswer s source kind ring ≠ .accepted := by
      cases kind with
      | retract =>
        rw [freshAnswer, retractAnswer]
        split
        · simp
        · rw [if_neg (by simp [extending])]; simp
      | extend =>
        rw [freshAnswer, extendAnswer]
        split
        · simp
        · rw [if_neg (by simp [extending])]; simp
    dsimp only
    rw [takeAnswer_refused s refused]
    exact extending

theorem sendBack_extending {s : State} (extending : s.thu.group = .moving .extending) :
    (sendBack s).thu.group = .moving .extending := by
  unfold sendBack
  split
  · exact extending
  · split
    · exact extending
    · split
      · simpa [issueLocal] using answerRequest_extending (by simpa using extending)
      · simpa using extending

theorem suspend_extending {s : State} (extending : s.thu.group = .moving .extending) :
    (suspend s).thu.group = .moving .extending := by
  unfold suspend
  split
  · exact sendBack_extending (by simpa using extending)
  · exact extending

theorem buildPresence_extending (j : Nat) {s : State} (extending : s.thu.group = .moving .extending) :
    (buildPresence j s).thu.group = .moving .extending := by
  unfold buildPresence
  split
  · split
    · split
      · simpa using sendBack_extending extending
      · simpa using extending
    · split
      · simpa using suspend_extending extending
      · simpa using extending
  · exact extending

theorem evalDuties_extending {s : State} (extending : s.thu.group = .moving .extending) :
    (evalDuties s).thu = s.thu := by
  rw [(evalDuties_thu s).1, dutiesRecorded_of_standing (.inr (by simp [extending]))]
  rfl

theorem holderLeaves_closes {j : Nat} {s : State} (holder : s.ptb.erector.holder = some j)
    (gone : present s j = false) : holderLeaves j s = autoClose s :=
  if_pos ⟨holder, gone⟩

/-- R40: of the peer table no more has moved than agreement counters cleared. -/
def AgreementCleared (s u : State) : Prop :=
  ∀ k, peerOf u k = peerOf s k ∨ peerOf u k = { peerOf s k with agreement := 0 }

namespace AgreementCleared

theorem of_eq {s u : State} (h : u.ptb.peers = s.ptb.peers) : AgreementCleared s u :=
  fun k => .inl (peerOf_congr h k)

theorem trans {s u v : State} (h : AgreementCleared s u) (g : AgreementCleared u v) : AgreementCleared s v := by
  intro k
  rcases g k with g | g <;> rcases h k with h | h <;> rw [g, h]
  · exact .inl rfl
  · exact .inr rfl
  · exact .inr rfl
  · exact .inr rfl

theorem but_agreement {s u : State} (h : AgreementCleared s u) (k : Nat) :
    { peerOf u k with agreement := 0 } = { peerOf s k with agreement := 0 } := by
  rcases h k with h | h <;> rw [h]

theorem liveness {s u : State} (h : AgreementCleared s u) (k : Nat) :
    (peerOf u k).liveness = (peerOf s k).liveness := by
  rcases h k with h | h <;> rw [h]

theorem present {s u : State} (h : AgreementCleared s u) (k : Nat) : present u k = present s k := by
  rw [present_eq, present_eq, entryPresent, entryPresent, h.liveness k]

/-- An entry with its counter at 0 stands exactly. -/
theorem entry {s u : State} (h : AgreementCleared s u) {k : Nat} {e : PeerEntry} (same : peerOf s k = e)
    (zero : e.agreement = 0) : peerOf u k = e := by
  rcases h k with h | h
  · rw [h, same]
  · rw [h, same, ← zero]

end AgreementCleared

theorem agreementCleared_recomputeCandidate (s : State) : AgreementCleared s (recomputeCandidate s) := by
  unfold recomputeCandidate
  split
  · exact .of_eq rfl
  · exact fun k => .inr (peerOf_clearAgreement k _)

theorem agreementCleared_setApplied (l : Nat) (s : State) : AgreementCleared s (setApplied l s) :=
  .of_eq (by simp)

theorem agreementCleared_fallCheck (p : Nat) (s : State) : AgreementCleared s (fallCheck p s) := by
  unfold fallCheck
  split
  · exact (agreementCleared_setApplied p s).trans (agreementCleared_recomputeCandidate _)
  · exact .of_eq rfl

theorem agreementCleared_riseCheck (s : State) : AgreementCleared s (riseCheck s) := by
  unfold riseCheck
  split
  · exact .of_eq rfl
  · split
    · exact (agreementCleared_setApplied _ s).trans (agreementCleared_recomputeCandidate _)
    · exact .of_eq rfl

theorem agreementCleared_drivePresence (j : Nat) (s : State) : AgreementCleared s (drivePresence j s) := by
  unfold drivePresence
  split
  · exact ((agreementCleared_fallCheck _ s).trans (agreementCleared_recomputeCandidate _)).trans
      (agreementCleared_riseCheck _)
  · have forgotten : AgreementCleared s (s.onDsu fun d => { d with stoppedSince := putAt d.stoppedSince j none }) :=
      .of_eq rfl
    exact (forgotten.trans (agreementCleared_recomputeCandidate _)).trans (agreementCleared_riseCheck _)

theorem presenceNotice_closes {j : Nat} {s : State} (holder : s.ptb.erector.holder = some j)
    (gone : present s j = false)
    (out : s.thu.group = .moving .retracting ∨ s.thu.group = .moving .retracted) :
    (presenceNotice j s).thu.group = .moving .extending ∧ (presenceNotice j s).thu.orphaned = true := by
  have presence := (agreementCleared_drivePresence j s).present j
  rw [presenceNotice, holderLeaves_closes (by simpa using holder) (presence.trans gone)]
  have closed := (autoClose_out (s := drivePresence j s) (by simpa using out)).1
  have group := buildPresence_extending j (s := autoClose (drivePresence j s)) (by rw [closed])
  rw [evalDuties_extending group]
  exact ⟨group, by simp [closed]⟩

theorem holderHere_iff (s : State) (holder : Option Nat) :
    holderHere s holder = true ↔ ∃ h, holder = some h ∧ (h = s.own ∨ present s h = true) := by
  cases holder <;> simp [holderHere]

/-- Settles O23: the ends of a stroke and of both movements, the auto-close and the end of BUILD_ORPHANED. -/
theorem strokeEndAndMovementsEnd : Obligations.StrokeEndAndMovementsEnd := by
  refine ⟨fun s => ⟨fun advancing read reached => ⟨strokeEndTest_ends advancing read reached, by simp⟩,
      strokeEndTest_stays, fun retracting => ⟨fun valid reached => ?_, fun other => if_neg ?_, fun limit => ?_⟩,
      groupPressureArrival_holds, groupPressureArrival_stays⟩,
    fun s j => ⟨fun holder gone out => ?_, fun other => ?_⟩, fun s => ⟨fun holding here => ?_, fun other => ?_⟩⟩
  · rw [retractionTest, if_pos ⟨valid, reached⟩]
    exact completeRetraction_completes retracting
  · rintro ⟨valid, reached⟩
    exact other.elim (· valid) (not_lt.2 reached)
  · rw [limitArrival, if_pos ⟨rfl, limit⟩]
    exact (completeRetraction_completes retracting).1
  · obtain ⟨group, orphaned⟩ := presenceNotice_closes holder gone out
    rw [holderLeaves_closes holder gone]
    refine ⟨(autoClose_out out).1, ?_, group, orphaned⟩
    rw [autoClose, if_pos out]
    exact setGroup_written _ _
  · unfold holderLeaves
    split
    · next both =>
      refine if_neg (other.elim (fun h => absurd both.1 h) fun h => h.elim (fun here => ?_) id)
      rw [both.2] at here
      cases here
    · rfl
  · exact if_pos ⟨holding, (holderHere_iff s _).2 here⟩
  · refine if_neg fun both => other.elim (fun h => h both.1) fun h => h ((holderHere_iff s _).1 both.2)

end Sys2Proof.Machine
end

section
/-! The build's orders and timers (04_ring_building section 4.2 to 4.6). -/

namespace Sys2Proof.Machine

open Sys2Proof

/-! ## The steps entered (R78 to R81) -/

/-- A change of the build state leaves everything but BSQ and the erector's pins. -/
theorem setBuild_rest (b : BuildState) (s : State) : { setBuild b s with bsq := s.bsq, fpt := s.fpt } = s := rfl

theorem pickTest_rest (s : State) : { pickTest s with bsq := s.bsq, fpt := s.fpt } = s := by
  unfold pickTest
  split <;> rfl

theorem enterPick_rest (s : State) : { enterPick s with bsq := s.bsq, fpt := s.fpt } = s :=
  (congrArg (fun u : State => { u with bsq := s.bsq, fpt := s.fpt }) (pickTest_rest (setBuild .pick s))).trans
    (setBuild_rest .pick s)

theorem buildWaitTest_rest (s : State) : { buildWaitTest s with bsq := s.bsq, fpt := s.fpt } = s := by
  unfold buildWaitTest
  split
  · split
    · exact enterPick_rest s
    · rfl
    · rfl
    · rfl
  · rfl

theorem inputTrue_setBuild (b : BuildState) (s : State) (c : Channel) :
    inputTrue (setBuild b s) c = inputTrue s c := rfl

/-- R79: PICK entered, with FEEDER_READY read at once. -/
theorem enterPick_fed {s : State} (fed : inputTrue s .feederReady = true) :
    (enterPick s).bsq =
        { enterBuild .pick s.elapsed s.bsq with progress := .gripped, gripTimer := some s.elapsed } ∧
      (enterPick s).fpt.written = { s.fpt.written with erector := .grip (placementInHand s).segment } := by
  have reads : (setBuild .pick s).bsq.state = .pick ∧ (setBuild .pick s).bsq.gripTimer = none ∧
      inputTrue (setBuild .pick s) .feederReady = true := ⟨by rw [setBuild_bsq]; rfl, by rw [setBuild_bsq]; rfl, fed⟩
  rw [enterPick, pickTest, if_pos reads]
  exact ⟨by simp [setBuild_bsq], by simp [placementInHand, setBuild_written]⟩

theorem enterPick_unfed {s : State} (unfed : ¬inputTrue s .feederReady = true) :
    enterPick s = setBuild .pick s :=
  if_neg fun reads => unfed reads.2.2

/-- R78: the step BUILD_WAIT goes on to. -/
def stepOf : Progress → BuildState
  | .new => .pick
  | .gripped => .travel
  | .placed => .travel
  | .complete => .release

/-- R79: the progress after the step is entered: a fed PICK has gripped. -/
def progressAt (fed : Bool) : Progress → Progress
  | .new => if fed then .gripped else .new
  | .gripped => .gripped
  | .placed => .placed
  | .complete => .complete

theorem progressAt_of_ne {p : Progress} (fed : Bool) (h : p ≠ .new) : progressAt fed p = p := by
  cases p <;> simp_all [progressAt]

theorem buildWaitTest_goes {s : State} (waiting : s.bsq.state = .buildWait) (all : allBuilding s = true) :
    (buildWaitTest s).bsq.state = stepOf s.bsq.progress ∧
      (buildWaitTest s).bsq.progress = progressAt (inputTrue s .feederReady) s.bsq.progress ∧
      (buildWaitTest s).bsq.stepTimer = some s.elapsed ∧
      (buildWaitTest s).bsq.timedOut = s.bsq.timedOut ∧ (buildWaitTest s).bsq.unanswered = s.bsq.unanswered := by
  rw [buildWaitTest, if_pos ⟨waiting, all⟩]
  cases progress : s.bsq.progress with
  | new =>
    by_cases fed : inputTrue s .feederReady = true
    · rw [(enterPick_fed fed).1]
      simp [enterBuild, stepOf, progressAt, fed, waiting, BuildState.stepping]
    · rw [enterPick_unfed fed, setBuild_bsq]
      simp [enterBuild, stepOf, progressAt, fed, waiting, progress, BuildState.stepping]
  | gripped | placed | complete =>
    dsimp only
    rw [setBuild_bsq]
    simp [enterBuild, stepOf, progressAt, waiting, progress, BuildState.stepping]

theorem buildWaitTest_stays {s : State} (h : ¬(s.bsq.state = .buildWait ∧ allBuilding s = true)) :
    buildWaitTest s = s :=
  if_neg h

theorem allBuilding_iff (s : State) : allBuilding s = true ↔ ∀ p ∈ presentPeers s, p.2.phase = .building := by
  simp [allBuilding]

theorem allBuilding_congr {s u : State} (peers : u.ptb.peers = s.ptb.peers) : allBuilding u = allBuilding s := by
  rw [allBuilding, allBuilding, presentPeers_of_ptb peers]

/-- R78: what BUILD_WAIT comes to where it is entered. -/
theorem enterBuildWait_rest (s : State) : { enterBuildWait s with bsq := s.bsq, fpt := s.fpt } = s :=
  (congrArg (fun u : State => { u with bsq := s.bsq, fpt := s.fpt }) (buildWaitTest_rest (setBuild .buildWait s))).trans
    (setBuild_rest .buildWait s)

theorem enterBuildWait_goes {s : State} (all : allBuilding s = true) :
    (enterBuildWait s).bsq.state = stepOf s.bsq.progress ∧
      (enterBuildWait s).bsq.progress = progressAt (inputTrue s .feederReady) s.bsq.progress := by
  have waiting : (setBuild .buildWait s).bsq.state = .buildWait := by rw [setBuild_bsq]; rfl
  obtain ⟨state, progress, -⟩ := buildWaitTest_goes waiting (s := setBuild .buildWait s)
    ((allBuilding_congr (by simp)).trans all)
  rw [enterBuildWait, state, progress, inputTrue_setBuild]
  simp

theorem enterBuildWait_waits {s : State} (some : ¬allBuilding s = true) :
    enterBuildWait s = setBuild .buildWait s :=
  buildWaitTest_stays fun both => some ((allBuilding_congr (by simp)).symm.trans both.2)

/-- R81: the step timer starts, and the conditions of SUSPENDED are over. -/
theorem enterBuildWait_timers (s : State) :
    (enterBuildWait s).bsq.stepTimer = some s.elapsed ∧
      (s.bsq.state = .suspended →
        (enterBuildWait s).bsq.timedOut = false ∧ (enterBuildWait s).bsq.unanswered = false) := by
  have waiting : (setBuild .buildWait s).bsq.state = .buildWait := by rw [setBuild_bsq]; rfl
  by_cases all : allBuilding s = true
  · obtain ⟨-, -, step, timedOut, unanswered⟩ := buildWaitTest_goes waiting (s := setBuild .buildWait s)
      ((allBuilding_congr (by simp)).trans all)
    rw [enterBuildWait, step, timedOut, unanswered, setBuild_bsq]
    exact ⟨by simp, fun suspended => by simp [enterBuild, suspended]⟩
  · rw [enterBuildWait_waits all, setBuild_bsq]
    exact ⟨rfl, fun suspended => by simp [enterBuild, suspended]⟩

/-! ## BUILD (R72, R77) -/

theorem buildTaken_iff (s : State) :
    buildTaken s = true ↔
      s.phase = .idle ∧ s.dsu.cutterhead = .stopped ∧
        (s.thu.strokeEnd = true ∨ s.cfg.image.sBuildMin ≤ s.thu.stroke) ∧ stopInForce s = false := by
  simp [buildTaken, and_assoc]

theorem enterBuilding_stopped {s : State} (stopped : s.dsu.cutterhead = .stopped) :
    enterBuilding s =
      { s with phase := .building, pauseCause := .none, bsq := { s.bsq with holderSeen := false } } := by
  have stopped : (clearHolderSeen (plainPhase .building s)).dsu.cutterhead = .stopped := stopped
  rw [enterBuilding, driveStandstill, stopped]
  rfl

theorem beginBuild_stays {s : State} (h : s.bsq.state ≠ .idle) : beginBuild s = s := if_neg h

/-- R77: the registers of the plan a BUILD starts or goes on with. -/
def plannedBuild (s : State) : State :=
  (cursorCheck s).onBsq fun q => { q with buildStart := some (q.buildStart.getD s.elapsed) }

theorem beginBuild_idle {s : State} (idle : s.bsq.state = .idle) :
    beginBuild s = enterBuildWait (plannedBuild s) :=
  if_pos idle

theorem plannedBuild_bsq (s : State) :
    (plannedBuild s).bsq =
      if s.bsq.cursorRing = s.ring then { s.bsq with buildStart := some (s.bsq.buildStart.getD s.elapsed) }
      else
        { s.bsq with
          cursor := 0, progress := .new, cursorRing := s.ring, buildStart := some s.elapsed, placed := 0
          substituted := List.replicate 8 false } := by
  unfold plannedBuild cursorCheck
  split <;> rfl

theorem plannedBuild_rest (s : State) : { plannedBuild s with bsq := s.bsq } = s := by
  unfold plannedBuild cursorCheck
  split <;> rfl

/-- R77: a build begun in build state IDLE, from the cursor check to the step it enters. -/
theorem begunBuild (e : State) :
    let u := enterBuildWait (plannedBuild e)
    let progress := if e.bsq.cursorRing = e.ring then e.bsq.progress else .new
    let peersBuild := ∀ p ∈ presentPeers e, p.2.phase = .building
    u.bsq.cursorRing = e.ring ∧ (u.bsq.cursor = if e.bsq.cursorRing = e.ring then e.bsq.cursor else 0) ∧
      (e.bsq.cursorRing = e.ring → u.bsq.placed = e.bsq.placed ∧ u.bsq.substituted = e.bsq.substituted ∧
        u.bsq.buildStart = some (e.bsq.buildStart.getD e.elapsed)) ∧
      (e.bsq.cursorRing ≠ e.ring → u.bsq.placed = 0 ∧ u.bsq.substituted = List.replicate 8 false ∧
        u.bsq.buildStart = some e.elapsed) ∧
      (¬peersBuild → u.bsq.state = .buildWait ∧ u.bsq.progress = progress) ∧
      (peersBuild → u.bsq.state = stepOf progress ∧
        u.bsq.progress = progressAt (inputTrue e .feederReady) progress) ∧
      u.bsq.stepTimer = some e.elapsed ∧ u.bsq.nextTag = e.bsq.nextTag ∧
      { u with bsq := e.bsq, fpt := e.fpt } = e := by
  have rest := enterBuildWait_rest (plannedBuild e)
  have plan := plannedBuild_bsq e
  have progress : (plannedBuild e).bsq.progress = if e.bsq.cursorRing = e.ring then e.bsq.progress else .new := by
    rw [plan]; split <;> rfl
  have fed : inputTrue (plannedBuild e) .feederReady = inputTrue e .feederReady := by
    unfold plannedBuild cursorCheck; split <;> rfl
  have all : allBuilding (plannedBuild e) = allBuilding e := allBuilding_congr (by simp [plannedBuild])
  have elapsed : (plannedBuild e).elapsed = e.elapsed := by simp [plannedBuild]
  refine ⟨?_, ?_, fun same => ?_, fun moved => ?_, fun some => ?_, fun peers => ?_, ?_, ?_, ?_⟩
  · simp [enterBuildWait, plan]; split <;> simp_all
  · simp [enterBuildWait, plan]; split <;> rfl
  · simp [enterBuildWait, plan, same]
  · simp [enterBuildWait, plan, moved]
  · have some : ¬allBuilding (plannedBuild e) = true := by rw [all, allBuilding_iff]; exact some
    rw [enterBuildWait_waits some, setBuild_bsq, ← progress]
    exact ⟨rfl, rfl⟩
  · have peers : allBuilding (plannedBuild e) = true := by rw [all, allBuilding_iff]; exact peers
    rw [← progress, ← fed]
    exact enterBuildWait_goes peers
  · rw [← elapsed]
    exact (enterBuildWait_timers _).1
  · simp [enterBuildWait, plan]; split <;> rfl
  · have outer := congrArg (fun u : State => { u with bsq := e.bsq, fpt := e.fpt }) rest
    refine outer.trans ?_
    unfold plannedBuild cursorCheck
    split <;> rfl

/-- Settles O25: BUILD refused, taken without a plan, and taken with it. -/
theorem buildOrderStartsTheBuild : Obligations.BuildOrderStartsTheBuild := by
  intro s chars tag ho
  refine ⟨fun barred => ?refused, fun taken other => ?plain, fun taken exercised idle => ?planned⟩
  case refused =>
    exact hear_ordered_of_rule (rule := ruleBuild) ho rfl (if_neg (mt (buildTaken_iff (atOrder s)).1 barred))
  case plain =>
    refine hear_ordered_of_rule (rule := ruleBuild) ho rfl
      ((if_pos ((buildTaken_iff (atOrder s)).2 taken)).trans ?_)
    have entered := enterBuilding_stopped (s := atOrder s) taken.2.1
    rw [entered]
    split
    · next active =>
      exact congrArg (Prod.mk _) (beginBuild_stays (other.resolve_left (by simpa [bsqActive] using active)))
    · rfl
  case planned =>
    have entered := enterBuilding_stopped (s := atOrder s) taken.2.1
    have judged : ruleBuild [] (atOrder s) =
        (.accepted, enterBuildWait (plannedBuild (enterBuilding (atOrder s)))) := by
      have active : bsqActive (atOrder s) = true := exercised
      rw [ruleBuild, if_pos ((buildTaken_iff (atOrder s)).2 taken), if_pos active, beginBuild_idle]
      rw [entered]
      exact idle
    rw [entered] at judged
    obtain ⟨ring, cursor, same, moved, waits, goes, step, tag, rest⟩ := begunBuild
      { atOrder s with phase := .building, pauseCause := .none, bsq := { (atOrder s).bsq with holderSeen := false } }
    refine ⟨_, hear_ordered_of_rule (rule := ruleBuild) ho rfl judged, congrArg (·.phase) rest,
      congrArg (·.pauseCause) rest, ring, cursor, same, moved, waits, fun peers new => ?_, fun peers held => ?_,
      fun peers complete => ?_, step, tag,
      congrArg (fun x : State => { x with phase := s.phase, pauseCause := s.pauseCause, bsq := s.bsq, fpt := s.fpt })
        rest⟩
    · obtain ⟨state, progress⟩ := goes peers
      exact ⟨state.trans (congrArg stepOf new), progress.trans (congrArg (progressAt _) new)⟩
    · obtain ⟨state, progress⟩ := goes peers
      rcases held with held | held
      · exact ⟨state.trans (congrArg stepOf held), progress.trans (progressAt_of_ne _ fun new => absurd (held.symm.trans new) (by simp))⟩
      · exact ⟨state.trans (congrArg stepOf held), progress.trans (progressAt_of_ne _ fun new => absurd (held.symm.trans new) (by simp))⟩
    · obtain ⟨state, progress⟩ := goes peers
      exact ⟨state.trans (congrArg stepOf complete), progress.trans (congrArg (progressAt _) complete)⟩

/-! ## What asking a group back leaves (R90) -/

theorem answerRequest_erector (source : Nat) (kind : RequestKind) (ring : RingNumber) (tag : Tag) (s : State) :
    (answerRequest source kind ring tag s).1.fpt.written.erector = s.fpt.written.erector := by
  unfold answerRequest
  split
  · rfl
  · unfold takeAnswer
    dsimp only
    split
    · rw [setGroup_written]; rfl
    · rfl

/-- R82, R90: of BSQ only the request's registers move. -/
theorem BringsBack.bsq {s u : State} (h : BringsBack s u) :
    u.bsq =
      { s.bsq with
        request := u.bsq.request, nextTag := u.bsq.nextTag, answerWait := u.bsq.answerWait
        unanswered := u.bsq.unanswered, retraction := u.bsq.retraction } := by
  obtain ⟨sends, quiet⟩ := h
  by_cases due : ∃ t, s.bsq.retraction = some t ∧ ExtensionDue s t
  · obtain ⟨t, retraction, due⟩ := due
    obtain ⟨peer, own⟩ := sends t retraction due
    by_cases target : t.target = s.own
    · rw [(own target).1]
    · rw [(peer target).1]
  · rw [quiet fun t retraction due' => due ⟨t, retraction, due'⟩]

theorem BringsBack.erector {s u : State} (h : BringsBack s u) :
    u.fpt.written.erector = s.fpt.written.erector := by
  obtain ⟨sends, quiet⟩ := h
  by_cases due : ∃ t, s.bsq.retraction = some t ∧ ExtensionDue s t
  · obtain ⟨t, retraction, due⟩ := due
    obtain ⟨peer, own⟩ := sends t retraction due
    by_cases target : t.target = s.own
    · have rest := congrArg (·.fpt.written.erector) (own target).2
      exact rest.trans (answerRequest_erector _ _ _ _ s)
    · have rest := congrArg (·.fpt.written.erector) (peer target).2
      exact rest.trans (by simp)
  · rw [quiet fun t retraction due' => due ⟨t, retraction, due'⟩]

theorem BringsBack.none {s u : State} (h : BringsBack s u) (none : s.bsq.retraction = none) : u = s :=
  h.2 fun t some => by rw [none] at some; cases some

/-- R89: what a suspension leaves of BSQ, whatever the group is asked. -/
theorem EntersSuspended.bsq {s u : State} (h : EntersSuspended s u) (underway : Underway s) :
    u.bsq =
        { s.bsq with
          state := .suspended, issued := false, stepTimer := none, gripTimer := none, retractTimer := none
          extendTimer := none, releaseTimer := none, request := u.bsq.request, nextTag := u.bsq.nextTag
          answerWait := u.bsq.answerWait, unanswered := u.bsq.unanswered, retraction := u.bsq.retraction } ∧
      u.fpt.written.erector = .hold := by
  obtain ⟨e, ⟨bsq, written, -, -⟩, back⟩ := h
  have erector := back.erector
  rw [written] at erector
  refine ⟨?_, erector⟩
  have whole := back.bsq
  rw [bsq] at whole
  rw [whole]
  simp [underway.2]

/-! ## RESUME_BUILD and ABORT_BUILD (R74, R91, R92) -/

theorem endBuilding_holding {s : State} (holding : s.thu.group = .moving .holding) :
    endBuilding s =
      { s with
        phase := .idle, pauseCause := .none, bsq := { s.bsq with holderSeen := false }
        thu := { s.thu with slot := none } } := by
  have stands : ¬((clearHolderSeen (plainPhase .idle s)).thu.group = .moving .retracting ∨
      (clearHolderSeen (plainPhase .idle s)).thu.group = .moving .retracted ∨
      (clearHolderSeen (plainPhase .idle s)).thu.group = .moving .extending) := by
    simp [clearHolderSeen, plainPhase, holding]
  rw [endBuilding, groupLeaveBuilding, if_neg stands]
  rfl

theorem noBuildLed_iff (s : State) :
    noBuildLed s = true ↔
      ¬∃ h r, s.ptb.erector.holder = some h ∧ served s h = some r ∧
        (buildStateShown r ≠ some .idle ∨ s.bsq.holderSeen = true) := by
  unfold noBuildLed
  split
  · next none => simp [none]
  · next h holder =>
    split
    · next none => simp [holder, none]
    · next r record => simp [holder, record]

/-- R92: a build SUSPENDED with every group back ends. -/
theorem abortHere_ends {s : State} (suspended : s.bsq.state = .suspended) (back : s.bsq.retraction = none) :
    abortHere s = (.accepted, if s.phase = .building then endBuilding (setBuild .idle s) else setBuild .idle s) := by
  simp [abortHere, suspended, back, BuildState.stepping]

theorem abortHere_waits {s : State} {r : Retraction} (suspended : s.bsq.state = .suspended)
    (out : s.bsq.retraction = some r) : abortHere s = (.refusedState, s) := by
  simp [abortHere, suspended, out, BuildState.stepping]

theorem abortHere_idle {s : State} (idle : s.bsq.state = .idle) :
    abortHere s =
      if s.phase = .building ∧ s.thu.group = .moving .holding then (.accepted, endBuilding s) else (.done, s) := by
  simp [abortHere, idle, BuildState.stepping]

theorem endedBuild (s : State) :
    let u := if s.phase = .building then endBuilding (setBuild .idle s) else setBuild .idle s
    u.bsq.state = .idle ∧ u.bsq.request = none ∧ u.bsq.cursor = s.bsq.cursor ∧
      u.bsq.cursorRing = s.bsq.cursorRing ∧ u.bsq.progress = s.bsq.progress ∧ u.bsq.placed = s.bsq.placed ∧
      u.bsq.buildStart = s.bsq.buildStart ∧ u.bsq.substituted = s.bsq.substituted ∧
      (u.phase = if s.phase = .building then .idle else s.phase) ∧ u.ring = s.ring ∧ u.dsu = s.dsu ∧
      u.gru = s.gru ∧ u.bal = s.bal ∧ u.thu.counter = s.thu.counter ∧ u.thu.strokeEnd = s.thu.strokeEnd ∧
      u.ptb = s.ptb ∧ u.cfg = s.cfg := by
  dsimp only
  split
  · rw [endBuilding_phase, endBuilding_bsq, setBuild_bsq]
    simp [enterBuild]
  · rw [setBuild_bsq]
    simp [enterBuild]

/-- Settles O26: RESUME_BUILD through BUILD_WAIT, and ABORT_BUILD by the build state and by who leads the build. -/
theorem resumeAndAbortFollowTheBuildState : Obligations.ResumeAndAbortFollowTheBuildState := by
  refine ⟨fun s chars tag ho => ⟨fun barred => ?refused, fun taken => ?resumed⟩, fun s chars tag ho =>
    ⟨fun here => ⟨fun underway => ?suspends, fun suspended back => ?ends, fun r suspended out => ?waits,
      fun idle building holding => ?leaves, fun idle other => ?done⟩,
    fun elsewhere => ⟨fun building unled holding => ?elsewhereEnds, fun building unled out => ?elsewhereRefused,
      fun other => ?notHere⟩⟩⟩
  case refused => exact hear_ordered_of_rule (rule := ruleResumeBuild) ho rfl (if_neg barred)
  case resumed =>
    obtain ⟨step, conditions⟩ := enterBuildWait_timers (atOrder s)
    obtain ⟨timedOut, unanswered⟩ := conditions taken.1
    have all : allBuilding (atOrder s) = true ↔ ∀ p ∈ presentPeers s, p.2.phase = .building :=
      allBuilding_iff (atOrder s)
    refine ⟨enterBuildWait (atOrder s), hear_ordered_of_rule (rule := ruleResumeBuild) ho rfl (if_pos taken), ?_,
      fun held => ?_, timedOut, unanswered, step, ?_⟩
    · split
      · next peers => exact (enterBuildWait_goes (all.2 peers)).1
      · next some => rw [enterBuildWait_waits (mt all.1 some), setBuild_bsq]; rfl
    · by_cases peers : allBuilding (atOrder s) = true
      · rw [(enterBuildWait_goes peers).2]
        exact progressAt_of_ne _ fun new => held ⟨all.1 peers, new⟩
      · rw [enterBuildWait_waits peers, setBuild_bsq]; rfl
    · refine ⟨?_, ?_, ?_, ?_, ?_, ?_, enterBuildWait_rest (atOrder s)⟩ <;> simp [enterBuildWait]
  case suspends =>
    have underway' : Underway (atOrder s) := underway
    have enters := suspend_enters underway'
    obtain ⟨bsq, erector⟩ := enters.bsq underway'
    refine ⟨suspend (atOrder s), hear_ordered_of_rule (rule := ruleAbortBuild) ho rfl
      ((if_pos here).trans (if_pos ((stepping_iff_underway _).2 underway'))), enters, ?_⟩
    rw [bsq, erector]
    refine ⟨rfl, rfl, rfl, rfl, rfl, rfl, rfl, rfl, rfl, rfl, rfl, rfl, rfl, ?_⟩
    obtain ⟨-, -, phase, -, ring, cfg, ptb, -, dsu, gru, bal⟩ := suspend_frame (atOrder s)
    exact ⟨phase, ring, dsu, gru, bal, ptb, cfg⟩
  case ends =>
    refine ⟨_, hear_ordered_of_rule (rule := ruleAbortBuild) ho rfl
      ((if_pos here).trans (abortHere_ends (s := atOrder s) suspended back)), endedBuild (atOrder s)⟩
  case waits =>
    exact hear_ordered_of_rule (rule := ruleAbortBuild) ho rfl
      ((if_pos here).trans (abortHere_waits (s := atOrder s) suspended out))
  case leaves =>
    refine hear_ordered_of_rule (rule := ruleAbortBuild) ho rfl
      ((if_pos here).trans ((abortHere_idle (s := atOrder s) idle).trans ((if_pos ⟨building, holding⟩).trans ?_)))
    rw [endBuilding_holding (s := atOrder s) holding]
    rfl
  case done =>
    exact hear_ordered_of_rule (rule := ruleAbortBuild) ho rfl
      ((if_pos here).trans ((abortHere_idle (s := atOrder s) idle).trans (if_neg other)))
  case elsewhereEnds =>
    have off : ¬(atOrder s).ptb.exErector = true := by rw [show (atOrder s).ptb.exErector = false from elsewhere]; simp
    refine hear_ordered_of_rule (rule := ruleAbortBuild) ho rfl
      ((if_neg off).trans ((if_pos ⟨building, (noBuildLed_iff (atOrder s)).2 unled⟩).trans
        ((if_pos holding).trans ?_)))
    rw [endBuilding_holding (s := atOrder s) holding]
    rfl
  case elsewhereRefused =>
    have off : ¬(atOrder s).ptb.exErector = true := by rw [show (atOrder s).ptb.exErector = false from elsewhere]; simp
    exact hear_ordered_of_rule (rule := ruleAbortBuild) ho rfl
      ((if_neg off).trans ((if_pos ⟨building, (noBuildLed_iff (atOrder s)).2 unled⟩).trans (if_neg out)))
  case notHere =>
    have off : ¬(atOrder s).ptb.exErector = true := by rw [show (atOrder s).ptb.exErector = false from elsewhere]; simp
    refine hear_ordered_of_rule (rule := ruleAbortBuild) ho rfl ((if_neg off).trans (if_neg fun both => ?_))
    exact other.elim (fun h => h both.1) ((noBuildLed_iff (atOrder s)).1 both.2)

/-! ## The timers of a step (R79, R81, R85, R87) -/

/-- R89: a build underway suspended with cause BUILD_TIMEOUT. -/
theorem suspendTimedOut_suspends {s : State} (underway : Underway s) :
    let u := suspendTimedOut s
    EntersSuspended { s with bsq := { s.bsq with timedOut := true } } u ∧
      u.bsq.state = .suspended ∧ u.bsq.timedOut = true ∧
      u.bsq.stepTimer = none ∧ u.bsq.retractTimer = none ∧ u.bsq.extendTimer = none ∧
      u.bsq.gripTimer = none ∧ u.bsq.releaseTimer = none ∧ u.bsq.cursor = s.bsq.cursor ∧
      u.bsq.progress = s.bsq.progress ∧ u.bsq.cursorRing = s.bsq.cursorRing ∧
      u.bsq.placed = s.bsq.placed ∧ u.fpt.written.erector = .hold ∧
      (s.bsq.retraction = none → u.thu = s.thu ∧ u.lif = s.lif ∧ u.bsq.request = s.bsq.request) ∧
      u.phase = s.phase ∧ u.ring = s.ring ∧ u.dsu = s.dsu ∧ u.gru = s.gru ∧ u.bal = s.bal ∧
      u.ptb = s.ptb ∧ u.cfg = s.cfg ∧ u.oru = s.oru := by
  dsimp only
  have underway' : Underway (s.onBsq fun q => { q with timedOut := true }) := underway
  have enters := suspend_enters underway'
  obtain ⟨bsq, erector⟩ := enters.bsq underway'
  rw [suspendTimedOut]
  refine ⟨enters, ?_⟩
  have quiet (back : s.bsq.retraction = none) :
      suspend (s.onBsq fun q => { q with timedOut := true }) =
        setBuild .suspended (s.onBsq fun q => { q with timedOut := true }) := by
    rw [suspend, if_pos ((stepping_iff_underway _).2 underway')]
    exact (sendBack_bringsBack _).none (by simp [setBuild_bsq, enterBuild, back])
  refine ⟨congrArg (·.state) bsq, congrArg (·.timedOut) bsq, congrArg (·.stepTimer) bsq,
    congrArg (·.retractTimer) bsq, congrArg (·.extendTimer) bsq, congrArg (·.gripTimer) bsq,
    congrArg (·.releaseTimer) bsq, congrArg (·.cursor) bsq, congrArg (·.progress) bsq, congrArg (·.cursorRing) bsq,
    congrArg (·.placed) bsq, erector, fun back => ?_, by simp⟩
  rw [quiet back, setBuild_bsq]
  exact ⟨by simp, by simp, rfl⟩

/-- Settles O27: the change of the build state, the three suspending timers, and the end of the grip. -/
theorem buildTimersSuspendOrMoveOn : Obligations.BuildTimersSuspendOrMoveOn := by
  refine ⟨fun s b other => setBuild_enters other s, fun s i start expired underway => ?timers,
    fun s start timer due => ?grip⟩
  case timers =>
    refine ⟨suspendTimedOut s, ?_, suspendTimedOut_suspends underway⟩
    rcases expired with ⟨rfl, timer, due⟩ | ⟨rfl, timer, due⟩ | ⟨rfl, timer, due⟩
    · change execStepTimerExpiry s = _
      rw [execStepTimerExpiry, timer, onExpiry_due (span := s.cfg.image.tStep) due]
    · change execRetractTimerExpiry s = _
      rw [execRetractTimerExpiry, timer, onExpiry_due (span := s.cfg.image.tRetract) due]
    · change execExtendTimerExpiry s = _
      rw [execExtendTimerExpiry, timer, onExpiry_due (span := s.cfg.image.tExtend) due]
  case grip =>
    refine ⟨setBuild .travel s, ?_, ?_⟩
    · change execGripTimerExpiry s = _
      rw [execGripTimerExpiry, timer, onExpiry_due (span := s.cfg.image.tGrip) due]
    · rw [setBuild_bsq, setBuild_written]
      exact ⟨rfl, rfl, rfl, rfl, rfl, rfl, setBuild_rest .travel s⟩

end Sys2Proof.Machine
end

section
/-! The release timer: the next placement or the ring close (04_ring_building section 4.4 and 4.7). -/

namespace Sys2Proof.Machine

open Sys2Proof

/-! ## The next placement (R88) -/

/-- R88: the placement counted. -/
def countedPlacement (s : State) : State := { s with bsq := { s.bsq with placed := s.bsq.placed + 1 } }

/-- R88: the cursor at the next placement. -/
def nextPlacement (s : State) : State :=
  { s with bsq := { s.bsq with placed := s.bsq.placed + 1, cursor := s.bsq.cursor + 1, progress := .new } }

theorem releaseExpires_next {s : State} (more : (placementAt s.cfg.image s.bsq.cursor).key = false) :
    releaseExpires s = enterPick (nextPlacement s) :=
  if_neg (by rw [placementInHand, more]; simp)

theorem releaseExpires_key {s : State} (key : (placementAt s.cfg.image s.bsq.cursor).key = true) :
    releaseExpires s = holderRingClose (countedPlacement s) :=
  if_pos key

/-- R79: what PICK takes from the state it is entered from. -/
theorem enterPick_registers (s : State) :
    (enterPick s).bsq.state = .pick ∧ (enterPick s).bsq.placed = s.bsq.placed ∧
      (enterPick s).bsq.cursor = s.bsq.cursor ∧
      (enterPick s).bsq.progress = (if inputTrue s .feederReady then .gripped else s.bsq.progress) ∧
      (enterPick s).fpt.written.erector =
        (if inputTrue s .feederReady then .grip (placementInHand s).segment else .hold) ∧
      (enterPick s).bsq.stepTimer = some s.elapsed ∧ (enterPick s).bsq.cursorRing = s.bsq.cursorRing ∧
      (enterPick s).bsq.buildStart = s.bsq.buildStart := by
  by_cases fed : inputTrue s .feederReady = true
  · obtain ⟨bsq, written⟩ := enterPick_fed fed
    rw [bsq, written, if_pos fed, if_pos fed]
    exact ⟨rfl, rfl, rfl, rfl, rfl, rfl, rfl, rfl⟩
  · rw [enterPick_unfed fed, setBuild_bsq, setBuild_written, if_neg fed, if_neg fed]
    exact ⟨rfl, rfl, rfl, rfl, rfl, rfl, rfl, rfl⟩

/-! ## The ring close of the holder (R93, R94) -/

theorem closeRing_blocks (s : State) :
    (closeRing s).dsu = (ringClosed s).dsu ∧ (closeRing s).gru = (ringClosed s).gru ∧
      (closeRing s).bal = (ringClosed s).bal := by
  rw [closeRing_eq]
  split <;> simp

theorem closeRing_phase (s : State) : (closeRing s).phase = if s.phase = .building then .idle else s.phase := by
  rw [closeRing_eq]
  split
  · exact endBuilding_phase _
  · rfl

/-- R69: the group at a ring close that ends the phase BUILDING. -/
theorem closeRing_group {s : State} (building : s.phase = .building) :
    (closeRing s).thu.slot = none ∧
      (s.thu.group = .moving .retracting ∨ s.thu.group = .moving .retracted ∨ s.thu.group = .moving .extending →
        (closeRing s).thu.group = .moving .holding) := by
  rw [closeRing_of_building building]
  exact ⟨endBuilding_slot _, fun out => endBuilding_group (s := ringClosed s) out⟩

/-- R93: the state the record is taken from. -/
def flaggedPlacement (s : State) : State :=
  setFlagIf (volumesClamp (countedPlacement s)) .saturated (countedPlacement s)

/-- R93: the record handed and the ring number risen, the blocks still to close. -/
def advancedRing (s : State) : State :=
  advanceRing (handFrames (reportFrames (flaggedPlacement s)) (flaggedPlacement s))

theorem holderRingClose_eq (s : State) :
    holderRingClose (countedPlacement s) = setBuild .idle (closeRing (advancedRing s)) := rfl

/-- R93: up to the blocks' close nothing has moved but the ring number, BSQ's record, the line and a flag. -/
theorem advancedRing_blocks (s : State) :
    (advancedRing s).ring = s.ring + 1 ∧ (advancedRing s).dsu = s.dsu ∧ (advancedRing s).thu = s.thu ∧
      (advancedRing s).gru = s.gru ∧ (advancedRing s).bal = s.bal ∧ (advancedRing s).phase = s.phase ∧
      (advancedRing s).ptb = s.ptb ∧ (advancedRing s).cfg = s.cfg ∧ (advancedRing s).elapsed = s.elapsed ∧
      (advancedRing s).lif = (handFrames (reportFrames (flaggedPlacement s)) (flaggedPlacement s)).lif := by
  simp [advancedRing, advanceRing, flaggedPlacement, countedPlacement]

theorem advancedRing_bsq (s : State) :
    (advancedRing s).bsq =
      { s.bsq with
        cursor := 0, progress := .new, cursorRing := s.ring + 1, buildStart := none, placed := 0
        substituted := List.replicate 8 false } := by
  simp [advancedRing, advanceRing, flaggedPlacement, countedPlacement]

/-- Settles O29: the next placement, and after the key every block's part in the ring close. -/
theorem releaseGoesOnOrClosesTheRing : Obligations.ReleaseGoesOnOrClosesTheRing := by
  intro s start timer due
  have expires : exec .releaseTimerExpiry s = .next (settle (releaseExpires s)) := by
    change execReleaseTimerExpiry s = _
    rw [execReleaseTimerExpiry, timer, onExpiry_due (span := s.cfg.image.tRelease) due]
  refine ⟨fun more => ?next, fun key => ?close⟩
  case next =>
    obtain ⟨state, placed, cursor, progress, erector, step, ring, began⟩ := enterPick_registers (nextPlacement s)
    have rest := congrArg (fun u : State => { u with bsq := s.bsq, fpt := s.fpt }) (enterPick_rest (nextPlacement s))
    exact ⟨enterPick (nextPlacement s), by rw [expires, releaseExpires_next more], state, placed, cursor, progress,
      erector, step, ring, began, rest⟩
  case close =>
    obtain ⟨ring, dsu, thu, gru, bal, phase, ptb, cfg, elapsed, lif⟩ := advancedRing_blocks s
    have bsq := advancedRing_bsq s
    obtain ⟨closedDsu, closedGru, closedBal⟩ := closeRing_blocks (advancedRing s)
    have closedPhase := closeRing_phase (advancedRing s)
    refine ⟨setBuild .idle (closeRing (advancedRing s)),
      by rw [expires, releaseExpires_key key, holderRingClose_eq], ?_⟩
    obtain ⟨counter, strokeEnd, posted, delivered, -, -⟩ := closeRing_clears (advancedRing s)
    have group (building : s.phase = .building) := closeRing_group (s := advancedRing s) (by rw [phase, building])
    rw [setBuild_bsq]
    have handed : (setBuild .idle (closeRing (advancedRing s))).lif = (advancedRing s).lif := by simp
    refine ⟨handed.trans lif, by simp [ring], rfl, by simp [enterBuild, bsq], by simp [enterBuild, bsq],
      by simp [enterBuild, bsq], by simp [enterBuild, bsq], by simp [enterBuild, bsq], by simp [enterBuild, bsq], rfl,
      by simpa using counter, by simpa using strokeEnd, by simpa using posted, by simpa using delivered, ?_, ?_, ?_, ?_,
      ?_, ?_, fun building => ?_, by simp [ptb], by simp [cfg], by simp [elapsed]⟩
    · simp [closedGru, ringClosed, gru]
    · simp [closedGru, ringClosed, gru]
    · simp [closedGru, ringClosed, gru]
    · simp [closedDsu, ringClosed, dsu]
    · simp [closedBal, ringClosed, bal]
    · simp [closedPhase, phase]
    · have standing := group building
      rw [thu] at standing
      simpa using standing

end Sys2Proof.Machine
end

section
/-! The peer table's entries through frames and silences (01_stations_sectors_and_the_peer_table section 1.3). -/

namespace Sys2Proof.Machine

open Sys2Proof

/-! ## The source of a valid frame (R179) -/

theorem source_of_addressed {kind source dest : Nat} (h : addressed kind source dest = true) (other : kind ≠ 3) :
    source < 8 := by
  unfold addressed at h
  split at h
  · exact absurd rfl other
  · exact of_decide_eq_true (Bool.and_eq_true_iff.1 h).1
  · exact of_decide_eq_true (Bool.and_eq_true_iff.1 h).1
  · exact of_decide_eq_true (Bool.and_eq_true_iff.1 h).1

/-- Check 5: every valid frame that is no ORDER comes from a sector station. -/
theorem source_lt_of_valid {nS : Nat} {c : Chars} {h : Header} {b : Body} (hv : judge nS c = .valid h b)
    (other : b.kindCode ≠ 3) : h.source < 8 := by
  unfold judge at hv
  split at hv
  · cases hv
  split at hv
  · cases hv
  split at hv
  · cases hv
  simp only [checkForm] at hv
  split at hv
  · cases hv
  split at hv
  · cases hv
  split at hv
  · cases hv
  split at hv
  · cases hv
  split at hv
  · cases hv
  next sent =>
    split at hv
    · cases hv
    split at hv
    · cases hv
    next body =>
      obtain ⟨rfl, rfl⟩ := Heard.valid.inj hv
      rw [Laws.readBody_kindCode body] at other
      exact source_of_addressed (by simpa using sent) other

/-! ## A changed entry (R11) -/

theorem agreementCleared_presenceNotice (j : Nat) (s : State) : AgreementCleared s (presenceNotice j s) := by
  refine (agreementCleared_drivePresence j s).trans (.of_eq ?_)
  rw [presenceNotice, evalDuties_ptb]
  simp [recordDuties]

theorem agreementCleared_changePeer (j : Nat) (e : PeerEntry) (s : State) :
    AgreementCleared (setPeer j e s) (changePeer j e s) := by
  unfold changePeer
  dsimp only
  split
  · exact agreementCleared_presenceNotice j _
  · split
    · refine .of_eq ?_
      rw [evalDuties_ptb]
      rfl
    · exact .of_eq rfl

/-- An entry whose agreement counter is 0 is taken as it is, and every other keeps all but its counter. -/
theorem changePeer_entries {j : Nat} {e : PeerEntry} {s : State} (room : j < s.ptb.peers.length)
    (zero : e.agreement = 0) :
    peerOf (changePeer j e s) j = e ∧
      ∀ k, k ≠ j → { peerOf (changePeer j e s) k with agreement := 0 } = { peerOf s k with agreement := 0 } := by
  have cleared := agreementCleared_changePeer j e s
  refine ⟨cleared.entry (peerOf_setPeer_same e room) zero, fun k other => ?_⟩
  rw [cleared.but_agreement k, peerOf_setPeer_ne e s other]

/-- Without a presence change no agreement counter moves. -/
theorem changePeer_peers {j : Nat} {e : PeerEntry} {s : State} (same : entryPresent (peerOf s j) = entryPresent e) :
    (changePeer j e s).ptb.peers = (setPeer j e s).ptb.peers := by
  unfold changePeer
  dsimp only
  rw [if_neg (not_not.2 same)]
  split
  · rw [evalDuties_ptb]; rfl
  · rfl

theorem changePeer_exact {j : Nat} {e : PeerEntry} {s : State} (room : j < s.ptb.peers.length)
    (same : entryPresent (peerOf s j) = entryPresent e) :
    peerOf (changePeer j e s) j = e ∧ ∀ k, k ≠ j → peerOf (changePeer j e s) k = peerOf s k := by
  have peers := peerOf_congr (changePeer_peers same)
  exact ⟨(peers j).trans (peerOf_setPeer_same e room), fun k other => (peers k).trans (peerOf_setPeer_ne e s other)⟩

/-! ## The duties evaluated (R14) -/

/-- R14: both outcomes on record are those the table gives. -/
def DutiesEvaluated (s : State) : Prop :=
  s.ptb.erector = erectorOutcome s ∧ s.ptb.conveyor = conveyorOutcome s

theorem DutiesEvaluated.congr {s u : State} (h : DutiesEvaluated s) (ptb : u.ptb = s.ptb) (cfg : u.cfg = s.cfg) :
    DutiesEvaluated u := by
  have own : u.own = s.own := by simp only [State.own, cfg]
  have peers (j : Nat) : peerOf u j = peerOf s j := peerOf_congr (by rw [ptb]) j
  obtain ⟨erector, conveyor⟩ := h
  constructor
  · rw [ptb, erector]
    simp only [erectorOutcome, dutyOutcome, claimants, own, peers, cfg]
  · rw [ptb, conveyor]
    simp only [conveyorOutcome, dutyOutcome, claimants, own, peers, cfg]

theorem dutiesEvaluated_evalDuties (s : State) : DutiesEvaluated (evalDuties s) := by
  have recorded : DutiesEvaluated (recordDuties s) := ⟨rfl, rfl⟩
  exact recorded.congr (evalDuties_ptb s) (by simp)

theorem dutiesEvaluated_settle {s : State} (h : DutiesEvaluated s) : DutiesEvaluated (settle s) :=
  h.congr (by simp) (by simp)

/-- What follows an event leaves GRU, but for the flush timer at a change of the forcing (R114). -/
theorem settle_gru_but_flush (s : State) :
    (settle s).gru =
      { s.gru with flushTimer := (settle s).gru.flushTimer, flushRun := (settle s).gru.flushRun } := by
  have fields := settle_gru s
  generalize (settle s).gru = g at fields ⊢
  generalize s.gru = g' at fields ⊢
  cases g
  cases g'
  simpa using fields

/-! ## JOIN (R8) -/

/-- Settles O9: the entry by the digest, and the duties evaluated. -/
theorem joinHeardMovesItsEntry : Obligations.JoinHeardMovesItsEntry := by
  intro s chars h r heard room other
  have source : h.source < 8 := source_lt_of_valid heard.2.1 (by simp [Body.kindCode])
  have entry : joinEntry s.cfg.digest s.elapsed h.seq r (peerOf s h.source) =
      if r.digest = s.cfg.digest then
        { peerOf s h.source with
          lastSeq := some h.seq, lastFrame := some s.elapsed, liveness := .joining, good := 0
          record := none, agreement := 0, ringHeard := some r.ring, claims := r.claims }
      else
        { peerOf s h.source with
          lastSeq := some h.seq, lastFrame := some s.elapsed, liveness := .mismatched, good := 0
          record := none, agreement := 0, claims := {} } := if_neg other
  have zero : (joinEntry s.cfg.digest s.elapsed h.seq r (peerOf s h.source)).agreement = 0 := by
    rw [entry]; split <;> rfl
  have length : h.source < (lineUsed s).ptb.peers.length := by
    change h.source < s.ptb.peers.length
    omega
  obtain ⟨same, others⟩ := changePeer_entries (s := lineUsed s) length zero
  generalize hc : changePeer h.source (joinEntry s.cfg.digest s.elapsed h.seq r (peerOf s h.source)) (lineUsed s) = c
    at same others
  have peers (k : Nat) : peerOf (settle (evalDuties c)) k = peerOf c k :=
    peerOf_congr (by rw [(settle_frame (evalDuties c)).2.2.2.2.1, evalDuties_ptb]; rfl) k
  have duties := dutiesEvaluated_settle (dutiesEvaluated_evalDuties c)
  have gru : c.gru = s.gru := by rw [← hc]; simp
  refine ⟨settle (evalDuties c), ?_, ?_, fun k other => ?_, duties.1, duties.2, ?_⟩
  · change hear chars joinHeard s = _
    refine hear_valid heard ?_
    rw [← hc]
    rfl
  · rw [peers, same, entry]
  · rw [peers]
    exact others k other
  · have flush := settle_gru_but_flush (evalDuties c)
    rw [show (evalDuties c).gru = s.gru by simp [gru]] at flush
    refine ⟨?_, ?_, ?_, ?_, ?_, flush⟩ <;> simp [← hc]

/-! ## The frames of the other kinds (R9) -/

theorem otherEntry_present (now : Time) (seq : Tag) (e : PeerEntry) :
    entryPresent e = entryPresent (otherEntry now seq e) := by
  cases liveness : e.liveness <;> simp [otherEntry, entryPresent, noteFrame, liveness]

theorem otherEntry_eq (now : Time) (seq : Tag) {e : PeerEntry} (other : e.liveness ≠ .self) :
    otherEntry now seq e =
      if e.liveness = .absent ∨ e.liveness = .lost then
        { e with
          lastSeq := some seq, lastFrame := some now, liveness := .joining, good := 0, agreement := 0 }
      else { e with lastSeq := some seq, lastFrame := some now } := by
  cases liveness : e.liveness <;> simp_all [otherEntry, noteFrame]

/-- Each of the five kinds completes with PTB's act, what else it brings leaving the peer table. -/
theorem exec_otherFrame {s : State} {chars : Chars} {h : Header} {b : Body} {i : Instr} (heard : hears s chars h b)
    (row : (∃ ring tag, b = .request .retract ring tag ∧ i = .retractGroup chars) ∨
      (∃ ring tag, b = .request .extend ring tag ∧ i = .extendGroup chars) ∨
      (∃ tag a, b = .reply tag a ∧ i = .reply chars) ∨
      (∃ kind raised cls, b = .alarm kind raised cls ∧ i = .alarm chars) ∨
      (∃ ring k n part, b = .ringReport ring k n part ∧ i = .ringReport chars)) :
    ∃ u, exec i s = .next (settle u) ∧ u.ptb = (peerOther h.source h.seq (lineUsed s)).ptb ∧
      u.cfg = s.cfg ∧ u.oru = s.oru ∧ u.elapsed = s.elapsed ∧ u.ring = s.ring ∧ b.kindCode ≠ 3 := by
  obtain ⟨ring, tag, rfl, rfl⟩ | ⟨ring, tag, rfl, rfl⟩ | ⟨tag, a, rfl, rfl⟩ | ⟨kind, raised, cls, rfl, rfl⟩ |
    ⟨ring, k, n, part, rfl, rfl⟩ := row
  · refine ⟨_, hear_valid (act := requestHeard .retract) heard (by rw [requestHeard, if_pos rfl]), ?_⟩
    split <;> simp [Body.kindCode, lineUsed]
  · refine ⟨_, hear_valid (act := requestHeard .extend) heard (by rw [requestHeard, if_pos rfl]), ?_⟩
    split <;> simp [Body.kindCode, lineUsed]
  · refine ⟨_, hear_valid (act := replyHeard) heard rfl, ?_⟩
    split <;> simp [Body.kindCode, lineUsed]
  · refine ⟨_, hear_valid (act := alarmHeard) heard rfl, ?_⟩
    split <;> simp [Body.kindCode, lineUsed]
  · refine ⟨_, hear_valid (act := ringReportHeard) heard rfl, ?_⟩
    simp [Body.kindCode, lineUsed]

/-- Settles O10: the entry of the source, and every other as it was. -/
theorem otherFramesMoveTheirEntry : Obligations.OtherFramesMoveTheirEntry := by
  intro s chars h b i heard room other row
  obtain ⟨u, runs, ptb, cfg, oru, elapsed, ring, kind⟩ := exec_otherFrame heard row
  have length : h.source < (lineUsed s).ptb.peers.length := by
    have source := source_lt_of_valid heard.2.1 kind
    change h.source < s.ptb.peers.length
    omega
  have entry : otherEntry (lineUsed s).elapsed h.seq (peerOf (lineUsed s) h.source) = _ :=
    otherEntry_eq s.elapsed h.seq other
  obtain ⟨same, others⟩ := changePeer_exact (s := lineUsed s) length
    (otherEntry_present (lineUsed s).elapsed h.seq (peerOf (lineUsed s) h.source))
  have peers (k : Nat) : peerOf (settle u) k = peerOf (peerOther h.source h.seq (lineUsed s)) k :=
    peerOf_congr (by rw [(settle_frame u).2.2.2.2.1, ptb]) k
  refine ⟨settle u, runs, ?_, fun k off => (peers k).trans (others k off), ?_, ?_, ?_, ?_, ?_⟩
  · rw [peers]
    exact same.trans entry
  · rw [(settle_frame u).2.2.2.2.1, ptb]
    simp [peerOther, lineUsed]
  · simp [cfg]
  · simp [oru]
  · simp [elapsed]
  · simp [ring]

/-! ## STATUS (R6, R7) -/

/-- Of the peer table no more has moved than agreement counters. -/
def EntriesKept (s u : State) : Prop :=
  ∀ k, { peerOf u k with agreement := 0 } = { peerOf s k with agreement := 0 }

theorem EntriesKept.trans {s u v : State} (h : EntriesKept s u) (g : EntriesKept u v) : EntriesKept s v :=
  fun k => (g k).trans (h k)

theorem AgreementCleared.kept {s u : State} (h : AgreementCleared s u) : EntriesKept s u := h.but_agreement

theorem entriesKept_of_eq {s u : State} (h : u.ptb.peers = s.ptb.peers) : EntriesKept s u :=
  fun k => by rw [peerOf_congr h k]

theorem entriesKept_countAgreement (j : Nat) (s : State) : EntriesKept s (countAgreement j s) := by
  intro k
  unfold countAgreement
  split
  · rfl
  · rcases Nat.lt_or_ge j s.ptb.peers.length with room | full
    · by_cases same : k = j
      · rw [same, peerOf_setPeer_same _ room]
      · rw [peerOf_setPeer_ne _ s same]
    · rw [setPeer_of_length_le _ full]

theorem entriesKept_driveCountedStatus (j : Nat) (r : StatusRecord) (s : State) :
    EntriesKept s (driveCountedStatus j r s) := by
  have watched : EntriesKept s (watchPeer j r.cutterhead s) := entriesKept_of_eq rfl
  exact (((watched.trans (agreementCleared_fallCheck _ _).kept).trans
    (agreementCleared_recomputeCandidate _).kept).trans (entriesKept_countAgreement j _)).trans
      (agreementCleared_riseCheck _).kept

theorem entriesKept_countedNotice (j : Nat) (r : StatusRecord) (s : State) :
    EntriesKept s (countedNotice j r s) := by
  refine (entriesKept_driveCountedStatus j r s).trans (entriesKept_of_eq ?_)
  simp [countedNotice]

/-- R6: the entry of a STATUS's source is what R6 makes of it, but for its agreement counter. -/
theorem entriesKept_peerStatus (j : Nat) (seq : Tag) (r : StatusRecord) (s : State) :
    EntriesKept (setPeer j (statusEntry s.elapsed seq r (peerOf s j)) s) (peerStatus j seq r s) := by
  have changed := (agreementCleared_changePeer j (statusEntry s.elapsed seq r (peerOf s j)) s).kept
  unfold peerStatus
  dsimp only
  split
  · exact changed.trans (entriesKept_countedNotice j r _)
  · exact changed

theorem goodAfter_le {now : Time} {seq : Tag} {e : PeerEntry} (h : 5 ≤ goodAfter now seq e) :
    5 ≤ e.good + 1 := by
  unfold goodAfter at h
  split at h <;> omega

/-- R6: what the entry's liveness makes of a STATUS. -/
theorem statusEntry_moves (now : Time) (seq : Tag) (r : StatusRecord) (e : PeerEntry) :
    let e' := statusEntry now seq r e
    (e.liveness ≠ .self → e'.lastSeq = some seq ∧ e'.lastFrame = some now) ∧
      (e.liveness ≠ .self → e.liveness ≠ .mismatched →
        e'.record = some r ∧ e'.lastStatus = some now ∧ e'.ringHeard = some r.ring) ∧
      (e.liveness = .absent ∨ e.liveness = .lost → e'.liveness = .joining ∧ e'.good = 1) ∧
      (e.liveness = .joining → e'.liveness = if 5 ≤ e'.good then .live else .joining) ∧
      (e.liveness = .live ∨ e.liveness = .silent → e'.liveness = .live) ∧
      (e'.liveness = .live →
        e'.claims.erector = (e.claims.erector || r.erectorPart.isSome) ∧
          e'.claims.conveyor = (e.claims.conveyor || r.conveyorPart.isSome)) ∧
      (e.liveness = .mismatched →
        e'.liveness = .mismatched ∧ e'.record = e.record ∧ e'.lastStatus = e.lastStatus ∧
          e'.ringHeard = e.ringHeard) := by
  cases liveness : e.liveness with
  | joining =>
    by_cases live : 5 ≤ goodAfter now seq e
    · simp [statusEntry, liveness, live, addClaims, storeStatus, noteFrame]
    · simp [statusEntry, liveness, live, storeStatus, noteFrame]
  | absent | lost | live | silent | mismatched | self =>
    simp [statusEntry, liveness, addClaims, storeStatus, noteFrame]

theorem entryPresent_iff (e : PeerEntry) : entryPresent e = true ↔ e.liveness = .live ∨ e.liveness = .silent := by
  cases liveness : e.liveness <;> simp [entryPresent, liveness]

theorem entry_of_kept {e e' : PeerEntry} (h : { e' with agreement := 0 } = { e with agreement := 0 }) :
    e' = { e with agreement := e'.agreement } := by
  cases e
  cases e'
  simp_all

/-- Settles O8: which entries are present, and what a STATUS makes of its source's. -/
theorem statusHeardMovesItsEntry : Obligations.StatusHeardMovesItsEntry := by
  refine ⟨fun s j => ⟨entryPresent_iff _, rfl, fun r => mem_presentPeers⟩, fun s chars h r heard room => ?_⟩
  have length : h.source < (lineUsed s).ptb.peers.length := by
    have source := source_lt_of_valid heard.2.1 (by simp [Body.kindCode])
    change h.source < s.ptb.peers.length
    omega
  have kept := (entriesKept_peerStatus h.source h.seq r (lineUsed s)).trans
    (entriesKept_of_eq (u := settle (peerStatus h.source h.seq r (lineUsed s))) (by simp))
  have entry := entry_of_kept (kept h.source)
  rw [peerOf_setPeer_same _ length] at entry
  obtain ⟨noted, stored, joins, joining, live, claims, mismatched⟩ :=
    statusEntry_moves s.elapsed h.seq r (peerOf s h.source)
  have others (j : Nat) (off : j ≠ h.source) := kept j
  refine ⟨settle (peerStatus h.source h.seq r (lineUsed s)), hear_valid (act := statusHeard) heard rfl, ?_⟩
  dsimp only
  rw [entry]
  refine ⟨noted, stored, joins, fun was => ⟨rfl, joining was⟩, live, claims, mismatched, fun j off => ?_, ?_⟩
  · rw [others j off, peerOf_setPeer_ne _ _ off]
    rfl
  · simp

end Sys2Proof.Machine
end

section
/-! The silences of the peer table, and what an event's end leaves of a build at rest
(01_stations_sectors_and_the_peer_table section 1.3 and 1.6). -/

namespace Sys2Proof.Machine

open Sys2Proof

/-! ## A build at rest through the end of an event -/

theorem suspend_resting {s : State} (rest : s.bsq.state.stepping = false) : suspend s = s :=
  if_neg (by simp [rest])

theorem retractedSeen_resting {j : Nat} {g : Group} {s : State} (rest : s.bsq.state.stepping = false) :
    (retractedSeen j g s).bsq.state = s.bsq.state := by
  unfold retractedSeen
  split
  · rfl
  · split
    · rw [if_neg (fun waiting => by rw [waiting] at rest; cases rest)]
      rfl
    · rfl

theorem holdingSeen_resting {j : Nat} {g : Group} {s : State} (rest : s.bsq.state.stepping = false) :
    (holdingSeen j g s).bsq.state = s.bsq.state := by
  have dropped (q : BsqState) : (dropRetraction q).state = q.state := by
    unfold dropRetraction
    split <;> rfl
  unfold holdingSeen clearRetraction
  split
  · split
    · rfl
    · split
      · rw [if_neg fun waiting => ?_]
        · exact dropped _
        · have waiting : s.bsq.state = .awaitExtend := waiting.2
          rw [waiting] at rest
          cases rest
      · rfl
  · rfl

theorem ownGroupSeen_resting {s : State} (rest : s.bsq.state.stepping = false) :
    (ownGroupSeen s).bsq.state = s.bsq.state := by
  unfold ownGroupSeen
  split
  · have seen := retractedSeen_resting (j := s.own) (g := s.thu.group) rest
    rw [holdingSeen_resting (by rw [seen]; exact rest), seen]
  · rfl

theorem enterHalted_resting {s : State} (rest : s.bsq.state.stepping = false) :
    (enterHalted s).bsq.state = s.bsq.state := by
  unfold enterHalted
  dsimp only
  rw [suspend_resting (by simpa [clearHolderSeen, plainPhase] using rest)]
  simp [clearHolderSeen, plainPhase]

theorem haltTest_resting {s : State} (rest : s.bsq.state.stepping = false) :
    (haltTest s).bsq.state = s.bsq.state := by
  unfold haltTest
  split
  · exact enterHalted_resting rest
  · rfl

theorem retractTest_resting {s : State} (rest : s.bsq.state.stepping = false) : retractTest s = s :=
  if_pos (.inr (.inl fun waiting => by rw [waiting] at rest; cases rest))

/-- A build IDLE or SUSPENDED stays so through the end of an event. -/
theorem settleOnce_resting {s : State} (rest : s.bsq.state.stepping = false) :
    (settleOnce s).bsq.state = s.bsq.state := by
  have halted : (haltTest (syncKinds AlarmKind.all (orphanTest s))).bsq.state = s.bsq.state := by
    rw [haltTest_resting (by simpa using rest)]
    simp
  have seen := ownGroupSeen_resting
    (s := excavationTest (gateTest (enableSync (forcingSync (haltTest (syncKinds AlarmKind.all (orphanTest s)))))))
    (by simp [halted, rest])
  unfold settleOnce
  rw [retractTest_resting (by rw [seen]; simp [halted, rest]), seen]
  simp [halted]

theorem settle_resting {s : State} (rest : s.bsq.state.stepping = false) :
    (settle s).bsq.state = s.bsq.state := by
  have once := settleOnce_resting rest
  have twice := settleOnce_resting (s := settleOnce s) (by rw [once]; exact rest)
  have thrice := settleOnce_resting (s := settleOnce (settleOnce s)) (by rw [twice, once]; exact rest)
  rw [settle, thrice, twice, once]

/-! ## The silences (R10, R19) -/

theorem dutyEvent_of_joining {e e' : PeerEntry} (before : e.liveness = .joining) (after : e'.liveness ≠ .joining) :
    dutyEvent e e' = true := by
  simp [dutyEvent, before, after]

/-- R11: an entry LOST that was SILENT gives the notices of a presence change; -/
theorem changePeer_silent_lost {j : Nat} {s : State} (silent : (peerOf s j).liveness = .silent) :
    changePeer j (lostEntry (peerOf s j)) s = presenceNotice j (setPeer j (lostEntry (peerOf s j)) s) :=
  if_pos (by simp [entryPresent, lostEntry, silent])

/-- R14: one that was JOINING the duty evaluation alone. -/
theorem changePeer_joining_lost {j : Nat} {s : State} (joining : (peerOf s j).liveness = .joining) :
    changePeer j (lostEntry (peerOf s j)) s = evalDuties (setPeer j (lostEntry (peerOf s j)) s) :=
  (if_neg (by simp [entryPresent, lostEntry, joining])).trans
    (if_pos (dutyEvent_of_joining joining (by simp [lostEntry])))

theorem changePeer_silenced {j : Nat} {s : State} (live : (peerOf s j).liveness = .live) :
    changePeer j (silentEntry (peerOf s j)) s = setPeer j (silentEntry (peerOf s j)) s :=
  (if_neg (by simp [entryPresent, silentEntry, live])).trans (if_neg (by simp [dutyEvent, silentEntry, live]))

theorem exec_consoleLostExpiry {s : State} {t0 : Time}
    (timed : (s.ptb.console.liveness = .silent ∧ s.ptb.console.lastOrder = some t0) ∨
      (s.ptb.console.liveness = .absent ∧ s.ptb.endOfListen = true ∧ t0 = s.ptb.listenEnd))
    (due : 100 ≤ elapsedSince t0 s.elapsed) :
    exec .consoleLostExpiry s = .next (settle (consoleLost s)) := by
  have timer : consoleLostTimer s = some t0 := by
    rcases timed with ⟨silent, order⟩ | ⟨absent, ended, rfl⟩
    · rw [consoleLostTimer, silent]; exact order
    · rw [consoleLostTimer, absent]; exact if_pos ended
  change execConsoleLostExpiry s = _
  rw [execConsoleLostExpiry, timer, onExpiry_due (span := Config.consoleLostSpan) due]

/-- R19: the console entry LOST. -/
def lostConsole (s : State) : State :=
  { s with ptb := { s.ptb with console := { s.ptb.console with liveness := .lost } } }

theorem consoleLost_eq (s : State) :
    consoleLost s = if s.ptb.exErector = true then suspend (lostConsole s) else lostConsole s := rfl

theorem consoleLost_stays {s : State} (h : s.ptb.exErector = false ∨ ¬Underway s) :
    consoleLost s = lostConsole s := by
  rw [consoleLost_eq]
  split
  · next exercised =>
    refine suspend_resting (Bool.eq_false_iff.2 fun stepping => ?_)
    exact h.elim (fun off => by rw [off] at exercised; cases exercised)
      fun rest => rest ((stepping_iff_underway s).1 stepping)
  · rfl

theorem suspend_cursor (s : State) : (suspend s).bsq.cursor = s.bsq.cursor := by
  by_cases underway : Underway s
  · exact congrArg (·.cursor) ((suspend_enters underway).bsq underway).1
  · rw [suspend_resting (Bool.eq_false_iff.2 fun stepping => underway ((stepping_iff_underway s).1 stepping))]

theorem consoleLost_cursor (s : State) : (consoleLost s).bsq.cursor = s.bsq.cursor := by
  rw [consoleLost_eq]
  split
  · exact suspend_cursor (lostConsole s)
  · rfl

theorem consoleLost_ptb (s : State) : (consoleLost s).ptb = (lostConsole s).ptb := by
  rw [consoleLost_eq]
  split <;> simp

/-- Settles O12: the three silences of a sector entry, and the console's two. -/
theorem silencesMoveTheirEntries : Obligations.SilencesMoveTheirEntries := by
  refine ⟨⟨fun s j t0 live last due => ?live, fun s j t0 i sector room timed due => ?lost⟩,
    fun s t0 console due => ?silent, fun s t0 timed due => ?consoleLost⟩
  case live =>
    change execPeerLiveTimeout j s = _
    rw [execPeerLiveTimeout, if_pos live, last, onExpiry_due (span := Config.liveSpan) due, changePeer_silenced live]
    rfl
  case lost =>
    have runs : exec i s = .next (settle (changePeer j (lostEntry (peerOf s j)) s)) := by
      rcases timed with ⟨silent, last, rfl⟩ | ⟨joining, last, rfl⟩
      · change execPeerSilentTimeout j s = _
        rw [execPeerSilentTimeout, if_pos silent, last, onExpiry_due (span := Config.lostSpan) due]
      · change execPeerJoiningTimeout j s = _
        rw [execPeerJoiningTimeout, if_pos joining, last, onExpiry_due (span := Config.lostSpan) due]
    refine ⟨fun silent => by rw [runs, changePeer_silent_lost silent]; rfl, _, runs, ?_⟩
    obtain ⟨same, others⟩ := changePeer_entries (j := j) (e := lostEntry (peerOf s j)) (s := s) (by omega) rfl
    have evaluated : DutiesEvaluated (changePeer j (lostEntry (peerOf s j)) s) := by
      rcases timed with ⟨silent, -, -⟩ | ⟨joining, -, -⟩
      · rw [changePeer_silent_lost silent]; exact dutiesEvaluated_evalDuties _
      · rw [changePeer_joining_lost joining]; exact dutiesEvaluated_evalDuties _
    obtain ⟨erector, conveyor⟩ := dutiesEvaluated_settle evaluated
    have peers (k : Nat) : peerOf (settle (changePeer j (lostEntry (peerOf s j)) s)) k =
        peerOf (changePeer j (lostEntry (peerOf s j)) s) k := peerOf_congr (by simp) k
    refine ⟨(peers j).trans same, fun k other => ?_, erector, conveyor, ?_⟩
    · rw [peers]
      exact others k other
    · simp
  case silent =>
    change execConsoleSilentExpiry s = _
    have live : s.ptb.console.liveness = .live := by rw [console]
    have order : s.ptb.console.lastOrder = some t0 := by rw [console]
    rw [execConsoleSilentExpiry, if_pos live, order, onExpiry_due (span := Config.consoleSilentSpan) due,
      consoleSilent, State.onPtb, console]
  case consoleLost =>
    have runs := exec_consoleLostExpiry timed due
    have ptb' : (settle (consoleLost s)).ptb = (lostConsole s).ptb := by
      rw [← consoleLost_ptb]; simp
    refine ⟨settle (consoleLost s), runs, ptb', ?_, ?_⟩
    · rw [ptb']
      refine ⟨fun exercised underway => ?_, fun off => by rw [runs, consoleLost_stays off]; rfl⟩
      have suspends : consoleLost s = suspend (lostConsole s) := by rw [consoleLost_eq, if_pos exercised]
      have enters := suspend_enters (s := lostConsole s) underway
      have state : (suspend (lostConsole s)).bsq.state = .suspended :=
        congrArg (·.state) (enters.bsq underway).1
      rw [suspends, settle_resting (by rw [state]; rfl)]
      exact ⟨state, _, by rw [runs, suspends], enters⟩
    · simp [consoleLost_cursor]

end Sys2Proof.Machine
end

section
/-! How the outstanding request of BSQ is settled (04_ring_building section 4.4). -/

namespace Sys2Proof.Machine

open Sys2Proof

/-! ## The answer wait and the REPLY (R82, R83) -/

theorem unansweredMark_eq {s : State} {r : OutRequest} (request : s.bsq.request = some r) :
    s.onBsq unansweredMark =
      { s with
        bsq :=
          { s.bsq with
            request := none, answerWait := none, unanswered := true
            retraction := s.bsq.retraction.map fun t =>
              { t with proven := t.proven || decide (r.kind = .retract) } } } := by
  simp [State.onBsq, unansweredMark, request]

theorem answerExpires_underway {s : State} (underway : Underway s) :
    answerExpires s = suspend (s.onBsq unansweredMark) :=
  if_pos ((stepping_iff_underway s).2 underway)

theorem answerExpires_resting {s : State} {r : OutRequest} (resting : ¬Underway s) (request : s.bsq.request = some r) :
    answerExpires s =
      if r.kind = .extend then sendBack (s.onBsq unansweredMark) else s.onBsq unansweredMark := by
  unfold answerExpires
  rw [if_neg (mt (stepping_iff_underway s).1 resting)]
  simp [request]

theorem exec_answerWaitExpiry {s : State} {start : Time} (wait : s.bsq.answerWait = some start)
    (due : 10 ≤ elapsedSince start s.elapsed) : exec .answerWaitExpiry s = .next (settle (answerExpires s)) := by
  change execAnswerWaitExpiry s = _
  rw [execAnswerWaitExpiry, wait, onExpiry_due (span := Config.answerSpan) due]

/-- R83: a request answered BUSY or REFUSED is settled; a retraction refused is no retraction. -/
def turnedDown (o : OutRequest) (s : State) : State :=
  { s with
    bsq :=
      { s.bsq with
        request := none, answerWait := none, unanswered := false
        retraction := if o.kind = .retract then none else s.bsq.retraction
        progress :=
          if o.kind = .retract ∧ s.bsq.progress = .placed ∧
              ∃ t ∈ s.bsq.retraction, t.placement = s.bsq.cursor then .complete
          else s.bsq.progress } }

theorem settleRefused_eq {s : State} {o : OutRequest} (request : s.bsq.request = some o) :
    settleRefused s = turnedDown o s := by
  unfold settleRefused turnedDown State.onBsq
  simp only [request]
  by_cases retract : o.kind = .retract
  · cases retraction : s.bsq.retraction with
    | none => simp [retract, dropRetraction]
    | some t => simp [retract, dropRetraction, and_comm]
  · simp [retract]

theorem markAnswer_of_ne {a : Answer} (other : a ≠ .accepted) (s : State) : markAnswer a s = settleRefused s := by
  cases a <;> simp_all [markAnswer]

theorem stepAnswer_of_ne {a : Answer} (other : a ≠ .accepted) (s : State) :
    stepAnswer a s = if s.bsq.state = .awaitRetract ∨ s.bsq.state = .awaitExtend then suspend s else s := by
  cases a <;> simp_all [stepAnswer]

theorem replyArrival_other {source : Nat} {tag : Tag} (a : Answer) {s : State}
    (other : ∀ o, ¬(s.bsq.request = some o ∧ s.ptb.exErector = true ∧ o.accepted = false ∧ o.target = source ∧
      o.tag = tag)) : replyArrival source tag a s = s := by
  unfold replyArrival
  cases request : s.bsq.request with
  | none => rfl
  | some o => exact if_neg fun h => other o ⟨request, h⟩

theorem replyArrival_answers {source : Nat} {tag : Tag} (a : Answer) {s : State} {o : OutRequest}
    (request : s.bsq.request = some o)
    (answers : s.ptb.exErector = true ∧ o.accepted = false ∧ o.target = source ∧ o.tag = tag) :
    replyArrival source tag a s = stepAnswer a (markAnswer a s) := by
  unfold replyArrival
  rw [request]
  exact if_pos answers

theorem markAccepted_eq {s : State} {o : OutRequest} (request : s.bsq.request = some o) :
    markAccepted s =
      { s with
        bsq :=
          { s.bsq with
            request := some { o with accepted := true }, answerWait := none, unanswered := false
            retraction := s.bsq.retraction.map fun t =>
              { t with proven := t.proven || decide (o.kind = .retract) }
            retractTimer :=
              if o.kind = .retract ∧ s.bsq.state = .awaitRetract then some s.elapsed
              else s.bsq.retractTimer
            extendTimer :=
              if o.kind = .extend ∧ s.bsq.state = .awaitExtend then some s.elapsed
              else s.bsq.extendTimer } } := by
  simp [markAccepted, State.onBsq, request]

/-! ## A STATUS counted reaches BSQ (R7) -/

/-- A STATUS of a peer present whose claims are known brings neither a presence change nor a duty evaluation. -/
theorem changePeer_statusEntry {j : Nat} {now : Time} {seq : Tag} {r : StatusRecord} {s : State}
    (here : (peerOf s j).liveness = .live ∨ (peerOf s j).liveness = .silent)
    (erector : r.erectorPart.isSome = true → (peerOf s j).claims.erector = true)
    (conveyor : r.conveyorPart.isSome = true → (peerOf s j).claims.conveyor = true) :
    changePeer j (statusEntry now seq r (peerOf s j)) s = setPeer j (statusEntry now seq r (peerOf s j)) s := by
  have claims : (statusEntry now seq r (peerOf s j)).claims = (peerOf s j).claims := by
    have same : (addClaims r (peerOf s j)).claims = (peerOf s j).claims := by
      cases both : (peerOf s j).claims with
      | mk e c => cases he : r.erectorPart.isSome <;> cases hc : r.conveyorPart.isSome <;> simp_all [addClaims]
    rcases here with live | silent
    · rw [← same]; simp [statusEntry, live, addClaims, storeStatus, noteFrame]
    · rw [← same]; simp [statusEntry, silent, addClaims, storeStatus, noteFrame]
  obtain ⟨-, -, -, -, live, -, -⟩ := statusEntry_moves now seq r (peerOf s j)
  have after := live here
  have present : entryPresent (peerOf s j) = entryPresent (statusEntry now seq r (peerOf s j)) := by
    rw [(entryPresent_iff _).2 here, (entryPresent_iff _).2 (.inl after)]
  have quiet : dutyEvent (peerOf s j) (statusEntry now seq r (peerOf s j)) = false := by
    rw [dutyEvent, claims, after]
    rcases here with live | silent
    · simp [live]
    · simp [silent]
  unfold changePeer
  dsimp only
  rw [if_neg (not_not.2 present), quiet]
  rfl

theorem served_of_entry {s : State} {j : Nat} {r : StatusRecord} {e : PeerEntry}
    (kept : { peerOf s j with agreement := 0 } = { e with agreement := 0 }) (live : e.liveness = .live)
    (record : e.record = some r) : served s j = some r := by
  rw [served_eq, entry_of_kept kept]
  simp [servedBy, entryPresent, live, record]

/-! ## What a STATUS or the own group shows (R87) -/

/-- R83: what a STATUS must show to be the acceptance of a request. -/
def Shows (o : OutRequest) (j : Nat) (r : StatusRecord) : Prop :=
  o.target = j ∧ ((r.pendingKind = some o.kind ∧ r.pendingTag = o.tag) ∨
    (o.kind = .retract ∧ (r.group = .moving .retracting ∨ r.group = .moving .retracted ∨
      r.group = .frozen .retracting ∨ r.group = .frozen .retracted)) ∨
    (o.kind = .extend ∧ (r.group = .moving .extending ∨ r.group = .moving .holding)))

theorem movementShown_iff (kind : RequestKind) (g : Group) :
    movementShown kind g = true ↔
      (kind = .retract ∧ (g = .moving .retracting ∨ g = .moving .retracted ∨
        g = .frozen .retracting ∨ g = .frozen .retracted)) ∨
      (kind = .extend ∧ (g = .moving .extending ∨ g = .moving .holding)) := by
  cases kind <;> simp [movementShown, or_assoc]

theorem statusAccepts_iff {q : BsqState} {o : OutRequest} (request : q.request = some o) (j : Nat) (r : StatusRecord) :
    statusAccepts q j r = true ↔ o.accepted = false ∧ Shows o j r := by
  simp only [statusAccepts, request, Shows, Bool.and_eq_true, Bool.or_eq_true, movementShown_iff, beq_iff_eq,
    Bool.not_eq_true', decide_eq_true_eq]
  tauto

theorem statusAccepts_none {q : BsqState} (request : q.request = none) (j : Nat) (r : StatusRecord) :
    statusAccepts q j r = false := by
  simp [statusAccepts, request]

/-- R84: the retraction is past being refused: proven, or its answer deadline is over. -/
def Proves (s : State) (t : Retraction) : Prop :=
  t.proven = true ∨ ∃ issue, t.deadline = some issue ∧ 10 ≤ elapsedSince issue s.elapsed

theorem retractionProven_iff (s : State) (t : Retraction) : retractionProven s.elapsed t = true ↔ Proves s t := by
  unfold retractionProven Proves
  rw [Bool.or_eq_true]
  cases t.deadline with
  | none => simp [due]
  | some issue =>
    refine or_congr_right (decide_eq_true_iff.trans ⟨fun past => ⟨issue, rfl, past⟩, ?_⟩)
    rintro ⟨_, ⟨⟩, past⟩
    exact past

/-- A build that waits goes on to its next step, and any other stands. -/
def GoesOn (waiting step : BuildState) (cmd : ErectorCmd) (s u : State) : Prop :=
  u.bsq.cursor = s.bsq.cursor ∧ u.bsq.cursorRing = s.bsq.cursorRing ∧
    u.bsq.nextTag = s.bsq.nextTag ∧ u.bsq.placed = s.bsq.placed ∧
    (s.bsq.state = waiting → u.bsq.state = step ∧ u.bsq.stepTimer = some s.elapsed ∧
      u.bsq.retractTimer = none ∧ u.bsq.extendTimer = none ∧
      u.fpt.written = { s.fpt.written with erector := cmd }) ∧
    (s.bsq.state ≠ waiting → u.bsq.state = s.bsq.state ∧ u.bsq.stepTimer = s.bsq.stepTimer ∧
      u.fpt = s.fpt) ∧
    { u with bsq := s.bsq, fpt := s.fpt } = s

/-- The registers of the plan that settling a request leaves as they are. -/
def PlanKept (q q' : BsqState) : Prop :=
  q'.cursor = q.cursor ∧ q'.cursorRing = q.cursorRing ∧ q'.nextTag = q.nextTag ∧ q'.placed = q.placed ∧
    q'.state = q.state ∧ q'.stepTimer = q.stepTimer

theorem goesOn_of_plan {waiting step : BuildState} {cmd : ErectorCmd} {f : BsqState → BsqState} {s : State}
    (steps : step.stepping = true) (writes : ∀ p, erectorCmdOf p step = cmd) (plan : PlanKept s.bsq (f s.bsq)) :
    GoesOn waiting step cmd s
      (if s.bsq.state = waiting then setBuild step (s.onBsq f) else s.onBsq f) := by
  obtain ⟨cursor, ring, tag, placed, state, timer⟩ := plan
  by_cases waits : s.bsq.state = waiting
  · rw [if_pos waits]
    refine ⟨cursor, ring, tag, placed, fun _ => ⟨rfl, if_pos steps, rfl, rfl, ?_⟩, fun no => absurd waits no, rfl⟩
    rw [setBuild_written, writes]
    rfl
  · rw [if_neg waits]
    exact ⟨cursor, ring, tag, placed, fun yes => absurd yes waits, fun _ => ⟨state, timer, rfl⟩, rfl⟩

/-- A REQUEST of RETRACT_GROUP ends in RETRACTED: it is settled, and AWAIT_RETRACT goes on to PLACE. -/
def RetractedEnds (s u : State) : Prop :=
  GoesOn .awaitRetract .place .place s u ∧ u.bsq.request = none ∧ u.bsq.progress = s.bsq.progress ∧
    u.bsq.retraction.map (fun t => (t.placement, t.target)) =
      s.bsq.retraction.map (fun t => (t.placement, t.target))

/-- The outstanding retraction is over: AWAIT_EXTEND goes on to RELEASE and a PLACED placement is COMPLETE. -/
def HoldingEnds (t : Retraction) (s u : State) : Prop :=
  GoesOn .awaitExtend .release .release s u ∧ u.bsq.retraction = none ∧
    (s.bsq.state = .awaitExtend → u.bsq.releaseTimer = some s.elapsed) ∧
    (u.bsq.progress =
      if t.placement = s.bsq.cursor ∧ s.bsq.progress = .placed then .complete else s.bsq.progress)

theorem retractedSeen_eq {j : Nat} {s : State} {o : OutRequest} (request : s.bsq.request = some o)
    (retract : o.kind = .retract) (target : o.target = j) (accepted : o.accepted = true) :
    retractedSeen j (.moving .retracted) s =
      if s.bsq.state = .awaitRetract then setBuild .place (s.onBsq fun q => { q with request := none })
      else s.onBsq fun q => { q with request := none } := by
  unfold retractedSeen
  rw [request]
  exact if_pos ⟨retract, target, accepted, rfl⟩

theorem retractedSeen_stays {j : Nat} {g : Group} {s : State}
    (h : ∀ o, s.bsq.request = some o → ¬(o.kind = .retract ∧ o.target = j ∧ o.accepted = true ∧ g = .moving .retracted)) :
    retractedSeen j g s = s := by
  unfold retractedSeen
  cases request : s.bsq.request with
  | none => rfl
  | some o => exact if_neg (h o request)

/-- The mark of an acceptance (R83) and none leave the plan, and the retraction but for its proof. -/
theorem retractedSeen_ends {j : Nat} {s : State} {o : OutRequest} {f : BsqState → BsqState}
    (request : (f s.bsq).request = some o) (retract : o.kind = .retract) (target : o.target = j)
    (accepted : o.accepted = true) (plan : PlanKept s.bsq (f s.bsq))
    (progress : (f s.bsq).progress = s.bsq.progress)
    (retraction : (f s.bsq).retraction.map (fun t => (t.placement, t.target)) =
      s.bsq.retraction.map (fun t => (t.placement, t.target))) :
    RetractedEnds s (retractedSeen j (.moving .retracted) (s.onBsq f)) := by
  have state : (s.onBsq f).bsq.state = s.bsq.state := plan.2.2.2.2.1
  rw [retractedSeen_eq (s := s.onBsq f) request retract target accepted, state]
  refine ⟨goesOn_of_plan (f := fun q => { f q with request := none }) rfl (fun _ => rfl) plan, ?_⟩
  by_cases waits : s.bsq.state = .awaitRetract
  · rw [if_pos waits]
    exact ⟨rfl, progress, retraction⟩
  · rw [if_neg waits]
    exact ⟨rfl, progress, retraction⟩

/-- An accepted EXTEND_GROUP to the station whose group holds is settled. -/
def extendSettled (j : Nat) (q : BsqState) : BsqState :=
  { q with request := q.request.filter fun o =>
      !(decide (o.kind = .extend) && o.target == j && o.accepted) }

theorem extendSettled_none {j : Nat} {q : BsqState} {o : OutRequest} (request : q.request = some o)
    (extend : o.kind = .extend) (target : o.target = j) (accepted : o.accepted = true) :
    (extendSettled j q).request = none := by
  simp [extendSettled, request, extend, target, accepted]

theorem extendSettled_same {j : Nat} {q : BsqState}
    (h : ∀ o, q.request = some o → ¬(o.kind = .extend ∧ o.target = j ∧ o.accepted = true)) : extendSettled j q = q := by
  have request : (q.request.filter fun o => !(decide (o.kind = .extend) && o.target == j && o.accepted)) = q.request := by
    cases request : q.request with
    | none => rfl
    | some o => simpa [Option.filter] using fun extend target => Bool.eq_false_iff.2 fun acc => h o request ⟨extend, target, acc⟩
  rw [extendSettled, request]

theorem holdingSeen_unheld {j : Nat} {g : Group} (other : g ≠ .moving .holding) (s : State) : holdingSeen j g s = s :=
  if_neg other

theorem holdingSeen_keeps {j : Nat} {s : State}
    (h : ∀ t, s.bsq.retraction = some t → ¬(t.target = j ∧ Proves s t)) :
    holdingSeen j (.moving .holding) s = s.onBsq (extendSettled j) := by
  unfold holdingSeen
  rw [if_pos rfl]
  dsimp only
  cases retraction : s.bsq.retraction with
  | none => rfl
  | some t => exact if_neg fun both => h t retraction ⟨both.1, (retractionProven_iff s t).1 both.2⟩

theorem holdingSeen_clears {j : Nat} {s : State} {t : Retraction} (retraction : s.bsq.retraction = some t)
    (target : t.target = j) (proves : Proves s t) :
    holdingSeen j (.moving .holding) s =
      if s.bsq.state = .awaitExtend then setBuild .release (s.onBsq fun q => dropRetraction (extendSettled j q))
      else s.onBsq fun q => dropRetraction (extendSettled j q) := by
  unfold holdingSeen
  rw [if_pos rfl]
  dsimp only
  rw [retraction]
  refine (if_pos ⟨target, (retractionProven_iff s t).2 proves⟩).trans ?_
  exact ite_congr (propext ⟨And.right, fun waits => ⟨by simp [retraction], waits⟩⟩) (fun _ => rfl) fun _ => rfl

theorem dropRetraction_eq {q : BsqState} {t : Retraction} (retraction : q.retraction = some t) :
    dropRetraction q =
      { q with
        retraction := none
        progress := if t.placement = q.cursor ∧ q.progress = .placed then .complete else q.progress } := by
  simp [dropRetraction, retraction]

theorem holdingSeen_ends {j : Nat} {s : State} {t t' : Retraction} {f : BsqState → BsqState}
    (retraction : (f s.bsq).retraction = some t') (placement : t'.placement = t.placement) (target : t'.target = j)
    (proves : Proves s t') (plan : PlanKept s.bsq (f s.bsq)) (progress : (f s.bsq).progress = s.bsq.progress) :
    HoldingEnds t s (holdingSeen j (.moving .holding) (s.onBsq f)) := by
  have state : (s.onBsq f).bsq.state = s.bsq.state := plan.2.2.2.2.1
  have dropped : dropRetraction (extendSettled j (f s.bsq)) = _ := dropRetraction_eq (q := extendSettled j (f s.bsq)) retraction
  rw [holdingSeen_clears (s := s.onBsq f) retraction target proves, state]
  refine ⟨goesOn_of_plan (f := fun q => dropRetraction (extendSettled j (f q))) rfl (fun _ => rfl) ?_, ?_, ?_, ?_⟩
  · rw [dropped]
    exact plan
  · by_cases waits : s.bsq.state = .awaitExtend
    · rw [if_pos waits]
      exact congrArg (·.retraction) dropped
    · rw [if_neg waits]
      exact congrArg (·.retraction) dropped
  · intro waits
    rw [if_pos waits]
    rfl
  · have cursor : (f s.bsq).cursor = s.bsq.cursor := plan.1
    have ends : (dropRetraction (extendSettled j (f s.bsq))).progress =
        if t.placement = s.bsq.cursor ∧ s.bsq.progress = .placed then .complete else s.bsq.progress := by
      rw [dropped, ← placement, ← cursor, ← progress]
      rfl
    by_cases waits : s.bsq.state = .awaitExtend
    · rw [if_pos waits]
      exact ends
    · rw [if_neg waits]
      exact ends

theorem holdingSeen_request {j : Nat} {s : State} {o : OutRequest} (request : s.bsq.request = some o)
    (extend : o.kind = .extend) (target : o.target = j) (accepted : o.accepted = true) :
    (holdingSeen j (.moving .holding) s).bsq.request = none := by
  have settled := extendSettled_none request extend target accepted
  by_cases clears : ∃ t, s.bsq.retraction = some t ∧ t.target = j ∧ Proves s t
  · obtain ⟨t, retraction, ttarget, proves⟩ := clears
    rw [holdingSeen_clears retraction ttarget proves]
    have dropped : (dropRetraction (extendSettled j s.bsq)).request = none := by
      rw [dropRetraction_eq (q := extendSettled j s.bsq) retraction]
      exact settled
    by_cases waits : s.bsq.state = .awaitExtend
    · rw [if_pos waits]
      exact dropped
    · rw [if_neg waits]
      exact dropped
  · rw [holdingSeen_keeps fun t retraction both => clears ⟨t, retraction, both⟩]
    exact settled

/-! ## A STATUS of the target (R83, R87) -/

/-- What a STATUS leaves where it is an acceptance, and where it is none. -/
def acceptedBy (j : Nat) (r : StatusRecord) (s : State) : State :=
  if statusAccepts s.bsq j r then markAccepted s else s

theorem targetSeen_eq (j : Nat) (r : StatusRecord) (s : State) :
    targetSeen j r s = holdingSeen j r.group (retractedSeen j r.group (acceptedBy j r s)) := rfl

theorem acceptedBy_takes {j : Nat} {r : StatusRecord} {s : State} {o : OutRequest} (request : s.bsq.request = some o)
    (waits : o.accepted = false) (shows : Shows o j r) : acceptedBy j r s = markAccepted s :=
  if_pos ((statusAccepts_iff request j r).2 ⟨waits, shows⟩)

theorem acceptedBy_passes {j : Nat} {r : StatusRecord} {s : State}
    (h : ∀ o, s.bsq.request = some o → ¬(o.accepted = false ∧ Shows o j r)) : acceptedBy j r s = s := by
  refine if_neg ?_
  cases request : s.bsq.request with
  | none => rw [statusAccepts_none request]; simp
  | some o => rw [statusAccepts_iff request]; exact h o request

/-- An acceptance concerns BSQ alone, and there neither the plan nor which retraction is outstanding. -/
theorem acceptedBy_keeps (j : Nat) (r : StatusRecord) (s : State) :
    acceptedBy j r s = s.onBsq (fun _ => (acceptedBy j r s).bsq) ∧ PlanKept s.bsq (acceptedBy j r s).bsq ∧
      (acceptedBy j r s).bsq.progress = s.bsq.progress ∧
      (acceptedBy j r s).bsq.retraction.map (fun t => (t.placement, t.target)) =
        s.bsq.retraction.map (fun t => (t.placement, t.target)) := by
  unfold acceptedBy
  by_cases accepts : statusAccepts s.bsq j r = true
  · rw [if_pos accepts]
    cases request : s.bsq.request with
    | none => simp [statusAccepts_none request] at accepts
    | some o =>
      rw [markAccepted_eq request]
      exact ⟨rfl, ⟨rfl, rfl, rfl, rfl, rfl, rfl⟩, rfl, by simp [Function.comp_def]⟩
  · rw [if_neg accepts]
    exact ⟨rfl, ⟨rfl, rfl, rfl, rfl, rfl, rfl⟩, rfl, rfl⟩

/-- A request shown to be accepted is marked so, and any other is as it was. -/
theorem acceptedBy_request {j : Nat} {r : StatusRecord} {s : State} {o : OutRequest} (request : s.bsq.request = some o)
    (accepted : o.accepted = true ∨ Shows o j r) :
    (acceptedBy j r s).bsq.request = some { o with accepted := true } ∧
      (o.accepted = false →
        (acceptedBy j r s).bsq.answerWait = none ∧ (acceptedBy j r s).bsq.unanswered = false) := by
  by_cases waits : o.accepted = false
  · rw [acceptedBy_takes request waits (accepted.resolve_left (by simp [waits])), markAccepted_eq request]
    exact ⟨rfl, fun _ => ⟨rfl, rfl⟩⟩
  · rw [acceptedBy_passes fun o' request' both => waits (by
      obtain rfl : o' = o := Option.some.inj (request'.symm.trans request)
      exact both.1)]
    refine ⟨request.trans (congrArg some ?_), fun no => absurd no waits⟩
    cases o
    simp_all

theorem targetSeen_accepts {j : Nat} {r : StatusRecord} {s : State} {o : OutRequest}
    (request : s.bsq.request = some o) (waits : o.accepted = false) (shows : Shows o j r)
    (moves : r.group ≠ .moving .holding) (unretracted : ¬(o.kind = .retract ∧ r.group = .moving .retracted)) :
    targetSeen j r s = markAccepted s := by
  rw [targetSeen_eq, holdingSeen_unheld moves, acceptedBy_takes request waits shows]
  refine retractedSeen_stays fun o' request' all => unretracted ⟨?_, all.2.2.2⟩
  rw [markAccepted_eq request] at request'
  obtain rfl := Option.some.inj request'
  exact all.1

theorem targetSeen_retracted {j : Nat} {r : StatusRecord} {s : State} {o : OutRequest}
    (request : s.bsq.request = some o) (retract : o.kind = .retract) (target : o.target = j)
    (retracted : r.group = .moving .retracted) :
    RetractedEnds s (targetSeen j r s) ∧
      (o.accepted = false → (targetSeen j r s).bsq.answerWait = none ∧ (targetSeen j r s).bsq.unanswered = false) := by
  obtain ⟨marked, answered⟩ := acceptedBy_request (j := j) (r := r) request
    (.inr ⟨target, .inr (.inl ⟨retract, .inr (.inl retracted)⟩)⟩)
  obtain ⟨same, plan, progress, retraction⟩ := acceptedBy_keeps j r s
  have seen : targetSeen j r s = retractedSeen j (.moving .retracted) (acceptedBy j r s) := by
    rw [targetSeen_eq, retracted, holdingSeen_unheld (by simp)]
  have registers : (targetSeen j r s).bsq.answerWait = (acceptedBy j r s).bsq.answerWait ∧
      (targetSeen j r s).bsq.unanswered = (acceptedBy j r s).bsq.unanswered := by
    rw [seen, retractedSeen_eq marked retract target rfl]
    by_cases waits : (acceptedBy j r s).bsq.state = .awaitRetract
    · rw [if_pos waits, setBuild_bsq]
      simp [enterBuild, waits]
    · rw [if_neg waits]
      exact ⟨rfl, rfl⟩
  refine ⟨?_, fun waits => ⟨registers.1.trans (answered waits).1, registers.2.trans (answered waits).2⟩⟩
  rw [seen, same]
  exact retractedSeen_ends (f := fun _ => (acceptedBy j r s).bsq) marked retract target rfl plan progress retraction

/-- A retraction whose target shows HOLDING is over where its REQUEST was accepted or can no longer be answered. -/
theorem targetSeen_holding {j : Nat} {r : StatusRecord} {s : State} {t : Retraction}
    (retraction : s.bsq.retraction = some t) (target : t.target = j) (holding : r.group = .moving .holding) :
    let clears := Proves s t ∨
      ∃ o, s.bsq.request = some o ∧ o.kind = .retract ∧ o.accepted = false ∧ Shows o j r
    (clears → HoldingEnds t s (targetSeen j r s)) ∧
      (¬clears → (targetSeen j r s).bsq.retraction = some t ∧ (targetSeen j r s).bsq.state = s.bsq.state ∧
        (targetSeen j r s).bsq.progress = s.bsq.progress ∧ { targetSeen j r s with bsq := s.bsq } = s) := by
  obtain ⟨same, plan, progress, -⟩ := acceptedBy_keeps j r s
  have seen : targetSeen j r s = holdingSeen j (.moving .holding) (acceptedBy j r s) := by
    rw [targetSeen_eq, holding, retractedSeen_stays fun _ _ all => by simp at all]
  dsimp only
  rw [seen]
  by_cases accepts : ∃ o, s.bsq.request = some o ∧ o.accepted = false ∧ Shows o j r
  case neg =>
    have passes : acceptedBy j r s = s := acceptedBy_passes fun o request both => accepts ⟨o, request, both⟩
    rw [passes]
    refine ⟨fun clears => ?_, fun unclear => ?_⟩
    · have proves := clears.resolve_right fun ⟨o, request, _, waits, shows⟩ => accepts ⟨o, request, waits, shows⟩
      exact holdingSeen_ends (f := fun q => q) retraction rfl target proves ⟨rfl, rfl, rfl, rfl, rfl, rfl⟩ rfl
    · rw [holdingSeen_keeps fun t' retraction' both => unclear (.inl (by
        obtain rfl : t' = t := Option.some.inj (retraction'.symm.trans retraction)
        exact both.2))]
      exact ⟨retraction, rfl, rfl, rfl⟩
  case pos =>
    obtain ⟨o, request, waits, shows⟩ := accepts
    have marked : (acceptedBy j r s).bsq.retraction = some { t with proven := t.proven || decide (o.kind = .retract) } := by
      rw [acceptedBy_takes request waits shows, markAccepted_eq request]
      simp [retraction]
    refine ⟨fun clears => ?_, fun unclear => ?_⟩
    · rw [same]
      refine holdingSeen_ends (f := fun _ => (acceptedBy j r s).bsq) marked rfl target ?_ plan progress
      rcases clears with (proven | past) | ⟨o', request', retract, -, -⟩
      · exact .inl (by simp [proven])
      · exact .inr past
      · obtain rfl : o' = o := Option.some.inj (request'.symm.trans request)
        exact .inl (by simp [retract])
    · have other : o.kind ≠ .retract := fun retract => unclear (.inr ⟨o, request, retract, waits, shows⟩)
      have unproven : { t with proven := t.proven || decide (o.kind = .retract) } = t := by cases t; simp [other]
      rw [unproven] at marked
      have elapsed : (acceptedBy j r s).elapsed = s.elapsed := by rw [same]; rfl
      rw [holdingSeen_keeps fun t' retraction' both => unclear (.inl (by
        obtain rfl : t' = t := Option.some.inj (retraction'.symm.trans marked)
        have proves := both.2
        rw [Proves, elapsed] at proves
        exact proves))]
      refine ⟨marked, plan.2.2.2.2.1, progress, ?_⟩
      rw [same]
      rfl

theorem targetSeen_extended {j : Nat} {r : StatusRecord} {s : State} {o : OutRequest}
    (request : s.bsq.request = some o) (extend : o.kind = .extend) (target : o.target = j)
    (holding : r.group = .moving .holding) : (targetSeen j r s).bsq.request = none := by
  obtain ⟨marked, -⟩ := acceptedBy_request (j := j) (r := r) request
    (.inr ⟨target, .inr (.inr ⟨extend, .inr holding⟩)⟩)
  rw [targetSeen_eq, holding, retractedSeen_stays fun _ _ all => by simp at all]
  exact holdingSeen_request marked extend target rfl

/-- A STATUS that shows nothing of the outstanding request or retraction changes nothing. -/
theorem targetSeen_stays {j : Nat} {r : StatusRecord} {s : State}
    (requests : ∀ o, s.bsq.request = some o → (o.accepted = false → ¬Shows o j r) ∧
      (o.accepted = true → o.target = j →
        ¬(o.kind = .retract ∧ r.group = .moving .retracted) ∧
        ¬(o.kind = .extend ∧ r.group = .moving .holding)))
    (retractions : ∀ t, s.bsq.retraction = some t → t.target = j → r.group ≠ .moving .holding) :
    targetSeen j r s = s := by
  have passes : acceptedBy j r s = s :=
    acceptedBy_passes fun o request both => (requests o request).1 both.1 both.2
  have unretracted : retractedSeen j r.group s = s :=
    retractedSeen_stays fun o request ⟨retract, target, accepted, retracted⟩ =>
      ((requests o request).2 accepted target).1 ⟨retract, retracted⟩
  rw [targetSeen_eq, passes, unretracted]
  by_cases holding : r.group = .moving .holding
  · rw [holding, holdingSeen_keeps fun t retraction both => retractions t retraction both.1 holding]
    have settled : extendSettled j s.bsq = s.bsq := extendSettled_same fun o request ⟨extend, target, accepted⟩ =>
      ((requests o request).2 accepted target).2 ⟨extend, holding⟩
    rw [State.onBsq, settled]
  · exact holdingSeen_unheld holding s

/-! ## The own group (R87, log 34) -/

theorem ownGroupSeen_elsewhere {s : State} (elsewhere : s.ptb.exErector = false) : ownGroupSeen s = s :=
  if_neg (by simp [bsqActive, elsewhere])

theorem ownGroupSeen_here {s : State} (here : s.ptb.exErector = true) :
    ownGroupSeen s = holdingSeen s.own s.thu.group (retractedSeen s.own s.thu.group s) :=
  if_pos here

theorem ownGroupSeen_retracted {s : State} {o : OutRequest} (here : s.ptb.exErector = true)
    (request : s.bsq.request = some o) (retract : o.kind = .retract) (target : o.target = s.own)
    (accepted : o.accepted = true) (retracted : s.thu.group = .moving .retracted) :
    RetractedEnds s (ownGroupSeen s) := by
  rw [ownGroupSeen_here here, retracted, holdingSeen_unheld (by simp)]
  exact retractedSeen_ends (f := fun q => q) request retract target accepted ⟨rfl, rfl, rfl, rfl, rfl, rfl⟩ rfl rfl

theorem ownGroupSeen_of_holding {s : State} (here : s.ptb.exErector = true) (holding : s.thu.group = .moving .holding) :
    ownGroupSeen s = holdingSeen s.own (.moving .holding) s := by
  rw [ownGroupSeen_here here, holding, retractedSeen_stays fun _ _ all => by simp at all]

theorem ownGroupSeen_holding {s : State} {t : Retraction} (here : s.ptb.exErector = true)
    (retraction : s.bsq.retraction = some t) (target : t.target = s.own) (holding : s.thu.group = .moving .holding) :
    (Proves s t → HoldingEnds t s (ownGroupSeen s)) ∧
      (¬Proves s t → (ownGroupSeen s).bsq.retraction = some t ∧ (ownGroupSeen s).bsq.state = s.bsq.state ∧
        (ownGroupSeen s).fpt = s.fpt) := by
  rw [ownGroupSeen_of_holding here holding]
  refine ⟨fun proves => holdingSeen_ends (f := fun q => q) retraction rfl target proves ⟨rfl, rfl, rfl, rfl, rfl, rfl⟩ rfl,
    fun unproven => ?_⟩
  rw [holdingSeen_keeps fun t' retraction' both => unproven (by
    obtain rfl : t' = t := Option.some.inj (retraction'.symm.trans retraction)
    exact both.2)]
  exact ⟨retraction, rfl, rfl⟩

theorem ownGroupSeen_extended {s : State} {o : OutRequest} (here : s.ptb.exErector = true)
    (request : s.bsq.request = some o) (extend : o.kind = .extend) (target : o.target = s.own)
    (accepted : o.accepted = true) (holding : s.thu.group = .moving .holding) :
    (ownGroupSeen s).bsq.request = none := by
  rw [ownGroupSeen_of_holding here holding]
  exact holdingSeen_request request extend target accepted

theorem ownGroupSeen_stays {s : State} (unretracted : s.thu.group ≠ .moving .retracted)
    (unheld : s.thu.group ≠ .moving .holding) : ownGroupSeen s = s := by
  by_cases here : s.ptb.exErector = true
  · rw [ownGroupSeen_here here, retractedSeen_stays fun _ _ all => unretracted all.2.2.2, holdingSeen_unheld unheld]
  · exact ownGroupSeen_elsewhere (Bool.eq_false_iff.2 here)

/-! ## RETRACT_GROUP and EXTEND_GROUP issued (R82, R84) -/

/-- A request to the own station is answered by THU in the same event. -/
theorem issueLocal_eq (kind : RequestKind) (s : State) :
    issueLocal kind s =
      (markAnswer (answerRequest s.own kind s.bsq.cursorRing s.bsq.nextTag s).2
          ((answerRequest s.own kind s.bsq.cursorRing s.bsq.nextTag s).1.onBsq (issueRequest kind s.own none)),
        (answerRequest s.own kind s.bsq.cursorRing s.bsq.nextTag s).2) := by
  unfold issueLocal
  dsimp only
  rw [answerRequest_onBsq]

theorem suspend_unretracted {s : State} (underway : Underway s) (retraction : s.bsq.retraction = none) :
    suspend s = setBuild .suspended s := by
  rw [suspend, if_pos ((stepping_iff_underway s).2 underway)]
  exact (sendBack_bringsBack _).none (by simp [setBuild_bsq, enterBuild, retraction])

theorem retractTest_waits {s : State}
    (h : ¬(s.ptb.exErector = true ∧ s.bsq.state = .awaitRetract ∧ s.bsq.issued = false)) : retractTest s = s := by
  refine if_pos ?_
  rw [bsqActive]
  simpa only [not_and_or, Bool.not_eq_true, Bool.not_eq_false] using h

theorem retractTest_tests {s : State}
    (h : s.ptb.exErector = true ∧ s.bsq.state = .awaitRetract ∧ s.bsq.issued = false) :
    retractTest s =
      if targetHere s (cursorTarget s) = false then suspend s
      else if inForce s .sectorMissing = true ∨ s.bsq.retraction.isSome = true then s
      else issueRetract s := by
  refine if_neg ?_
  rw [bsqActive]
  simp [h]

theorem targetHere_iff (s : State) (j : Nat) : targetHere s j = true ↔ j = s.own ∨ present s j = true := by
  simp [targetHere]

/-- A request turned down in the state that waits for it suspends the build. -/
theorem stepAnswer_turned {a : Answer} {w : State} {o : OutRequest} (other : a ≠ .accepted)
    (request : w.bsq.request = some o) (waits : w.bsq.state = .awaitRetract ∨ w.bsq.state = .awaitExtend) :
    stepAnswer a (markAnswer a w) = suspend (turnedDown o w) := by
  rw [markAnswer_of_ne other, settleRefused_eq request, stepAnswer_of_ne other]
  exact if_pos waits

theorem stepAnswer_settled {a : Answer} {w : State} {o : OutRequest} (other : a ≠ .accepted)
    (request : w.bsq.request = some o) (unwaited : ¬(w.bsq.state = .awaitRetract ∨ w.bsq.state = .awaitExtend)) :
    stepAnswer a (markAnswer a w) = turnedDown o w := by
  rw [markAnswer_of_ne other, settleRefused_eq request, stepAnswer_of_ne other]
  exact if_neg unwaited

theorem turnedRetraction_suspends {w : State} {o : OutRequest} (retract : o.kind = .retract)
    (waits : w.bsq.state = .awaitRetract) :
    suspend (turnedDown o w) = setBuild .suspended (turnedDown o w) :=
  suspend_unretracted ⟨by simp [turnedDown, waits], by simp [turnedDown, waits]⟩ (if_pos retract)

/-- The request RETRACT_GROUP of the placement at the cursor. -/
def retractRequest (target : Nat) (s : State) : OutRequest :=
  { kind := .retract, tag := s.bsq.nextTag, target := target, ring := s.bsq.cursorRing, accepted := false }

/-- The station as it asks its own group to retract: THU's answer given, BSQ's request outstanding. -/
theorem issueRetract_asks {s : State} (here : cursorTarget s = s.own) :
    ∃ w, issueRetract s =
        stepAnswer (answerRequest s.own .retract s.bsq.cursorRing s.bsq.nextTag s).2
          (markAnswer (answerRequest s.own .retract s.bsq.cursorRing s.bsq.nextTag s).2 w) ∧
      w.bsq =
        { s.bsq with
          issued := true, request := some (retractRequest s.own s), nextTag := s.bsq.nextTag + 1
          retraction := some { placement := s.bsq.cursor, target := s.own, proven := false, deadline := none }
          answerWait := none } ∧
      w.thu = (answerRequest s.own .retract s.bsq.cursorRing s.bsq.nextTag s).1.thu ∧ w.lif = s.lif ∧
      w.elapsed = s.elapsed := by
  have issued : issueRetract s =
      stepAnswer (issueLocal .retract (s.onBsq fun q => { q with issued := true })).2
        (issueLocal .retract (s.onBsq fun q => { q with issued := true })).1 := if_pos here
  rw [issued, issueLocal_eq]
  rw [show answerRequest (s.onBsq fun q => { q with issued := true }).own .retract
      (s.onBsq fun q => { q with issued := true }).bsq.cursorRing
      (s.onBsq fun q => { q with issued := true }).bsq.nextTag (s.onBsq fun q => { q with issued := true }) = _ from
    answerRequest_onBsq s.own .retract s.bsq.cursorRing s.bsq.nextTag _ s]
  have bsq := answerRequest_bsq s.own .retract s.bsq.cursorRing s.bsq.nextTag s
  have lif : (answerRequest s.own .retract s.bsq.cursorRing s.bsq.nextTag s).1.lif = s.lif := by simp
  have elapsed : (answerRequest s.own .retract s.bsq.cursorRing s.bsq.nextTag s).1.elapsed = s.elapsed := by simp
  generalize answerRequest s.own .retract s.bsq.cursorRing s.bsq.nextTag s = a at bsq lif elapsed
  refine ⟨_, rfl, ?_, rfl, lif, elapsed⟩
  exact congrArg (fun q : BsqState => issueRequest .retract s.own none { q with issued := true }) bsq

/-- RETRACT_GROUP asked of the own station: accepted it moves on, turned down the build is suspended. -/
theorem issueRetract_here {s : State} (here : cursorTarget s = s.own) (waits : s.bsq.state = .awaitRetract) :
    let u := issueRetract s
    let a := answerRequest s.own .retract s.bsq.cursorRing s.bsq.nextTag s
    u.thu = a.1.thu ∧ u.bsq.nextTag = s.bsq.nextTag + 1 ∧ u.bsq.answerWait = none ∧ u.lif = s.lif ∧
      (a.2 = .accepted →
        u.bsq.request = some { retractRequest s.own s with accepted := true } ∧
        u.bsq.retraction = some { placement := s.bsq.cursor, target := s.own, proven := true, deadline := none } ∧
        u.bsq.state = .awaitRetract ∧ u.bsq.retractTimer = some s.elapsed ∧ u.bsq.unanswered = false) ∧
      (a.2 ≠ .accepted → u.bsq.request = none ∧ u.bsq.retraction = none ∧ u.bsq.state = .suspended) := by
  obtain ⟨w, asks, bsq, thu, lif, elapsed⟩ := issueRetract_asks here
  have request : w.bsq.request = some (retractRequest s.own s) := congrArg (·.request) bsq
  have state : w.bsq.state = .awaitRetract := (congrArg (·.state) bsq).trans waits
  have tag : w.bsq.nextTag = s.bsq.nextTag + 1 := congrArg (·.nextTag) bsq
  have retraction : w.bsq.retraction = some _ := congrArg (·.retraction) bsq
  dsimp only
  rw [asks]
  generalize answerRequest s.own .retract s.bsq.cursorRing s.bsq.nextTag s = a at thu ⊢
  by_cases accepted : a.2 = .accepted
  · rw [accepted, show stepAnswer .accepted (markAnswer .accepted w) = markAccepted w from rfl, markAccepted_eq request]
    refine ⟨thu, tag, rfl, lif, fun _ => ⟨rfl, ?_, state, ?_, rfl⟩, fun no => absurd rfl no⟩
    · simp [retraction, retractRequest]
    · simp [state, retractRequest, elapsed]
  · rw [stepAnswer_turned accepted request (.inl state), turnedRetraction_suspends rfl state]
    exact ⟨thu, tag, rfl, lif, fun yes => absurd yes accepted, fun _ => ⟨rfl, rfl, rfl⟩⟩

theorem issueFrame_bsq (kind : RequestKind) (target : Nat) (s : State) :
    (issueFrame kind target s).bsq = issueRequest kind target (some s.elapsed) s.bsq :=
  congrArg (issueRequest kind target (some s.elapsed)) (by simp)

theorem handFrame_onBsq (f : TxFrame) (g : BsqState → BsqState) (s : State) :
    handFrame f (s.onBsq g) = (handFrame f s).onBsq g := by
  have drop (u : State) : countQueueDrop (u.onBsq g) = (countQueueDrop u).onBsq g := by
    unfold countQueueDrop
    exact setFlagIf_onBsq rfl rfl
  unfold handFrame
  rw [State.onBsq_lif]
  by_cases status : (f.body.isStatus && s.lif.queue.any (fun g => g.body.isStatus)) = true
  · rw [if_pos status, if_pos status]
    rfl
  rw [if_neg status, if_neg status]
  by_cases room : s.lif.queue.length < Config.queueSize
  · rw [if_pos room, if_pos room]
    rfl
  rw [if_neg room, if_neg room]
  by_cases lower : lowerQueued f s.lif.queue = true
  · rw [if_pos lower, if_pos lower]
    exact drop (s.onLif fun l => { l with queue := insertFrame f l.queue.dropLast })
  · rw [if_neg lower, if_neg lower]
    exact drop s

/-- A REQUEST issued is a frame handed, and beside BSQ nothing more. -/
theorem issueFrame_rest (kind : RequestKind) (target : Nat) (f : BsqState → BsqState) (s : State) :
    { issueFrame kind target (s.onBsq f) with bsq := s.bsq } = handFrame (requestFrame kind target (f s.bsq)) s := by
  unfold issueFrame
  rw [handFrame_onBsq]
  exact withBsq_eq (u := handFrame (requestFrame kind target (f s.bsq)) s) (by simp)

/-- RETRACT_GROUP asked of a peer goes out as a frame. -/
theorem issueRetract_away {s : State} (away : cursorTarget s ≠ s.own) :
    (issueRetract s).bsq =
        { s.bsq with
          issued := true, request := some (retractRequest (cursorTarget s) s), nextTag := s.bsq.nextTag + 1
          retraction := some { placement := s.bsq.cursor, target := cursorTarget s, proven := false, deadline := none }
          answerWait := some s.elapsed } ∧
      { issueRetract s with bsq := s.bsq } =
        handFrame { dest := cursorTarget s, body := .request .retract s.bsq.cursorRing s.bsq.nextTag } s := by
  have issued : issueRetract s = issueFrame .retract (cursorTarget s) (s.onBsq fun q => { q with issued := true }) :=
    if_neg away
  rw [issued]
  exact ⟨issueFrame_bsq .retract (cursorTarget s) _, issueFrame_rest .retract (cursorTarget s) _ s⟩

/-- The permission test of AWAIT_RETRACT (R87). -/
theorem retractTest_permits (s : State) :
    let u := retractTest s
    let target := (placementAt s.cfg.image s.bsq.cursor).position * s.cfg.image.nS / 360
    let tests := s.ptb.exErector = true ∧ s.bsq.state = .awaitRetract ∧ s.bsq.issued = false
    let waits := inForce s .sectorMissing = true ∨ s.bsq.retraction ≠ none
    let out : Retraction := { placement := s.bsq.cursor, target := target, proven := false, deadline := none }
    (¬tests → u = s) ∧
    (tests → target ≠ s.own → present s target = false → EntersSuspended s u) ∧
    (tests → target = s.own ∨ present s target = true → waits → u = s) ∧
    (tests → target ≠ s.own → present s target = true → ¬waits →
      u.bsq =
        { s.bsq with
          issued := true, request := some (retractRequest target s), nextTag := s.bsq.nextTag + 1
          retraction := some out, answerWait := some s.elapsed } ∧
      { u with bsq := s.bsq } =
        handFrame { dest := target, body := .request .retract s.bsq.cursorRing s.bsq.nextTag } s) ∧
    (tests → target = s.own → ¬waits →
      let a := answerRequest s.own .retract s.bsq.cursorRing s.bsq.nextTag s
      u.thu = a.1.thu ∧ u.bsq.nextTag = s.bsq.nextTag + 1 ∧ u.bsq.answerWait = none ∧ u.lif = s.lif ∧
      (a.2 = .accepted →
        u.bsq.request = some { retractRequest target s with accepted := true } ∧
        u.bsq.retraction = some { out with proven := true } ∧ u.bsq.state = .awaitRetract ∧
        u.bsq.retractTimer = some s.elapsed ∧ u.bsq.unanswered = false) ∧
      (a.2 ≠ .accepted →
        u.bsq.request = none ∧ u.bsq.retraction = none ∧ u.bsq.state = .suspended)) := by
  dsimp only
  have target : (placementAt s.cfg.image s.bsq.cursor).position * s.cfg.image.nS / 360 = cursorTarget s := rfl
  rw [target]
  have waits_iff : (inForce s .sectorMissing = true ∨ s.bsq.retraction.isSome = true) ↔
      (inForce s .sectorMissing = true ∨ s.bsq.retraction ≠ none) := by
    rw [Option.isSome_iff_ne_none]
  have issues (tests : s.ptb.exErector = true ∧ s.bsq.state = .awaitRetract ∧ s.bsq.issued = false)
      (here : cursorTarget s = s.own ∨ present s (cursorTarget s) = true)
      (free : ¬(inForce s .sectorMissing = true ∨ s.bsq.retraction ≠ none)) : retractTest s = issueRetract s := by
    rw [retractTest_tests tests, if_neg (by rw [(targetHere_iff _ _).2 here]; simp), if_neg (mt waits_iff.1 free)]
  refine ⟨retractTest_waits, fun tests away gone => ?absent, fun tests here waits => ?waits,
    fun tests away here free => ?away, fun tests here free => ?here⟩
  case absent =>
    have nowhere : targetHere s (cursorTarget s) = false := by
      rw [Bool.eq_false_iff, Ne, targetHere_iff]
      simp [away, gone]
    rw [retractTest_tests tests, if_pos nowhere]
    exact suspend_enters ⟨by simp [tests.2.1], by simp [tests.2.1]⟩
  case waits =>
    rw [retractTest_tests tests, if_neg (by rw [(targetHere_iff _ _).2 here]; simp), if_pos (waits_iff.2 waits)]
  case away =>
    rw [issues tests (.inr here) free]
    exact issueRetract_away away
  case here =>
    rw [issues tests (.inl here) free, here]
    exact issueRetract_here here tests.2.1

/-- The state waits for the group, and the own station answers or is asked by a frame (R87). -/
theorem enterAwaitExtend_asks (s : State) :
    let u := enterAwaitExtend s
    let target := (placementAt s.cfg.image s.bsq.cursor).position * s.cfg.image.nS / 360
    let sent : OutRequest :=
      { kind := .extend, tag := s.bsq.nextTag, target := target, ring := s.bsq.cursorRing, accepted := false }
    ∃ e, EntersBuild .awaitExtend s e ∧
      (target ≠ s.own → present s target = false → EntersSuspended e u) ∧
      (target ≠ s.own → present s target = true →
        u.bsq =
          { e.bsq with
            request := some sent, nextTag := s.bsq.nextTag + 1
            answerWait := some s.elapsed, retraction := retractionKept s.bsq } ∧
        { u with bsq := e.bsq } =
          handFrame { dest := target, body := .request .extend s.bsq.cursorRing s.bsq.nextTag } e) ∧
      (target = s.own →
        let a := answerRequest s.own .extend s.bsq.cursorRing s.bsq.nextTag e
        let asked (q : BsqState) : State :=
          { a.1 with
            bsq :=
              { q with
                nextTag := s.bsq.nextTag + 1, answerWait := none, unanswered := false
                retraction := retractionKept s.bsq } }
        (a.2 = .accepted →
          u = asked
            { e.bsq with
              request := some { sent with accepted := true }
              extendTimer := some s.elapsed }) ∧
        (a.2 ≠ .accepted → EntersSuspended (asked { e.bsq with request := none }) u)) := by
  dsimp only
  have target : (placementAt s.cfg.image s.bsq.cursor).position * s.cfg.image.nS / 360 = cursorTarget s := rfl
  rw [target]
  have kept : keepDeadline (setBuild .awaitExtend s).bsq = retractionKept s.bsq := by
    rw [keepDeadline_eq_kept, setBuild_bsq]
    rfl
  have registers : (setBuild .awaitExtend s).bsq.nextTag = s.bsq.nextTag ∧
      (setBuild .awaitExtend s).bsq.cursorRing = s.bsq.cursorRing ∧ (setBuild .awaitExtend s).own = s.own ∧
      (setBuild .awaitExtend s).elapsed = s.elapsed := ⟨rfl, rfl, rfl, rfl⟩
  have waits : (setBuild .awaitExtend s).bsq.state = .awaitExtend := rfl
  have enters := setBuild_enters (b := .awaitExtend) (by simp) s
  refine ⟨setBuild .awaitExtend s, enters, fun away gone => ?absent, fun away here => ?away, fun here => ?here⟩
  case absent =>
    rw [enterAwaitExtend, if_neg away, if_neg (by simp [gone])]
    exact suspend_enters ⟨by simp [waits], by simp [waits]⟩
  case away =>
    rw [enterAwaitExtend, if_neg away, if_pos here]
    refine ⟨?_, ?_⟩
    · rw [← kept, issueFrame_bsq]
      rfl
    · exact withBsq_eq (u := handFrame _ (setBuild .awaitExtend s)) (by simp)
  case here =>
    have issued : enterAwaitExtend s =
        stepAnswer (issueLocal .extend (setBuild .awaitExtend s)).2 (issueLocal .extend (setBuild .awaitExtend s)).1 :=
      if_pos here
    rw [issued, issueLocal_eq, show answerRequest (setBuild .awaitExtend s).own .extend
        (setBuild .awaitExtend s).bsq.cursorRing (setBuild .awaitExtend s).bsq.nextTag (setBuild .awaitExtend s) =
      answerRequest s.own .extend s.bsq.cursorRing s.bsq.nextTag (setBuild .awaitExtend s) from rfl]
    have bsq := answerRequest_bsq s.own .extend s.bsq.cursorRing s.bsq.nextTag (setBuild .awaitExtend s)
    have elapsed : (answerRequest s.own .extend s.bsq.cursorRing s.bsq.nextTag (setBuild .awaitExtend s)).1.elapsed =
      s.elapsed := by simp
    generalize setBuild .awaitExtend s = e at *
    generalize answerRequest s.own .extend s.bsq.cursorRing s.bsq.nextTag e = a at bsq elapsed ⊢
    obtain ⟨v, answer⟩ := a
    dsimp only at bsq elapsed ⊢
    have request : (v.onBsq (issueRequest .extend e.own none)).bsq.request =
        some { kind := .extend, tag := s.bsq.nextTag, target := cursorTarget s, ring := s.bsq.cursorRing, accepted := false } := by
      simp [issueRequest, bsq, registers, here]
    have state : (v.onBsq (issueRequest .extend e.own none)).bsq.state = .awaitExtend := by
      simp [issueRequest, bsq, waits]
    refine ⟨fun accepted => ?_, fun other => ?_⟩
    · rw [accepted, show ∀ w, stepAnswer .accepted (markAnswer .accepted w) = markAccepted w from fun _ => rfl,
        markAccepted_eq request]
      simp [State.onBsq, issueRequest, retractionAfterIssue, bsq, kept, waits, registers, elapsed]
    · rw [stepAnswer_turned other request (.inr state)]
      have asked : turnedDown
          { kind := .extend, tag := s.bsq.nextTag, target := cursorTarget s, ring := s.bsq.cursorRing, accepted := false }
          (v.onBsq (issueRequest .extend e.own none)) =
          { v with
            bsq :=
              { e.bsq with
                request := none, nextTag := s.bsq.nextTag + 1, answerWait := none, unanswered := false
                retraction := retractionKept s.bsq } } := by
        simp [turnedDown, State.onBsq, issueRequest, retractionAfterIssue, bsq, kept, registers]
      rw [asked]
      refine suspend_enters (And.intro ?_ ?_)
      · exact fun idle => by cases waits.symm.trans idle
      · exact fun suspended => by cases waits.symm.trans suspended

/-! ## BUILD_WAIT at a STATUS and at a presence change (R78) -/

/-- No STATUS takes a build into BUILD_WAIT or out of it, or moves its cursor. -/
theorem targetSeen_waits (j : Nat) (r : StatusRecord) (s : State) :
    ((targetSeen j r s).bsq.state = .buildWait ↔ s.bsq.state = .buildWait) ∧
      (targetSeen j r s).bsq.cursor = s.bsq.cursor := by
  obtain ⟨-, plan, -, -⟩ := acceptedBy_keeps j r s
  have retracted (u : State) : ((retractedSeen j r.group u).bsq.state = .buildWait ↔ u.bsq.state = .buildWait) ∧
      (retractedSeen j r.group u).bsq.cursor = u.bsq.cursor := by
    unfold retractedSeen
    cases u.bsq.request with
    | none => exact ⟨.rfl, rfl⟩
    | some o =>
      dsimp only
      split_ifs with settled waits
      · rw [setBuild_bsq]
        simp [enterBuild, waits]
      · exact ⟨.rfl, rfl⟩
      · exact ⟨.rfl, rfl⟩
  have held (u : State) : ((holdingSeen j r.group u).bsq.state = .buildWait ↔ u.bsq.state = .buildWait) ∧
      (holdingSeen j r.group u).bsq.cursor = u.bsq.cursor := by
    by_cases holding : r.group = .moving .holding
    · rw [holding]
      by_cases clears : ∃ t, u.bsq.retraction = some t ∧ t.target = j ∧ Proves u t
      · obtain ⟨t, retraction, target, proves⟩ := clears
        have dropped := dropRetraction_eq (q := extendSettled j u.bsq) retraction
        rw [holdingSeen_clears retraction target proves]
        by_cases waits : u.bsq.state = .awaitExtend
        · rw [if_pos waits, setBuild_bsq, State.onBsq, dropped]
          simp [enterBuild, extendSettled, waits]
        · rw [if_neg waits, State.onBsq, dropped]
          exact ⟨.rfl, rfl⟩
      · rw [holdingSeen_keeps fun t retraction both => clears ⟨t, retraction, both⟩]
        exact ⟨.rfl, rfl⟩
    · rw [holdingSeen_unheld holding]
      exact ⟨.rfl, rfl⟩
  rw [targetSeen_eq, (held _).1, (retracted _).1, (held _).2, (retracted _).2, plan.2.2.2.2.1]
  exact ⟨.rfl, plan.1⟩

/-- The build beside the plan's cursor and the pins: all a STATUS of the target can move. -/
theorem targetSeen_rest (j : Nat) (r : StatusRecord) (s : State) :
    { targetSeen j r s with bsq := s.bsq, fpt := s.fpt } = s := by
  have all := targetSeen_frame j r s
  simp_all

theorem buildCountedStatus_elsewhere {j : Nat} {r : StatusRecord} {s : State} (elsewhere : s.ptb.exErector = false) :
    buildCountedStatus j r s = s :=
  if_neg (by simp [bsqActive, elsewhere])

/-- A SUBSTITUTED stroke is marked for the ring record. -/
def substitutionMarked (j : Nat) (r : StatusRecord) (s : State) : State :=
  if r.quality = .substituted then markSubstituted j s else s

theorem substitutionMarked_keeps (j : Nat) (r : StatusRecord) (s : State) :
    (substitutionMarked j r s).bsq.state = s.bsq.state ∧ (substitutionMarked j r s).bsq.cursor = s.bsq.cursor ∧
      (substitutionMarked j r s).ptb = s.ptb ∧ (substitutionMarked j r s).elapsed = s.elapsed ∧
      { substitutionMarked j r s with bsq := s.bsq } = s := by
  unfold substitutionMarked
  by_cases marked : r.quality = .substituted
  · rw [if_pos marked]
    exact ⟨rfl, rfl, rfl, rfl, rfl⟩
  · rw [if_neg marked]
    exact ⟨rfl, rfl, rfl, rfl, rfl⟩

/-- What BUILD_WAIT makes of a STATUS: it goes on where every peer present is BUILDING. -/
theorem buildCountedStatus_waits (j : Nat) (r : StatusRecord) {s : State} (here : s.ptb.exErector = true) :
    let u := targetSeen j r (substitutionMarked j r s)
    let t := buildCountedStatus j r s
    let peersBuild := ∀ p ∈ presentPeers s, p.2.phase = .building
    (s.bsq.state ≠ .buildWait ∨ ¬peersBuild → t = u) ∧
    (s.bsq.state = .buildWait → peersBuild →
      t.bsq.state = stepOf u.bsq.progress ∧
      t.bsq.stepTimer = some s.elapsed ∧ t.bsq.retraction = u.bsq.retraction ∧
      t.bsq.request = u.bsq.request ∧ t.bsq.cursor = s.bsq.cursor ∧
      { t with bsq := s.bsq, fpt := s.fpt } = s) := by
  dsimp only
  obtain ⟨state, cursor, ptb, elapsed, rest⟩ := substitutionMarked_keeps j r s
  have waits := (targetSeen_waits j r (substitutionMarked j r s)).1
  have all : allBuilding (targetSeen j r (substitutionMarked j r s)) = true ↔
      ∀ p ∈ presentPeers s, p.2.phase = .building := by
    rw [← allBuilding_iff, allBuilding_congr (s := s) (u := targetSeen j r (substitutionMarked j r s)) (by simp [ptb])]
  rw [state] at waits
  have seen : buildCountedStatus j r s = buildWaitTest (targetSeen j r (substitutionMarked j r s)) := if_pos here
  rw [seen]
  refine ⟨fun stays => buildWaitTest_stays fun both => ?_, fun waiting peers => ?_⟩
  · exact stays.elim (fun other => other (waits.1 both.1)) fun unready => unready (all.1 both.2)
  · obtain ⟨next, -, timer, -, -⟩ := buildWaitTest_goes (waits.2 waiting) (all.2 peers)
    refine ⟨next, ?_, by simp, by simp, ?_, ?_⟩
    · rw [timer, targetSeen_frame .. |>.2.1, elapsed]
    · rw [buildWaitTest_fields .. |>.1, (targetSeen_waits j r _).2, cursor]
    · have moved := buildWaitTest_rest (targetSeen j r (substitutionMarked j r s))
      have shown := targetSeen_rest j r (substitutionMarked j r s)
      generalize substitutionMarked j r s = m at *
      generalize targetSeen j r m = v at *
      calc { buildWaitTest v with bsq := s.bsq, fpt := s.fpt }
          = { { buildWaitTest v with bsq := v.bsq, fpt := v.fpt } with bsq := s.bsq, fpt := s.fpt } := rfl
        _ = { v with bsq := s.bsq, fpt := s.fpt } := by rw [moved]
        _ = { { v with bsq := m.bsq, fpt := m.fpt } with bsq := s.bsq, fpt := s.fpt } := rfl
        _ = { m with bsq := s.bsq, fpt := s.fpt } := by rw [shown]
        _ = { { m with bsq := s.bsq } with fpt := s.fpt } := rfl
        _ = s := by rw [rest]

/-- What a change of presence brings to the build of its holder. -/
theorem buildPresence_cases {j : Nat} {s : State} (here : s.ptb.exErector = true) :
    let u := buildPresence j s
    let back := present s j = true ∧ s.bsq.state = .suspended ∧ ∃ t ∈ s.bsq.retraction, t.target = j
    let lost := ¬present s j = true ∧ cursorTarget s = j ∧
      (s.bsq.state = .place ∨ s.bsq.state = .awaitExtend ∨ (s.bsq.state = .awaitRetract ∧ s.bsq.issued = true))
    (back → BringsBack s u) ∧ (lost → EntersSuspended s u) ∧
    (¬back → ¬lost → u = buildWaitTest s) := by
  dsimp only
  have targets : retractionTarget s j = true ↔ ∃ t ∈ s.bsq.retraction, t.target = j := by
    cases retraction : s.bsq.retraction <;> simp [retractionTarget, retraction]
  have needs : needsTarget s = true ↔ s.bsq.state = .place ∨ s.bsq.state = .awaitExtend ∨
      (s.bsq.state = .awaitRetract ∧ s.bsq.issued = true) := by
    simp [needsTarget, or_assoc]
  have active : buildPresence j s =
      if present s j then buildWaitTest (if retractionTarget s j then sendBack s else s)
      else buildWaitTest (if needsTarget s ∧ cursorTarget s = j then suspend s else s) := if_pos here
  refine ⟨fun ⟨came, suspended, target⟩ => ?_, fun ⟨gone, target, waits⟩ => ?_, fun unreturned kept => ?_⟩
  · have sent := sendBack_bringsBack s
    have rests : (sendBack s).bsq.state = .suspended := by
      rw [← suspended]
      exact congrArg (·.state) sent.bsq
    rw [active, if_pos came, if_pos (targets.2 target), buildWaitTest_stays fun both => by simp [rests] at both]
    exact sent
  · have underway : Underway s := by rcases waits with h | h | ⟨h, -⟩ <;> simp [Underway, h]
    have suspends := suspend_enters underway
    have rests : (suspend s).bsq.state = .suspended := congrArg (·.state) (suspends.bsq underway).1
    rw [active, if_neg gone, if_pos ⟨needs.2 waits, target⟩, buildWaitTest_stays fun both => by simp [rests] at both]
    exact suspends
  · by_cases came : present s j = true
    · rw [active, if_pos came]
      by_cases target : retractionTarget s j = true
      · have other : s.bsq.state ≠ .suspended := fun suspended => unreturned ⟨came, suspended, targets.1 target⟩
        rw [if_pos target, (sendBack_bringsBack s).2 fun t _ due => other due.1]
      · rw [if_neg target]
    · rw [active, if_neg came, if_neg fun both => kept ⟨came, both.2, needs.1 both.1⟩]

/-- A STATUS that counts reaches the blocks with its record served and BSQ and THU as they stood. -/
theorem statusHeard_counts {s : State} {chars : Chars} {h : Header} {r : StatusRecord}
    (heard : hears s chars h (.status r)) (room : s.ptb.peers.length = 8)
    (here : (peerOf s h.source).liveness = .live ∨ (peerOf s h.source).liveness = .silent)
    (erector : r.erectorPart.isSome = true → (peerOf s h.source).claims.erector = true)
    (conveyor : r.conveyorPart.isSome = true → (peerOf s h.source).claims.conveyor = true) :
    ∃ v, exec (.status chars) s = .next (settle (holderHeard h.source r (buildCountedStatus h.source r v))) ∧
      v.bsq = s.bsq ∧ v.thu = s.thu ∧ v.elapsed = s.elapsed ∧ v.phase = s.phase ∧ v.cfg = s.cfg ∧
      v.ptb.exErector = s.ptb.exErector ∧ served v h.source = some r := by
  have length : h.source < (lineUsed s).ptb.peers.length := by
    have source := source_lt_of_valid heard.2.1 (by simp [Body.kindCode])
    change h.source < s.ptb.peers.length
    omega
  have changed := changePeer_statusEntry (s := lineUsed s) (now := s.elapsed) (seq := h.seq) (r := r) here erector conveyor
  obtain ⟨-, stored, -, -, live, -, -⟩ := statusEntry_moves s.elapsed h.seq r (peerOf s h.source)
  have after := live here
  have record := (stored (by rcases here with l | l <;> simp [l]) (by rcases here with l | l <;> simp [l])).1
  have peer : peerStatus h.source h.seq r (lineUsed s) =
      countedNotice h.source r (setPeer h.source (statusEntry s.elapsed h.seq r (peerOf s h.source)) (lineUsed s)) := by
    exact (if_pos after).trans (congrArg (countedNotice h.source r) changed)
  have acts : statusHeard h (.status r) (lineUsed s) =
      some (holderHeard h.source r (buildCountedStatus h.source r (driveCountedStatus h.source r
        (setPeer h.source (statusEntry s.elapsed h.seq r (peerOf s h.source)) (lineUsed s))))) :=
    congrArg some peer
  refine ⟨_, hear_valid (act := statusHeard) heard acts, by simp, by simp, by simp, by simp, by simp, by simp, ?_⟩
  refine served_of_entry ?_ after record
  rw [entriesKept_driveCountedStatus h.source r _ h.source, peerOf_setPeer_same _ length]

/-- Settles O28: what an answer, its absence, a STATUS, the own group and a presence change make of the request,
and how RETRACT_GROUP and EXTEND_GROUP are issued. -/
theorem answersSettleTheRequest : Obligations.AnswersSettleTheRequest := by
  unfold Obligations.AnswersSettleTheRequest
  intro sent frame shows proves goesOn retractedEnds holdingEnds
  refine ⟨fun s start r wait due request => ?unanswered, fun s chars h tag a heard => ?reply,
    fun s chars h r heard room here erector conveyor => statusHeard_counts heard room here erector conveyor,
    fun j r s => ?counted, fun j r s => ?target, fun s => ?own, retractTest_permits, fun s j => ?presence,
    enterAwaitExtend_asks⟩
  case unanswered =>
    have run := exec_answerWaitExpiry wait due
    have settled := unansweredMark_eq request
    refine ⟨fun underway => ⟨_, run, ?_⟩, fun resting retract => ?_, fun resting extend => ⟨_, run, ?_⟩⟩
    · rw [answerExpires_underway underway, settled]
      exact suspend_enters underway
    · rw [run, answerExpires_resting resting request, if_neg (by simp [retract]), settled]
    · rw [answerExpires_resting resting request, if_pos extend, settled]
      exact sendBack_bringsBack _
  case reply =>
    dsimp only
    generalize own : peerOther h.source h.seq (lineUsed s) = s1
    have elapsed : s1.elapsed = s.elapsed := by rw [← own]; simp
    refine ⟨fun other => ?_, fun o dest answers => ⟨stepAnswer a (markAnswer a s1), ?_, ?_, ?_, by simp⟩⟩
    · refine hear_valid (act := replyHeard) heard (congrArg some ?_)
      rw [own]
      by_cases dest : h.dest = (lineUsed s).own
      · rw [if_pos dest]
        exact replyArrival_other a (other.resolve_left fun no => no dest)
      · exact if_neg dest
    · refine hear_valid (act := replyHeard) heard (congrArg some ?_)
      rw [own]
      exact (if_pos dest).trans (replyArrival_answers a answers.1 answers.2)
    · rintro rfl
      rw [show stepAnswer .accepted (markAnswer .accepted s1) = markAccepted s1 from rfl, markAccepted_eq answers.1]
      exact ⟨rfl, rfl, rfl, rfl, fun retract waits => by simp [retract, waits, elapsed],
        fun extend waits => by simp [extend, waits, elapsed], rfl⟩
    · refine ⟨fun other unwaited => stepAnswer_settled other answers.1 unwaited, fun other waits => ?_⟩
      rw [stepAnswer_turned other answers.1 waits]
      refine suspend_enters ?_
      rcases waits with w | w <;> simp [Underway, w]
  case counted =>
    exact ⟨buildCountedStatus_elsewhere, fun here => (buildCountedStatus_waits j r here).1,
      fun here => (buildCountedStatus_waits j r here).2⟩
  case target =>
    exact ⟨fun o request waits shows' moves unretracted =>
        (targetSeen_accepts request waits shows' moves unretracted).trans (markAccepted_eq request),
      fun o => targetSeen_retracted, fun t => targetSeen_holding, fun o => targetSeen_extended, targetSeen_stays⟩
  case own =>
    exact ⟨ownGroupSeen_elsewhere, fun o => ownGroupSeen_retracted, fun t => ownGroupSeen_holding,
      fun o => ownGroupSeen_extended, ownGroupSeen_stays⟩
  case presence =>
    refine ⟨fun elsewhere => if_neg (by simp [bsqActive, elsewhere]), fun here => ?_⟩
    obtain ⟨back, lost, stays⟩ := buildPresence_cases (j := j) here
    refine ⟨back, lost, fun unreturned kept unready => ?_, fun waiting peers => ?_⟩
    · exact (stays unreturned kept).trans (buildWaitTest_stays fun both =>
        unready.elim (fun no => no both.1) fun no => no ((allBuilding_iff s).1 both.2))
    · have same : buildPresence j s = buildWaitTest s :=
        stays (fun h => by simp [waiting] at h) (fun h => by simp [waiting] at h)
      obtain ⟨state, -, timer, -, -⟩ := buildWaitTest_goes waiting ((allBuilding_iff s).2 peers)
      rw [same]
      exact ⟨state, timer, by simp, by simp, by simp, buildWaitTest_rest s⟩

end Sys2Proof.Machine
end

section
/-! The torques of the cutterhead and its motor references (02_cutterhead_drive_and_duty_levels section 2.8 and
2.9). -/

namespace Sys2Proof.Machine

open Sys2Proof

theorem foldl_pair_sum {α : Type} (f : α → Int) (g : α → Nat) (l : List α) (a : Int) (b : Nat) :
    l.foldl (fun acc p => (acc.1 + f p, acc.2 + g p)) (a, b) = (a + (l.map f).sum, b + (l.map g).sum) := by
  induction l generalizing a b with
  | nil => simp
  | cons p l ih => rw [List.foldl_cons, ih]; simp [add_assoc]

theorem sharedTorque_eq (s : State) :
    sharedTorque s =
      (torqueSum s +
          (((presentPeers s).filter fun p => decide (1 ≤ p.2.motorCount)).map fun p => p.2.torqueSum).sum,
        motorCount s +
          (((presentPeers s).filter fun p => decide (1 ≤ p.2.motorCount)).map fun p => p.2.motorCount).sum) :=
  foldl_pair_sum (fun p : Nat × StatusRecord => p.2.torqueSum) (fun p => p.2.motorCount) _ _ _

/-- R43: a motor above the mean runs slower by the droop term, and not below 0. -/
theorem motorReference_eq (s : State) (fitted counted : Bool) (t : Int) :
    (motorReference s fitted counted t).1 =
      if fitted = false then 0
      else if counted = true ∧ (sharedTorque s).2 ≠ 0 ∧ (sharedTorque s).1 / (sharedTorque s).2 < t then
        max 0 (s.dsu.nr - s.cfg.image.dDroop * (t - (sharedTorque s).1 / (sharedTorque s).2) / 1000)
      else s.dsu.nr := by
  unfold motorReference
  dsimp only
  by_cases unfitted : fitted = false
  · rw [if_pos unfitted, if_pos unfitted]
  rw [if_neg unfitted, if_neg unfitted]
  by_cases above : counted = true ∧ (sharedTorque s).2 ≠ 0 ∧ (sharedTorque s).1 / (sharedTorque s).2 < t
  · rw [if_pos above, if_neg (by rw [not_or, not_or, not_le]; simpa using above)]
    split_ifs with below
    · exact (max_eq_left (by dsimp only; omega)).symm
    · exact (max_eq_right (by dsimp only; omega)).symm
  · rw [if_neg above, if_pos (by
      by_contra no
      rw [not_or, not_or, not_le] at no
      exact above (by simpa using no))]

theorem motorCount_eq (s : State) :
    motorCount s = (if motor0Counted s then 1 else 0) + (if motor1Counted s then 1 else 0) := by
  unfold motorCount
  cases motor0Counted s <;> cases motor1Counted s <;> rfl

theorem writeMotors_written (s : State) :
    (writeMotors s).fpt.written =
      { s.fpt.written with
        motor0 := (motorReference s (isFitted s .motorRef0) (motor0Counted s) (inputValue s .motorTorque0)).1
        motor1 := (motorReference s (isFitted s .motorRef1) (motor1Counted s) (inputValue s .motorTorque1)).1 } := by
  simp [writeMotors]

/-- Settles O17: the total torque, its two conditions and the ring maximum, and both motor references. -/
theorem torqueSampleFormsTotalAndReferences : Obligations.TorqueSampleFormsTotalAndReferences := by
  intro s
  have motors : (torqueArrival s).fpt.written = _ := writeMotors_written (formTotalTorque s)
  have shared0 := motorReference_eq s (isFitted s .motorRef0) (motor0Counted s) (inputValue s .motorTorque0)
  have shared1 := motorReference_eq s (isFitted s .motorRef1) (motor1Counted s) (inputValue s .motorTorque1)
  rw [sharedTorque_eq] at shared0 shared1
  have dsu : (torqueArrival s).dsu = (formTotalTorque s).dsu := by
    simp [torqueArrival]
  refine ⟨rfl, motorCount_eq s, ?_⟩
  dsimp only
  rw [motors, dsu]
  refine ⟨decide_eq_true_iff, decide_eq_true_iff, rfl, shared0, shared1, rfl, by simp⟩

end Sys2Proof.Machine
end

section
/-! The duty evaluation: the ramp step, the comparison of the load, and the step of the own choice
(02_cutterhead_drive_and_duty_levels section 2.2, 2.5 and 2.6). -/

namespace Sys2Proof.Machine

open Sys2Proof

/-! ## The neighbours of a level (R28) -/

theorem nextLower_eq_some_iff (img : Image) (l k : Nat) :
    nextLower img l = some k ↔
      k < l ∧ (levelAt img k).valid = true ∧ ∀ m, k < m → m < l → ¬(levelAt img m).valid = true := by
  induction l with
  | zero => simp [nextLower]
  | succ l ih =>
    rw [nextLower]
    by_cases valid : (levelAt img l).valid = true
    · rw [if_pos valid, Option.some.injEq]
      constructor
      · rintro rfl
        exact ⟨by omega, valid, fun m _ _ => by omega⟩
      · rintro ⟨below, -, none⟩
        by_contra other
        exact none l (by omega) (by omega) valid
    · rw [if_neg valid, ih]
      constructor
      · rintro ⟨below, here, none⟩
        refine ⟨by omega, here, fun m above under => ?_⟩
        rcases Nat.lt_succ_iff_lt_or_eq.1 under with lower | rfl
        · exact none m above lower
        · exact valid
      · rintro ⟨below, here, none⟩
        rcases Nat.lt_succ_iff_lt_or_eq.1 below with lower | rfl
        · exact ⟨lower, here, fun m above under => none m above (by omega)⟩
        · exact absurd here valid

/-- The first of an increasing list that passes a test. -/
theorem find?_increasing {p : Nat → Bool} {l : List Nat} (increasing : l.Pairwise (· < ·)) (k : Nat) :
    l.find? p = some k ↔ k ∈ l ∧ p k = true ∧ ∀ m ∈ l, m < k → ¬p m = true := by
  induction l with
  | nil => simp
  | cons a l ih =>
    obtain ⟨above, rest⟩ := List.pairwise_cons.1 increasing
    by_cases first : p a = true
    · rw [List.find?_cons_of_pos first, Option.some.injEq]
      constructor
      · rintro rfl
        refine ⟨List.mem_cons_self, first, fun m inside below => ?_⟩
        rcases List.mem_cons.1 inside with rfl | later
        · omega
        · have := above m later; omega
      · rintro ⟨inside, -, none⟩
        rcases List.mem_cons.1 inside with same | later
        · exact same.symm
        · exact absurd first (none a List.mem_cons_self (above k later))
    · rw [List.find?_cons_of_neg first, ih rest]
      constructor
      · rintro ⟨inside, here, none⟩
        refine ⟨List.mem_cons_of_mem a inside, here, fun m member below => ?_⟩
        rcases List.mem_cons.1 member with rfl | later
        · exact first
        · exact none m later below
      · rintro ⟨inside, here, none⟩
        rcases List.mem_cons.1 inside with rfl | later
        · exact absurd here first
        · exact ⟨later, here, fun m member => none m (List.mem_cons_of_mem a member)⟩

theorem nextHigher_eq_some_iff (img : Image) (l k : Nat) :
    nextHigher img l = some k ↔
      l < k ∧ k ≤ 7 ∧ (levelAt img k).valid = true ∧ ∀ m, l < m → m < k → ¬(levelAt img m).valid = true := by
  rw [nextHigher, find?_increasing (by decide)]
  have member (m : Nat) : m ∈ [1, 2, 3, 4, 5, 6, 7] ↔ 1 ≤ m ∧ m ≤ 7 := by
    simp only [List.mem_cons, List.not_mem_nil, or_false]
    omega
  simp only [member, Bool.and_eq_true, decide_eq_true_eq]
  constructor
  · rintro ⟨range, ⟨above, valid⟩, none⟩
    exact ⟨above, range.2, valid, fun m higher under valid' => none m ⟨by omega, by omega⟩ under ⟨higher, valid'⟩⟩
  · rintro ⟨above, top, valid, none⟩
    exact ⟨⟨by omega, top⟩, ⟨above, valid⟩, fun m _ under both => none m both.1 under both.2⟩

/-! ## The ramp step (R30) -/

/-- What n_r makes of the cutterhead where it stands after the ramp step. -/
def cutterheadAt (nr target : Int) : Cutterhead → Cutterhead
  | .starting => if nr = target then .running else .starting
  | .stopping => if nr = 0 then .stopped else .stopping
  | .running => .running
  | .stopped => .stopped
  | .tripped => .tripped

theorem dsu_eta {d : DsuState} {c : Cutterhead} {changing : Bool} (cutterhead : d.cutterhead = c)
    (same : d.changing = changing) : { d with cutterhead := c, changing := changing } = d := by
  subst cutterhead same
  rfl

theorem rampEnd_dsu (s : State) :
    (rampEnd s).dsu =
      { s.dsu with
        cutterhead := cutterheadAt s.dsu.nr (appliedSpeed s) s.dsu.cutterhead
        changing :=
          if s.dsu.cutterhead = .running ∧ s.dsu.nr = appliedSpeed s then false else s.dsu.changing } := by
  unfold rampEnd
  have calm {c : Cutterhead} (other : c ≠ .running) : ¬(c = .running ∧ s.dsu.nr = appliedSpeed s) := fun both => other both.1
  cases cutterhead : s.dsu.cutterhead with
  | starting =>
    rw [if_neg (calm (by simp)), cutterheadAt]
    dsimp only
    by_cases arrived : s.dsu.nr = appliedSpeed s
    · rw [if_pos arrived, if_pos arrived]
      rfl
    · rw [if_neg arrived, if_neg arrived]
      exact (dsu_eta cutterhead rfl).symm
  | running =>
    dsimp only
    by_cases arrived : s.dsu.nr = appliedSpeed s
    · rw [if_pos arrived, if_pos ⟨rfl, arrived⟩]
      exact congrArg (fun c => { s.dsu with cutterhead := c, changing := false }) cutterhead
    · rw [if_neg arrived, if_neg fun both => arrived both.2]
      exact (dsu_eta cutterhead rfl).symm
  | stopping =>
    rw [if_neg (calm (by simp)), cutterheadAt]
    dsimp only
    by_cases arrived : s.dsu.nr = 0
    · rw [if_pos arrived, if_pos arrived]
      rfl
    · rw [if_neg arrived, if_neg arrived]
      exact (dsu_eta cutterhead rfl).symm
  | stopped | tripped =>
    rw [if_neg (calm (by simp))]
    exact (dsu_eta cutterhead rfl).symm

theorem rampStep_dsu (s : State) :
    (rampStep s).dsu =
      { s.dsu with
        nr := rampedSpeed s, cutterhead := cutterheadAt (rampedSpeed s) (appliedSpeed s) s.dsu.cutterhead
        changing :=
          if s.dsu.cutterhead = .running ∧ rampedSpeed s = appliedSpeed s then false else s.dsu.changing } := by
  unfold rampStep
  rw [rampEnd_dsu]
  by_cases still : rampedSpeed s = s.dsu.nr
  · rw [if_pos still, still]
  · rw [if_neg still]
    have dsu : (writeMotors (s.onDsu fun d => { d with nr := rampedSpeed s })).dsu = { s.dsu with nr := rampedSpeed s } := by
      simp
    have speed : appliedSpeed (writeMotors (s.onDsu fun d => { d with nr := rampedSpeed s })) = appliedSpeed s := by
      simp [appliedSpeed]
    rw [dsu, speed]

theorem rampStep_fpt {s : State} (still : rampedSpeed s = s.dsu.nr) : (rampStep s).fpt = s.fpt := by
  rw [rampStep, if_pos still]
  simp

/-- R30, R43: the ramp step reaches the outputs and leaves what the sample served. -/
theorem rampStep_torque (s : State) :
    torqueSum (rampStep s) = torqueSum s ∧ motorCount (rampStep s) = motorCount s := by
  simp [torqueSum, motorCount, motor0Counted, motor1Counted, inputTrue, inputValid, inputValue, inputOf, isFitted]

/-! ## The proposal formed again (R38 to R42) -/

/-- R42: the applied level stands, or is another and changing until n_r is at its speed. -/
def LevelMoves (s u : State) : Prop :=
  (u.dsu.applied = s.dsu.applied ∧ u.dsu.changing = s.dsu.changing) ∨
    (u.dsu.applied ≠ s.dsu.applied ∧
      u.dsu.changing = decide (s.dsu.nr ≠ (levelAt s.cfg.image u.dsu.applied).speed))

theorem setApplied_moves {l : Nat} {s : State} (running : s.dsu.cutterhead = .running) (other : l ≠ s.dsu.applied) :
    LevelMoves s (setApplied l s) := by
  refine .inr ⟨by simpa using other, ?_⟩
  unfold setApplied
  dsimp only
  rw [if_pos running]
  split_ifs with arrived <;> simp [arrived]

theorem candidateNow_none {s : State} (low : s.dsu.proposed ≤ s.dsu.applied) : candidateNow s = none := by
  refine if_neg (Nat.not_lt.2 (le_trans ?_ low))
  exact (le_lowestProposal_iff.1 le_rfl).1

/-- The candidate stands, or the applied level is the candidate and the candidate is formed again. -/
theorem riseCheck_cases (s : State) :
    riseCheck s = s ∨ ∃ c, s.dsu.candidate = some c ∧ riseCheck s = recomputeCandidate (setApplied c s) := by
  unfold riseCheck
  cases candidate : s.dsu.candidate with
  | none => exact .inl rfl
  | some c =>
    by_cases all : allAgree s = true
    · exact .inr ⟨c, rfl, if_pos all⟩
    · exact .inl (if_neg all)

theorem riseCheck_moves {s : State} (running : s.dsu.cutterhead = .running)
    (candidate : s.dsu.candidate = candidateNow s) : LevelMoves s (riseCheck s) := by
  rcases riseCheck_cases s with stays | ⟨c, stands, rises⟩
  · rw [stays]
    exact .inl ⟨rfl, rfl⟩
  · rw [candidate, candidateNow_eq_some_iff] at stands
    have moves := setApplied_moves running (l := c) stands.1.ne'
    rw [rises]
    simpa [LevelMoves] using moves

/-- R38, R39: an own choice stepped gives its proposal, and an applied level above it falls to it. -/
theorem repropose_moves {s : State} (running : s.dsu.cutterhead = .running) :
    (repropose s).dsu.proposed = proposalNow s ∧
      (s.dsu.applied ≤ s.dsu.proposed → proposalNow s < s.dsu.applied → (repropose s).dsu.applied = proposalNow s) ∧
      LevelMoves s (repropose s) := by
  unfold repropose
  by_cases same : proposalNow s = s.dsu.proposed
  · rw [if_pos same]
    exact ⟨same.symm, fun agree low => by omega, .inl ⟨rfl, rfl⟩⟩
  rw [if_neg same]
  generalize proposal : (s.onDsu fun d => { d with proposed := proposalNow s }) = w
  have proposed : w.dsu.proposed = proposalNow s := by rw [← proposal]; rfl
  have applied : w.dsu.applied = s.dsu.applied := by rw [← proposal]; rfl
  have running' : w.dsu.cutterhead = .running := by rw [← proposal]; exact running
  have moves : LevelMoves w = LevelMoves s := by rw [← proposal]; rfl
  refine ⟨by simp [proposed], ?_⟩
  rw [← moves, fallCheck]
  by_cases low : proposalNow s < w.dsu.applied
  · rw [if_pos low]
    have fallen := setApplied_moves running' (l := proposalNow s) low.ne
    have none : candidateNow (setApplied (proposalNow s) w) = none := candidateNow_none (by simp [proposed])
    have stays : riseCheck (recomputeCandidate (recomputeCandidate (setApplied (proposalNow s) w))) =
        recomputeCandidate (recomputeCandidate (setApplied (proposalNow s) w)) := by
      rcases riseCheck_cases (recomputeCandidate (recomputeCandidate (setApplied (proposalNow s) w))) with h | ⟨c, stands, -⟩
      · exact h
      · rw [recomputeCandidate_candidate, candidateNow_none (by simp [proposed])] at stands
        cases stands
    rw [stays]
    refine ⟨fun _ _ => by simp, ?_⟩
    simpa [LevelMoves] using fallen
  · rw [if_neg low]
    refine ⟨fun _ low' => absurd (applied ▸ low') low, ?_⟩
    have rises := riseCheck_moves (s := recomputeCandidate w) (by simpa using running') (by simp [candidateNow])
    simpa [LevelMoves] using rises

/-! ## The load compared and the own choice stepped (R35, R36) -/

/-- R38: the proposal an own choice gives. -/
def proposalFor (s : State) (choice : Nat) : Nat :=
  let limited := min choice (validAtOrBelow s.cfg.image s.dsu.consoleMax)
  if s.dsu.throttle then min limited (validAtOrBelow s.cfg.image s.cfg.image.lTherm) else limited

/-- R36: only the two counts are new. -/
def CountsOnly (down up : Nat) (s u : State) : Prop :=
  u.dsu = { s.dsu with downCount := down, upCount := up }

/-- R36, R38, R39: the own choice has stepped to a level. -/
def ChoiceSteps (l : Nat) (s u : State) : Prop :=
  u.dsu.choice = l ∧ u.dsu.downCount = 0 ∧ u.dsu.upCount = 0 ∧ u.dsu.proposed = proposalFor s l ∧
    (s.dsu.applied ≤ s.dsu.proposed → proposalFor s l < s.dsu.applied → u.dsu.applied = proposalFor s l) ∧
    LevelMoves s u

/-- R36: a step to a neighbour, or none where there is no neighbour. -/
def StepsTo (l : Option Nat) (s u : State) : Prop :=
  (∀ k, l = some k → ChoiceSteps k s u) ∧ (l = none → CountsOnly 0 0 s u)

theorem stepChoice_steps (l : Option Nat) {s : State} (running : s.dsu.cutterhead = .running) :
    StepsTo l s (stepChoice l s) := by
  refine ⟨?_, ?_⟩
  · rintro k rfl
    have moves := repropose_moves (s := clearCounts (s.onDsu fun d => { d with choice := k })) running
    exact ⟨by simp [stepChoice], by simp [stepChoice, clearCounts], by simp [stepChoice, clearCounts], moves⟩
  · rintro rfl
    rfl

/-- R35, R36: what the evaluation of a RUNNING cutterhead does, by the load. -/
theorem evaluateLoad_cases {s : State} (running : s.dsu.cutterhead = .running) :
    let u := evaluateLoad s
    let load :=
      clamp 0 2000 (torqueSum s * 1000 / ((levelAt s.cfg.image s.dsu.applied).torqueLimit * motorCount s))
    let row := levelAt s.cfg.image s.dsu.proposed
    (motorCount s = 0 → CountsOnly 0 0 s u) ∧
    (motorCount s ≠ 0 → row.loadHigh ≤ load →
      (row.hDown ≤ s.dsu.downCount + 1 → StepsTo (nextLower s.cfg.image s.dsu.proposed) s u) ∧
      (s.dsu.downCount + 1 < row.hDown → CountsOnly (s.dsu.downCount + 1) 0 s u)) ∧
    (motorCount s ≠ 0 → load < row.loadHigh → load ≤ row.loadLow →
      (row.hUp ≤ s.dsu.upCount + 1 → StepsTo (nextHigher s.cfg.image s.dsu.proposed) s u) ∧
      (s.dsu.upCount + 1 < row.hUp → CountsOnly 0 (s.dsu.upCount + 1) s u)) ∧
    (motorCount s ≠ 0 → load < row.loadHigh → row.loadLow < load → CountsOnly 0 0 s u) := by
  dsimp only
  have raw : torqueSum s * 1000 / ((levelAt s.cfg.image s.dsu.applied).torqueLimit * motorCount s) = rawLoad s := rfl
  rw [raw]
  refine ⟨fun none => ?_, ?_⟩
  · rw [evaluateLoad, if_pos none]
    rfl
  have compared (some : motorCount s ≠ 0) :
      evaluateLoad s = compareLoad (clamp 0 2000 (rawLoad s)) (setFlagIf (outside 0 2000 (rawLoad s)) .clamped s) :=
    if_neg some
  have flagged : (setFlagIf (outside 0 2000 (rawLoad s)) .clamped s).dsu = s.dsu ∧
      (setFlagIf (outside 0 2000 (rawLoad s)) .clamped s).cfg = s.cfg := by simp
  generalize clamp 0 2000 (rawLoad s) = load at *
  generalize setFlagIf (outside 0 2000 (rawLoad s)) .clamped s = w at *
  obtain ⟨dsu, cfg⟩ := flagged
  have counts (down up : Nat) (u : State) : CountsOnly down up s u = CountsOnly down up w u := by rw [CountsOnly, ← dsu, CountsOnly]
  have steps (l : Option Nat) (u : State) : StepsTo l s u = StepsTo l w u := by
    simp [StepsTo, ChoiceSteps, CountsOnly, LevelMoves, proposalFor, dsu, cfg]
  simp only [counts, steps]
  rw [← dsu, ← cfg]
  rw [← dsu] at running
  refine ⟨fun some high => ?_, fun some below low => ?_, fun some below above => ?_⟩
  · rw [compared some, compareLoad, if_pos high]
    refine ⟨fun enough => ?_, fun few => ?_⟩
    · rw [if_pos enough]
      exact stepChoice_steps _ running
    · rw [if_neg (by omega)]
      rfl
  · rw [compared some, compareLoad, if_neg (by omega), if_pos low]
    refine ⟨fun enough => ?_, fun few => ?_⟩
    · rw [if_pos enough]
      exact stepChoice_steps _ running
    · rw [if_neg (by omega)]
      rfl
  · rw [compared some, compareLoad, if_neg (by omega), if_neg (by omega)]
    rfl

theorem dutyEvaluation_ramps (s : State) :
    (dutyEvaluation s).dsu.nr = rampedSpeed s ∧
      (dutyEvaluation s).dsu.cutterhead = cutterheadAt (rampedSpeed s) (appliedSpeed s) s.dsu.cutterhead := by
  have ramp := rampStep_dsu s
  unfold dutyEvaluation
  by_cases running : (rampStep s).dsu.cutterhead = .running
  · rw [if_pos running, (evaluateLoad_fields _).2.2.2.2.2.2.2.1, (evaluateLoad_fields _).2.2.2.2.2.2.2.2.1, ramp]
    exact ⟨rfl, rfl⟩
  · rw [if_neg running, ramp]
    exact ⟨rfl, rfl⟩

/-- R30, R35: the evaluation follows the ramp step where the cutterhead is RUNNING after it. -/
theorem dutyEvaluation_cases (s : State) :
    ((dutyEvaluation s).dsu.cutterhead = .running →
      (rampStep s).dsu.cutterhead = .running ∧ dutyEvaluation s = evaluateLoad (rampStep s)) ∧
    ((dutyEvaluation s).dsu.cutterhead ≠ .running → dutyEvaluation s = rampStep s) := by
  have cutterhead : (dutyEvaluation s).dsu.cutterhead = (rampStep s).dsu.cutterhead := by
    rw [(dutyEvaluation_ramps s).2, rampStep_dsu]
  rw [cutterhead]
  exact ⟨fun running => ⟨running, if_pos running⟩, fun other => if_neg other⟩

theorem LevelMoves.of_counts {down up : Nat} {s u : State} (h : CountsOnly down up s u) : LevelMoves s u :=
  .inl ⟨congrArg (·.applied) h, congrArg (·.changing) h⟩

/-- Every evaluation leaves the applied level or moves it with its speed still to come. -/
theorem evaluateLoad_moves {s : State} (running : s.dsu.cutterhead = .running) : LevelMoves s (evaluateLoad s) := by
  obtain ⟨none, high, low, between⟩ := evaluateLoad_cases running
  have steps {l : Option Nat} (h : StepsTo l s (evaluateLoad s)) : LevelMoves s (evaluateLoad s) := by
    cases l with
    | none => exact .of_counts (h.2 rfl)
    | some k => exact (h.1 k rfl).2.2.2.2.2
  by_cases motors : motorCount s = 0
  · exact .of_counts (none motors)
  by_cases above : (levelAt s.cfg.image s.dsu.proposed).loadHigh ≤
      clamp 0 2000 (torqueSum s * 1000 / ((levelAt s.cfg.image s.dsu.applied).torqueLimit * motorCount s))
  · by_cases enough : (levelAt s.cfg.image s.dsu.proposed).hDown ≤ s.dsu.downCount + 1
    · exact steps ((high motors above).1 enough)
    · exact .of_counts ((high motors above).2 (by omega))
  by_cases below : clamp 0 2000 (torqueSum s * 1000 / ((levelAt s.cfg.image s.dsu.applied).torqueLimit * motorCount s)) ≤
      (levelAt s.cfg.image s.dsu.proposed).loadLow
  · by_cases enough : (levelAt s.cfg.image s.dsu.proposed).hUp ≤ s.dsu.upCount + 1
    · exact steps ((low motors (by omega) below).1 enough)
    · exact .of_counts ((low motors (by omega) below).2 (by omega))
  · exact .of_counts (between motors (by omega) (by omega))

theorem StepsTo.choice {l : Option Nat} {s u : State} (h : StepsTo l s u) :
    u.dsu.choice = l.getD s.dsu.choice ∧ u.dsu.downCount = 0 ∧ u.dsu.upCount = 0 := by
  cases l with
  | none =>
    have counts := h.2 rfl
    exact ⟨congrArg (·.choice) counts, congrArg (·.downCount) counts, congrArg (·.upCount) counts⟩
  | some k =>
    obtain ⟨choice, down, up, -⟩ := h.1 k rfl
    exact ⟨choice, down, up⟩

theorem StepsTo.proposal {l : Option Nat} {s u : State} (h : StepsTo l s u) (neighbour : l ≠ none) :
    u.dsu.proposed = proposalFor s u.dsu.choice ∧
      (s.dsu.applied ≤ s.dsu.proposed → proposalFor s u.dsu.choice < s.dsu.applied →
        u.dsu.applied = proposalFor s u.dsu.choice) := by
  obtain ⟨k, rfl⟩ := Option.ne_none_iff_exists'.1 neighbour
  obtain ⟨choice, -, -, proposed, falls, -⟩ := h.1 k rfl
  rw [choice]
  exact ⟨proposed, falls⟩

theorem CountsOnly.proposal {down up : Nat} {s u : State} (h : CountsOnly down up s u) :
    u.dsu.proposed = s.dsu.proposed ∧ u.dsu.applied = s.dsu.applied :=
  ⟨congrArg (·.proposed) h, congrArg (·.applied) h⟩

/-- The evaluation after the ramp step, in the values from before it. -/
theorem dutyEvaluation_evaluates {s : State} (running : (dutyEvaluation s).dsu.cutterhead = .running) :
    let u := dutyEvaluation s
    let r := rampStep s
    let load :=
      clamp 0 2000 (torqueSum s * 1000 / ((levelAt s.cfg.image s.dsu.applied).torqueLimit * motorCount s))
    let row := levelAt s.cfg.image s.dsu.proposed
    (motorCount s = 0 → CountsOnly 0 0 r u) ∧
    (motorCount s ≠ 0 → row.loadHigh ≤ load →
      (row.hDown ≤ s.dsu.downCount + 1 → StepsTo (nextLower s.cfg.image s.dsu.proposed) r u) ∧
      (s.dsu.downCount + 1 < row.hDown → CountsOnly (s.dsu.downCount + 1) 0 r u)) ∧
    (motorCount s ≠ 0 → load < row.loadHigh → load ≤ row.loadLow →
      (row.hUp ≤ s.dsu.upCount + 1 → StepsTo (nextHigher s.cfg.image s.dsu.proposed) r u) ∧
      (s.dsu.upCount + 1 < row.hUp → CountsOnly 0 (s.dsu.upCount + 1) r u)) ∧
    (motorCount s ≠ 0 → load < row.loadHigh → row.loadLow < load → CountsOnly 0 0 r u) := by
  obtain ⟨ramped, evaluated⟩ := (dutyEvaluation_cases s).1 running
  have cases := evaluateLoad_cases ramped
  rw [← evaluated, (rampStep_torque s).1, (rampStep_torque s).2] at cases
  have dsu := rampStep_dsu s
  have cfg : (rampStep s).cfg = s.cfg := by simp
  rw [congrArg (·.applied) dsu, congrArg (·.proposed) dsu, congrArg (·.downCount) dsu, congrArg (·.upCount) dsu, cfg] at cases
  exact cases

theorem dutyEvaluation_stands {s : State} (other : (dutyEvaluation s).dsu.cutterhead ≠ .running) :
    (dutyEvaluation s).dsu =
      { s.dsu with
        nr := rampedSpeed s, cutterhead := (dutyEvaluation s).dsu.cutterhead
        changing :=
          if s.dsu.cutterhead = .running ∧ rampedSpeed s = appliedSpeed s then false else s.dsu.changing } := by
  rw [(dutyEvaluation_cases s).2 other, rampStep_dsu]

/-- R30: one ramp step, by the state of the cutterhead. -/
theorem dutyEvaluation_ramp_cases (s : State) :
    let u := dutyEvaluation s
    let target := (levelAt s.cfg.image s.dsu.applied).speed
    let toward (goal : Int) : Int :=
      if s.dsu.nr < goal then min goal (s.dsu.nr + s.cfg.image.rRamp) else max goal (s.dsu.nr - s.cfg.image.rRamp)
    (s.dsu.cutterhead = .starting →
      u.dsu.nr = toward target ∧
      u.dsu.cutterhead = if toward target = target then .running else .starting) ∧
    (s.dsu.cutterhead = .running →
      u.dsu.nr = (if s.dsu.changing then toward target else s.dsu.nr) ∧ u.dsu.cutterhead = .running) ∧
    (s.dsu.cutterhead = .stopping →
      u.dsu.nr = toward 0 ∧ u.dsu.cutterhead = if toward 0 = 0 then .stopped else .stopping) ∧
    (s.dsu.cutterhead = .stopped ∨ s.dsu.cutterhead = .tripped →
      u.dsu.nr = s.dsu.nr ∧ u.dsu.cutterhead = s.dsu.cutterhead) := by
  obtain ⟨nr, cutterhead⟩ := dutyEvaluation_ramps s
  dsimp only
  rw [nr, cutterhead]
  refine ⟨fun h => ?_, fun h => ?_, fun h => ?_, ?_⟩
  · rw [rampedSpeed, h]
    exact ⟨rfl, rfl⟩
  · rw [rampedSpeed, h]
    exact ⟨rfl, rfl⟩
  · rw [rampedSpeed, h]
    exact ⟨rfl, rfl⟩
  · rintro (h | h)
    · rw [rampedSpeed, h]
      exact ⟨rfl, rfl⟩
    · rw [rampedSpeed, h]
      exact ⟨rfl, rfl⟩

theorem CountsOnly.counts {down up : Nat} {s u : State} (h : CountsOnly down up (rampStep s) u) :
    u.dsu.choice = s.dsu.choice ∧ u.dsu.downCount = down ∧ u.dsu.upCount = up := by
  rw [CountsOnly, rampStep_dsu] at h
  exact ⟨congrArg (·.choice) h, congrArg (·.downCount) h, congrArg (·.upCount) h⟩

theorem StepsTo.counts {l : Option Nat} {s u : State} (h : StepsTo l (rampStep s) u) :
    u.dsu.choice = l.getD s.dsu.choice ∧ u.dsu.downCount = 0 ∧ u.dsu.upCount = 0 := by
  have counts := h.choice
  rwa [congrArg (·.choice) (rampStep_dsu s)] at counts

/-- R36: whether the own choice steps at this evaluation. -/
def ChoiceTurns (s : State) : Prop :=
  let load :=
    clamp 0 2000 (torqueSum s * 1000 / ((levelAt s.cfg.image s.dsu.applied).torqueLimit * motorCount s))
  let row := levelAt s.cfg.image s.dsu.proposed
  ((dutyEvaluation s).dsu.cutterhead = .running ∧ motorCount s ≠ 0) ∧
    ((row.loadHigh ≤ load ∧ row.hDown ≤ s.dsu.downCount + 1 ∧ nextLower s.cfg.image s.dsu.proposed ≠ none) ∨
      (load < row.loadHigh ∧ load ≤ row.loadLow ∧ row.hUp ≤ s.dsu.upCount + 1 ∧
        nextHigher s.cfg.image s.dsu.proposed ≠ none))

theorem dutyEvaluation_turns {s : State} (turns : ChoiceTurns s) :
    ∃ l, l ≠ none ∧ StepsTo l (rampStep s) (dutyEvaluation s) := by
  obtain ⟨⟨running, motors⟩, ⟨above, enough, lower⟩ | ⟨below, low, enough, higher⟩⟩ := turns
  · exact ⟨_, lower, ((dutyEvaluation_evaluates running).2.1 motors above).1 enough⟩
  · exact ⟨_, higher, ((dutyEvaluation_evaluates running).2.2.1 motors below low).1 enough⟩

theorem dutyEvaluation_unturned {s : State} (stays : ¬ChoiceTurns s) :
    (dutyEvaluation s).dsu.proposed = s.dsu.proposed ∧ (dutyEvaluation s).dsu.applied = s.dsu.applied := by
  by_cases running : (dutyEvaluation s).dsu.cutterhead = .running
  case neg =>
    have stands := dutyEvaluation_stands running
    exact ⟨congrArg (·.proposed) stands, congrArg (·.applied) stands⟩
  obtain ⟨none, high, low, between⟩ := dutyEvaluation_evaluates running
  have counted {down up : Nat} (h : CountsOnly down up (rampStep s) (dutyEvaluation s)) :
      (dutyEvaluation s).dsu.proposed = s.dsu.proposed ∧ (dutyEvaluation s).dsu.applied = s.dsu.applied := by
    have same := h.proposal
    rwa [congrArg (·.proposed) (rampStep_dsu s), congrArg (·.applied) (rampStep_dsu s)] at same
  by_cases motors : motorCount s = 0
  · exact counted (none motors)
  by_cases above : (levelAt s.cfg.image s.dsu.proposed).loadHigh ≤
      clamp 0 2000 (torqueSum s * 1000 / ((levelAt s.cfg.image s.dsu.applied).torqueLimit * motorCount s))
  · by_cases enough : (levelAt s.cfg.image s.dsu.proposed).hDown ≤ s.dsu.downCount + 1
    · refine counted (((high motors above).1 enough).2 (of_not_not fun lower => stays ?_))
      exact ⟨⟨running, motors⟩, .inl ⟨above, enough, lower⟩⟩
    · exact counted ((high motors above).2 (by omega))
  rw [not_le] at above
  by_cases below : clamp 0 2000 (torqueSum s * 1000 / ((levelAt s.cfg.image s.dsu.applied).torqueLimit * motorCount s)) ≤
      (levelAt s.cfg.image s.dsu.proposed).loadLow
  · by_cases enough : (levelAt s.cfg.image s.dsu.proposed).hUp ≤ s.dsu.upCount + 1
    · refine counted (((low motors above below).1 enough).2 (of_not_not fun higher => stays ?_))
      exact ⟨⟨running, motors⟩, .inr ⟨above, below, enough, higher⟩⟩
    · exact counted ((low motors above below).2 (by omega))
  · exact counted (between motors above (not_le.1 below))

/-- R42: the change in progress ends with the ramp's arrival, and a level newly applied begins one. -/
theorem dutyEvaluation_changing (s : State) :
    let u := dutyEvaluation s
    (u.dsu.applied = s.dsu.applied →
      u.dsu.changing =
        if s.dsu.cutterhead = .running ∧ u.dsu.nr = (levelAt s.cfg.image s.dsu.applied).speed then false
        else s.dsu.changing) ∧
    (u.dsu.applied ≠ s.dsu.applied →
      u.dsu.changing = decide (u.dsu.nr ≠ (levelAt s.cfg.image u.dsu.applied).speed)) := by
  dsimp only
  rw [(dutyEvaluation_ramps s).1]
  by_cases running : (dutyEvaluation s).dsu.cutterhead = .running
  · obtain ⟨ramped, evaluated⟩ := (dutyEvaluation_cases s).1 running
    have moves := evaluateLoad_moves ramped
    rw [← evaluated, LevelMoves, rampStep_dsu] at moves
    rcases moves with ⟨applied, changing⟩ | ⟨applied, changing⟩
    · exact ⟨fun _ => changing, fun other => absurd applied other⟩
    · refine ⟨fun same => absurd same applied, fun _ => ?_⟩
      rw [changing, show (rampStep s).cfg = s.cfg by simp]
  · have stands := dutyEvaluation_stands running
    exact ⟨fun _ => congrArg (·.changing) stands, fun other => absurd (congrArg (·.applied) stands) other⟩

theorem dutyEvaluation_fpt {s : State} (still : (dutyEvaluation s).dsu.nr = s.dsu.nr) : (dutyEvaluation s).fpt = s.fpt := by
  have same := rampStep_fpt ((dutyEvaluation_ramps s).1.symm.trans still)
  unfold dutyEvaluation
  by_cases running : (rampStep s).dsu.cutterhead = .running
  · rw [if_pos running, (evaluateLoad_frame _).2.2.2.2.2.2.2.2.2.2.2.1, same]
  · rw [if_neg running, same]

/-- Settles O16: the neighbours of a level, the ramp step, the comparison of the load, and the step of the own
choice with what it makes of the proposal and the applied level. -/
theorem dutyEvaluationRampsAndComparesTheLoad : Obligations.DutyEvaluationRampsAndComparesTheLoad := by
  refine ⟨fun img l => ⟨nextLower_eq_some_iff img l, nextHigher_eq_some_iff img l, fun valid => if_pos valid,
    fun invalid => if_neg invalid⟩, fun s start timer due => ?_⟩
  have started : nextStart start Config.evaluationPeriod = some (start + 10) := rfl
  obtain ⟨starting, running, stopping, rest⟩ :=
    dutyEvaluation_ramp_cases (s.onDsu fun d => { d with timer := nextStart start Config.evaluationPeriod })
  have stands := @dutyEvaluation_stands (s.onDsu fun d => { d with timer := nextStart start Config.evaluationPeriod })
  have evaluates := @dutyEvaluation_evaluates (s.onDsu fun d => { d with timer := nextStart start Config.evaluationPeriod })
  have turns := @dutyEvaluation_turns (s.onDsu fun d => { d with timer := nextStart start Config.evaluationPeriod })
  have unturned := @dutyEvaluation_unturned (s.onDsu fun d => { d with timer := nextStart start Config.evaluationPeriod })
  obtain ⟨same, other⟩ := dutyEvaluation_changing (s.onDsu fun d => { d with timer := nextStart start Config.evaluationPeriod })
  have still := @dutyEvaluation_fpt (s.onDsu fun d => { d with timer := nextStart start Config.evaluationPeriod })
  refine ⟨dutyEvaluation (s.onDsu fun d => { d with timer := nextStart start Config.evaluationPeriod }), ?_,
    by simp [started], starting, running, stopping, rest, fun out => ?_, fun runs none => ?_, fun runs some high => ?_,
    fun runs some low idle => ?_, fun runs some low high => ?_, ⟨fun steps => ?_, unturned⟩, same, other, still, by simp⟩
  · change execDutyEvaluationExpiry s = _
    rw [execDutyEvaluationExpiry, timer, onExpiry_due (span := Config.evaluationPeriod) due]
  · have dsu := stands out
    exact ⟨congrArg (·.choice) dsu, congrArg (·.downCount) dsu, congrArg (·.upCount) dsu⟩
  · exact ((evaluates runs).1 none).counts
  · obtain ⟨turn, count⟩ := (evaluates runs).2.1 some high
    exact ⟨fun enough => (turn enough).counts, fun few => (count few).counts⟩
  · obtain ⟨turn, count⟩ := (evaluates runs).2.2.1 some low idle
    refine ⟨fun enough => (turn enough).counts, fun few => ?_⟩
    obtain ⟨choice, down, up⟩ := (count few).counts
    exact ⟨choice, up, down⟩
  · exact ((evaluates runs).2.2.2 some low high).counts
  · obtain ⟨l, neighbour, steps⟩ := turns steps
    have proposal := steps.proposal neighbour
    simpa [proposalFor] using proposal

end Sys2Proof.Machine
end

section
/-! The proposal, the thermal throttle and the agreement of the applied level
(02_cutterhead_drive_and_duty_levels section 2.4, 2.6 and 2.7). -/

namespace Sys2Proof.Machine

open Sys2Proof

/-! ## The proposal (R37, R38) -/

theorem riseCheck_low {s : State} (candidate : s.dsu.candidate = candidateNow s)
    (low : s.dsu.applied ≤ s.dsu.proposed) : (riseCheck s).dsu.applied ≤ (riseCheck s).dsu.proposed := by
  rcases riseCheck_cases s with stays | ⟨c, stands, rises⟩
  · rwa [stays]
  · rw [candidate, candidateNow_eq_some_iff] at stands
    rw [rises]
    simpa [stands.2] using (le_lowestProposal_iff.1 (le_refl (lowestProposal s))).1

/-- R38, R39: the proposal formed again is the lowest of its limits, and the applied level stays at or below it. -/
theorem repropose_proposed (s : State) :
    (repropose s).dsu.proposed = proposalNow s ∧
      (s.dsu.applied ≤ s.dsu.proposed → (repropose s).dsu.applied ≤ (repropose s).dsu.proposed) := by
  unfold repropose
  by_cases same : proposalNow s = s.dsu.proposed
  · rw [if_pos same]
    exact ⟨same.symm, id⟩
  · rw [if_neg same]
    refine ⟨by simp, fun _ => riseCheck_low (by simp [candidateNow]) ?_⟩
    simp

theorem foldl_max_le_iff (l : List Int) (a x : Int) : l.foldl max a ≤ x ↔ ∀ v ∈ a :: l, v ≤ x := by
  induction l generalizing a with
  | nil => simp
  | cons b l ih => rw [List.foldl_cons, ih]; simp [and_assoc]

/-- R37: the throttle by the hottest winding. -/
theorem throttleNow_cases (s : State) :
    ((∃ v ∈ motorTemps s, s.cfg.image.tHigh ≤ v) → throttleNow s = true) ∧
    (motorTemps s ≠ [] → (∀ v ∈ motorTemps s, v < s.cfg.image.tHigh ∧ v ≤ s.cfg.image.tLow) →
      throttleNow s = false) ∧
    ((∀ v ∈ motorTemps s, v < s.cfg.image.tHigh) → (∃ v ∈ motorTemps s, s.cfg.image.tLow < v) →
      throttleNow s = s.dsu.throttle) ∧
    (motorTemps s = [] → throttleNow s = s.dsu.throttle) := by
  unfold throttleNow
  cases temps : motorTemps s with
  | nil => simp
  | cons t rest =>
    have hot : s.cfg.image.tHigh ≤ rest.foldl max t ↔ ∃ v ∈ t :: rest, s.cfg.image.tHigh ≤ v := by
      have below := foldl_max_le_iff rest t (s.cfg.image.tHigh - 1)
      rw [← not_iff_not]
      simp only [not_exists, not_and]
      exact ⟨fun h v inside => by have := below.1 (by omega) v inside; omega,
        fun h => by have := below.2 fun v inside => by have := h v inside; omega
                    omega⟩
    have cool := foldl_max_le_iff rest t s.cfg.image.tLow
    refine ⟨fun high => if_pos (hot.2 high), fun _ low => ?_, fun under over' => ?_, fun no => by cases no⟩
    · dsimp only
      rw [if_neg (mt hot.1 fun ⟨v, inside, high⟩ => by have := (low v inside).1; omega),
        if_pos (cool.2 fun v inside => (low v inside).2)]
    · dsimp only
      rw [if_neg (mt hot.1 fun ⟨v, inside, high⟩ => by have := under v inside; omega),
        if_neg (mt cool.1 fun all => by obtain ⟨v, inside, above⟩ := over'; have := all v inside; omega)]

/-! ## The agreement of the peers (R39 to R42) -/

theorem allAgree_iff (s : State) : allAgree s = true ↔ ∀ p ∈ presentPeers s, 2 ≤ (peerOf s p.1).agreement := by
  simp [allAgree]

theorem recomputeCandidate_stays {s : State} (same : candidateNow s = s.dsu.candidate) : recomputeCandidate s = s :=
  if_pos same

theorem recomputeCandidate_clears {s : State} (new : candidateNow s ≠ s.dsu.candidate) (k : Nat) :
    (peerOf (recomputeCandidate s) k).agreement = 0 := by
  rw [recomputeCandidate, if_neg new, peerOf_clearAgreement]

theorem riseCheck_none {s : State} (none : s.dsu.candidate = none) : riseCheck s = s := by
  rw [riseCheck, none]

theorem riseCheck_some {s : State} {c : Nat} (candidate : s.dsu.candidate = some c) :
    riseCheck s = if allAgree s then recomputeCandidate (setApplied c s) else s := by
  rw [riseCheck, candidate]

theorem countAgreement_none {j : Nat} {s : State} (none : s.dsu.candidate = none) : countAgreement j s = s := by
  rw [countAgreement, none]

/-- An entry with its agreement counter at `n`. -/
def agreementSet (j n : Nat) (s : State) : State := setPeer j { peerOf s j with agreement := n } s

theorem presentPeers_agreementSet (j n : Nat) (s : State) : presentPeers (agreementSet j n s) = presentPeers s :=
  presentPeers_congr (served_setPeer_of_servedBy (servedBy_congr rfl rfl))

theorem agreement_agreementSet_same {j : Nat} (n : Nat) {s : State} (inside : j < s.ptb.peers.length) :
    (peerOf (agreementSet j n s) j).agreement = n := by
  rw [agreementSet, peerOf_setPeer_same _ inside]

theorem peerOf_agreementSet_ne {j k : Nat} (n : Nat) (s : State) (other : k ≠ j) :
    peerOf (agreementSet j n s) k = peerOf s k :=
  peerOf_setPeer_ne _ s other

/-- R41: with one counter at `n`, all agree where `n` and every other is 2 or more. -/
theorem allAgree_agreementSet {j n : Nat} {r : StatusRecord} {s : State} (inside : j < s.ptb.peers.length)
    (member : (j, r) ∈ presentPeers s) :
    allAgree (agreementSet j n s) = true ↔
      2 ≤ n ∧ ∀ p ∈ presentPeers s, p.1 ≠ j → 2 ≤ (peerOf s p.1).agreement := by
  rw [allAgree_iff, presentPeers_agreementSet]
  constructor
  · intro two
    refine ⟨?_, fun p present other => ?_⟩
    · have mine := two (j, r) member
      rwa [agreement_agreementSet_same n inside] at mine
    · have theirs := two p present
      rwa [peerOf_agreementSet_ne n s other] at theirs
  · rintro ⟨mine, theirs⟩ p present
    by_cases sender : p.1 = j
    · rw [sender, agreement_agreementSet_same n inside]
      exact mine
    · rw [peerOf_agreementSet_ne n s sender]
      exact theirs p present sender

theorem countAgreement_some {j c : Nat} {s : State} (candidate : s.dsu.candidate = some c) :
    countAgreement j s = agreementSet j (min 255 ((peerOf s j).agreement + 1)) s := by
  rw [countAgreement, candidate]
  rfl

/-- A counted STATUS with a proposal below the applied level lowers it, and no candidate is left. -/
theorem driveCountedStatus_falls {j : Nat} {r : StatusRecord} {s : State} (room : j < 8)
    (here : served s j = some r) (low : r.proposed < s.dsu.applied) :
    (driveCountedStatus j r s).dsu.applied = r.proposed ∧ (driveCountedStatus j r s).dsu.candidate = none := by
  have lowest : lowestProposal (fallCheck r.proposed (watchPeer j r.cutterhead s)) ≤ r.proposed := by
    rw [lowestProposal_fallCheck]
    exact (le_lowestProposal_iff.1 (le_refl (lowestProposal s))).2 (j, r) (mem_presentPeers.2 ⟨room, here⟩)
  have applied : (fallCheck r.proposed (watchPeer j r.cutterhead s)).dsu.applied = r.proposed := by
    rw [fallCheck_applied]
    exact Nat.min_eq_right low.le
  have none : candidateNow (fallCheck r.proposed (watchPeer j r.cutterhead s)) = none :=
    if_neg (by omega)
  have candidate := (recomputeCandidate_candidate (fallCheck r.proposed (watchPeer j r.cutterhead s))).trans none
  rw [driveCountedStatus, countAgreement_none candidate, riseCheck_none candidate]
  exact ⟨by simp [low.le], candidate⟩

theorem fallCheck_stays {p : Nat} {s : State} (high : s.dsu.applied ≤ p) : fallCheck p s = s := if_neg (by omega)

/-- R40: no proposal above the applied level, no candidate. -/
theorem driveCountedStatus_none {j : Nat} {r : StatusRecord} {s : State} (high : s.dsu.applied ≤ r.proposed)
    (lowest : candidateNow s = none) :
    (driveCountedStatus j r s).dsu.applied = s.dsu.applied ∧ (driveCountedStatus j r s).dsu.candidate = none := by
  have candidate := (recomputeCandidate_candidate (watchPeer j r.cutterhead s)).trans lowest
  rw [driveCountedStatus, fallCheck_stays (s := watchPeer j r.cutterhead s) high, countAgreement_none candidate,
    riseCheck_none candidate]
  exact ⟨by simp [watchPeer], candidate⟩

theorem served_mem {s : State} {j : Nat} {r : StatusRecord} (room : j < 8) (here : served s j = some r) :
    (j, r) ∈ presentPeers s := mem_presentPeers.2 ⟨room, here⟩

/-- R40: a new candidate clears the counters, and the STATUS in hand is the first that counts. -/
theorem driveCountedStatus_new {j c : Nat} {r : StatusRecord} {s : State} (room : j < 8)
    (length : s.ptb.peers.length = 8) (here : served s j = some r) (high : s.dsu.applied ≤ r.proposed)
    (lowest : candidateNow s = some c) (new : s.dsu.candidate ≠ some c) :
    (driveCountedStatus j r s).dsu.applied = s.dsu.applied ∧ (driveCountedStatus j r s).dsu.candidate = some c ∧
      (peerOf (driveCountedStatus j r s) j).agreement = 1 ∧
      ∀ k, k ≠ j → (peerOf (driveCountedStatus j r s) k).agreement = 0 := by
  have candidate := (recomputeCandidate_candidate (watchPeer j r.cutterhead s)).trans lowest
  have cleared := recomputeCandidate_clears (s := watchPeer j r.cutterhead s) fun same => new (same.symm.trans lowest)
  have inside : j < (recomputeCandidate (watchPeer j r.cutterhead s)).ptb.peers.length := by
    rw [recomputeCandidate_length]
    change j < s.ptb.peers.length
    omega
  have counted : driveCountedStatus j r s =
      riseCheck (agreementSet j 1 (recomputeCandidate (watchPeer j r.cutterhead s))) := by
    rw [driveCountedStatus, fallCheck_stays (s := watchPeer j r.cutterhead s) high, countAgreement_some candidate,
      cleared]
    rfl
  have applied : (recomputeCandidate (watchPeer j r.cutterhead s)).dsu.applied = s.dsu.applied := by simp [watchPeer]
  have peers : presentPeers (recomputeCandidate (watchPeer j r.cutterhead s)) = presentPeers s := by
    rw [presentPeers_recomputeCandidate]
    rfl
  generalize recomputeCandidate (watchPeer j r.cutterhead s) = w at *
  have alone : ¬allAgree (agreementSet j 1 w) = true := fun all => by
    have two := ((allAgree_agreementSet inside (peers ▸ served_mem room here)).1 all).1
    omega
  have stands : (agreementSet j 1 w).dsu.candidate = some c := candidate
  rw [counted, riseCheck_some stands, if_neg alone]
  refine ⟨applied, candidate, agreement_agreementSet_same 1 inside, fun k other => ?_⟩
  rw [peerOf_agreementSet_ne 1 w other, cleared]

/-- R40, R41: a candidate that stands gains a frame of its sender, and with every peer at two it is applied. -/
theorem driveCountedStatus_stands {j c : Nat} {r : StatusRecord} {s : State} (room : j < 8)
    (length : s.ptb.peers.length = 8) (here : served s j = some r) (high : s.dsu.applied ≤ r.proposed)
    (lowest : candidateNow s = some c) (stands : s.dsu.candidate = some c) :
    let counted := min 255 ((peerOf s j).agreement + 1)
    let agreed := 2 ≤ counted ∧ ∀ p ∈ presentPeers s, p.1 ≠ j → 2 ≤ (peerOf s p.1).agreement
    (¬agreed → (driveCountedStatus j r s).dsu.applied = s.dsu.applied ∧
      (driveCountedStatus j r s).dsu.candidate = some c ∧
      (peerOf (driveCountedStatus j r s) j).agreement = counted ∧
      ∀ k, k ≠ j → (peerOf (driveCountedStatus j r s) k).agreement = (peerOf s k).agreement) ∧
    (agreed → (driveCountedStatus j r s).dsu.applied = c ∧ (driveCountedStatus j r s).dsu.candidate = none ∧
      ∀ k, (peerOf (driveCountedStatus j r s) k).agreement = 0) := by
  dsimp only
  have same : recomputeCandidate (watchPeer j r.cutterhead s) = watchPeer j r.cutterhead s :=
    recomputeCandidate_stays (lowest.trans stands.symm)
  have candidate : (watchPeer j r.cutterhead s).dsu.candidate = some c := stands
  have counts : driveCountedStatus j r s =
      riseCheck (agreementSet j (min 255 ((peerOf s j).agreement + 1)) (watchPeer j r.cutterhead s)) := by
    rw [driveCountedStatus, fallCheck_stays (s := watchPeer j r.cutterhead s) high, same, countAgreement_some candidate]
    rfl
  have inside : j < (watchPeer j r.cutterhead s).ptb.peers.length := by
    change j < s.ptb.peers.length
    omega
  have all := allAgree_agreementSet (n := min 255 ((peerOf s j).agreement + 1)) inside (served_mem room here)
  have candidate' : (agreementSet j (min 255 ((peerOf s j).agreement + 1)) (watchPeer j r.cutterhead s)).dsu.candidate =
      some c := stands
  rw [counts, riseCheck_some candidate']
  refine ⟨fun unagreed => ?_, fun agreed => ?_⟩
  · rw [if_neg (mt all.1 unagreed)]
    refine ⟨rfl, candidate, agreement_agreementSet_same _ inside, fun k other => ?_⟩
    rw [peerOf_agreementSet_ne _ _ other]
    rfl
  · rw [if_pos (all.2 agreed)]
    have none : candidateNow (setApplied c (agreementSet j (min 255 ((peerOf s j).agreement + 1))
        (watchPeer j r.cutterhead s))) = none := by
      have lowestNow : lowestProposal (agreementSet j (min 255 ((peerOf s j).agreement + 1))
          (watchPeer j r.cutterhead s)) = lowestProposal s :=
        lowestProposal_congr rfl (presentPeers_agreementSet j _ _)
      refine if_neg ?_
      rw [lowestProposal_setApplied, setApplied_applied, lowestNow, (candidateNow_eq_some_iff.1 lowest).2]
      exact lt_irrefl _
    refine ⟨by simp, ?_, ?_⟩
    · rw [recomputeCandidate_candidate, none]
    · refine recomputeCandidate_clears ?_
      rw [none, (setApplied_fields _ _).2.2.2.2.2.2.2.2.1]
      exact fun no => by cases no.trans candidate

theorem setApplied_cases (l : Nat) (s : State) :
    let row := levelAt s.cfg.image l
    (s.dsu.cutterhead = .running → s.dsu.nr = row.speed →
      setApplied l s = { s with dsu := { s.dsu with applied := l, changing := false } }) ∧
    (s.dsu.cutterhead = .running → s.dsu.nr ≠ row.speed →
      setApplied l s =
        { s with
          dsu :=
            { s.dsu with
              applied := l, changing := true
              rampCap :=
                min (if s.dsu.changing then s.dsu.rampCap
                  else (levelAt s.cfg.image s.dsu.applied).advanceCap) row.advanceCap } }) ∧
    (s.dsu.cutterhead ≠ .running →
      setApplied l s = { s with dsu := { s.dsu with applied := l, changing := false } }) := by
  unfold setApplied
  dsimp only
  refine ⟨fun running arrived => ?_, fun running far => ?_, fun other => if_neg other⟩
  · rw [if_pos running, if_pos arrived]
    rfl
  · rw [if_pos running, if_neg far]
    rfl

theorem driveCountedStatus_rest (j : Nat) (r : StatusRecord) (s : State) :
    { driveCountedStatus j r s with dsu := s.dsu, ptb := s.ptb } = s := by
  have ptb := driveCountedStatus_frame j r s
  simp_all

theorem getD_putAt {α : Type} (l : List α) (j : Nat) (v d : α) :
    (j < l.length → (putAt l j v).getD j d = v) ∧ ∀ k, k ≠ j → (putAt l j v).getD k d = l.getD k d := by
  refine ⟨fun inside => ?_, fun k other => ?_⟩
  · simp [putAt, inside]
  · simp [putAt, other.symm]

theorem driveCountedStatus_stoppedSince (j : Nat) (r : StatusRecord) (s : State) :
    (driveCountedStatus j r s).dsu.stoppedSince =
      putAt s.dsu.stoppedSince j (stoppedSinceAfter s.elapsed (s.dsu.stoppedSince.getD j none) r.cutterhead) := by
  simp [driveCountedStatus, watchPeer]

/-- R39 to R41: a counted STATUS and the levels. -/
theorem driveCountedStatus_levels {s : State} {j : Nat} {r : StatusRecord} (room : j < 8) (shaped : Shaped s)
    (here : served s j = some r) :
    let t := driveCountedStatus j r s
    let lowest (c : Nat) := s.dsu.applied < c ∧ c ≤ s.dsu.proposed ∧
      (∀ p ∈ presentPeers s, c ≤ p.2.proposed) ∧
      (c = s.dsu.proposed ∨ ∃ p ∈ presentPeers s, p.2.proposed = c)
    let stands (c : Nat) := s.dsu.candidate = some c ∧ lowest c
    let counted := min 255 ((peerOf s j).agreement + 1)
    let agreed := 2 ≤ counted ∧
      ∀ p ∈ presentPeers s, p.1 ≠ j → 2 ≤ (peerOf s p.1).agreement
    (r.proposed < s.dsu.applied → t.dsu.applied = r.proposed ∧ t.dsu.candidate = none) ∧
    (s.dsu.applied ≤ r.proposed →
      ((∀ c, ¬lowest c) → t.dsu.applied = s.dsu.applied ∧ t.dsu.candidate = none) ∧
      (∀ c, lowest c → s.dsu.candidate ≠ some c →
        t.dsu.applied = s.dsu.applied ∧ t.dsu.candidate = some c ∧ (peerOf t j).agreement = 1 ∧
        ∀ k, k ≠ j → (peerOf t k).agreement = 0) ∧
      (∀ c, stands c → ¬agreed →
        t.dsu.applied = s.dsu.applied ∧ t.dsu.candidate = some c ∧
        (peerOf t j).agreement = counted ∧
        ∀ k, k ≠ j → (peerOf t k).agreement = (peerOf s k).agreement) ∧
      (∀ c, stands c → agreed →
        t.dsu.applied = c ∧ t.dsu.candidate = none ∧ ∀ k, (peerOf t k).agreement = 0)) := by
  dsimp only
  have now (c : Nat) : (s.dsu.applied < c ∧ c ≤ s.dsu.proposed ∧ (∀ p ∈ presentPeers s, c ≤ p.2.proposed) ∧
      (c = s.dsu.proposed ∨ ∃ p ∈ presentPeers s, p.2.proposed = c)) ↔ candidateNow s = some c := by
    rw [candidateNow_eq_some_iff, lowest_iff]
  simp only [now]
  refine ⟨driveCountedStatus_falls room here, fun high => ⟨fun none => ?_, fun c lowest new => ?_, fun c stands => ?_,
    fun c stands => ?_⟩⟩
  · exact driveCountedStatus_none high (Option.eq_none_iff_forall_ne_some.2 none)
  · exact driveCountedStatus_new room shaped.1 here high lowest new
  · exact (driveCountedStatus_stands room shaped.1 here high stands.2 stands.1).1
  · exact (driveCountedStatus_stands room shaped.1 here high stands.2 stands.1).2

/-- Settles O15: SET_MAX_LEVEL, the thermal throttle, the agreement of the peers and the change of the applied
level. -/
theorem setMaxLevelLimitsTheProposal : Obligations.SetMaxLevelLimitsTheProposal := by
  refine ⟨fun s chars tag level ho below => ?order, fun s => ?temp, fun s j r room shaped here => ?counted,
    fun s l => setApplied_cases l s⟩
  case order =>
    refine ⟨_, hear_ordered_of_rule (rule := ruleSetMaxLevel) ho rfl rfl, ?_⟩
    have result : clampResult (outside 0 7 (param [level] 0)) .done =
        if level < 0 ∨ 7 < level then .clamped else .done := clampResult_outside 0 7 level .done
    have given : ((clamp 0 7 (param [level] 0)).toNat : Int) =
        if level < 0 then 0 else if 7 < level then 7 else level := by
      change ((clamp 0 7 level).toNat : Int) = _
      unfold clamp
      split_ifs <;> omega
    rw [result]
    generalize formed : setFlagIf (outside 0 7 (param [level] 0)) .clamped ((atOrder s).onDsu fun d =>
      { d with consoleMax := (clamp 0 7 (param [level] 0)).toNat }) = w
    have dsu : w.dsu = { s.dsu with consoleMax := (clamp 0 7 (param [level] 0)).toNat } := by rw [← formed]; simp [atOrder]
    have rest : w.cfg = s.cfg ∧ w.ring = s.ring ∧ w.thu = s.thu ∧ w.bsq = s.bsq ∧ w.gru = s.gru ∧ w.bal = s.bal := by
      rw [← formed]
      simp [atOrder]
    obtain ⟨cfg, ring, thu, bsq, gru, bal⟩ := rest
    obtain ⟨proposed, low⟩ := repropose_proposed w
    generalize (if level < 0 ∨ 7 < level then OrderResult.clamped else OrderResult.done) = res
    have same : (echoed tag 7 res (repropose w)).thu = s.thu ∧ (echoed tag 7 res (repropose w)).bsq = s.bsq ∧
        (echoed tag 7 res (repropose w)).gru = s.gru ∧ (echoed tag 7 res (repropose w)).bal = s.bal := by
      simp [echoed, thu, bsq, gru, bal]
    obtain ⟨thu', bsq', gru', bal'⟩ := same
    have kept := kept_settle (echoed tag 7 res (repropose w))
    have max : (settle (echoed tag 7 res (repropose w))).dsu.consoleMax = (clamp 0 7 (param [level] 0)).toNat := by
      simp [echoed, dsu]
    refine ⟨by rw [max]; exact given, by simp [echoed], by simp [echoed], ?_, ?_, by simp [echoed, dsu],
      by simp [echoed, dsu], by simp [echoed, dsu], by simp [echoed, cfg], by simp [echoed, ring],
      (congrArg (fun u : State => u.thu) kept).trans (congrArg keptThu thu'),
      (congrArg (fun u : State => u.bsq) kept).trans (congrArg keptBsq bsq'),
      (congrArg (fun u : State => u.gru) kept).trans (congrArg keptGru gru'),
      (congrArg (fun u : State => u.bal) kept).trans (congrArg keptBal bal')⟩
    · rw [max]
      simp only [settle_dsu, echoed, proposed]
      rw [proposalNow, dsu, cfg]
    · simp only [settle_dsu, echoed]
      exact low (by rw [dsu]; exact below)
  case temp =>
    have temps : motorTemps s =
        (if isFitted s .motorRef0 = true ∧ inputValid s .motorTemp0 = true then [inputValue s .motorTemp0] else []) ++
          (if isFitted s .motorRef1 = true ∧ inputValid s .motorTemp1 = true then [inputValue s .motorTemp1] else []) := by
      simp only [motorTemps, Bool.and_eq_true]
    obtain ⟨hot, cool, between, blind⟩ := throttleNow_cases s
    obtain ⟨proposed, low⟩ := repropose_proposed (s.onDsu fun d => { d with throttle := throttleNow s })
    have throttle : (tempArrival s).dsu.throttle = throttleNow s := by simp [tempArrival]
    rw [temps] at hot cool between blind
    dsimp only
    rw [throttle]
    exact ⟨hot, cool, between, blind, proposed, low, by simp [tempArrival], by simp [tempArrival], by simp [tempArrival],
      by simp [tempArrival], by simp, by simp, by simp, by simp⟩
  case counted =>
    obtain ⟨falls, rises⟩ := driveCountedStatus_levels room shaped here
    have since := driveCountedStatus_stoppedSince j r s
    obtain ⟨mine, others⟩ := getD_putAt s.dsu.stoppedSince j
      (stoppedSinceAfter s.elapsed (s.dsu.stoppedSince.getD j none) r.cutterhead) none
    refine ⟨falls, rises, ?_, fun k other => ?_, entriesKept_driveCountedStatus j r s, by simp, by simp, by simp, by simp,
      driveCountedStatus_rest j r s⟩
    · rw [since, mine (by have := shaped.2.1; omega)]
      rfl
    · rw [since, others k other]

end Sys2Proof.Machine
end

section
/-! The alarm entries, the conditions behind them and the timers that move them
(07_alarms_holds_and_emergency_stop section 7.1 to 7.4). -/

namespace Sys2Proof.Machine

open Sys2Proof

/-! ## An entry written -/

theorem number_lt (k : AlarmKind) : k.number < 30 := by cases k <;> decide

theorem number_inj {j k : AlarmKind} (h : j.number = k.number) : j = k := by
  revert h
  cases j <;> cases k <;> decide

theorem entryOf_congr {s u : State} (h : u.alu.entries = s.alu.entries) (k : AlarmKind) : entryOf u k = entryOf s k := by
  rw [entryOf, entryOf, h]

theorem moveEntry_entries (k : AlarmKind) (e : AlarmEntry) (s : State) :
    (moveEntry k e s).alu.entries = putAt s.alu.entries k.number e := by
  unfold moveEntry
  dsimp only
  (repeat' split) <;> simp [setEntry]

theorem entryOf_moveEntry (k : AlarmKind) (e : AlarmEntry) {s : State} (length : s.alu.entries.length = 30) :
    entryOf (moveEntry k e s) k = e ∧ ∀ j, j ≠ k → entryOf (moveEntry k e s) j = entryOf s j := by
  obtain ⟨same, others⟩ := getD_putAt s.alu.entries k.number e ({} : AlarmEntry)
  refine ⟨?_, fun j other => ?_⟩
  · rw [entryOf, moveEntry_entries]
    exact same (by have := number_lt k; omega)
  · rw [entryOf, moveEntry_entries]
    exact others j.number fun same => other (number_inj same)

/-- R34: an entry that does not begin to be in force for CUTTERHEAD_JAM moves ALU and LIF alone. -/
theorem moveEntry_rest {k : AlarmKind} {e : AlarmEntry} {s : State}
    (untripped : k = .cutterheadJam → ¬(inForce s k = false ∧ entryInForce e = true)) :
    { moveEntry k e s with alu := s.alu, lif := s.lif } = s := by
  unfold moveEntry
  dsimp only
  by_cases raises : inForce s k = false ∧ entryInForce e = true
  · rw [if_pos raises, if_neg fun jam => untripped jam raises]
    have frame := handFrame_frame (alarmFrame s.cfg.image k true) (setEntry k e s)
    simp_all [setEntry]
  rw [if_neg raises]
  by_cases clears : inForce s k = true ∧ entryInForce e = false
  · rw [if_pos clears]
    have frame := handFrame_frame (alarmFrame s.cfg.image k false) (setEntry k e s)
    simp_all [setEntry]
  · rw [if_neg clears]
    rfl

theorem moveEntry_raises {k : AlarmKind} {e : AlarmEntry} {s : State} (before : inForce s k = false)
    (after : entryInForce e = true) :
    (moveEntry k e s).lif = (handFrame { dest := 15, body := .alarm k true (alarmClass s.cfg.image k) } s).lif := by
  have handed : (handFrame (alarmFrame s.cfg.image k true) (setEntry k e s)).lif =
      (handFrame (alarmFrame s.cfg.image k true) s).lif := handFrame_lif_congr _ (by simp)
  unfold moveEntry
  dsimp only
  rw [if_pos ⟨before, after⟩]
  by_cases jam : k = .cutterheadJam
  · rw [if_pos jam]
    exact Eq.trans (by simp [tripCutterhead]) handed
  · rw [if_neg jam]
    exact handed

theorem moveEntry_clears {k : AlarmKind} {e : AlarmEntry} {s : State} (before : inForce s k = true)
    (after : entryInForce e = false) :
    (moveEntry k e s).lif = (handFrame { dest := 15, body := .alarm k false (alarmClass s.cfg.image k) } s).lif := by
  unfold moveEntry
  dsimp only
  rw [if_neg (by simp [before]), if_pos ⟨before, after⟩]
  exact handFrame_lif_congr _ (by simp)

theorem moveEntry_silent {k : AlarmKind} {e : AlarmEntry} {s : State} (same : entryInForce e = inForce s k) :
    (moveEntry k e s).lif = s.lif := by
  unfold moveEntry
  dsimp only
  rw [if_neg (by rw [same]; simp), if_neg (by rw [same]; simp)]
  simp

/-! ## Conditions, classes and persistences (R149) -/

theorem escalated_iff (escalation flags : FlagSet) :
    escalated escalation flags = true ↔
      (escalation.saturated = true ∧ flags.saturated = true) ∨ (escalation.clamped = true ∧ flags.clamped = true) ∨
        (escalation.fifoMergedFull = true ∧ flags.fifoMergedFull = true) ∨
        (escalation.counterWrap = true ∧ flags.counterWrap = true) ∨
        (escalation.ringResync = true ∧ flags.ringResync = true) := by
  simp [escalated, or_assoc]

theorem sectorMissing_iff (s : State) :
    sectorMissing s = true ↔ ∃ j, j < s.cfg.image.nS ∧ j < 8 ∧ j ≠ s.own ∧
      (peerOf s j).liveness ≠ .live ∧ (peerOf s j).liveness ≠ .silent := by
  have inside (j : Nat) : j ∈ sectorNumbers ↔ j < 8 := by
    simp only [sectorNumbers, List.mem_cons, List.not_mem_nil, or_false]
    omega
  have absent (j : Nat) : present s j = false ↔ (peerOf s j).liveness ≠ .live ∧ (peerOf s j).liveness ≠ .silent := by
    rw [present_eq, Bool.eq_false_iff, Ne, entryPresent_iff, not_or]
  simp only [sectorMissing, List.any_eq_true, Bool.and_eq_true, decide_eq_true_eq, Bool.not_eq_true', inside, absent]
  constructor
  · rintro ⟨j, sector, ⟨numbered, other⟩, gone⟩
    exact ⟨j, numbered, sector, other, gone⟩
  · rintro ⟨j, numbered, sector, other, gone⟩
    exact ⟨j, sector, ⟨numbered, other⟩, gone⟩

theorem anyMismatched_iff (s : State) : anyMismatched s = true ↔ ∃ e ∈ s.ptb.peers, e.liveness = .mismatched := by
  simp [anyMismatched]

theorem alarmClass_eq (img : Image) (k : AlarmKind) :
    alarmClass img k =
      if k ∈ [AlarmKind.duplicateStation, .cutterheadJam, .estop] then .stop
      else if k ∈ [AlarmKind.sectorMissing, .consoleLost, .dutyConflict, .dutyMissing, .configMismatch, .lineFault,
        .substitutionDenied, .buildOrphaned, .groutLag, .balanceBlind, .screwFault] then .hold
      else if k = .arith then img.escalationClass
      else .warning := by
  cases k <;> rfl

theorem raisePersistence_eq (img : Image) (k : AlarmKind) :
    raisePersistence img k =
      if k ∈ [AlarmKind.duplicateStation, .overextraction, .estop, .arith] then 0
      else if k = .cutterheadJam then 50 else if k = .groupPressureLimit then 200
      else (imagePersistence img k).raise := by
  cases k <;> rfl

theorem clearPersistence_eq (img : Image) (k : AlarmKind) :
    clearPersistence img k =
      if k ∈ [AlarmKind.duplicateStation, .overextraction, .estop, .arith] then 0 else (imagePersistence img k).clear := by
  cases k <;> rfl

/-! ## An entry whose condition changes (R143) -/

theorem syncKind_changed {s : State} {k : AlarmKind} (active : s.alu.active = true)
    (changed : conditionNow s k ≠ (entryOf s k).cond) :
    syncKind k s =
      moveEntry k (entryChanged (persistenceOf s.cfg.image k) s.elapsed (conditionNow s k) (entryOf s k)) s :=
  if_neg (by simp [active, changed])

/-- R143: the moves of an entry, by its state and its condition. -/
theorem entryChanged_moves (p : Persistence) (now : Time) (cond : Bool) (e : AlarmEntry) :
    (e.state = .inactive → cond = true → p.raise = 0 →
      entryChanged p now cond e = { state := .active, cond := true, timer := none, latch := true }) ∧
    (e.state = .inactive → cond = true → p.raise ≠ 0 →
      entryChanged p now cond e = { state := .pendingRaise, cond := true, timer := some now, latch := e.latch }) ∧
    (e.state = .pendingRaise → cond = false →
      entryChanged p now cond e = { state := .inactive, cond := false, timer := none, latch := e.latch }) ∧
    (e.state = .active → cond = false → p.clear = 0 →
      entryChanged p now cond e = { state := .inactive, cond := false, timer := none, latch := e.latch }) ∧
    (e.state = .active → cond = false → p.clear ≠ 0 →
      entryChanged p now cond e = { state := .pendingClear, cond := false, timer := some now, latch := e.latch }) ∧
    (e.state = .pendingClear → cond = true →
      entryChanged p now cond e = { state := .active, cond := true, timer := none, latch := true }) := by
  unfold entryChanged
  refine ⟨?_, ?_, ?_, ?_, ?_, ?_⟩
  · intro state now' zero
    simp only [state, now', if_pos zero]
  · intro state now' some
    simp only [state, now', if_neg some]
  · intro state now'
    simp only [state, now']
  · intro state now' zero
    simp only [state, now', if_pos zero]
  · intro state now' some
    simp only [state, now', if_neg some]
  · intro state now'
    simp only [state, now']

/-- R149: CUTTERHEAD_JAM, raised by its persistence of 50, never begins to be in force as its condition changes. -/
theorem entryChanged_jam (img : Image) (now : Time) (cond : Bool) {e : AlarmEntry} (before : entryInForce e = false) :
    entryInForce (entryChanged (persistenceOf img .cutterheadJam) now cond e) = false := by
  cases e with
  | mk state c timer latch => cases state <;> cases cond <;> simp_all [entryChanged, entryInForce, persistenceOf, raisePersistence]

/-- Settles O42: the conditions, the classes and persistences, and the move of an entry. -/
theorem alarmEntriesFollowTheirConditions : Obligations.AlarmEntriesFollowTheirConditions := by
  refine ⟨fun s => ?conditions, fun img k => ⟨alarmClass_eq img k, raisePersistence_eq img k, clearPersistence_eq img k⟩,
    fun s k active length changed => ?moves⟩
  case conditions =>
    refine ⟨?_, ?_, ?_, ?_, ?_, Option.isSome_iff_ne_none, .rfl, .rfl, .rfl, .rfl, .rfl, .rfl, .rfl, ?_, .rfl, .rfl, .rfl, .rfl,
      decide_eq_true_iff, decide_eq_true_iff, decide_eq_true_iff, Bool.and_eq_true_iff, Bool.and_eq_true_iff,
      Bool.and_eq_true_iff, Bool.and_eq_true_iff, Bool.and_eq_true_iff, Bool.and_eq_true_iff, ?_, .rfl,
      escalated_iff _ _, inForce_iff s, stopInForce_iff s⟩
    · rw [← sectorMissing_iff]
      exact Bool.and_eq_true_iff
    · simp [conditionNow]
    · simp [conditionNow]
    · simp [conditionNow]
    · rw [← anyMismatched_iff]
      exact Bool.and_eq_true_iff
    · simp [conditionNow, groupAdvancing]
    · simp [conditionNow]
  case moves =>
    have sync := syncKind_changed active changed
    obtain ⟨raised, pending, withdrawn, cleared, clearing, again⟩ :=
      entryChanged_moves (persistenceOf s.cfg.image k) s.elapsed (conditionNow s k) (entryOf s k)
    generalize moved : entryChanged (persistenceOf s.cfg.image k) s.elapsed (conditionNow s k) (entryOf s k) = e at *
    obtain ⟨same, others⟩ := entryOf_moveEntry k e length
    have force : inForce (moveEntry k e s) k = entryInForce e := by rw [inForce, same]
    have rest : { moveEntry k e s with alu := s.alu, lif := s.lif } = s := moveEntry_rest fun jam raises => by
      subst jam
      rw [← moved, entryChanged_jam s.cfg.image s.elapsed _ raises.1] at raises
      cases raises.2
    dsimp only
    rw [sync, same, force]
    exact ⟨raised, pending, withdrawn, cleared, clearing, again, others, moveEntry_raises, moveEntry_clears,
      moveEntry_silent, congrArg (·.dsu) rest, congrArg (·.fpt) rest, congrArg (·.thu) rest, congrArg (·.bsq) rest,
      congrArg (·.gru) rest, congrArg (·.bal) rest, congrArg (·.ptb) rest, congrArg (·.phase) rest⟩

/-! ## The motors brought to 0 (R33, R34, R43) -/

/-- R43: at n_r 0 a droop factor not below 0 leaves every reference 0. -/
theorem motorReference_rest {s : State} (rest : s.dsu.nr = 0) (droop : 0 ≤ s.cfg.image.dDroop) (fitted counted : Bool)
    (t : Int) : (motorReference s fitted counted t).1 = 0 := by
  rw [motorReference_eq, rest]
  split_ifs with unfitted above
  · rfl
  · have term : 0 ≤ s.cfg.image.dDroop * (t - (sharedTorque s).1 / (sharedTorque s).2) / 1000 :=
      Int.ediv_nonneg (mul_nonneg droop (by omega)) (by omega)
    omega
  · rfl

theorem writeMotors_rest {s : State} (rest : s.dsu.nr = 0) (droop : 0 ≤ s.cfg.image.dDroop) :
    (writeMotors s).fpt.written = { s.fpt.written with motor0 := 0, motor1 := 0 } := by
  rw [writeMotors_written, motorReference_rest rest droop, motorReference_rest rest droop]

theorem zeroMotors_dsu (s : State) : (zeroMotors s).dsu = { s.dsu with nr := 0 } := by
  unfold zeroMotors
  by_cases rest : s.dsu.nr = 0
  · rw [if_pos rest, ← rest]
    simp
  · rw [if_neg rest]
    simp

theorem zeroMotors_written {s : State} (droop : 0 ≤ s.cfg.image.dDroop) :
    (zeroMotors s).fpt.written = { s.fpt.written with motor0 := 0, motor1 := 0 } := by
  unfold zeroMotors
  by_cases rest : s.dsu.nr = 0
  · rw [if_pos rest]
    simp
  · rw [if_neg rest]
    exact writeMotors_rest (s := s.onDsu fun d => { d with nr := 0 }) rfl droop

theorem zeroMotors_rest (s : State) :
    { zeroMotors s with alu := s.alu, dsu := s.dsu, fpt := s.fpt } = s := by
  have frame := zeroMotors_frame s
  simp_all

/-- R34: CUTTERHEAD_JAM becoming ACTIVE trips the cutterhead. -/
theorem moveEntry_trips {e : AlarmEntry} {s : State} (before : inForce s .cutterheadJam = false)
    (after : entryInForce e = true) :
    (moveEntry .cutterheadJam e s).dsu =
        { s.dsu with cutterhead := .tripped, nr := 0, changing := false, downCount := 0, upCount := 0 } ∧
      (0 ≤ s.cfg.image.dDroop →
        (moveEntry .cutterheadJam e s).fpt.written = { s.fpt.written with motor0 := 0, motor1 := 0 }) ∧
      { moveEntry .cutterheadJam e s with alu := s.alu, lif := s.lif, dsu := s.dsu, fpt := s.fpt } = s := by
  have moved : moveEntry .cutterheadJam e s =
      tripCutterhead (handFrame (alarmFrame s.cfg.image .cutterheadJam true) (setEntry .cutterheadJam e s)) :=
    (if_pos ⟨before, after⟩).trans (if_pos rfl)
  have frame := handFrame_frame (alarmFrame s.cfg.image .cutterheadJam true) (setEntry .cutterheadJam e s)
  rw [moved, tripCutterhead]
  generalize handFrame (alarmFrame s.cfg.image .cutterheadJam true) (setEntry .cutterheadJam e s) = w at *
  refine ⟨?_, fun droop => ?_, ?_⟩
  · rw [zeroMotors_dsu]
    simp_all [leaveRunning]
  · rw [zeroMotors_written (by simp_all)]
    simp_all
  · have rest := zeroMotors_frame (leaveRunning .tripped w)
    simp_all

theorem exec_alarmPersistenceExpiry {s : State} {k : AlarmKind} {start : Time} (timer : (entryOf s k).timer = some start)
    (due : persistenceSpan s.cfg.image k (entryOf s k) ≤ elapsedSince start s.elapsed) :
    exec (.alarmPersistenceExpiry k) s = .next (settle (moveEntry k (entryExpired (entryOf s k)) s)) := by
  change execAlarmPersistenceExpiry k s = _
  rw [execAlarmPersistenceExpiry, timer, onExpiry_due due]

/-- Settles O43: the persistence timers of an entry and the span of a duplicate station. -/
theorem alarmTimersMoveTheirEntries : Obligations.AlarmTimersMoveTheirEntries := by
  refine ⟨fun s k start length timer => ⟨fun pending due => ?raise, fun clearing due => ?clear⟩,
    fun s start span due => ?duplicate⟩
  case raise =>
    have expired : entryExpired (entryOf s k) = { entryOf s k with state := .active, timer := none, latch := true } := by
      rw [entryExpired, pending]
    have before : inForce s k = false := by rw [inForce, entryInForce, pending]
    have run := exec_alarmPersistenceExpiry timer (by rwa [persistenceSpan, if_neg (by simp [pending])])
    rw [expired] at run
    obtain ⟨same, others⟩ := entryOf_moveEntry k { entryOf s k with state := .active, timer := none, latch := true } length
    refine ⟨_, run, same, others, moveEntry_raises before rfl, ?_, fun other => moveEntry_rest fun jam => absurd jam other⟩
    rintro rfl
    exact moveEntry_trips before rfl
  case clear =>
    have expired : entryExpired (entryOf s k) = { entryOf s k with state := .inactive, timer := none } := by
      rw [entryExpired, clearing]
    have before : inForce s k = true := by rw [inForce, entryInForce, clearing]
    have run := exec_alarmPersistenceExpiry timer (by rwa [persistenceSpan, if_pos clearing])
    rw [expired] at run
    obtain ⟨same, others⟩ := entryOf_moveEntry k { entryOf s k with state := .inactive, timer := none } length
    exact ⟨_, run, same, others, moveEntry_clears before rfl, moveEntry_rest fun _ raises => by simp [before] at raises⟩
  case duplicate =>
    change execDuplicateStationExpiry s = _
    rw [execDuplicateStationExpiry, span, onExpiry_due (span := Config.duplicateSpan) due]
    rfl

end Sys2Proof.Machine
end

section
/-! The entry into HALTED and the departure from it (07_alarms_holds_and_emergency_stop section 7.2, 7.5 and
7.6). -/

namespace Sys2Proof.Machine

open Sys2Proof

/-! ## What each block does (R33, R69, R89, R123) -/

/-- R33: a turning cutterhead is STOPPING, with n_r and the references 0. -/
theorem driveStandstill_turning {s : State}
    (turns : s.dsu.cutterhead = .starting ∨ s.dsu.cutterhead = .running ∨ s.dsu.cutterhead = .stopping) :
    driveStandstill s = zeroMotors (leaveRunning .stopping s) := by
  unfold driveStandstill
  rcases turns with h | h | h
  · rw [h]
  · rw [h]
  · rw [h]

theorem driveStandstill_still {s : State} (still : s.dsu.cutterhead = .stopped ∨ s.dsu.cutterhead = .tripped) :
    driveStandstill s = s := by
  unfold driveStandstill
  rcases still with h | h
  · rw [h]
  · rw [h]

theorem groupFreeze_moving {s : State} {m : GroupMotion} (moving : s.thu.group = .moving m) :
    groupFreeze s = setGroup (.frozen m) s := by
  rw [groupFreeze, moving]

theorem groupFreeze_frozen {s : State} {m : GroupMotion} (frozen : s.thu.group = .frozen m) : groupFreeze s = s := by
  rw [groupFreeze, frozen]

theorem groupFreeze_written (s : State) : ∃ mode p,
    (groupFreeze s).fpt.written = { s.fpt.written with valveMode := mode, valvePressure := p } := by
  cases group : s.thu.group with
  | moving m =>
    rw [groupFreeze_moving group, setGroup_written]
    exact ⟨_, _, rfl⟩
  | frozen m =>
    rw [groupFreeze_frozen group]
    exact ⟨_, _, rfl⟩

/-- R90: a HALTED station asks no group back. -/
theorem sendBack_halted {s : State} (halted : s.phase = .halted) : sendBack s = s :=
  (sendBack_bringsBack s).2 fun _ _ due => due.2.1 halted

theorem suspend_halted {s : State} (halted : s.phase = .halted) (underway : Underway s) :
    suspend s = setBuild .suspended s := by
  rw [suspend, if_pos ((stepping_iff_underway s).2 underway)]
  exact sendBack_halted (by simpa using halted)

theorem suspend_still {s : State} (rest : ¬Underway s) : suspend s = s :=
  if_neg (mt (stepping_iff_underway s).1 rest)

theorem holdTest_written (s : State) : ∃ screw gate,
    (holdTest s).fpt.written = { s.fpt.written with screw := screw, gateOpen := gate } := by
  unfold holdTest
  by_cases holds : s.bal.conveyor = .running ∧ holdCause s.bal = true
  · rw [if_pos holds, setConveyor_written]
    exact ⟨_, _, rfl⟩
  rw [if_neg holds]
  by_cases frees : s.bal.conveyor = .holding ∧ holdCause s.bal = false
  · rw [if_pos frees, setConveyor_written]
    exact ⟨_, _, rfl⟩
  · rw [if_neg frees]
    exact ⟨_, _, rfl⟩

theorem setStopHold_written (s : State) : ∃ screw gate,
    (setStopHold s).fpt.written = { s.fpt.written with screw := screw, gateOpen := gate } := by
  unfold setStopHold
  by_cases active : s.bal.active = true
  · rw [if_pos active]
    exact holdTest_written _
  · rw [if_neg active]
    exact ⟨_, _, rfl⟩

theorem holdTest_held {s : State} (held : heldBack s.bal) : (holdTest s).bal.conveyor ≠ .running := by
  rw [(holdTest_bal s).1]
  by_cases runs : s.bal.conveyor = .running
  · rw [if_pos ⟨runs, held⟩]
    simp
  · rw [if_neg fun both => runs both.1, if_neg fun both => both.2 held]
    exact runs

/-- R123: an active BAL sets its stop hold, and its conveyor does not run. -/
theorem setStopHold_active {s : State} (active : s.bal.active = true) :
    (setStopHold s).bal.stopHold = true ∧ (setStopHold s).bal.conveyor ≠ .running := by
  rw [setStopHold, if_pos active]
  have rest := (holdTest_bal (s.onBal fun b => { b with stopHold := true })).2
  exact ⟨(congrArg (·.stopHold) rest :), holdTest_held (.inr (.inr (.inr rfl)))⟩

theorem setStopHold_inactive {s : State} (inactive : s.bal.active = false) : setStopHold s = s :=
  if_neg (by simp [inactive])

/-! ## The entry into HALTED (R147) -/

/-- The station as its phase becomes HALTED, before the blocks act. -/
def haltedPhase (s : State) : State := clearHolderSeen (plainPhase .halted s)

/-- DSU and THU have acted on the entry into HALTED. -/
def standingStill (s : State) : State := groupFreeze (driveStandstill (haltedPhase s))

theorem enterHalted_eq (s : State) :
    enterHalted s = setStopHold (suspend (standingStill s)) := rfl

theorem standingStill_frame (s : State) :
    (standingStill s).phase = .halted ∧ (standingStill s).bsq = { s.bsq with holderSeen := false } ∧
      (standingStill s).bal = s.bal ∧ (standingStill s).cfg = s.cfg := by
  refine ⟨?_, ?_, ?_, ?_⟩ <;> simp [standingStill, haltedPhase, clearHolderSeen, plainPhase]

theorem standingStill_dsu (s : State) : (standingStill s).dsu = (driveStandstill (haltedPhase s)).dsu := by
  simp [standingStill]

theorem standingStill_underway (s : State) : Underway (standingStill s) ↔ Underway s := by
  rw [Underway, (standingStill_frame s).2.1]

theorem suspend_standingStill (s : State) :
    (Underway s → suspend (standingStill s) = setBuild .suspended (standingStill s)) ∧
      (¬Underway s → suspend (standingStill s) = standingStill s) :=
  ⟨fun underway => suspend_halted (standingStill_frame s).1 ((standingStill_underway s).2 underway),
    fun rest => suspend_still (mt (standingStill_underway s).1 rest)⟩

/-- The motor references are those DSU has written. -/
theorem enterHalted_motors (s : State) :
    (enterHalted s).fpt.written.motor0 = (driveStandstill (haltedPhase s)).fpt.written.motor0 ∧
      (enterHalted s).fpt.written.motor1 = (driveStandstill (haltedPhase s)).fpt.written.motor1 := by
  obtain ⟨screw, gate, held⟩ := setStopHold_written (suspend (standingStill s))
  obtain ⟨mode, p, frozen⟩ := groupFreeze_written (driveStandstill (haltedPhase s))
  have suspended : ∃ c, (suspend (standingStill s)).fpt.written = { (standingStill s).fpt.written with erector := c } := by
    obtain ⟨suspends, rests⟩ := suspend_standingStill s
    by_cases underway : Underway s
    · rw [suspends underway, setBuild_written]
      exact ⟨_, rfl⟩
    · rw [rests underway]
      exact ⟨_, rfl⟩
  obtain ⟨c, suspended⟩ := suspended
  rw [enterHalted_eq, held, suspended, standingStill, frozen]
  exact ⟨rfl, rfl⟩

theorem enterHalted_thu (s : State) : (enterHalted s).thu = (groupFreeze (driveStandstill (haltedPhase s))).thu := by
  obtain ⟨suspends, rests⟩ := suspend_standingStill s
  have same : (suspend (standingStill s)).thu = (standingStill s).thu := by
    by_cases underway : Underway s
    · rw [suspends underway]
      simp
    · rw [rests underway]
  rw [enterHalted_eq, (setStopHold_frame _).2.2.2.2.2.2.2.2.2.1, same, standingStill]

/-- Settles O47: what every block does as the station is HALTED. -/
theorem haltStopsEveryBlock : Obligations.HaltStopsEveryBlock := by
  intro s
  obtain ⟨suspends, rests⟩ := suspend_standingStill s
  obtain ⟨-, bsq, bal, -⟩ := standingStill_frame s
  have dsu : (enterHalted s).dsu = (driveStandstill (haltedPhase s)).dsu := by
    rw [enterHalted_eq, (setStopHold_frame _).2.2.2.2.2.2.2.2.1, (suspend_frame _).2.2.2.2.2.2.2.2.1, standingStill_dsu]
  have bsq' : (enterHalted s).bsq = (suspend (standingStill s)).bsq := by
    rw [enterHalted_eq, (setStopHold_frame _).2.2.2.2.2.2.2.2.2.2.1]
  have bal' : (suspend (standingStill s)).bal = s.bal := by
    rw [(suspend_frame _).2.2.2.2.2.2.2.2.2.2, bal]
  have thu (m : GroupMotion) (group : s.thu.group = .moving m ∨ s.thu.group = .frozen m) :
      (driveStandstill (haltedPhase s)).thu = s.thu := by simp [haltedPhase, clearHolderSeen, plainPhase]
  refine ⟨by simp [enterHalted_eq, (standingStill_frame s).1], ?pause, ?seen, fun turns => ?turns, fun still => ?still,
    fun m moving => ?moving, fun m frozen => ?frozen, fun underway => ?underway, fun rest => ?rest, fun active => ?active,
    fun inactive => ?inactive, ?blocks⟩
  case pause => simp [enterHalted_eq, standingStill, haltedPhase, clearHolderSeen, plainPhase]
  case seen =>
    rw [bsq']
    by_cases underway : Underway s
    · rw [suspends underway, setBuild_bsq, bsq]
      rfl
    · rw [rests underway, bsq]
  case turns =>
    have acts : driveStandstill (haltedPhase s) = zeroMotors (leaveRunning .stopping (haltedPhase s)) :=
      driveStandstill_turning turns
    rw [dsu, acts, zeroMotors_dsu, (enterHalted_motors s).1, (enterHalted_motors s).2, acts]
    exact ⟨rfl, fun droop => by
      rw [zeroMotors_written (s := leaveRunning .stopping (haltedPhase s)) droop]
      exact ⟨rfl, rfl⟩⟩
  case still =>
    rw [dsu, driveStandstill_still (s := haltedPhase s) still]
    rfl
  case moving =>
    have group : (driveStandstill (haltedPhase s)).thu.group = .moving m := by rw [thu m (.inl moving)]; exact moving
    rw [enterHalted_thu, groupFreeze_moving group, setGroup_group]
  case frozen =>
    have group : (driveStandstill (haltedPhase s)).thu.group = .frozen m := by rw [thu m (.inr frozen)]; exact frozen
    rw [enterHalted_thu, groupFreeze_frozen group, thu m (.inr frozen)]
  case underway =>
    obtain ⟨screw, gate, held⟩ := setStopHold_written (suspend (standingStill s))
    rw [bsq', enterHalted_eq, held, suspends underway, setBuild_written]
    exact ⟨rfl, rfl⟩
  case rest => rw [bsq', rests rest, bsq]
  case active => exact setStopHold_active (s := suspend (standingStill s)) (by rw [bal']; exact active)
  case inactive => rw [enterHalted_eq, setStopHold_inactive (by rw [bal']; exact inactive), bal']
  case blocks =>
    have lif : (suspend (standingStill s)).lif = s.lif := by
      by_cases underway : Underway s
      · rw [suspends underway]
        simp [standingStill, haltedPhase, clearHolderSeen, plainPhase]
      · rw [rests underway]
        simp [standingStill, haltedPhase, clearHolderSeen, plainPhase]
    refine ⟨by simp, by simp, by simp, ?_, by simp⟩
    rw [enterHalted_eq, (setStopHold_frame _).2.2.2.2.2.2.2.2.2.2.2.2, lif]

/-! ## The departure from HALTED (R156) -/

theorem stopOtherThanEstop_iff (s : State) :
    stopOtherThanEstop s = true ↔ ∃ k, k ≠ .estop ∧ inForce s k = true ∧ alarmClass s.cfg.image k = .stop := by
  have every (k : AlarmKind) : k ∈ AlarmKind.all := by cases k <;> decide
  simp only [stopOtherThanEstop, List.any_eq_true, Bool.and_eq_true, decide_eq_true_eq, every, true_and]

/-- R90: with the own group HOLDING, bringing a group back is a matter of BSQ, the peer table and the line. -/
theorem sendBack_holding {s u : State} (holding : s.thu.group = .moving .holding) (thu : u.thu.group = s.thu.group)
    (bsq : u.bsq = s.bsq) (phase : u.phase = s.phase) (ptb : u.ptb = s.ptb) (cfg : u.cfg = s.cfg)
    (elapsed : u.elapsed = s.elapsed) (lif : u.lif = s.lif) :
    (sendBack u).bsq = (sendBack s).bsq ∧ (sendBack u).lif = (sendBack s).lif ∧ (sendBack s).thu = s.thu := by
  have own : u.own = s.own := by rw [State.own, State.own, cfg]
  have serves (j : Nat) : served u j = served s j := by rw [served_eq, served_eq, peerOf_congr (congrArg (·.peers) ptb)]
  have here (j : Nat) : present u j = present s j := by rw [present_eq, present_eq, peerOf_congr (congrArg (·.peers) ptb)]
  have due (t : Retraction) : ExtensionDue u t ↔ ExtensionDue s t := by
    unfold ExtensionDue
    rw [bsq, phase, own, thu, serves, here]
  obtain ⟨sendsU, quietU⟩ := sendBack_bringsBack u
  obtain ⟨sends, quiet⟩ := sendBack_bringsBack s
  by_cases back : ∃ t, s.bsq.retraction = some t ∧ ExtensionDue s t
  · obtain ⟨t, retraction, dues⟩ := back
    have away : t.target ≠ s.own := fun target => by
      have group := dues.2.2
      rw [if_pos target] at group
      exact group.2 holding
    obtain ⟨registersU, handedU⟩ := (sendsU t (by rw [bsq]; exact retraction) ((due t).2 dues)).1 (by rw [own]; exact away)
    obtain ⟨registers, handed⟩ := (sends t retraction dues).1 away
    dsimp only at registersU registers
    rw [bsq, elapsed] at registersU
    refine ⟨registersU.trans registers.symm, ?_, ?_⟩
    · have handedU' := congrArg (·.lif) handedU
      have handed' := congrArg (·.lif) handed
      dsimp only at handedU' handed'
      rw [handedU', handed', bsq]
      exact handFrame_lif_congr _ lif
    · have kept := congrArg (·.thu) handed
      dsimp only at kept
      rw [kept]
      simp
  · have none : ∀ t, s.bsq.retraction = some t → ¬ExtensionDue s t := fun t retraction dues => back ⟨t, retraction, dues⟩
    rw [quiet none, quietU fun t retraction dues => none t (bsq ▸ retraction) ((due t).1 dues)]
    exact ⟨bsq, lif, rfl⟩

theorem groupThaw_thu (s : State) :
    (groupThaw s).thu = { s.thu with group := .moving .holding, slot := none, pRef := s.cfg.image.pHold } := by
  simp [groupThaw, emptySlot, setGroup]

theorem clearStopHold_bal {s : State} (active : s.bal.active = true) :
    (clearStopHold s).bal.stopHold = false ∧
      (s.bal.conveyor = .holding → ¬heldBack { s.bal with stopHold := false } →
        (clearStopHold s).bal.conveyor = .running) := by
  rw [clearStopHold, if_pos active]
  obtain ⟨conveyor, rest⟩ := holdTest_bal (s.onBal fun b => { b with stopHold := false })
  refine ⟨(congrArg (·.stopHold) rest :), fun holding free => ?_⟩
  rw [conveyor, if_neg (fun both => free both.2)]
  exact if_pos ⟨holding, free⟩

theorem clearStopHold_inactive {s : State} (inactive : s.bal.active = false) : clearStopHold s = s :=
  if_neg (by simp [inactive])

/-- The station as its phase becomes IDLE, with DSU and THU freed and no group asked back yet. -/
def thawed (s : State) : State :=
  groupThaw (untrip (plainPhase .idle (s.onAlu fun a => { a with estop := false })))

theorem leaveHalted_eq (s : State) : leaveHalted s = clearStopHold (sendBack (thawed s)) := rfl

theorem thawed_thu (s : State) :
    (thawed s).thu = { s.thu with group := .moving .holding, slot := none, pRef := s.cfg.image.pHold } := by
  rw [thawed, groupThaw_thu]
  simp [plainPhase]

theorem thawed_frame (s : State) :
    (thawed s).phase = .idle ∧ (thawed s).pauseCause = .none ∧ (thawed s).bsq = s.bsq ∧ (thawed s).ptb = s.ptb ∧
      (thawed s).cfg = s.cfg ∧ (thawed s).elapsed = s.elapsed ∧ (thawed s).lif = s.lif ∧ (thawed s).bal = s.bal ∧
      (thawed s).gru = s.gru ∧ (thawed s).ring = s.ring ∧ (thawed s).alu.entries = s.alu.entries ∧
      (thawed s).alu.estop = false := by
  refine ⟨?_, ?_, ?_, ?_, ?_, ?_, ?_, ?_, ?_, ?_, ?_, ?_⟩ <;> simp [thawed, plainPhase]

/-- Settles O46: RESUME in every phase. -/
theorem resumeLeavesHalted : Obligations.ResumeLeavesHalted := by
  intro s chars tag ho
  have stop : (s.fpt.estopIn.asserted = true ∨ stopOtherThanEstop (atOrder s) = true) ↔
      (s.fpt.estopIn.asserted = true ∨ ∃ k, k ≠ .estop ∧ inForce s k = true ∧ alarmClass s.cfg.image k = .stop) :=
    or_congr_right (stopOtherThanEstop_iff (atOrder s))
  refine ⟨fun free => ?free, fun halted stopped => ?refused, fun halted unstopped => ?leaves⟩
  case free => exact hear_ordered_of_rule (rule := ruleResume) ho rfl (if_neg free)
  case refused => exact hear_ordered_of_rule (rule := ruleResume) ho rfl ((if_pos halted).trans (if_pos (stop.2 stopped)))
  case leaves =>
    refine ⟨leaveHalted (atOrder s), hear_ordered_of_rule (rule := ruleResume) ho rfl
      ((if_pos halted).trans (if_neg (mt stop.1 unstopped))), ?_⟩
    obtain ⟨phase, pause, bsq, ptb, cfg, elapsed, lif, bal, gru, ring, entries, estop⟩ := thawed_frame (atOrder s)
    have thu := thawed_thu (atOrder s)
    have holding : (thawed (atOrder s)).thu.group = .moving .holding := by rw [thu]
    have stays := (sendBack_holding holding rfl rfl rfl rfl rfl rfl rfl).2.2
    have leftThu : (leaveHalted (atOrder s)).thu = (thawed (atOrder s)).thu := by
      rw [leaveHalted_eq, (clearStopHold_frame _).2.2.2.2.2.2.2.2.2.1, stays]
    have leftBsq : (leaveHalted (atOrder s)).bsq = (sendBack (thawed (atOrder s))).bsq := by
      rw [leaveHalted_eq, (clearStopHold_frame _).2.2.2.2.2.2.2.2.2.2.1]
    have leftLif : (leaveHalted (atOrder s)).lif = (sendBack (thawed (atOrder s))).lif := by
      rw [leaveHalted_eq, (clearStopHold_frame _).2.2.2.2.2.2.2.2.2.2.2.2]
    have registers := (sendBack_bringsBack (thawed (atOrder s))).bsq
    rw [bsq] at registers
    have balBack : (sendBack (thawed (atOrder s))).bal = s.bal := by
      rw [(sendBack_frame _).2.2.2.2.2.2.2.2.2.2, bal]
      rfl
    refine ⟨⟨_, sendBack_bringsBack _, ?_⟩, show _ = (atOrder s).alu.entries by simp [leaveHalted_eq, entries], by simp [leaveHalted_eq, phase],
      by simp [leaveHalted_eq, pause], by simp [leaveHalted_eq, estop], ?dsu, ?thu, ?state, ?cursor, ?progress, fun active => ?active,
      fun inactive => ?inactive, show _ = (atOrder s).gru by simp [leaveHalted_eq, gru], show _ = (atOrder s).ring by simp [leaveHalted_eq, ring],
      by simp [leaveHalted_eq, ptb], show _ = (atOrder s).cfg by simp [leaveHalted_eq, cfg]⟩
    · have same := sendBack_holding (u := thawed (atOrder s))
        (s := { atOrder s with phase := .idle, pauseCause := .none, thu := (leaveHalted (atOrder s)).thu })
        (by rw [leftThu]; exact holding) (by rw [leftThu]) bsq phase ptb cfg elapsed lif
      rw [leftBsq, leftLif]
      exact ⟨same.1, same.2.1⟩
    case dsu =>
      have untripped : (untrip (plainPhase .idle ((atOrder s).onAlu fun a => { a with estop := false }))).dsu =
          if s.dsu.cutterhead = .tripped then { s.dsu with cutterhead := .stopped } else s.dsu := by
        unfold untrip
        by_cases tripped : s.dsu.cutterhead = .tripped
        · rw [if_pos (by simpa [plainPhase, atOrder] using tripped), if_pos tripped]
          rfl
        · rw [if_neg (by simpa [plainPhase, atOrder] using tripped), if_neg tripped]
          rfl
      rw [← untripped]
      simp [leaveHalted_eq, thawed]
    case thu =>
      rw [leftThu, thu]
      rfl
    case state =>
      rw [leftBsq, registers]
      rfl
    case cursor =>
      rw [leftBsq, registers]
      rfl
    case progress =>
      rw [leftBsq, registers]
      rfl
    case active =>
      have freed := clearStopHold_bal (s := sendBack (thawed (atOrder s))) (by rw [balBack]; exact active)
      rw [balBack] at freed
      exact freed
    case inactive => rw [leaveHalted_eq, clearStopHold_inactive (by rw [balBack]; exact inactive), balBack]

end Sys2Proof.Machine
end

section
/-! The line slot and the receptions that cannot be taken (09_the_shield_line sections 9.1, 9.3, 9.4 and 9.5). -/

namespace Sys2Proof.Machine

open Sys2Proof

/-! ## The line counters (R181) -/

/-- R2, R181: the flag of a counter that wraps, and nothing else. -/
theorem counterWrap_flagged (b : Bool) (s : State) :
    setFlagIf b .counterWrap s =
      { s with
        alu :=
          { s.alu with flags := { s.alu.flags with counterWrap := s.alu.flags.counterWrap || b } } } := by
  cases b <;> simp [setFlagIf, setFlag, flagUp, State.onAlu]

theorem countCrcError_eq (s : State) :
    countCrcError s =
      { s with
        lif := { s.lif with crcErrors := if s.lif.crcErrors < 65535 then s.lif.crcErrors + 1 else 0 }
        alu :=
          { s.alu with
            flags :=
              { s.alu.flags with
                counterWrap := s.alu.flags.counterWrap || decide (65535 ≤ s.lif.crcErrors) } } } := by
  rw [countCrcError, counterWrap_flagged]
  rfl

theorem countFormatError_eq (s : State) :
    countFormatError s =
      { s with
        lif := { s.lif with formatErrors := if s.lif.formatErrors < 65535 then s.lif.formatErrors + 1 else 0 }
        alu :=
          { s.alu with
            flags :=
              { s.alu.flags with
                counterWrap := s.alu.flags.counterWrap || decide (65535 ≤ s.lif.formatErrors) } } } := by
  rw [countFormatError, counterWrap_flagged]
  rfl

theorem countCollision_eq (s : State) :
    countCollision s =
      { s with
        lif := { s.lif with collisions := if s.lif.collisions < 65535 then s.lif.collisions + 1 else 0 }
        alu :=
          { s.alu with
            flags :=
              { s.alu.flags with
                counterWrap := s.alu.flags.counterWrap || decide (65535 ≤ s.lif.collisions) } } } := by
  rw [countCollision, counterWrap_flagged]
  rfl

theorem countQueueDrop_eq (s : State) :
    countQueueDrop s =
      { s with
        lif := { s.lif with queueDrops := if s.lif.queueDrops < 65535 then s.lif.queueDrops + 1 else 0 }
        alu :=
          { s.alu with
            flags :=
              { s.alu.flags with
                counterWrap := s.alu.flags.counterWrap || decide (65535 ≤ s.lif.queueDrops) } } } := by
  rw [countQueueDrop, counterWrap_flagged]
  rfl

/-! ## Receptions that cannot be taken (R171, R173, R178 to R180, R182) -/

theorem sendingSlot_eq_some_iff {s : State} {w : LineSlot} :
    sendingSlot s = some w ↔ s.lif.slot = some w ∧ w.sending = true := by
  unfold sendingSlot
  cases s.lif.slot with
  | none => simp
  | some k =>
    cases sending : k.sending
    · suffices k = w → w.sending = false by simpa [sending] using this
      rintro rfl
      exact sending
    · suffices k = w → w.sending = true by simpa [sending] using this
      rintro rfl
      exact sending

theorem sendingSlot_isNone_eq_false_iff {s : State} :
    (sendingSlot s).isNone = false ↔ ∃ w, s.lif.slot = some w ∧ w.sending = true := by
  simp [Option.isNone_eq_false_iff, Option.isSome_iff_exists, sendingSlot_eq_some_iff]

/-- R171, R173: when a station does not receive. -/
theorem receives_eq_false_iff (s : State) :
    receives s = false ↔ s.phase = .load ∨ s.phase = .probe ∨ s.phase = .configFault ∨
      (∃ w, s.lif.slot = some w ∧ w.sending = true) ∨ s.lif.abandoned = true := by
  rw [← sendingSlot_isNone_eq_false_iff]
  cases sending : sendingSlot s <;> cases phase : s.phase <;> simp [receives, phase, sending]

/-- Every frame row and every order row hears its characters. -/
theorem exec_heardRow {chars : Chars} {i : Instr}
    (row : i ∈ frameRows chars ∨ ∃ code, i = orderRow code chars) (s : State) :
    ∃ act, exec i s = hearClosed chars act s := by
  rcases row with row | ⟨code, rfl⟩
  · obtain ⟨act, heard⟩ := exec_frameRow row s
    exact ⟨_, heard⟩
  · by_cases zero : code = 0
    · subst zero
      exact ⟨_, show exec (.orderUndefinedKind chars) s = hear chars _ s from rfl⟩
    · by_cases restart : code = 22
      · subst restart
        exact ⟨_, rfl⟩
      · obtain ⟨fits, rule, heard, -⟩ := exec_orderRow zero restart chars s
        exact ⟨_, heard⟩

/-- Settles O52: what every row makes of a transmission it cannot take. -/
theorem badReceptionsAreCounted : Obligations.BadReceptionsAreCounted := by
  intro s chars i row idle
  obtain ⟨act, heard⟩ := exec_heardRow row s
  have used : lineUsed s = idle := rfl
  have early : exec (.receptionEarlyEnd chars) s = execReceptionEarlyEnd chars s := rfl
  rw [heard, early]
  refine ⟨receives_eq_false_iff s, fun deaf => ?_, fun hearing => ⟨fun judged => ?_, fun judged => ?_,
    fun n judged => ?_, fun h b judged own => ?_, fun short delimiter => ?_, fun short other => ?_⟩⟩
  · exact ⟨by rw [hearClosed, if_pos deaf, used], by rw [execReceptionEarlyEnd, if_pos deaf, used]⟩
  · simp [hearClosed, hearing, judged, used]
  · refine ⟨countCrcError idle, by simp [hearClosed, hearing, judged, used], ?_⟩
    rw [countCrcError_eq]
    exact ⟨rfl, rfl, rfl⟩
  · refine ⟨countFormatError idle, by simp [hearClosed, hearing, judged, used], ?_⟩
    rw [countFormatError_eq]
    exact ⟨rfl, rfl, rfl⟩
  · simp [hearClosed, hearing, judged, own, used, duplicateNotice, State.onAlu, idle]
  · refine ⟨countCrcError idle, by simp [execReceptionEarlyEnd, hearing, short, delimiter, used], ?_⟩
    rw [countCrcError_eq]
    exact ⟨rfl, rfl⟩
  · rw [execReceptionEarlyEnd, if_neg (by simp [hearing]), if_neg (by simp [short]), if_neg other, used]

/-! ## The slot (R172, R173) -/

/-- R172: a frame starts at its gap or a multiple of 30 after it. -/
theorem startsAt_iff (gap idle : Nat) : startsAt gap idle = true ↔ ∃ k, idle = gap + 30 * k := by
  simp only [startsAt, Bool.and_eq_true, decide_eq_true_eq]
  constructor
  · rintro ⟨reached, multiple⟩
    exact ⟨(idle - gap) / 30, by omega⟩
  · rintro ⟨k, rfl⟩
    omega

theorem gapOf_eq (own : Nat) (f : TxFrame) (n : Nat) :
    gapOf own f n =
      (match f.body.frameClass with | .safety => 2 | .control => 12 | .report => 22) + own + 10 * n := by
  unfold gapOf
  cases f.body.frameClass <;> rfl

/-- From the end of PROBE on, and in CONFIG_FAULT, a station that is not sending tries to transmit. -/
theorem exec_transmitStart {s : State} (idle : Nat) (load : s.phase ≠ .load) (probe : s.phase ≠ .probe)
    (silent : ∀ w, s.lif.slot = some w → w.sending = false) :
    exec (.transmitStart idle) s = .next (tryTransmit idle s) := by
  have may : mayTransmit s = true := by
    cases phase : s.phase <;> simp_all [mayTransmit]
  have still : (sendingSlot s).isNone = true := by
    rw [← Bool.not_eq_false, sendingSlot_isNone_eq_false_iff]
    rintro ⟨w, slot, sending⟩
    simp [silent w slot] at sending
  exact if_pos ⟨may, still⟩

/-- Settles O51: what the three commands make of the slot. -/
theorem lineSlotSendsAndCollides : Obligations.LineSlotSendsAndCollides := by
  intro s base quiet
  have gap (f : TxFrame) (n : Nat) : gapOf s.own f n = base f + s.own + 10 * n := gapOf_eq _ _ _
  refine ⟨fun idle load probe => ⟨fun empty queue => ?_, fun f rest empty queue => ?_, fun w slot waits => ?_⟩,
    fun w slot sending => ?_⟩
  · rw [exec_transmitStart idle load probe (by simp [empty])]
    simp [tryTransmit, empty, queue, quiet, State.onLif]
  · rw [exec_transmitStart idle load probe (by simp [empty])]
    have starts := startsAt_iff (gapOf s.own f 0) idle
    rw [gap, Nat.mul_zero, Nat.add_zero] at starts
    refine ⟨fun early => ?_, fun due => ?_⟩
    · rw [← starts] at early
      simp [tryTransmit, empty, queue, gap, early, quiet, State.onLif]
    · rw [← starts] at due
      simp [tryTransmit, empty, queue, gap, due, quiet, State.onLif, takeFromQueue]
      rfl
  · rw [exec_transmitStart idle load probe (by simp [slot, waits])]
    have starts := startsAt_iff (gapOf s.own w.frame w.collisions) idle
    rw [gap] at starts
    refine ⟨fun early => ?_, fun due => ?_⟩
    · rw [← starts] at early
      simp [tryTransmit, slot, gap, early, quiet, State.onLif]
    · rw [← starts] at due
      simp [tryTransmit, slot, waits, gap, due, quiet, State.onLif]
  · have sends : sendingSlot s = some w := sendingSlot_eq_some_iff.2 ⟨slot, sending⟩
    have collides : exec .collision s = .next (settle (frameCollides w s)) := by
      change execCollision s = _
      rw [execCollision, sends]
    refine ⟨?_, frameCollides w s, collides, ?_⟩
    · change execFrameSent s = _
      rw [execFrameSent, sends]
      rfl
    · rw [frameCollides, countCollision_eq]
      simp [State.onLif, slotAfterCollision, Config.collisionLimit]

end Sys2Proof.Machine
end

section
/-! The STATUS a station composes and the frames it hands to its transmit queue (09_the_shield_line section 9.3). -/

namespace Sys2Proof.Machine

open Sys2Proof

/-! ## The active alarm set (R22) -/

/-- The number whose bits below `n` are those of `f`, as a sum of powers. -/
def bitSum (f : Nat → Bool) (n : Nat) : Nat :=
  ((List.range n).map fun i => if f i then 2 ^ i else 0).foldl (· + ·) 0

theorem bitSum_succ (f : Nat → Bool) (n : Nat) :
    bitSum f (n + 1) = bitSum f n + if f n then 2 ^ n else 0 := by
  simp [bitSum, List.range_succ]

theorem bitSum_lt (f : Nat → Bool) (n : Nat) : bitSum f n < 2 ^ n := by
  induction n with
  | zero => simp [bitSum]
  | succ n ih =>
    rw [bitSum_succ, Nat.pow_succ]
    split <;> omega

theorem testBit_bitSum (f : Nat → Bool) {n j : Nat} (below : j < n) : (bitSum f n).testBit j = f j := by
  induction n with
  | zero => omega
  | succ n ih =>
    rw [bitSum_succ, Nat.add_comm]
    have small : (bitSum f n).testBit n = false := Nat.testBit_lt_two_pow (bitSum_lt f n)
    rcases Nat.lt_succ_iff_lt_or_eq.1 below with lower | rfl
    · cases f n
      · simpa using ih lower
      · simpa [Nat.testBit_two_pow_add_gt lower] using ih lower
    · cases top : f j
      · simpa [top] using small
      · simp [Nat.testBit_two_pow_add_eq, small]

/-- R22: bit k is that of kind k. -/
theorem activeAlarms_bit (s : State) (k : AlarmKind) : (activeAlarms s).getLsbD k.number = inForce s k := by
  let f (i : Nat) : Bool := inForce s (AlarmKind.all.getD i .estop)
  have kind : AlarmKind.all.getD k.number .estop = k := by cases k <;> rfl
  have sum : activeAlarms s = BitVec.ofNat 32 (bitSum f 30) := rfl
  have below := number_lt k
  rw [sum, BitVec.getLsbD_ofNat, testBit_bitSum f below]
  simp only [f, kind]
  simp [show k.number < 32 by omega]

/-! ## The record (R20 to R25, R176) -/

/-- R2, R151: the flag of a clamped volume, and nothing else. -/
theorem saturated_flagged (b : Bool) (s : State) :
    setFlagIf b .saturated s =
      { s with
        alu := { s.alu with flags := { s.alu.flags with saturated := s.alu.flags.saturated || b } } } := by
  cases b <;> simp [setFlagIf, setFlag, flagUp, State.onAlu]

theorem isDiagnostic_iff (f : TxFrame) :
    isDiagnostic f = true ↔ ∃ q : StatusRecord, f.body = .status q ∧ q.diagnostic ≠ none := by
  unfold isDiagnostic
  split <;> simp_all [Option.isSome_iff_ne_none]

/-- R176: when a composition is a diagnostic STATUS. -/
theorem diagnosticDue_iff (s : State) :
    diagnosticDue s = true ↔ s.lif.diagCount = 0 ∨
      ∃ f ∈ s.lif.queue, ∃ q : StatusRecord, f.body = .status q ∧ q.diagnostic ≠ none := by
  simp [diagnosticDue, isDiagnostic_iff]

theorem volumesClamp_iff (s : State) :
    volumesClamp s = true ↔ 2147483647 < volumeOf s.gru.queue ∨ 2147483647 < s.gru.postedRing ∨
      2147483647 < s.gru.deliveredRing := by
  simp only [volumesClamp, Bool.or_eq_true, decide_eq_true_eq, or_assoc]
  rfl

theorem balanceValid_eq_true_iff (s : State) :
    balanceValid s = true ↔ s.bal.active = true ∧ s.bal.blind = false ∧ s.bal.conveyor ≠ .fault := by
  simp [balanceValid, and_assoc]

theorem composeStatus_conveyorPart_isSome (diagnostic : Bool) (s : State) :
    (composeStatus diagnostic s).conveyorPart.isSome = true ↔ s.ptb.exConveyor = true := by
  simp [composeStatus]

theorem composeStatus_conveyorPart {diagnostic : Bool} {s : State} {c : ConveyorPart}
    (part : (composeStatus diagnostic s).conveyorPart = some c) : conveyorPartOf diagnostic s = c :=
  Option.some.inj (Option.ite_none_right_eq_some.1 part).2

theorem composeStatus_erectorPart_isSome (diagnostic : Bool) (s : State) :
    (composeStatus diagnostic s).erectorPart.isSome = true ↔ s.ptb.exErector = true := by
  simp [composeStatus]

theorem composeStatus_erectorPart {diagnostic : Bool} {s : State} {e : ErectorPart}
    (part : (composeStatus diagnostic s).erectorPart = some e) : erectorPartOf s = e :=
  Option.some.inj (Option.ite_none_right_eq_some.1 part).2

theorem composeStatus_diagnostic_isSome (diagnostic : Bool) (s : State) :
    (composeStatus diagnostic s).diagnostic.isSome = true ↔ diagnostic = true := by
  simp [composeStatus]

theorem composeStatus_diagnostic {diagnostic : Bool} {s : State} {d : DiagnosticPart}
    (part : (composeStatus diagnostic s).diagnostic = some d) : diagnosticPartOf s = d :=
  Option.some.inj (Option.ite_none_right_eq_some.1 part).2

/-! ## The queue (R175) -/

theorem isStatus_iff (g : TxFrame) : g.body.isStatus = true ↔ ∃ r, g.body = .status r := by
  cases kind : g.body <;> simp [Body.isStatus]

/-- A STATUS takes the place of the one queued. -/
theorem replaceStatus_append {f g : TxFrame} {before after : List TxFrame}
    (first : ∀ x ∈ before, x.body.isStatus = false) (status : g.body.isStatus = true) :
    replaceStatus f (before ++ g :: after) = before ++ f :: after := by
  induction before with
  | nil => simp [replaceStatus, status]
  | cons x before ih =>
    have other := first x (by simp)
    simp only [List.cons_append, replaceStatus, other, Bool.false_eq_true, if_false]
    rw [ih fun y queued => first y (by simp [queued])]

/-- A frame enters a queue in class order at the end of its class. -/
theorem insertFrame_eq (f : TxFrame) {q : List TxFrame} (sorted : q.Pairwise fun f g => f.rank ≤ g.rank) :
    insertFrame f q =
      q.filter (fun g => decide (g.rank ≤ f.rank)) ++ [f] ++ q.filter (fun g => decide (f.rank < g.rank)) := by
  induction q with
  | nil => rfl
  | cons g q ih =>
    obtain ⟨least, sorted⟩ := List.pairwise_cons.1 sorted
    unfold insertFrame
    by_cases lower : f.rank < g.rank
    · have none_before : (g :: q).filter (fun x => decide (x.rank ≤ f.rank)) = [] := by
        rw [List.filter_eq_nil_iff]
        intro x queued
        rcases List.mem_cons.1 queued with rfl | queued
        · simpa using lower
        · have := least x queued
          simp only [decide_eq_true_eq]
          omega
      have all_after : (g :: q).filter (fun x => decide (f.rank < x.rank)) = g :: q := by
        rw [List.filter_eq_self]
        intro x queued
        rcases List.mem_cons.1 queued with rfl | queued
        · simpa using lower
        · have := least x queued
          simp only [decide_eq_true_eq]
          omega
      rw [if_pos lower, none_before, all_after]
      rfl
    · rw [if_neg lower, ih sorted, List.filter_cons_of_pos (by simpa using lower),
        List.filter_cons_of_neg (by simpa using lower)]
      rfl

/-- The last frame of a queue in class order is of the lowest class queued. -/
theorem rank_le_last {q : List TxFrame} (sorted : q.Pairwise fun f g => f.rank ≤ g.rank) {g last : TxFrame}
    (queued : g ∈ q) (final : q.getLast? = some last) : g.rank ≤ last.rank := by
  have : Std.Refl fun f g : TxFrame => f.rank ≤ g.rank := ⟨fun _ => le_refl _⟩
  obtain ⟨nonempty, rfl⟩ := List.mem_getLast?_eq_getLast (Option.mem_def.2 final)
  exact sorted.rel_getLast queued

theorem lowerQueued_iff (f : TxFrame) (q : List TxFrame) : lowerQueued f q = true ↔ ∃ g ∈ q, f.rank < g.rank := by
  simp [lowerQueued]

/-- In a queue with at most one STATUS none stands before a queued one. -/
theorem no_status_before {g : TxFrame} {before after : List TxFrame}
    (single : ((before ++ g :: after).filter fun f => f.body.isStatus).length ≤ 1)
    (status : g.body.isStatus = true) : ∀ x ∈ before, x.body.isStatus = false := by
  intro x queued
  by_contra statusBefore
  have counted : 0 < (before.filter fun f => f.body.isStatus).length :=
    List.length_pos_of_mem (List.mem_filter.2 ⟨queued, by simpa using statusBefore⟩)
  rw [List.filter_append, List.filter_cons_of_pos (by exact status), List.length_append, List.length_cons] at single
  omega

/-- R175: the three ways a frame meets the queue. -/
theorem handFrame_replaces {f : TxFrame} {s : State} (status : f.body.isStatus = true)
    (queued : ∃ g ∈ s.lif.queue, g.body.isStatus = true) :
    handFrame f s = s.onLif fun l => { l with queue := replaceStatus f l.queue } := by
  rw [handFrame, if_pos (by simpa [status] using queued)]

theorem handFrame_enters {f : TxFrame} {s : State}
    (single : ¬(f.body.isStatus = true ∧ ∃ g ∈ s.lif.queue, g.body.isStatus = true))
    (room : s.lif.queue.length < 8) :
    handFrame f s = s.onLif fun l => { l with queue := insertFrame f l.queue } := by
  rw [handFrame, if_neg (by simpa using single), if_pos (by exact room)]

theorem handFrame_full {f : TxFrame} {s : State}
    (single : ¬(f.body.isStatus = true ∧ ∃ g ∈ s.lif.queue, g.body.isStatus = true))
    (full : 8 ≤ s.lif.queue.length) :
    handFrame f s =
      countQueueDrop (if lowerQueued f s.lif.queue = true then
        s.onLif fun l => { l with queue := insertFrame f l.queue.dropLast } else s) := by
  rw [handFrame, if_neg (by simpa using single), if_neg (by simpa [Config.queueSize] using full)]
  split <;> rfl

/-- What a frame handed to the queue makes of it does not depend on the status timer. -/
theorem handFrame_timer (f : TxFrame) (s : State) (timer : Option Time) :
    handFrame f { s with lif := { s.lif with timer := timer } } =
      { handFrame f s with lif := { (handFrame f s).lif with timer := timer } } := by
  simp only [handFrame, countQueueDrop_eq, State.onLif]
  split_ifs <;> rfl

/-- R175: how any frame handed to LIF enters the queue. -/
theorem handFrame_queued (s : State) (f : TxFrame) (sound : FramesQueued s) :
    let t := handFrame f s
    let q := s.lif.queue
    let entered (q : List TxFrame) :=
      q.filter (fun g => decide (g.rank ≤ f.rank)) ++ [f] ++ q.filter (fun g => decide (f.rank < g.rank))
    let drops := t.lif.queueDrops = (if s.lif.queueDrops < 65535 then s.lif.queueDrops + 1 else 0) ∧
      t.alu.flags.counterWrap = (s.alu.flags.counterWrap || decide (65535 ≤ s.lif.queueDrops))
    let noDrop := t.lif.queueDrops = s.lif.queueDrops ∧ t.alu = s.alu
    (∀ before g after, q = before ++ g :: after → f.body.isStatus = true → g.body.isStatus = true →
      t.lif.queue = before ++ f :: after ∧ noDrop) ∧
    (¬(f.body.isStatus = true ∧ ∃ g ∈ q, g.body.isStatus = true) →
      (q.length < 8 → t.lif.queue = entered q ∧ noDrop) ∧
      (8 ≤ q.length → (∃ g ∈ q, f.rank < g.rank) →
        t.lif.queue = entered q.dropLast ∧ (∀ g ∈ q, ∀ last, q.getLast? = some last →
          g.rank ≤ last.rank) ∧ drops) ∧
      (8 ≤ q.length → (∀ g ∈ q, g.rank ≤ f.rank) → t.lif.queue = q ∧ drops)) := by
  obtain ⟨-, sorted, single⟩ := sound
  intro t q entered drops noDrop
  refine ⟨fun before g after split isStatus status => ?_, fun alone => ⟨fun room => ?_, fun full lower => ?_,
    fun full highest => ?_⟩⟩
  · have replaced : t = s.onLif fun l => { l with queue := replaceStatus f l.queue } :=
      handFrame_replaces isStatus ⟨g, by simp [show s.lif.queue = _ from split], status⟩
    have first := no_status_before (split ▸ (show (q.filter _).length ≤ 1 from single)) status
    rw [show t.lif.queue = replaceStatus f q by rw [replaced]; rfl, split, replaceStatus_append first status]
    exact ⟨rfl, by simp only [noDrop, replaced]; exact ⟨rfl, rfl⟩⟩
  · have entering : t = s.onLif fun l => { l with queue := insertFrame f l.queue } := handFrame_enters alone room
    rw [show t.lif.queue = insertFrame f q by rw [entering]; rfl, insertFrame_eq f sorted]
    exact ⟨rfl, by simp only [noDrop, entering]; exact ⟨rfl, rfl⟩⟩
  · have evicting := handFrame_full alone full
    rw [if_pos ((lowerQueued_iff _ _).2 lower), countQueueDrop_eq] at evicting
    have evicted : t = _ := evicting
    refine ⟨?_, fun g queued last final => rank_le_last sorted queued final, ?_⟩
    · rw [show t.lif.queue = insertFrame f q.dropLast by rw [evicted]; rfl,
        insertFrame_eq f (sorted.sublist q.dropLast_sublist)]
    · simp only [drops, evicted]
      exact ⟨rfl, rfl⟩
  · have dropping := handFrame_full alone full
    have highest : ¬lowerQueued f s.lif.queue = true := by
      rw [lowerQueued_iff]
      rintro ⟨g, queued, lower⟩
      exact absurd (highest g queued) (by omega)
    rw [if_neg highest, countQueueDrop_eq] at dropping
    have dropped : t = _ := dropping
    refine ⟨by rw [dropped], ?_, ?_⟩ <;> rw [dropped]

/-- A frame handed to the queue touches LIF's queue and drops and ALU's flags alone. -/
theorem handFrame_rest (f : TxFrame) (s : State) :
    (handFrame f s).lif.slot = s.lif.slot ∧ (handFrame f s).alu.entries = s.alu.entries ∧
      { handFrame f s with lif := s.lif, alu := s.alu } = s := by
  refine ⟨by simp, by simp, ?_⟩
  simp only [handFrame, countQueueDrop_eq, State.onLif]
  split_ifs <;> rfl

/-! ## The status timer (R176) -/

/-- Settles O50: the record composed, and the queue it goes to. -/
theorem statusTimerHandsTheStatus : Obligations.StatusTimerHandsTheStatus := by
  refine ⟨fun s start timer due => ?_, fun s f sound => ?_⟩
  · intro volume diagnostic clamps flagged
    have clamped : volumesClamp s = decide clamps := by
      rw [Bool.eq_iff_iff, decide_eq_true_iff]
      exact volumesClamp_iff s
    have diagnosed : diagnosticDue s = true ↔ diagnostic := diagnosticDue_iff s
    let r := composeStatus (diagnosticDue s) flagged
    let handed := handFrame { dest := 15, body := .status r } flagged
    let u : State :=
      { handed with
        lif := { handed.lif with timer := some (start + 1), diagCount := diagNext s.lif.diagCount } }
    let timed : State := { s with lif := { s.lif with timer := some (start + 1) } }
    have sent : sendStatus timed = u := by
      have flags : setFlagIf (volumesClamp timed) .saturated timed =
          { flagged with lif := { flagged.lif with timer := some (start + 1) } } := by
        rw [saturated_flagged, show volumesClamp timed = _ from clamped]
      have kept : handed.lif.diagCount = s.lif.diagCount := by simp [handed, flagged]
      have frame : handFrame { dest := 15, body := .status r }
            { flagged with lif := { flagged.lif with timer := some (start + 1) } } =
          { handed with lif := { handed.lif with timer := some (start + 1) } } := handFrame_timer _ _ _
      have composed : sendStatus timed =
          (handFrame { dest := 15, body := .status r }
            { flagged with lif := { flagged.lif with timer := some (start + 1) } }).onLif
            fun l => { l with diagCount := diagNext l.diagCount } := by
        rw [sendStatus, flags]
        rfl
      rw [composed, frame]
      simp [State.onLif, u, kept]
    have runs : exec .statusTimerExpiry s = .next (settle u) := by
      change execStatusTimerExpiry s = _
      rw [execStatusTimerExpiry, timer, onExpiry_due (span := Config.statusPeriod) due, ← sent]
      rfl
    obtain ⟨slot, entries, rest⟩ := handFrame_rest { dest := 15, body := .status r } flagged
    refine ⟨volumesClamp_iff s, u, r, runs, ?_, rfl, ?_, rfl, rfl, rfl, rfl, rfl, rfl, rfl, rfl, rfl, rfl, rfl,
      rfl, rfl, rfl, rfl, rfl, rfl, rfl, rfl, rfl, rfl, rfl, rfl, rfl, rfl, rfl, activeAlarms_bit s, rfl, ?_⟩
    · have kept : handed.lif.diagCount = s.lif.diagCount := by simp [handed, flagged]
      have running : handed.lif.timer = s.lif.timer := by simp [handed, flagged]
      change { handed with
        lif := { handed.lif with diagCount := s.lif.diagCount, timer := s.lif.timer } } = handed
      rw [← kept, ← running]
    · change diagNext s.lif.diagCount = _
      simp only [diagNext, Config.diagnosticEvery]
      congr 1
      exact propext (by omega)
    · refine ⟨composeStatus_conveyorPart_isSome _ _, fun c part => ?_, composeStatus_erectorPart_isSome _ _,
        fun e part => ?_, ?_, fun d part => ?_, slot, by simp [u, handed, flagged], ?_⟩
      · obtain rfl := composeStatus_conveyorPart part
        refine ⟨rfl, rfl, balanceValid_eq_true_iff _, rfl, rfl, rfl, ?_, ?_⟩
        · rw [← diagnosed]
          simp [conveyorPartOf]
        · intro v account
          simp only [conveyorPartOf] at account
          split at account
          · cases account
          · exact (Option.some.inj account).symm
      · obtain rfl := composeStatus_erectorPart part
        exact ⟨rfl, rfl, rfl, rfl, rfl, rfl⟩
      · rw [← diagnosed]
        exact composeStatus_diagnostic_isSome _ _
      · obtain rfl := composeStatus_diagnostic part
        exact ⟨rfl, rfl, rfl, rfl, rfl⟩
      · exact congrArg (fun v : State => { v with alu := s.alu }) rest
  · have queued := handFrame_queued s f sound
    simp only [← isStatus_iff]
    exact ⟨queued.1, queued.2, handFrame_rest f s⟩

end Sys2Proof.Machine
end

section
/-! The warm restart (10_orders_from_the_console section 10.4, 11_configuration_and_start section 11.5). -/

namespace Sys2Proof.Machine

open Sys2Proof

/-! ## LISTEN begun on a station at rest -/

/-- A duty evaluation leaves a group that holds and a build that rests. -/
theorem evalDuties_rests {s : State} (group : s.thu.group = .moving .holding) (state : s.bsq.state = .idle)
    (request : s.bsq.request = none) (nCmd : s.bal.nCmd = 0) :
    (evalDuties s).thu = s.thu ∧ (evalDuties s).bsq.state = .idle ∧ (evalDuties s).bsq.request = none ∧
      (evalDuties s).bal.nCmd = 0 := by
  obtain ⟨-, -, -, -, -, -, -, -, sameBuild, newBuild, sameBalance, -, gained, lost, -, stays, -⟩ :=
    dutyEvaluationFollowsItsTable s
  obtain ⟨thu, -⟩ := stays (.inr (by simp [group]))
  refine ⟨thu, ?_, ?_, ?_⟩
  · by_cases same : (evalDuties s).ptb.exErector = s.ptb.exErector
    · rw [(sameBuild same).1, state]
    · exact (newBuild same).1
  · by_cases same : (evalDuties s).ptb.exErector = s.ptb.exErector
    · rw [(sameBuild same).1, request]
    · exact (newBuild same).2.1
  · by_cases same : (evalDuties s).ptb.exConveyor = s.ptb.exConveyor
    · rw [(sameBalance same).1, nCmd]
    · cases now : (evalDuties s).ptb.exConveyor with
      | true => rw [gained now (by simpa [now] using same)]
      | false => rw [lost now (by simpa [now] using same)]

theorem startListen_rests (warm : Bool) {s : State} (group : s.thu.group = .moving .holding)
    (state : s.bsq.state = .idle) (request : s.bsq.request = none) (nCmd : s.bal.nCmd = 0) :
    (startListen warm s).thu = s.thu ∧ (startListen warm s).bsq.state = .idle ∧
      (startListen warm s).bsq.request = none ∧ (startListen warm s).bal.nCmd = 0 := by
  let listening : State := (plainPhase .listen s).onCfg fun c =>
    { c with
      warm := warm, listenTimer := some s.elapsed, joinTimer := some s.elapsed, joinCount := 1 }
  have thu : (startListen warm s).thu = (evalDuties listening).thu := by simp [startListen, listening]
  have bsq : (startListen warm s).bsq = (evalDuties listening).bsq := by simp [startListen, listening]
  have bal : (startListen warm s).bal = (evalDuties listening).bal := by simp [startListen, listening]
  rw [thu, bsq, bal]
  exact evalDuties_rests (s := listening) group state request nCmd

theorem startListen_listens (warm : Bool) (s : State) :
    (startListen warm s).phase = .listen ∧ (startListen warm s).pauseCause = .none ∧
      (startListen warm s).cfg =
        { s.cfg with
          warm := warm, listenTimer := some s.elapsed, joinTimer := some s.elapsed, joinCount := 1 } := by
  simp [startListen, handJoin, plainPhase]

/-! ## The restart block by block (R197) -/

/-- Every block restarted and the forcing judged afresh, before LISTEN begins. -/
def blocksRestarted (s : State) : State :=
  let quiet := lineRestart (s.onOru fun _ => OruState.cold)
  let blocks := alarmsRestart
    (balanceRestart (buildRestart (thrustRestart (driveRestart (peersRestart quiet)))))
  forcingSync ((plainPhase .listen blocks).onCfg fun c => { c with listenTimer := none })

theorem warmRestart_eq (s : State) : warmRestart s = startListen true (blocksRestarted s) := rfl

theorem blocksRestarted_thu (s : State) :
    (blocksRestarted s).thu =
      { ThuState.cold s.cfg.image.pHold with
        counter := s.thu.counter, strokeEnd := s.thu.strokeEnd, quality := s.thu.quality, stroke := s.thu.stroke
        rate := s.thu.rate, history := s.thu.history, strokeFault := s.thu.strokeFault, denied := s.thu.denied
        skew := s.thu.skew, orphaned := s.thu.orphaned } := by
  simp [blocksRestarted, thrustRestart, plainPhase]

theorem blocksRestarted_bsq (s : State) :
    (blocksRestarted s).bsq.state = .idle ∧ (blocksRestarted s).bsq.request = none := by
  simp [blocksRestarted, buildRestart, BsqState.cold, plainPhase]

theorem blocksRestarted_bal (s : State) :
    (blocksRestarted s).bal.nCmd = 0 ∧ (blocksRestarted s).bal.account = 0 ∧ (blocksRestarted s).bal.remE = 0 ∧
      (blocksRestarted s).bal.remX = 0 ∧ (blocksRestarted s).bal.restarted = true ∧
      (blocksRestarted s).bal.manual = false ∧ (blocksRestarted s).bal.gateOpen = false := by
  simp [blocksRestarted, balanceRestart, BalState.cold, plainPhase, setConveyor_bal]

theorem blocksRestarted_lif (s : State) :
    (blocksRestarted s).lif =
      { LifState.cold with
        seq := s.lif.seq, idle := s.lif.idle, slot := slotAtRestart s, abandoned := s.lif.abandoned } := by
  simp [blocksRestarted, lineRestart, plainPhase, slotAtRestart, sendingSlot]

theorem blocksRestarted_rest (s : State) :
    (blocksRestarted s).oru = OruState.cold ∧
      (blocksRestarted s).dsu = { DsuState.cold with overtorque := s.dsu.overtorque, jam := s.dsu.jam } ∧
      (blocksRestarted s).ptb.peers = freshPeers s.own ∧ (blocksRestarted s).ptb.console = {} ∧
      (blocksRestarted s).ptb.endOfListen = false ∧ (blocksRestarted s).alu.entries = freshEntries ∧
      (blocksRestarted s).alu.duplicate = none ∧
      (blocksRestarted s).cfg = { s.cfg with listenTimer := none } := by
  simp [blocksRestarted, plainPhase, driveRestart, peersRestart, alarmsRestart, AluState.cold, State.own]

theorem peerOf_freshPeers {own j : Nat} (inside : j < 8) :
    (freshPeers own).getD j {} = if j = own then { liveness := .self } else ({} : PeerEntry) := by
  by_cases same : j = own
  · subst same
    rw [if_pos rfl, freshPeers, (getD_putAt _ _ _ _).1 (by simpa using inside)]
  · rw [if_neg same, freshPeers, (getD_putAt _ _ _ _).2 j same,
      List.getD_eq_getElem _ _ (by simpa using inside), List.getElem_replicate]

/-- R173: a station that receives has no frame going out to let end. -/
theorem slotAtRestart_of_receives {s : State} (hearing : receives s = true) : slotAtRestart s = none := by
  have silent : sendingSlot s = none := by
    simp only [receives, Bool.and_eq_true, Option.isNone_iff_eq_none] at hearing
    exact hearing.1.2
  rw [slotAtRestart, silent, Option.map_none]

/-- RESTART_STATION taken in IDLE or HALTED restarts the station. -/
theorem exec_restartStation {s : State} {chars : Chars} {tag : Tag} (order : ordered s chars tag 22 [])
    (rests : s.phase = .idle ∨ s.phase = .halted) :
    exec (.restartStation chars) s = .next (warmRestart (echoed tag 22 .accepted (atOrder s))) := by
  obtain ⟨⟨h, ⟨hearing, valid, other⟩, takes⟩, known, listen, duty, coded⟩ := order
  have taken : restartTaken (atOrder s) = true := by
    rcases rests with rests | rests <;> simp [restartTaken, rests]
  have judged : judgeOrder 22 [] ruleRestart (atOrder s) = (.accepted, atOrder s) := by
    have awake : (atOrder s).phase ≠ .listen := listen
    have fits : dutyRefuses 22 (atOrder s) = false := duty
    rw [judgeOrder, known, if_neg (by simp), if_neg awake, fits, if_neg (by simp), coded, if_neg (by simp)]
    simp [ruleRestart, taken]
  have restarts : restartHeard h (.order tag 22 []) (lineUsed s) =
      some (warmRestart (echoed tag 22 .accepted (atOrder s))) := by
    have takesHere : Sys2Proof.Machine.takes h.dest tag 22 (atOrder s) = true := takes
    change some (handleRestart h.dest tag [] (atOrder s)) = _
    simp [handleRestart, takesHere, judged, handleOrder, writeEcho, echoed, State.onOru]
  change hearClosed chars restartHeard s = _
  simp [hearClosed, hearing, valid, other, restarts]

/-! ## What the restart leaves (R197) -/

theorem warmRestart_listens (s : State) :
    (warmRestart s).phase = .listen ∧ (warmRestart s).pauseCause = .none ∧
      (warmRestart s).cfg =
        { s.cfg with
          warm := true, listenTimer := some s.elapsed, joinTimer := some s.elapsed, joinCount := 1 } := by
  obtain ⟨phase, cause, cfg⟩ := startListen_listens true (blocksRestarted s)
  have elapsed : (blocksRestarted s).elapsed = s.elapsed := by simp [blocksRestarted, plainPhase]
  have kept : (blocksRestarted s).cfg = { s.cfg with listenTimer := none } := (blocksRestarted_rest s).2.2.2.2.2.2.2
  refine ⟨phase, cause, cfg.trans ?_⟩
  rw [kept, elapsed]

theorem warmRestart_rest (s : State) :
    (warmRestart s).oru = OruState.cold ∧
      (warmRestart s).dsu = { DsuState.cold with overtorque := s.dsu.overtorque, jam := s.dsu.jam } ∧
      (warmRestart s).ptb.peers = freshPeers s.own ∧ (warmRestart s).ptb.console = {} ∧
      (warmRestart s).ptb.endOfListen = false ∧ (warmRestart s).alu.entries = freshEntries ∧
      (warmRestart s).alu.duplicate = none := by
  obtain ⟨oru, dsu, peers, console, endOfListen, entries, duplicate, -⟩ := blocksRestarted_rest s
  simp only [warmRestart_eq, startListen_frame, startListen_fields]
  exact ⟨oru, dsu, peers, console, endOfListen, entries, duplicate⟩

theorem warmRestart_resting (s : State) :
    (warmRestart s).thu = (blocksRestarted s).thu ∧ (warmRestart s).bsq.state = .idle ∧
      (warmRestart s).bsq.request = none ∧ (warmRestart s).bal.nCmd = 0 := by
  obtain ⟨state, request⟩ := blocksRestarted_bsq s
  have group : (blocksRestarted s).thu.group = .moving .holding := by
    rw [blocksRestarted_thu, ThuState.cold]
  have nCmd := (blocksRestarted_bal s).1
  rw [warmRestart_eq]
  generalize blocksRestarted s = b at *
  exact startListen_rests true group state request nCmd

theorem warmRestart_bal (s : State) :
    (warmRestart s).bal.account = 0 ∧ (warmRestart s).bal.remE = 0 ∧ (warmRestart s).bal.remX = 0 ∧
      (warmRestart s).bal.restarted = true ∧ (warmRestart s).bal.manual = false ∧
      (warmRestart s).bal.gateOpen = false := by
  simp only [warmRestart_eq, startListen_fields]
  exact (blocksRestarted_bal s).2

theorem warmRestart_gru (s : State) :
    (warmRestart s).gru =
      { s.gru with
        flushTimer := (warmRestart s).gru.flushTimer, flushRun := (warmRestart s).gru.flushRun } := by
  have kept := warmRestart_fields s
  generalize (warmRestart s) = t at kept ⊢
  cases gru : s.gru
  cases after : t.gru
  simp_all only

/-- The line after the restart of a station that is not sending: its first JOIN alone is queued. -/
theorem warmRestart_lif {s : State} (silent : slotAtRestart s = none) :
    (warmRestart s).lif =
      { LifState.cold with
        seq := s.lif.seq, idle := s.lif.idle, abandoned := s.lif.abandoned
        queue :=
          [{ dest := 15
             body := .join
               { station := s.own
                 claims := { erector := s.cfg.straps.erector, conveyor := s.cfg.straps.conveyor }
                 warm := true, fault := false, digest := s.cfg.digest
                 fitted := fittedBits s.fpt.fitted, ring := s.ring } }] } := by
  have lif := blocksRestarted_lif s
  rw [silent] at lif
  have cfg : (blocksRestarted s).cfg = { s.cfg with listenTimer := none } := (blocksRestarted_rest s).2.2.2.2.2.2.2
  have fitted : (blocksRestarted s).fpt.fitted = s.fpt.fitted := by simp [blocksRestarted]
  have ring : (blocksRestarted s).ring = s.ring := by simp [blocksRestarted, plainPhase]
  rw [warmRestart_eq, startListen_lif, State.own, cfg, fitted, ring]
  generalize blocksRestarted s = b at lif
  rw [handFrame_enters (by simp [Body.isStatus]) (by simp [lif, LifState.cold])]
  simp [State.onLif, lif, LifState.cold, insertFrame, State.own]

/-- Settles O55: RESTART_STATION refused outside IDLE and HALTED, and what its restart keeps and clears. -/
theorem restartBeginsAWarmListen : Obligations.RestartBeginsAWarmListen := by
  intro s chars tag order
  refine ⟨fun idle halted => ?_, fun rests => ⟨_, exec_restartStation order rests, ?_⟩⟩
  · obtain ⟨⟨h, heard, takes⟩, known, listen, duty, coded⟩ := order
    have refused : judgeOrder 22 [] ruleRestart (atOrder s) = (.refusedState, atOrder s) := by
      have awake : (atOrder s).phase ≠ .listen := listen
      have fits : dutyRefuses 22 (atOrder s) = false := duty
      have stays : restartTaken (atOrder s) = false := by simp [restartTaken, idle, halted]
      rw [judgeOrder, known, if_neg (by simp), if_neg awake, fits, if_neg (by simp), coded, if_neg (by simp)]
      simp [ruleRestart, stays]
    have takesHere : Sys2Proof.Machine.takes h.dest tag 22 (atOrder s) = true := takes
    rw [exec_restartStation_stays heard (by simp [refused]), handleOrder, if_pos takesHere, refused]
    rfl
  · have hearing : receives s = true := by
      obtain ⟨⟨h, ⟨hearing, -⟩, -⟩, -⟩ := order
      exact hearing
    have silent : slotAtRestart (echoed tag 22 .accepted (atOrder s)) = none := by
      have quiet : slotAtRestart s = none := slotAtRestart_of_receives hearing
      simpa [slotAtRestart, sendingSlot, echoed, atOrder] using quiet
    have line := warmRestart_lif silent
    have kept := warmRestart_fields (echoed tag 22 .accepted (atOrder s))
    have frame := warmRestart_frame (echoed tag 22 .accepted (atOrder s))
    obtain ⟨phase, cause, cfg⟩ := warmRestart_listens (echoed tag 22 .accepted (atOrder s))
    obtain ⟨oru, dsu, peers, console, endOfListen, entries, duplicate⟩ :=
      warmRestart_rest (echoed tag 22 .accepted (atOrder s))
    obtain ⟨thu, state, request, nCmd⟩ := warmRestart_resting (echoed tag 22 .accepted (atOrder s))
    obtain ⟨account, remE, remX, restarted, manual, gate⟩ := warmRestart_bal (echoed tag 22 .accepted (atOrder s))
    have gru := warmRestart_gru (echoed tag 22 .accepted (atOrder s))
    rw [blocksRestarted_thu] at thu
    generalize warmRestart (echoed tag 22 .accepted (atOrder s)) = t at *
    obtain ⟨pending, elapsed, ring⟩ := frame
    have entry (j : Nat) (inside : j < 8) : peerOf t j = if j = s.own then { liveness := .self } else {} := by
      rw [peerOf, peers]
      exact peerOf_freshPeers inside
    have build : t.bsq.cursor = s.bsq.cursor ∧ t.bsq.progress = s.bsq.progress ∧
        t.bsq.cursorRing = s.bsq.cursorRing ∧ t.bsq.nextTag = s.bsq.nextTag ∧ t.bsq.placed = s.bsq.placed ∧
        t.bsq.buildStart = s.bsq.buildStart ∧ t.bsq.substituted = s.bsq.substituted := by
      simp [kept, echoed]
    have rest : t.bal.eRing = s.bal.eRing ∧ t.bal.xRing = s.bal.xRing ∧ t.alu.estop = s.alu.estop ∧
        t.fpt.inputs = s.fpt.inputs ∧ t.fpt.fitted = s.fpt.fitted ∧ t.fpt.estopIn = s.fpt.estopIn := by
      simp [kept, echoed]
    obtain ⟨cursor, progress, cursorRing, nextTag, placed, buildStart, substituted⟩ := build
    obtain ⟨eRing, xRing, estop, inputs, fitted, estopIn⟩ := rest
    rw [line, thu]
    exact ⟨phase, cause, ring, elapsed, pending, cfg, oru, entry, console, endOfListen, dsu, rfl, rfl, rfl, rfl,
      rfl, rfl, rfl, rfl, rfl, state, request, cursor, progress, cursorRing, nextTag, placed, buildStart,
      substituted, gru, account, remE, remX, restarted, eRing, xRing, manual, gate, nCmd, entries, estop,
      duplicate, inputs, fitted, estopIn, rfl, rfl, rfl, rfl, rfl, rfl, rfl, rfl⟩

end Sys2Proof.Machine
end

section
/-! The sticky flags while an event settles (R151): settling sets flags and clears none. -/

namespace Sys2Proof.Machine

open Sys2Proof

/-- One flag of a set. -/
def flagIn (f : Flag) (fs : FlagSet) : Bool :=
  match f with
  | .saturated => fs.saturated | .clamped => fs.clamped | .fifoMergedFull => fs.fifoMergedFull
  | .counterWrap => fs.counterWrap | .ringResync => fs.ringResync

/-- From `s` to `u` no sticky flag is cleared. -/
def FlagsGrow (s u : State) : Prop := ∀ f, flagIn f s.alu.flags = true → flagIn f u.alu.flags = true

theorem FlagsGrow.of_eq {s u : State} (same : u.alu = s.alu) : FlagsGrow s u := by
  unfold FlagsGrow
  rw [same]
  exact fun _ => id

theorem FlagsGrow.trans {s u v : State} (h : FlagsGrow s u) (k : FlagsGrow u v) : FlagsGrow s v :=
  fun f set => k f (h f set)

/-- What is done before without touching ALU makes no difference. -/
theorem FlagsGrow.after {s u v : State} (h : FlagsGrow u v) (same : u.alu = s.alu) : FlagsGrow s v := by
  unfold FlagsGrow at *
  rwa [← same]

/-- What is done afterwards without touching ALU makes no difference. -/
theorem FlagsGrow.before {s u v : State} (h : FlagsGrow s u) (same : v.alu = u.alu) : FlagsGrow s v :=
  h.trans (.of_eq same)

/-- R152: the escalation stays true as the flags grow. -/
theorem FlagsGrow.escalates {s u : State} (h : FlagsGrow s u) {e : FlagSet}
    (raised : escalated e s.alu.flags = true) : escalated e u.alu.flags = true := by
  have saturated := h .saturated
  have clamped := h .clamped
  have merged := h .fifoMergedFull
  have wrapped := h .counterWrap
  have resync := h .ringResync
  simp only [flagIn] at saturated clamped merged wrapped resync
  simp only [escalated, Bool.or_eq_true, Bool.and_eq_true] at raised ⊢
  tauto

theorem flagsGrow_setFlagIf (b : Bool) (f : Flag) {s u : State} (same : u.alu = s.alu) :
    FlagsGrow s (setFlagIf b f u) := by
  intro g set
  rw [setFlagIf_flags, same]
  cases b
  · exact set
  · cases f <;> cases g <;> simp_all [flagUp, flagIn]

/-! ## The pins -/

theorem flagsGrow_refreshMotor0 (s : State) : FlagsGrow s (refreshMotor0 s) := flagsGrow_setFlagIf _ _ (by simp)

theorem flagsGrow_refreshMotor1 (s : State) : FlagsGrow s (refreshMotor1 s) := flagsGrow_setFlagIf _ _ (by simp)

theorem flagsGrow_refreshValve (s : State) : FlagsGrow s (refreshValve s) := flagsGrow_setFlagIf _ _ (by simp)

theorem flagsGrow_refreshPump (s : State) : FlagsGrow s (refreshPump s) := flagsGrow_setFlagIf _ _ (by simp)

theorem flagsGrow_refreshScrew (s : State) : FlagsGrow s (refreshScrew s) := flagsGrow_setFlagIf _ _ (by simp)

theorem flagsGrow_refreshAll (s : State) : FlagsGrow s (refreshAll s) := by
  have motors : FlagsGrow s (refreshMotor1 (refreshMotor0 s)) :=
    (flagsGrow_refreshMotor0 s).trans (flagsGrow_refreshMotor1 _)
  have pump : FlagsGrow s (refreshPump (refreshValve (refreshMotor1 (refreshMotor0 s)))) :=
    motors.trans ((flagsGrow_refreshValve _).trans (flagsGrow_refreshPump _))
  unfold refreshAll
  generalize refreshPump (refreshValve (refreshMotor1 (refreshMotor0 s))) = u at *
  have screw : FlagsGrow u (refreshScrew (refreshFlush u)) := (flagsGrow_refreshScrew _).after (by rfl)
  generalize refreshScrew (refreshFlush u) = v at *
  exact pump.trans (screw.before rfl)

theorem flagsGrow_writeMotor0 (v : Int) (s : State) : FlagsGrow s (writeMotor0 v s) :=
  (flagsGrow_refreshMotor0 _).after (by rfl)

theorem flagsGrow_writeMotor1 (v : Int) (s : State) : FlagsGrow s (writeMotor1 v s) :=
  (flagsGrow_refreshMotor1 _).after (by rfl)

theorem flagsGrow_writeMotors (s : State) : FlagsGrow s (writeMotors s) :=
  (flagsGrow_setFlagIf _ .clamped rfl).trans ((flagsGrow_writeMotor0 _ _).trans (flagsGrow_writeMotor1 _ _))

theorem flagsGrow_zeroMotors (s : State) : FlagsGrow s (zeroMotors s) := by
  unfold zeroMotors
  split
  · exact (flagsGrow_writeMotor0 0 s).trans (flagsGrow_writeMotor1 0 _)
  · exact (flagsGrow_writeMotors _).after (by rfl)

theorem flagsGrow_setGroup (g : Group) (s : State) : FlagsGrow s (setGroup g s) :=
  (flagsGrow_refreshValve _).after (by rfl)

theorem flagsGrow_setConveyor (c : Conveyor) (s : State) : FlagsGrow s (setConveyor c s) := by
  have screw (v : Int) (u : State) : FlagsGrow u (writeScrew v u) := (flagsGrow_refreshScrew _).after (by rfl)
  have gate (b : Bool) (u : State) : (writeGate b u).alu = u.alu := rfl
  unfold setConveyor writeConveyor
  exact ((screw _ _).after (by rfl)).before (gate _ _)

/-! ## The blocks -/

theorem flagsGrow_handFrame (f : TxFrame) (s : State) : FlagsGrow s (handFrame f s) := by
  have counted (u : State) (same : u.alu = s.alu) : FlagsGrow s (countQueueDrop u) :=
    flagsGrow_setFlagIf _ _ same
  unfold handFrame
  split
  · exact .of_eq rfl
  · split
    · exact .of_eq rfl
    · split
      · exact counted _ rfl
      · exact counted _ rfl

theorem flagsGrow_driveStandstill (s : State) : FlagsGrow s (driveStandstill s) := by
  unfold driveStandstill
  split
  · exact .of_eq rfl
  · exact .of_eq rfl
  all_goals exact (flagsGrow_zeroMotors _).after (by rfl)

theorem flagsGrow_groupFreeze (s : State) : FlagsGrow s (groupFreeze s) := by
  unfold groupFreeze
  split
  · exact flagsGrow_setGroup _ s
  · exact .of_eq rfl

theorem flagsGrow_setStopHold (s : State) : FlagsGrow s (setStopHold s) := by
  have held (u : State) : FlagsGrow u (holdTest u) := by
    unfold holdTest
    split
    · exact flagsGrow_setConveyor _ u
    · split
      · exact flagsGrow_setConveyor _ u
      · exact .of_eq rfl
  unfold setStopHold
  split
  · exact (held _).after (by rfl)
  · exact .of_eq rfl

/-- A request of the own BSQ is answered by the group, and drives the valve at most. -/
theorem flagsGrow_issueLocal (kind : RequestKind) (s : State) : FlagsGrow s (issueLocal kind s).1 := by
  have taken (source : Nat) (kind : RequestKind) (tag : Tag) (a : Answer) (u : State) :
      FlagsGrow u (takeAnswer source kind tag a u) := by
    unfold takeAnswer
    dsimp only
    split
    · exact (flagsGrow_setGroup _ _).after (by rfl)
    · exact .of_eq rfl
  have answered (source : Nat) (ring : RingNumber) (tag : Tag) (u : State) :
      FlagsGrow u (answerRequest source kind ring tag u).1 := by
    unfold answerRequest
    split
    · exact .of_eq rfl
    · exact taken _ _ _ _ u
  have marked (a : Answer) (u : State) : (markAnswer a u).alu = u.alu := by
    cases a <;> simp [markAnswer, markAccepted, settleRefused]
  unfold issueLocal
  dsimp only
  exact ((answered s.own s.bsq.cursorRing s.bsq.nextTag _).after (by rfl)).before (marked _ _)

theorem flagsGrow_issueFrame (kind : RequestKind) (target : Nat) (s : State) :
    FlagsGrow s (issueFrame kind target s) := by
  unfold issueFrame
  exact ((flagsGrow_handFrame _ _).after (by rfl)).before rfl

theorem flagsGrow_sendBack (s : State) : FlagsGrow s (sendBack s) := by
  unfold sendBack
  split
  · exact .of_eq rfl
  · split
    · exact .of_eq rfl
    · split
      · exact flagsGrow_issueLocal _ s
      · exact flagsGrow_issueFrame _ _ s

theorem flagsGrow_suspend (s : State) : FlagsGrow s (suspend s) := by
  unfold suspend
  split
  · exact (flagsGrow_sendBack _).after (by rfl)
  · exact .of_eq rfl

theorem flagsGrow_stepAnswer (a : Answer) (s : State) : FlagsGrow s (stepAnswer a s) := by
  unfold stepAnswer
  split
  · exact .of_eq rfl
  all_goals
    split
    · exact flagsGrow_suspend s
    · exact .of_eq rfl

theorem flagsGrow_retractTest (s : State) : FlagsGrow s (retractTest s) := by
  unfold retractTest
  split
  · exact .of_eq rfl
  · split
    · exact flagsGrow_suspend s
    · split
      · exact .of_eq rfl
      · unfold issueRetract
        split
        · dsimp only
          exact ((flagsGrow_issueLocal _ _).after (by rfl)).trans (flagsGrow_stepAnswer _ _)
        · exact (flagsGrow_issueFrame _ _ _).after (by rfl)

theorem flagsGrow_enterHalted (s : State) : FlagsGrow s (enterHalted s) := by
  have still : FlagsGrow s (standingStill s) :=
    ((flagsGrow_driveStandstill _).after (by rfl)).trans (flagsGrow_groupFreeze _)
  rw [enterHalted_eq]
  exact still.trans ((flagsGrow_suspend _).trans (flagsGrow_setStopHold _))

theorem flagsGrow_gateTest (s : State) : FlagsGrow s (gateTest s) := by
  unfold gateTest
  split
  · unfold enterPaused groupStop
    split
    · exact (flagsGrow_setGroup _ _).after (by rfl)
    · exact .of_eq rfl
  · split
    · unfold enterAdvancing
      dsimp only
      split
      · exact .of_eq rfl
      · exact (flagsGrow_setGroup _ _).after (by rfl)
    · exact .of_eq rfl

theorem flagsGrow_moveEntry (k : AlarmKind) (e : AlarmEntry) (s : State) : FlagsGrow s (moveEntry k e s) := by
  have framed (f : TxFrame) : FlagsGrow s (handFrame f (setEntry k e s)) := by
    have entered : FlagsGrow s (setEntry k e s) := by
      unfold FlagsGrow
      simp
    exact entered.trans (flagsGrow_handFrame _ _)
  unfold moveEntry
  dsimp only
  split
  · split
    · exact (framed _).trans ((flagsGrow_zeroMotors _).after (by rfl))
    · exact framed _
  · split
    · exact framed _
    · unfold FlagsGrow
      simp

theorem flagsGrow_syncKind (k : AlarmKind) (s : State) : FlagsGrow s (syncKind k s) := by
  unfold syncKind
  split
  · exact .of_eq rfl
  · exact flagsGrow_moveEntry _ _ s

theorem flagsGrow_haltTest (s : State) : FlagsGrow s (haltTest s) := by
  unfold haltTest
  split
  · exact flagsGrow_enterHalted s
  · exact .of_eq rfl

theorem flagsGrow_forcingSync (s : State) : FlagsGrow s (forcingSync s) := by
  unfold forcingSync
  split
  · exact .of_eq rfl
  · exact (flagsGrow_refreshAll _).after (by simp)

end Sys2Proof.Machine
end

section
/-! The end of LISTEN (11_configuration_and_start section 11.4). An alarm of STOP class that comes into force while
an event settles stays in force, so the halt it brings and the phase agree at the end of the event. -/

namespace Sys2Proof.Machine

open Sys2Proof

/-! ## The phase while an event settles -/

theorem gate_rests {s : State} (advancing : s.phase ≠ .advancing) (paused : s.phase ≠ .paused) :
    (excavationTest (gateTest s)).phase = s.phase := by
  have gate : gateTest s = s := by rw [gateTest, if_neg (by simp [advancing]), if_neg (by simp [paused])]
  rw [gate, excavationTest, if_neg (by simp [advancing, paused])]

theorem settleOnce_phase_of_rest {s : State}
    (advancing : (haltTest (syncKinds AlarmKind.all (orphanTest s))).phase ≠ .advancing)
    (paused : (haltTest (syncKinds AlarmKind.all (orphanTest s))).phase ≠ .paused) :
    (settleOnce s).phase = (haltTest (syncKinds AlarmKind.all (orphanTest s))).phase := by
  unfold settleOnce
  generalize haltTest (syncKinds AlarmKind.all (orphanTest s)) = v at *
  have rests : (excavationTest (gateTest (enableSync (forcingSync v)))).phase = v.phase :=
    (gate_rests (by simpa using advancing) (by simpa using paused)).trans (by simp)
  simpa using rests

/-- R147: a running phase is halted where a stop is in force once the alarms are judged. -/
theorem settleOnce_halts {s : State} (runs : s.phase.halts = true)
    (stop : stopInForce (syncKinds AlarmKind.all (orphanTest s)) = true ∨ s.alu.estop = true) :
    (settleOnce s).phase = .halted := by
  have halted : (haltTest (syncKinds AlarmKind.all (orphanTest s))).phase = .halted := by
    rw [haltTest, if_pos (by simpa using ⟨runs, stop⟩), enterHalted_phase]
  rw [settleOnce_phase_of_rest (by simp [halted]) (by simp [halted]), halted]

theorem settleOnce_stays_idle {s : State} (idle : s.phase = .idle)
    (stop : stopInForce (syncKinds AlarmKind.all (orphanTest s)) = false) (estop : s.alu.estop = false) :
    (settleOnce s).phase = .idle := by
  have stays : (haltTest (syncKinds AlarmKind.all (orphanTest s))).phase = .idle := by
    rw [haltTest, if_neg (by simp [stop, estop])]
    simpa using idle
  rw [settleOnce_phase_of_rest (by simp [stays]) (by simp [stays]), stays]

theorem settleOnce_stays_halted {s : State} (halted : s.phase = .halted) : (settleOnce s).phase = .halted := by
  have stays : (haltTest (syncKinds AlarmKind.all (orphanTest s))).phase = .halted := by
    rw [haltTest, if_neg (by simp [halted, Phase.halts])]
    simpa using halted
  rw [settleOnce_phase_of_rest (by simp [stays]) (by simp [stays]), stays]

theorem settle_stays_halted {s : State} (halted : s.phase = .halted) : (settle s).phase = .halted :=
  settleOnce_stays_halted (settleOnce_stays_halted (settleOnce_stays_halted halted))

/-! ## What a STOP-class alarm stands on -/

/-- From `s` to `u` the conditions of the STOP-class alarms are not withdrawn. -/
structure StopsLast (s u : State) : Prop where
  image : u.cfg.image = s.cfg.image
  duplicate : u.alu.duplicate = s.alu.duplicate
  jam : u.dsu.jam = s.dsu.jam
  estop : u.alu.estop = s.alu.estop
  flags : FlagsGrow s u

theorem StopsLast.refl (s : State) : StopsLast s s := ⟨rfl, rfl, rfl, rfl, .of_eq rfl⟩

theorem StopsLast.trans {s u v : State} (h : StopsLast s u) (k : StopsLast u v) : StopsLast s v :=
  ⟨k.image.trans h.image, k.duplicate.trans h.duplicate, k.jam.trans h.jam, k.estop.trans h.estop,
    h.flags.trans k.flags⟩

/-- R144: the STOP-class alarms and what their conditions are. -/
theorem StopsLast.condition {s u : State} (h : StopsLast s u) {k : AlarmKind}
    (stop : alarmClass s.cfg.image k = .stop) (now : conditionNow s k = true) : conditionNow u k = true := by
  cases k <;> simp only [alarmClass, reduceCtorEq] at stop
  case duplicateStation => simpa [conditionNow, h.duplicate] using now
  case cutterheadJam => simpa [conditionNow, h.jam] using now
  case estop => simpa [conditionNow, h.estop] using now
  case arith =>
    simp only [conditionNow] at now ⊢
    rw [h.image]
    exact h.flags.escalates now

/-- The alarm is in force with its condition, seen by its entry and standing now. -/
def Stands (k : AlarmKind) (s : State) : Prop :=
  inForce s k = true ∧ (entryOf s k).cond = true ∧ conditionNow s k = true

/-- Every STOP-class alarm in force stands on its condition. -/
def StopsStand (s : State) : Prop :=
  ∀ k, alarmClass s.cfg.image k = .stop → inForce s k = true → Stands k s

theorem Stands.lasts {s u : State} {k : AlarmKind} (h : Stands k s) (stop : alarmClass s.cfg.image k = .stop)
    (last : StopsLast s u) (entries : u.alu.entries = s.alu.entries) : Stands k u := by
  obtain ⟨force, seen, now⟩ := h
  refine ⟨?_, ?_, last.condition stop now⟩
  · rwa [inForce, entryOf_congr entries]
  · rwa [entryOf_congr entries]

theorem StopsStand.lasts {s u : State} (h : StopsStand s) (last : StopsLast s u)
    (entries : u.alu.entries = s.alu.entries) : StopsStand u := by
  intro k stop force
  rw [last.image] at stop
  rw [inForce, entryOf_congr entries] at force
  exact (h k stop force).lasts stop last entries

/-! ## The alarms judged -/

theorem stopsLast_syncKind (k : AlarmKind) (s : State) : StopsLast s (syncKind k s) :=
  ⟨by simp, by simp, by simp, by simp, flagsGrow_syncKind k s⟩

/-- An entry judged is the one of its kind, where the table has one. -/
theorem entryOf_judged (k : AlarmKind) (e : AlarmEntry) (s : State) :
    (entryOf (moveEntry k e s) k = e ∨ entryOf (moveEntry k e s) k = entryOf s k) ∧
      ∀ j, j ≠ k → entryOf (moveEntry k e s) j = entryOf s j := by
  obtain ⟨same, others⟩ := getD_putAt s.alu.entries k.number e ({} : AlarmEntry)
  simp only [entryOf, moveEntry_entries]
  refine ⟨?_, fun j other => others j.number fun same => other (number_inj same)⟩
  by_cases inside : k.number < s.alu.entries.length
  · exact .inl (same inside)
  · right
    rw [putAt, List.set_eq_of_length_le (by omega)]

/-- R143: an entry newly in force has its condition. -/
theorem entryChanged_newly {p : Persistence} {now : Time} {cond : Bool} {e : AlarmEntry}
    (before : entryInForce e = false) (after : entryInForce (entryChanged p now cond e) = true) :
    cond = true ∧ (entryChanged p now cond e).cond = true := by
  cases cond with
  | false => cases state : e.state <;> simp_all [entryInForce, entryChanged]
  | true =>
    refine ⟨rfl, ?_⟩
    by_cases immediate : p.raise = 0 <;> cases state : e.state <;> simp [entryChanged, state, immediate]

theorem stands_syncKind {k : AlarmKind} (j : AlarmKind) {s : State} (h : Stands k s)
    (stop : alarmClass s.cfg.image k = .stop) : Stands k (syncKind j s) := by
  have now := (stopsLast_syncKind j s).condition stop h.2.2
  have entry : entryOf (syncKind j s) k = entryOf s k := by
    by_cases same : j = k
    · subst same
      rw [syncKind, if_pos (.inr (by rw [h.2.1, h.2.2]))]
    · unfold syncKind
      split
      · rfl
      · exact (entryOf_judged j _ s).2 k (Ne.symm same)
  obtain ⟨force, seen, -⟩ := h
  exact ⟨by rwa [inForce, entry], by rwa [entry], now⟩

theorem stopsStand_syncKind (j : AlarmKind) {s : State} (h : StopsStand s) : StopsStand (syncKind j s) := by
  intro k stop force
  have image := (stopsLast_syncKind j s).image
  rw [image] at stop
  cases before : inForce s k with
  | true => exact stands_syncKind j (h k stop before) stop
  | false =>
    have moved : entryOf (syncKind j s) k ≠ entryOf s k := by
      intro same
      rw [inForce, same, ← inForce, before] at force
      cases force
    have same : j = k := by
      by_contra other
      refine moved ?_
      unfold syncKind
      split
      · rfl
      · exact (entryOf_judged j _ s).2 k (Ne.symm other)
    subst same
    unfold syncKind at moved force ⊢
    split at moved
    · exact absurd rfl moved
    next judged =>
      rw [if_neg judged] at force ⊢
      have entry := (entryOf_judged j (entryChanged (persistenceOf s.cfg.image j) s.elapsed (conditionNow s j)
        (entryOf s j)) s).1.resolve_right moved
      rw [inForce, entry] at force
      obtain ⟨now, seen⟩ := entryChanged_newly before force
      refine ⟨by rwa [inForce, entry], by rwa [entry], ?_⟩
      have last := stopsLast_syncKind j s
      rw [syncKind, if_neg judged] at last
      exact last.condition stop now

theorem stopsStand_syncKinds (ks : List AlarmKind) {s : State} (h : StopsStand s) :
    StopsStand (syncKinds ks s) ∧ StopsLast s (syncKinds ks s) ∧
      ∀ k, alarmClass s.cfg.image k = .stop → Stands k s → Stands k (syncKinds ks s) := by
  induction ks generalizing s with
  | nil => exact ⟨h, .refl s, fun _ _ => id⟩
  | cons j rest ih =>
    have once := stopsLast_syncKind j s
    obtain ⟨stand, last, stays⟩ := ih (stopsStand_syncKind j h)
    refine ⟨stand, once.trans last, fun k stop stands => stays k ?_ (stands_syncKind j stands stop)⟩
    rwa [once.image]

/-! ## A pass -/

/-- What follows the judging of the alarms in a pass withdraws no condition. -/
theorem stopsLast_afterKinds (s : State) :
    StopsLast (syncKinds AlarmKind.all (orphanTest s)) (settleOnce s) ∧
      (settleOnce s).alu.entries = (syncKinds AlarmKind.all (orphanTest s)).alu.entries := by
  unfold settleOnce
  generalize syncKinds AlarmKind.all (orphanTest s) = w
  have halt := flagsGrow_haltTest w
  have forced := flagsGrow_forcingSync (haltTest w)
  have gate := flagsGrow_gateTest (enableSync (forcingSync (haltTest w)))
  refine ⟨⟨by simp, by simp, by simp, by simp, ?_⟩, by simp⟩
  refine halt.trans (forced.trans ((gate.after (by simp)).trans ?_))
  exact (flagsGrow_retractTest _).after (by simp)

theorem stopsStand_settleOnce {s : State} (h : StopsStand s) :
    StopsStand (settleOnce s) ∧
      (stopInForce (syncKinds AlarmKind.all (orphanTest s)) = true → stopInForce (settleOnce s) = true) := by
  have orphan : StopsLast s (orphanTest s) := ⟨by simp, by simp, by simp, by simp, .of_eq (by simp)⟩
  obtain ⟨stand, -, -⟩ := stopsStand_syncKinds AlarmKind.all (h.lasts orphan (by simp))
  obtain ⟨last, entries⟩ := stopsLast_afterKinds s
  exact ⟨stand.lasts last entries, fun stop => (stopInForce_congr last.image entries).trans stop⟩

/-- Once in force a STOP-class alarm stays so while its event settles. -/
theorem stopInForce_lasts {s : State} (h : StopsStand s) (stop : stopInForce s = true) :
    stopInForce (settleOnce s) = true := by
  refine (stopsStand_settleOnce h).2 ?_
  have orphan : StopsLast s (orphanTest s) := ⟨by simp, by simp, by simp, by simp, .of_eq (by simp)⟩
  obtain ⟨-, last, stays⟩ := stopsStand_syncKinds AlarmKind.all (h.lasts orphan (by simp))
  simp only [stopInForce, classInForce, List.any_eq_true, Bool.and_eq_true, decide_eq_true_eq] at stop ⊢
  obtain ⟨k, kind, force, cls⟩ := stop
  have before : Stands k (orphanTest s) := (h k cls force).lasts cls orphan (by simp)
  refine ⟨k, kind, (stays k (by rwa [orphan.image]) before).1, ?_⟩
  rwa [last.image, orphan.image]

/-- R147: an event that ends without a stop, and began IDLE without one, has not halted. -/
theorem settle_stays_idle {s : State} (idle : s.phase = .idle) (estop : s.alu.estop = false)
    (clear : stopInForce s = false) (free : stopInForce (settle s) = false) : (settle s).phase = .idle := by
  have pass {u : State} (stand : StopsStand u) (idle : u.phase = .idle) (estop : u.alu.estop = false)
      (free : stopInForce (settleOnce u) = false) : (settleOnce u).phase = .idle := by
    refine settleOnce_stays_idle idle ?_ estop
    by_contra stop
    rw [(stopsStand_settleOnce stand).2 (by simpa using stop)] at free
    cases free
  have earlier {u : State} (stand : StopsStand u) (free : stopInForce (settleOnce u) = false) :
      stopInForce u = false := by
    by_contra stop
    rw [stopInForce_lasts stand (by simpa using stop)] at free
    cases free
  have stand : StopsStand s := by
    intro k cls force
    refine absurd ?_ (Bool.eq_false_iff.1 clear)
    simp only [stopInForce, classInForce, List.any_eq_true, Bool.and_eq_true, decide_eq_true_eq]
    exact ⟨k, by cases k <;> simp [AlarmKind.all], force, cls⟩
  have stand1 := (stopsStand_settleOnce stand).1
  have stand2 := (stopsStand_settleOnce stand1).1
  have free2 := earlier stand2 free
  have idle1 := pass stand idle estop (earlier stand1 free2)
  have idle2 := pass stand1 idle1 (by simpa using estop) free2
  exact pass stand2 idle2 (by simpa using estop) free

end Sys2Proof.Machine
end

section
/-! The end of LISTEN (11_configuration_and_start section 11.4): the ring number adopted, the duties, the timers and
the phase. -/

namespace Sys2Proof.Machine

open Sys2Proof

/-! ## The ring number adopted (R26, R196) -/

/-- The higher of the ring numbers met so far and one more. -/
def higherRing (best : Option RingNumber) (r : RingNumber) : Option RingNumber :=
  match best with
  | none => some r
  | some b => if b.toNat < r.toNat then some r else some b

/-- A fold by the higher number ends with a highest one. -/
theorem foldl_higherRing (rs : List RingNumber) (best : Option RingNumber) :
    (∀ r, r ∈ rs ∨ best = some r → ∃ b, rs.foldl higherRing best = some b ∧ r.toNat ≤ b.toNat) ∧
      (∀ b, rs.foldl higherRing best = some b → b ∈ rs ∨ best = some b) := by
  induction rs generalizing best with
  | nil => exact ⟨fun r here => ⟨r, by simpa using here, le_rfl⟩, fun b found => .inr found⟩
  | cons r rs ih =>
    obtain ⟨upper, found⟩ := ih (higherRing best r)
    have next : ∃ c, higherRing best r = some c ∧ r.toNat ≤ c.toNat ∧ (∀ b, best = some b → b.toNat ≤ c.toNat) ∧
        (c = r ∨ best = some c) := by
      cases best with
      | none => exact ⟨r, rfl, le_rfl, by simp, .inl rfl⟩
      | some b =>
        by_cases higher : b.toNat < r.toNat
        · exact ⟨r, if_pos higher, le_rfl, fun _ same => by cases same; omega, .inl rfl⟩
        · exact ⟨b, if_neg higher, by omega, fun _ same => by cases same; exact le_rfl, .inr rfl⟩
    obtain ⟨c, is, above, over_, from_⟩ := next
    obtain ⟨highest, final, reaches⟩ := upper c (.inr is)
    refine ⟨fun q here => ?_, fun b final => ?_⟩
    · rcases here with here | here
      · rcases List.mem_cons.1 here with rfl | here
        · exact ⟨highest, final, by omega⟩
        · exact upper q (.inl here)
      · exact ⟨highest, final, by have := over_ q here; omega⟩
    · rcases found b final with here | here
      · exact .inl (List.mem_cons_of_mem r here)
      · rcases Option.some.inj (is.symm.trans here) with rfl
        rcases from_ with rfl | from_
        · exact .inl List.mem_cons_self
        · exact .inr from_

theorem mem_ringsHeard (s : State) (r : RingNumber) :
    r ∈ (sectorNumbers.filterMap fun j => if present s j then (peerOf s j).ringHeard else none) ↔
      ∃ j < 8, present s j = true ∧ (peerOf s j).ringHeard = some r := by
  rw [show sectorNumbers = List.range 8 from rfl]
  simp [List.mem_filterMap]

/-- R26, R196: the ring number adopted at the end of LISTEN. -/
theorem adoptedRing_highest (s : State) :
    (∀ j r, j < 8 → present s j = true → (peerOf s j).ringHeard = some r → r.toNat ≤ (adoptedRing s).toNat) ∧
      ((∃ j, j < 8 ∧ present s j = true ∧ (peerOf s j).ringHeard = some (adoptedRing s)) ∨
        ((∀ j, j < 8 → present s j = true → (peerOf s j).ringHeard = none) ∧
          adoptedRing s = if s.cfg.warm then s.ring else 0)) := by
  have heard := mem_ringsHeard s
  obtain ⟨upper, found⟩ :=
    foldl_higherRing (sectorNumbers.filterMap fun j => if present s j then (peerOf s j).ringHeard else none) none
  have fold : ringHeardHighest s =
    (sectorNumbers.filterMap fun j => if present s j then (peerOf s j).ringHeard else none).foldl
      higherRing none := rfl
  rw [← fold] at upper found
  unfold adoptedRing
  cases highest : ringHeardHighest s with
  | some b =>
    refine ⟨fun j r room here ring => ?_, .inl ?_⟩
    · obtain ⟨c, final, above⟩ := upper r (.inl ((heard r).2 ⟨j, room, here, ring⟩))
      rw [highest] at final
      cases final
      exact above
    · simpa [heard] using found b highest
  | none =>
    have silent (j : Nat) (room : j < 8) (here : present s j = true) : (peerOf s j).ringHeard = none := by
      by_contra ring
      obtain ⟨r, ring⟩ := Option.ne_none_iff_exists'.1 ring
      obtain ⟨c, final, -⟩ := upper r (.inl ((heard r).2 ⟨j, room, here, ring⟩))
      rw [highest] at final
      cases final
    refine ⟨fun j r room here ring => ?_, .inr ⟨silent, rfl⟩⟩
    rw [silent j room here] at ring
    cases ring

/-! ## The state at the end of LISTEN (R196) -/

theorem endListen_ring (s : State) : (endListen s).ring = adoptedRing s := by
  simp [endListen]

theorem endListen_cfg (s : State) :
    (endListen s).cfg = { s.cfg with listenTimer := none, joinTimer := none } := by
  simp [endListen]

theorem endListen_marks (s : State) :
    (endListen s).ptb.endOfListen = true ∧ (endListen s).ptb.listenEnd = s.elapsed ∧
      (endListen s).lif.timer = some s.elapsed ∧ (endListen s).dsu.timer = some s.elapsed := by
  simp [endListen]

theorem endListen_cursorRing {s : State} (holder : s.ptb.exErector = true) (cold : s.cfg.warm = false) :
    (endListen s).bsq.cursorRing = adoptedRing s := by
  have adopted : (adoptCursorRing (s.setRing (adoptedRing s))).bsq.cursorRing = adoptedRing s := by
    simp [adoptCursorRing, holder, cold]
  have kept (u : State) : (leaveListen u).bsq.cursorRing = u.bsq.cursorRing := by
    unfold leaveListen
    split
    · exact (kept_bsq (kept_enterHalted u)).2.1
    · simp [plainPhase]
  unfold endListen
  simpa [kept] using adopted

theorem endListen_balanceTimer {s : State} (active : (endListen s).bal.active = true) :
    (endListen s).bal.timer = some s.elapsed := by
  unfold endListen at *
  dsimp only at *
  simp only [leaveListen_fields] at *
  simp [startBalanceTimer] at *
  simp [active]

theorem endListen_duties (s : State) : DutiesEvaluated (endListen s) := by
  unfold endListen
  dsimp only
  generalize State.onCfg _ _ = marked
  exact (dutiesEvaluated_evalDuties marked).congr (by simp) (by simp)

/-- R196: the phase after LISTEN. -/
theorem endListen_phase (s : State) :
    (endListen s).phase = if stopInForce s = true ∨ s.alu.estop = true then .halted else .idle := by
  unfold endListen
  dsimp only
  generalize timed : State.onDsu _ _ = u
  have stop : stopInForce u = stopInForce s := stopInForce_congr (by simp [← timed]) (by simp [← timed])
  have estop : u.alu.estop = s.alu.estop := by simp [← timed]
  rw [leaveListen, stop, estop]
  split
  · exact enterHalted_phase u
  · simp [plainPhase]

theorem settle_idle_or_halted {s : State} (rests : s.phase = .idle ∨ s.phase = .halted) :
    (settle s).phase = .idle ∨ (settle s).phase = .halted := by
  have pass {u : State} (rests : u.phase = .idle ∨ u.phase = .halted) :
      (settleOnce u).phase = .idle ∨ (settleOnce u).phase = .halted := by
    rcases rests with idle | halted
    · by_cases stop : stopInForce (syncKinds AlarmKind.all (orphanTest u)) = true ∨ u.alu.estop = true
      · exact .inr (settleOnce_halts (by rw [idle]; rfl) stop)
      · simp only [not_or, Bool.not_eq_true] at stop
        exact .inl (settleOnce_stays_idle idle stop.1 stop.2)
    · exact .inr (settleOnce_stays_halted halted)
  exact pass (pass (pass rests))

/-- Settles O6: the ring number, the duties, the timers and the phase at the end of LISTEN. -/
theorem listenEndAdoptsTheRingAndStartsTheTimers : Obligations.ListenEndAdoptsTheRingAndStartsTheTimers := by
  intro s start timer due
  have runs : exec .listenEnd s = .next (settle (endListen s)) := by
    change execListenEnd s = _
    rw [execListenEnd, timer, onExpiry_due (span := Config.listenSpan) due]
  refine ⟨endListen s, runs, ?_⟩
  intro t
  have ring : t.ring = adoptedRing s := by simp [t, endListen_ring]
  obtain ⟨highest, source⟩ := adoptedRing_highest s
  obtain ⟨erector, conveyor⟩ : DutiesEvaluated t := dutiesEvaluated_settle (endListen_duties s)
  obtain ⟨mark, listenEnd, status, evaluation⟩ := endListen_marks s
  have phase := endListen_phase s
  have estop : (endListen s).alu.estop = s.alu.estop := by simp
  have stop : stopInForce (endListen s) = stopInForce s := by
    have entries : (endListen s).alu.entries = s.alu.entries := by simp
    have image : (endListen s).cfg.image = s.cfg.image := by simp
    exact stopInForce_congr image entries
  have settled := haltSettled_settle (endListen s)
  have halts (stopped : stopInForce s = true ∨ s.alu.estop = true) : t.phase = .halted :=
    settle_stays_halted (by rw [phase, if_pos stopped])
  have runsOn (clear : ¬(stopInForce s = true ∨ s.alu.estop = true)) : t.phase = .idle ∨ t.phase = .halted :=
    settle_idle_or_halted (by rw [phase, if_neg clear]; exact .inl rfl)
  rw [ring]
  refine ⟨highest, source, fun holder cold => ?_, ?_, ?_, ?_, ?_, erector, conveyor, ?_, ?_, fun active => ?_,
    phase, ?_, fun stopped => ?_, fun clear unpressed free => ?_⟩
  · simpa [t] using endListen_cursorRing holder cold
  · simpa [t] using endListen_cfg s
  · simpa [t] using mark
  · simpa [t] using listenEnd
  · simp [t]
  · simpa [t] using status
  · simpa [t] using evaluation
  · have active : (endListen s).bal.active = true := by simpa [t] using active
    simpa [t] using endListen_balanceTimer active
  · by_cases stopped : stopInForce s = true ∨ s.alu.estop = true
    · exact .inr (halts stopped)
    · exact runsOn stopped
  · by_contra running
    rcases stopped with stopped | pressed | raised
    · exact running (halts (.inl stopped))
    · exact running (halts (.inr pressed))
    · have clear : ¬(stopInForce s = true ∨ s.alu.estop = true) := fun stopped => running (halts stopped)
      have idle : t.phase = .idle := (runsOn clear).resolve_right running
      have free : stopInForce t = false := (settled.1 (by rw [show (settle (endListen s)).phase = .idle from idle]; rfl)).1
      rw [raised] at free
      cases free
  · refine settle_stays_idle ?_ (by rw [estop, unpressed]) (by rw [stop, clear]) free
    rw [phase, if_neg (by simp [clear, unpressed])]

end Sys2Proof.Machine
end

section
/-! The E-stop (07_alarms_holds_and_emergency_stop sections 7.2 and 7.5): what its condition makes of the event that
makes it active. -/

namespace Sys2Proof.Machine

open Sys2Proof

/-! ## The halt of a running phase -/

/-- What a pass makes of a station that stands halted with no build underway. -/
theorem settleOnce_of_halted {s v : State} (judged : haltTest (syncKinds AlarmKind.all (orphanTest s)) = v)
    (halted : v.phase = .halted) (rest : v.bsq.state.stepping = false) :
    (settleOnce s).phase = .halted ∧ (settleOnce s).pauseCause = v.pauseCause ∧
      (settleOnce s).thu.group = v.thu.group ∧ (settleOnce s).bsq.state = v.bsq.state := by
  unfold settleOnce
  rw [judged]
  have gate : gateTest (enableSync (forcingSync v)) = enableSync (forcingSync v) := by
    rw [gateTest, if_neg (by simp [halted]), if_neg (by simp [halted])]
  have excavation : excavationTest (enableSync (forcingSync v)) = enableSync (forcingSync v) := by
    rw [excavationTest, if_neg (by simp [halted])]
  rw [gate, excavation]
  have seen := ownGroupSeen_resting (s := enableSync (forcingSync v)) (by simpa using rest)
  rw [retractTest_resting (by rw [seen]; simpa using rest)]
  exact ⟨by simpa using halted, by simp, by simp, by rw [seen]; simp⟩

/-- R147: a running phase with the E-stop condition active halts in the event. -/
theorem settle_halts {s : State} (runs : s.phase.halts = true) (estop : s.alu.estop = true) :
    (settle s).phase = .halted ∧ (settle s).pauseCause = .none ∧
      (∀ m, s.thu.group = .moving m → (settle s).thu.group = .frozen m) ∧ ¬Underway (settle s) := by
  have rests (u : State) : u.bsq.state.stepping = false ↔ ¬Underway u := by
    cases state : u.bsq.state <;> simp [BuildState.stepping, Underway, state]
  let w := syncKinds AlarmKind.all (orphanTest s)
  obtain ⟨phase, cause, -, -, -, moving, -, underway, build, -⟩ := haltStopsEveryBlock w
  have halting : haltTest w = enterHalted w := if_pos (by simpa [w] using ⟨runs, .inr estop⟩)
  have still : (enterHalted w).bsq.state.stepping = false := by
    rw [rests]
    by_cases steps : Underway w
    · simp [Underway, (underway steps).1]
    · simpa [Underway, build steps] using steps
  obtain ⟨phase1, cause1, group1, build1⟩ := settleOnce_of_halted halting phase still
  have stays {u : State} (halted : u.phase = .halted) (still : u.bsq.state.stepping = false) :
      (settleOnce u).phase = .halted ∧ (settleOnce u).pauseCause = u.pauseCause ∧
        (settleOnce u).thu.group = u.thu.group ∧ (settleOnce u).bsq.state = u.bsq.state := by
    have judged : haltTest (syncKinds AlarmKind.all (orphanTest u)) = syncKinds AlarmKind.all (orphanTest u) :=
      if_neg (by simp [halted, Phase.halts])
    simpa using settleOnce_of_halted judged (by simpa using halted) (by simpa using still)
  obtain ⟨phase2, cause2, group2, build2⟩ := stays phase1 (by rw [build1]; exact still)
  obtain ⟨phase3, cause3, group3, build3⟩ := stays phase2 (by rw [build2, build1]; exact still)
  refine ⟨phase3, ?_, fun m moves => ?_, (rests _).1 ?_⟩
  · rw [settle, cause3, cause2, cause1, cause]
  · rw [settle, group3, group2, group1]
    exact moving m (by simpa [w] using moves)
  · rw [settle, build3, build2, build1]
    exact still

/-! ## The stop hold (R123) -/

theorem holdTest_stopHold (s : State) : (holdTest s).bal.stopHold = s.bal.stopHold := by
  unfold holdTest
  split
  · simp
  · split <;> simp

theorem settle_stopHold {s : State} (held : s.bal.stopHold = true) : (settle s).bal.stopHold = true := by
  have halted (u : State) (held : u.bal.stopHold = true) : (haltTest u).bal.stopHold = true := by
    unfold haltTest
    split
    · obtain ⟨-, -, -, -, -, -, -, -, -, active, inactive, -⟩ := haltStopsEveryBlock u
      cases on : u.bal.active with
      | true => exact (active on).1
      | false => rw [inactive on, held]
    · exact held
  have pass {u : State} (held : u.bal.stopHold = true) : (settleOnce u).bal.stopHold = true := by
    have judged := halted (syncKinds AlarmKind.all (orphanTest u)) (by simpa using held)
    unfold settleOnce
    simpa using judged
  unfold settle
  exact pass (pass (pass held))

/-! ## The entry of ESTOP (R142, R143) -/

/-- An entry that has come into force on a condition that stands. -/
def risen : AlarmEntry := { state := .active, cond := true, timer := none, latch := true }

theorem syncKind_entries_length (j : AlarmKind) (s : State) :
    (syncKind j s).alu.entries.length = s.alu.entries.length := by
  unfold syncKind
  split
  · rfl
  · rw [moveEntry_entries, length_putAt]

theorem syncKind_estop_stays {s : State} (j : AlarmKind) (estop : s.alu.estop = true)
    (entry : entryOf s .estop = risen) : entryOf (syncKind j s) .estop = risen := by
  by_cases same : j = .estop
  · subst same
    rw [syncKind, if_pos (.inr (by rw [entry]; exact estop)), entry]
  · unfold syncKind
    split
    · exact entry
    · rw [(entryOf_judged j _ s).2 .estop (Ne.symm same), entry]

theorem syncKinds_estop_stays (ks : List AlarmKind) {s : State} (estop : s.alu.estop = true)
    (entry : entryOf s .estop = risen) : entryOf (syncKinds ks s) .estop = risen := by
  induction ks generalizing s with
  | nil => exact entry
  | cons j rest ih => exact ih (by simpa using estop) (syncKind_estop_stays j estop entry)

/-- R143: the alarm ESTOP, of raise persistence 0, is ACTIVE once its condition is judged. -/
theorem syncKinds_estop_rises {ks : List AlarmKind} {s : State} (judged : .estop ∈ ks)
    (active : s.alu.active = true) (length : s.alu.entries.length = 30) (estop : s.alu.estop = true)
    (state : (entryOf s .estop).state = .inactive) (cond : (entryOf s .estop).cond = false) :
    entryOf (syncKinds ks s) .estop = risen := by
  induction ks generalizing s with
  | nil => cases judged
  | cons j rest ih =>
    by_cases same : j = .estop
    · subst same
      refine syncKinds_estop_stays rest (by simpa using estop) ?_
      have now : conditionNow s .estop = true := estop
      rw [syncKind, if_neg (by simp [active, now, cond]), (entryOf_moveEntry _ _ length).1, now]
      simp [entryChanged, state, persistenceOf, raisePersistence, risen]
    · have entry : entryOf (syncKind j s) .estop = entryOf s .estop := by
        unfold syncKind
        split
        · rfl
        · exact (entryOf_judged j _ s).2 .estop (Ne.symm same)
      exact ih ((List.mem_cons.1 judged).resolve_left (Ne.symm same)) (by simpa using active)
        (by rw [syncKind_entries_length, length]) (by simpa using estop) (by rw [entry, state]) (by rw [entry, cond])

theorem settle_estop_rises {s : State} (active : s.alu.active = true) (length : s.alu.entries.length = 30)
    (estop : s.alu.estop = true) (state : (entryOf s .estop).state = .inactive)
    (cond : (entryOf s .estop).cond = false) : entryOf (settle s) .estop = risen := by
  have pass (u : State) : entryOf (settleOnce u) .estop =
      entryOf (syncKinds AlarmKind.all (orphanTest u)) .estop :=
    entryOf_congr (stopsLast_afterKinds u).2 _
  have orphan (u : State) : entryOf (orphanTest u) .estop = entryOf u .estop := entryOf_congr (by simp) _
  have stays {u : State} (estop : u.alu.estop = true) (entry : entryOf u .estop = risen) :
      entryOf (settleOnce u) .estop = risen := by
    rw [pass]
    exact syncKinds_estop_stays _ (by simpa using estop) (by rw [orphan, entry])
  have first : entryOf (settleOnce s) .estop = risen := by
    rw [pass]
    exact syncKinds_estop_rises (by simp [AlarmKind.all]) (by simpa using active) (by simpa using length)
      (by simpa using estop) (by rw [orphan, state]) (by rw [orphan, cond])
  exact stays (by simpa using estop) (stays (by simpa using estop) first)

theorem settle_forced {s : State} (active : s.alu.active = true) (estop : s.alu.estop = true) :
    (settle s).fpt.forced = true := by
  rw [(haltSettled_settle s).2]
  simp [forcingNow, active, estop]

/-! ## The E-stop heard and asserted (R153, R154, R162) -/

theorem activateEstop_new {s : State} (quiet : s.alu.estop = false) :
    (activateEstop s).alu.estop = true ∧
      (s.bal.active = true → (activateEstop s).bal.stopHold = true) := by
  have new : activateEstop s = setStopHold (s.onAlu fun a => { a with estop := true }) :=
    if_neg (by simp [quiet])
  have estop : (activateEstop s).alu.estop = true := by simp [new]
  refine ⟨estop, fun active => ?_⟩
  rw [new, setStopHold, if_pos (by simpa using active), holdTest_stopHold]
  rfl

theorem estopAsserts_iff (l : Loop) (e : EstopInput) :
    estopAsserts l e = true ↔ l ≠ .on ∧ (e.asserted = false ∨ e.start = true) := by
  simp [estopAsserts]

theorem estopSample_estop (l : Loop) (s : State) :
    (estopSample l s).alu.estop = (s.alu.estop || estopAsserts l s.fpt.estopIn) := by
  unfold estopSample activateEstop
  dsimp only
  cases asserts : estopAsserts l s.fpt.estopIn with
  | false => simp
  | true =>
    cases estop : s.alu.estop with
    | true => simp [estop]
    | false => simp [estop]

/-- A running phase stays one, or is halted, through the readings of other channels. -/
theorem settle_runs_or_halted {s : State} (runs : s.phase.halts = true ∨ s.phase = .halted) :
    (settle s).phase.halts = true ∨ (settle s).phase = .halted := by
  have pass {u : State} (runs : u.phase.halts = true ∨ u.phase = .halted) :
      (settleOnce u).phase.halts = true ∨ (settleOnce u).phase = .halted := by
    let w := haltTest (syncKinds AlarmKind.all (orphanTest u))
    have judged : w.phase.halts = true ∨ w.phase = .halted := by
      by_cases stop : (syncKinds AlarmKind.all (orphanTest u)).phase.halts = true ∧
          (stopInForce (syncKinds AlarmKind.all (orphanTest u)) = true ∨
            (syncKinds AlarmKind.all (orphanTest u)).alu.estop = true)
      · right
        rw [show w = enterHalted _ from if_pos stop]
        exact enterHalted_phase _
      · rw [show w = syncKinds AlarmKind.all (orphanTest u) from if_neg stop]
        simpa using runs
    have phase : (settleOnce u).phase = (excavationTest (gateTest (enableSync (forcingSync w)))).phase := by
      simp [settleOnce, w]
    rw [phase]
    rcases gate_phase (enableSync (forcingSync w)) with same | ⟨-, after, -⟩
    · rw [same]
      simpa using judged
    · exact .inl after
  exact pass (pass (pass runs))

theorem sampleChannels_runs_or_halted (x : FieldInputs) (cs : List Channel) {s : State}
    (runs : s.phase.halts = true ∨ s.phase = .halted) :
    (sampleChannels x cs s).phase.halts = true ∨ (sampleChannels x cs s).phase = .halted := by
  induction cs generalizing s with
  | nil => exact runs
  | cons c rest ih => exact ih (settle_runs_or_halted (by simpa using runs))

theorem sampleChannels_stays_halted (x : FieldInputs) (cs : List Channel) {s : State} (halted : s.phase = .halted) :
    (sampleChannels x cs s).phase = .halted := by
  induction cs generalizing s with
  | nil => exact halted
  | cons c rest ih => exact ih (settle_stays_halted (by simpa using halted))

theorem sampleChannels_haltSettled (x : FieldInputs) (cs : List Channel) {s : State} (settled : HaltSettled s) :
    HaltSettled (sampleChannels x cs s) := by
  induction cs generalizing s with
  | nil => exact settled
  | cons c rest ih => exact ih (haltSettled_settle _)

/-- R153, R162: what a field sample makes of the E-stop condition. -/
theorem fieldSample_estop (x : FieldInputs) (s : State) :
    (fieldSample x s).alu.estop = (s.alu.estop || estopAsserts x.estopIn s.fpt.estopIn) ∧
      HaltSettled (fieldSample x s) ∧ (fieldSample x s).alu.active = s.alu.active ∧
      (s.phase.halts = true → estopAsserts x.estopIn s.fpt.estopIn = true → (fieldSample x s).phase = .halted) := by
  unfold fieldSample
  by_cases probe : s.phase = .probe
  · rw [if_pos probe]
    refine ⟨?_, haltSettled_settle _, ?_, fun runs => by rw [probe] at runs; cases runs⟩
    · dsimp only
      split <;> simp [estopSample_estop]
    · dsimp only
      split <;> simp
  · rw [if_neg probe]
    unfold runSample
    refine ⟨?_, sampleChannels_haltSettled _ _ (haltSettled_settle _), by simp, fun runs asserts => ?_⟩
    · simp [estopSample_estop]
    · refine sampleChannels_stays_halted _ _ ?_
      have pressed : (estopSample x.estopIn (sampleChannels x channelsBefore s)).alu.estop = true := by
        simp [estopSample_estop, asserts]
      rcases sampleChannels_runs_or_halted x channelsBefore (.inl runs) with runs | halted
      · exact (settle_halts (by simpa using runs) pressed).1
      · exact settle_stays_halted (by simpa using halted)

/-- Settles O44: an ESTOP heard RAISED, and ESTOP_IN asserting, halt the station; nothing else moves the
condition. -/
theorem estopHeardHaltsTheStation : Obligations.EstopHeardHaltsTheStation := by
  refine ⟨fun s chars h k raised cls heard => ⟨fun other => ?_, fun kind up quiet => ?_⟩,
    fun s x start timer due => ?_⟩
  · refine hear_valid (act := alarmHeard) heard (congrArg some ?_)
    rcases other with kind | down | active
    · exact if_neg fun raises => kind raises.1
    · exact if_neg fun raises => by simp [down] at raises
    · have already : (peerOther h.source h.seq (lineUsed s)).alu.estop = true := by simpa using active
      split
      · exact if_pos already
      · rfl
  · obtain ⟨pressed, hold⟩ :=
      activateEstop_new (s := peerOther h.source h.seq (lineUsed s)) (by simpa using quiet)
    have acts : alarmHeard h (.alarm k raised cls) (lineUsed s) =
        some (activateEstop (peerOther h.source h.seq (lineUsed s))) := congrArg some (if_pos ⟨kind, up⟩)
    have entries : (activateEstop (peerOther h.source h.seq (lineUsed s))).alu.entries = s.alu.entries := by simp
    have entry := entryOf_congr entries .estop
    have alarms : (activateEstop (peerOther h.source h.seq (lineUsed s))).alu.active = s.alu.active := by simp
    have phase : (activateEstop (peerOther h.source h.seq (lineUsed s))).phase = s.phase := by simp
    have thu : (activateEstop (peerOther h.source h.seq (lineUsed s))).thu =
      (peerOther h.source h.seq (lineUsed s)).thu := by simp
    refine ⟨_, hear_valid (act := alarmHeard) heard acts, by simpa using pressed,
      fun active => settle_stopHold (hold active), fun active => settle_forced (alarms.trans active) pressed,
      fun active length state cond => ?_, fun runs => ?_⟩
    · exact settle_estop_rises (alarms.trans active) (by rw [entries, length]) pressed (by rw [entry, state])
        (by rw [entry, cond])
    · rw [← thu]
      exact settle_halts (by rw [phase]; rcases runs with runs | runs | runs | runs <;> rw [runs] <;> rfl) pressed
  · intro asserts
    have judged : estopAsserts x.estopIn s.fpt.estopIn = true ↔ asserts := estopAsserts_iff _ _
    let timed : State := s.onFpt fun f => { f with timer := nextStart start Config.samplePeriod }
    obtain ⟨estop, settled, active, halts⟩ := fieldSample_estop x timed
    have sampled : exec (.fieldSampleExpiry x) s = .next (fieldSample x timed) := by
      change execFieldSampleExpiry x s = _
      rw [execFieldSampleExpiry, timer, onExpiry_due (span := Config.samplePeriod) due]
    refine ⟨fieldSample x timed, sampled, fun asserting => ?_, fun quiet => ?_⟩
    · have pressed : (fieldSample x timed).alu.estop = true := by
        rw [estop, show estopAsserts x.estopIn timed.fpt.estopIn = true from judged.2 asserting, Bool.or_true]
      refine ⟨pressed, fun on => ?_, fun runs => halts ?_ (judged.2 asserting)⟩
      · rw [settled.2, forcingNow, active, show timed.alu.active = true from on, pressed]
        simp
      · change s.phase.halts = true
        rcases runs with runs | runs | runs | runs <;> rw [runs] <;> rfl
    · have silent : estopAsserts x.estopIn timed.fpt.estopIn = false := by
        rw [← Bool.not_eq_true]
        exact fun asserting => quiet (judged.1 asserting)
      rw [estop, silent, Bool.or_false]
      rfl

end Sys2Proof.Machine
end

section
/-! A frame sent is heard as it was sent (09_the_shield_line sections 9.2, 9.4 and 9.6). -/

namespace Sys2Proof.Machine

open Sys2Proof

/-! ## The CRC of a frame (R174) -/

theorem crc16_append (l m : List Byte) : crc16 (l ++ m) = m.foldl crc16Byte (crc16 l) := by
  simp [crc16]

/-- Shifts that lose no bit only shift. -/
theorem crc16Shifts_small {n : Nat} {r : BitVec 16} (small : r.toNat * 2 ^ n < 65536) :
    crc16Shifts n r = r <<< n := by
  induction n generalizing r with
  | zero => simp [crc16Shifts]
  | succ n ih =>
    have room : r.toNat * 2 < 65536 := by
      have : r.toNat * 2 ≤ r.toNat * 2 ^ (n + 1) := Nat.mul_le_mul_left _ (by rw [Nat.pow_succ]; have := Nat.one_le_two_pow (n := n); omega)
      omega
    have top : r.msb = false := by
      rw [BitVec.msb_eq_decide]
      simp
      omega
    have shifted : (r <<< 1).toNat = r.toNat * 2 := by
      rw [BitVec.toNat_shiftLeft, Nat.shiftLeft_eq]
      omega
    rw [crc16Shifts, crc16Shift, top, if_neg (by simp), ih, ← BitVec.shiftLeft_add, Nat.add_comm 1 n]
    · rw [shifted, Nat.mul_assoc, ← Nat.pow_succ']
      exact small

theorem byteOf_getLsbD (n i : Nat) : (byteOf n).getLsbD i = (decide (i < 8) && n.testBit i) := by
  simp [byteOf, BitVec.getLsbD_ofNat]

/-- The high byte of the register taken in leaves its low byte. -/
theorem crc16_takesHigh (r : BitVec 16) :
    r ^^^ ((byteOf (r.toNat / 256)).setWidth 16 <<< 8) = BitVec.ofNat 16 (r.toNat % 256) := by
  apply BitVec.eq_of_getLsbD_eq
  intro i inside
  have high : (r.toNat / 256).testBit (i - 8) = r.toNat.testBit (i - 8 + 8) := by
    rw [show (256 : Nat) = 2 ^ 8 from rfl, Nat.testBit_div_two_pow]
  have low : (r.toNat % 256).testBit i = (decide (i < 8) && r.toNat.testBit i) := by
    rw [show (256 : Nat) = 2 ^ 8 from rfl, Nat.testBit_mod_two_pow]
  rw [BitVec.getLsbD_xor, BitVec.getLsbD_shiftLeft, BitVec.getLsbD_setWidth, byteOf_getLsbD, BitVec.getLsbD_ofNat,
    low, high, ← BitVec.testBit_toNat]
  by_cases below : i < 8
  · simp [below, inside]
  · have back : i - 8 + 8 = i := by omega
    have top : i - 8 < 8 := by omega
    have room : i - 8 < 16 := by omega
    simp [below, inside, back, top, room]

/-- R174: the register followed by its own two bytes is empty. -/
theorem crc16_closes (r : BitVec 16) : (bytes2 r.toNat).foldl crc16Byte r = 0 := by
  have low : r.toNat % 256 < 256 := Nat.mod_lt _ (by norm_num)
  have first : crc16Byte r (byteOf (r.toNat / 256)) = BitVec.ofNat 16 (r.toNat % 256 * 256) := by
    rw [crc16Byte, crc16_takesHigh, crc16Shifts_small (by simp; omega)]
    apply BitVec.eq_of_toNat_eq
    simp [BitVec.toNat_shiftLeft, Nat.shiftLeft_eq]
  have second : BitVec.ofNat 16 (r.toNat % 256 * 256) ^^^ ((byteOf r.toNat).setWidth 16 <<< 8) = 0 := by
    have same : (byteOf r.toNat).setWidth 16 <<< 8 = BitVec.ofNat 16 (r.toNat % 256 * 256) := by
      apply BitVec.eq_of_toNat_eq
      simp [byteOf, BitVec.toNat_shiftLeft, Nat.shiftLeft_eq]
    rw [same, BitVec.xor_self]
    rfl
  rw [bytes2, List.foldl_cons, List.foldl_cons, List.foldl_nil, first, crc16Byte, second]
  rfl

/-- R174: a frame ends with the CRC that gives 0. -/
theorem crc16_content (content : List Byte) : crc16 (content ++ bytes2 (crc16 content).toNat) = 0 := by
  rw [crc16_append, crc16_closes]

/-! ## The header read back (R179) -/

theorem byteOf_toNat {n : Nat} (small : n < 256) : (byteOf n).toNat = n := by
  rw [byteOf, BitVec.toNat_ofNat, Nat.mod_eq_of_lt small]

theorem byteOf_of_toNat (b : Byte) : byteOf b.toNat = b := by
  simp [byteOf]

theorem kindCode_lt (b : Body) : 1 ≤ b.kindCode ∧ b.kindCode ≤ 7 := by
  cases b <;> simp [Body.kindCode]

theorem frameClass_code (b : Body) : b.frameClass.code = classCodeOfKind b.kindCode := by
  cases b <;> rfl

/-- A frame whose header and payload pass the checks of R179 is judged valid. -/
theorem judge_frameChars {nS source dest : Nat} {seq : Tag} {b : Body} (sourceKnown : source ≤ 8)
    (sector : source < 8 → source < nS) (destKnown : dest < 8 ∨ dest = 15) (short : b.payload.length < 256)
    (reserved : payloadReserved b.kindCode b.payload = false) (address : addressed b.kindCode source dest = true)
    (length : lengthAllowed nS b.kindCode b.payload = true)
    (reads : readBody nS source b.kindCode b.payload = some b) :
    judge nS (frameChars source seq { dest := dest, body := b }) =
      .valid { source := source, dest := dest, seq := seq } b := by
  obtain ⟨kindLow, kindHigh⟩ := kindCode_lt b
  have classCode : b.frameClass.code = classCodeOfKind b.kindCode := frameClass_code b
  have classLow : b.frameClass.code ≤ 3 := by cases b.frameClass <;> simp [FrameClass.code]
  let content := frameContent source seq { dest := dest, body := b }
  let chars := frameChars source seq { dest := dest, body := b }
  have address1 : source + 16 * dest < 256 := by omega
  have kind1 : b.kindCode + 16 * b.frameClass.code < 64 := by omega
  have at1 : byteAt chars 1 = source + 16 * dest := byteOf_toNat address1
  have at2 : byteAt chars 2 = b.kindCode + 16 * b.frameClass.code :=
    byteOf_toNat (Nat.lt_of_lt_of_le kind1 (by norm_num))
  have at3 : byteOf (byteAt chars 3) = seq := byteOf_of_toNat seq
  have at4 : byteAt chars 4 = b.payload.length := byteOf_toNat short
  have whole : chars.length = 7 + b.payload.length := by
    simp [chars, frameChars, frameContent, bytes2]
    omega
  have taken : (chars.take (frameLength chars)).drop 1 = content ++ bytes2 (crc16 content).toNat := by
    rw [frameLength, at4, ← whole, List.take_length]
    rfl
  have payload : (chars.take (5 + byteAt chars 4)).drop 5 = b.payload := by
    rw [at4, List.drop_take, Nat.add_sub_cancel_left]
    exact List.take_left
  have judged : judge nS chars = checkForm nS chars b.payload := by
    have begins : ¬chars.head? ≠ some 0xA7 := by simp [chars, frameChars]
    have complete : ¬(chars.length < 5 ∨ chars.length < frameLength chars) := by
      rw [frameLength, at4, whole]
      omega
    rw [judge, if_neg begins, if_neg complete, taken, crc16_content, if_neg (by simp), payload]
  rw [show frameChars source seq { dest := dest, body := b } = chars from rfl, judged, checkForm, at1, at2, at3]
  have source1 : bits (source + 16 * dest) 0 4 = source := by unfold bits; omega
  have dest1 : bits (source + 16 * dest) 4 4 = dest := by unfold bits; omega
  have code1 : bits (b.kindCode + 16 * b.frameClass.code) 0 4 = b.kindCode := by unfold bits; omega
  have class1 : bits (b.kindCode + 16 * b.frameClass.code) 4 2 = classCodeOfKind b.kindCode := by
    unfold bits
    omega
  simp only [source1, dest1, code1, class1, reserved, address, length, reads]
  rw [if_neg (by simp; omega), if_neg (by omega), if_neg (by omega), if_neg (by simp; omega), if_neg (by simp),
    if_neg (by simp)]

/-! ## The payloads read back (R183) -/

theorem word2_read (r : RingNumber) :
    BitVec.ofNat 16 ((byteOf (r.toNat / 256)).toNat * 256 + (byteOf r.toNat).toNat) = r := by
  apply BitVec.eq_of_toNat_eq
  have := r.isLt
  simp [byteOf]
  omega

theorem word4_read {n : Nat} (small : n < 4294967296) :
    ((byteOf (n / 16777216)).toNat * 256 + (byteOf (n / 65536)).toNat) * 65536 +
      ((byteOf (n / 256)).toNat * 256 + (byteOf n).toNat) = n := by
  simp [byteOf]
  omega

theorem word4_read_bits (w : BitVec 32) :
    BitVec.ofNat 32 (((byteOf (w.toNat / 16777216)).toNat * 256 + (byteOf (w.toNat / 65536)).toNat) * 65536 +
      ((byteOf (w.toNat / 256)).toNat * 256 + (byteOf w.toNat).toNat)) = w := by
  rw [word4_read w.isLt]
  simp

theorem twos_lt (v : Int) : twos 32 v < 4294967296 := by
  unfold twos
  omega

/-- R183: a signed number of 32 bits reads back from its two's complement code. -/
theorem signed_twos {v : Int} (low : -2147483648 ≤ v) (high : v ≤ 2147483647) : signed 32 (twos 32 v) = v := by
  unfold signed twos
  split <;> omega

/-- A parameter of an ORDER read back. -/
theorem param_read {v : Int} (range : -2147483648 ≤ v ∧ v ≤ 2147483647) :
    signed 32 (((byteOf (twos 32 v / 16777216)).toNat * 256 + (byteOf (twos 32 v / 65536)).toNat) * 65536 +
      ((byteOf (twos 32 v / 256)).toNat * 256 + (byteOf (twos 32 v)).toNat)) = v := by
  rw [word4_read (twos_lt v), signed_twos range.1 range.2]

theorem readRequest_payload (kind : RequestKind) (ring : RingNumber) (tag : Tag) :
    readRequest (Body.request kind ring tag).payload = some (.request kind ring tag) := by
  change (requestKindOfCode (byteOf kind.code).toNat).map (fun k => Body.request k
    (BitVec.ofNat 16 ((byteOf (ring.toNat / 256)).toNat * 256 + (byteOf ring.toNat).toNat)) (byteOf tag.toNat)) = _
  rw [word2_read, byteOf_of_toNat]
  cases kind <;> rfl

theorem readReply_payload (tag : Tag) (answer : Answer) :
    readReply (Body.reply tag answer).payload = some (.reply tag answer) := by
  change (answerOfCode (byteOf answer.code).toNat).map (fun a => Body.reply (byteOf tag.toNat) a) = _
  rw [byteOf_of_toNat]
  cases answer <;> rfl

theorem alarmKindOfCode_number (kind : AlarmKind) : alarmKindOfCode kind.number = some kind := by
  cases kind <;> rfl

theorem readAlarm_payload (kind : AlarmKind) (raised : Bool) (cls : AlarmClass) :
    readAlarm (Body.alarm kind raised cls).payload = some (.alarm kind raised cls) ∧
      payloadReserved 6 (Body.alarm kind raised cls).payload = false := by
  have number : (byteOf kind.number).toNat = kind.number := byteOf_toNat (by have := number_lt kind; omega)
  refine ⟨?_, by cases raised <;> cases cls <;> rfl⟩
  have second : byteAt (Body.alarm kind raised cls).payload 1 = raised.toNat + 2 * classCodeOfAlarm cls :=
    byteOf_toNat (by cases raised <;> cases cls <;> decide)
  have cls_read : alarmClassOfCode (bits (raised.toNat + 2 * classCodeOfAlarm cls) 1 2) = some cls := by
    cases raised <;> cases cls <;> rfl
  have raised_read : bit (raised.toNat + 2 * classCodeOfAlarm cls) 0 = raised := by
    cases raised <;> cases cls <;> rfl
  unfold readAlarm
  rw [show byteAt (Body.alarm kind raised cls).payload 0 = kind.number from number, alarmKindOfCode_number, second,
    cls_read, raised_read]

/-- The first byte of a JOIN, by its fields. -/
theorem joinByte_read (station : Nat) (e c w f : Bool) (small : station < 16) :
    let n := (byteOf (station + 16 * e.toNat + 32 * c.toNat + 64 * w.toNat + 128 * f.toNat)).toNat
    bits n 0 4 = station ∧ bit n 4 = e ∧ bit n 5 = c ∧ bit n 6 = w ∧ bit n 7 = f := by
  intro n
  have code : n = station + 16 * e.toNat + 32 * c.toNat + 64 * w.toNat + 128 * f.toNat :=
    byteOf_toNat (by cases e <;> cases c <;> cases w <;> cases f <;> simp <;> omega)
  rw [code]
  refine ⟨?_, ?_⟩
  · unfold bits
    omega
  · interval_cases station <;> cases e <;> cases c <;> cases w <;> cases f <;> decide

theorem readJoin_payload {source : Nat} {r : JoinRecord} (own : r.station = source) (small : source < 16)
    (fitted : r.fitted.toNat < 67108864) :
    readJoin source (Body.join r).payload = some r ∧ payloadReserved 2 (Body.join r).payload = false := by
  obtain ⟨station, erector, conveyor, warm, fault⟩ :=
    joinByte_read r.station r.claims.erector r.claims.conveyor r.warm r.fault (own ▸ small)
  refine ⟨?_, ?_⟩
  · have digest : BitVec.ofNat 32 (read4 (Body.join r).payload 1) = r.digest := word4_read_bits r.digest
    have fits : BitVec.ofNat 32 (read4 (Body.join r).payload 5) = r.fitted := word4_read_bits r.fitted
    have ring : BitVec.ofNat 16 (read2 (Body.join r).payload 9) = r.ring := word2_read r.ring
    have first : byteAt (Body.join r).payload 0 = (byteOf (r.station + 16 * r.claims.erector.toNat +
      32 * r.claims.conveyor.toNat + 64 * r.warm.toNat + 128 * r.fault.toNat)).toNat := rfl
    rw [readJoin, first, digest, fits, ring, station, erector, conveyor, warm, fault, if_pos own]
  · change decide (4 ≤ (byteOf (r.fitted.toNat / 16777216)).toNat) = false
    rw [byteOf_toNat (by omega), decide_eq_false_iff_not]
    omega

theorem orderPayload_length (tag : Tag) (code : Nat) (params : List Int) :
    (Body.order tag code params).payload.length = 2 + 4 * params.length := by
  have each : (params.map fun p => (bytes4 (twos 32 p)).length).sum = 4 * params.length := by
    simp [bytes4, Nat.mul_comm]
  simp only [Body.payload, orderBytes, List.length_append, List.length_flatMap, each]
  rfl

/-- R183: an ORDER of up to three parameters, read back. -/
theorem readOrder_payload {nS : Nat} {tag : Tag} {code : Nat} {params : List Int} (low : 1 ≤ code) (high : code < 32)
    (few : params.length ≤ 3) (range : ∀ v ∈ params, -2147483648 ≤ v ∧ v ≤ 2147483647) :
    readOrder (Body.order tag code params).payload = some (.order tag code params) ∧
      payloadReserved 3 (Body.order tag code params).payload = false ∧
      lengthAllowed nS 3 (Body.order tag code params).payload = true ∧
      (Body.order tag code params).payload.length < 256 := by
  have second : (byteOf (code % 32)).toNat = code := by
    rw [Nat.mod_eq_of_lt high, byteOf_toNat (by omega)]
  have reads : readParams (Body.order tag code params).payload = params := by
    have count : ((Body.order tag code params).payload.length - 2) / 4 = params.length := by
      simp [orderPayload_length]
    rw [readParams, count]
    match params, few with
    | [], _ => rfl
    | [a], _ =>
      change [signed 32 _] = [a]
      exact congrArg (fun v => [v]) (param_read (range a (by simp)))
    | [a, b], _ =>
      change [signed 32 _, signed 32 _] = [a, b]
      exact congrArg₂ (fun v w => [v, w]) (param_read (range a (by simp))) (param_read (range b (by simp)))
    | [a, b, c], _ =>
      change [signed 32 _, signed 32 _, signed 32 _] = [a, b, c]
      exact congrArg₂ (fun v w => v :: w) (param_read (range a (by simp)))
        (congrArg₂ (fun v w => [v, w]) (param_read (range b (by simp))) (param_read (range c (by simp))))
  refine ⟨?_, ?_, ?_, ?_⟩
  · unfold readOrder
    rw [reads, show byteAt (Body.order tag code params).payload 1 = code from second,
      show byteAt (Body.order tag code params).payload 0 = tag.toNat from rfl, byteOf_of_toNat]
    have kind : bits code 0 5 = code := by unfold bits; omega
    rw [kind, if_neg (by omega)]
  · change decide (32 ≤ (byteOf (code % 32)).toNat) = false
    rw [second, decide_eq_false_iff_not]
    omega
  · simp only [lengthAllowed, orderPayload_length, Bool.or_eq_true, beq_iff_eq]
    omega
  · rw [orderPayload_length]
    omega

/-- Settles O53: the five kinds, each written and read back. -/
theorem sentFramesAreHeardAsSent : Obligations.SentFramesAreHeardAsSent := by
  intro nS source seq stations heard
  refine ⟨fun known => ⟨fun dest kind ring tag here => ?_, fun dest tag answer here => ?_, fun kind raised cls => ?_,
    fun r own fitted => ?_⟩, fun dest tag code params addressee low high few range => ?_⟩
  · exact judge_frameChars (by omega) (fun _ => known) (.inl here) (by simp [Body.payload, bytes2]) rfl
      (by simp [Body.kindCode, addressed, here]; omega) rfl (readRequest_payload kind ring tag)
  · exact judge_frameChars (by omega) (fun _ => known) (.inl here) (by simp [Body.payload]) rfl
      (by simp [Body.kindCode, addressed, here]; omega) rfl (readReply_payload tag answer)
  · obtain ⟨reads, reserved⟩ := readAlarm_payload kind raised cls
    exact judge_frameChars (by omega) (fun _ => known) (.inr rfl) (by simp [Body.payload]) reserved
      (by simp [Body.kindCode, addressed]; omega) rfl reads
  · obtain ⟨reads, reserved⟩ := readJoin_payload own (by omega) fitted
    exact judge_frameChars (by omega) (fun _ => known) (.inr rfl)
      (by simp [Body.payload, joinBytes, bytes4, bytes2]) reserved
      (by simp [Body.kindCode, addressed]; omega) rfl (congrArg (Option.map Body.join) reads)
  · obtain ⟨reads, reserved, length, short⟩ := readOrder_payload (tag := tag) low high few range
    exact judge_frameChars le_rfl (fun sector => absurd sector (by omega)) addressee short reserved
      (by rcases addressee with here | all <;> simp [Body.kindCode, addressed, *]) length reads

end Sys2Proof.Machine
end

section
/-! The readings of the field ports and the judging of their channels (08_field_ports sections 8.1 to 8.3). -/

namespace Sys2Proof.Machine

open Sys2Proof

/-! ## Readings (R159, R161, R163, R164) -/

/-- R159: an analog sample by the image's entry for its channel. -/
theorem analogSample_eq {s : State} {c : Channel} {a : AnalogScale} (here : s.cfg.image.analog[c.number]? = some a)
    (raw : BitVec 16) :
    let product := (raw.toNat : Int) * a.gain
    let v := a.offset + if 0 ≤ product then product / 65536 else -(-product / 65536)
    analogSample s c raw =
      if a.low ≤ v ∧ v ≤ a.high then
        some (if v < (quantityRange c).1 then ((quantityRange c).1, true)
          else if (quantityRange c).2 < v then ((quantityRange c).2, true) else (v, false))
      else none := by
  intro product v
  have scale : analogScale s c = a := by simp [analogScale, List.getD, here]
  have read : scaled a raw = v := rfl
  rw [analogSample, scale, read]
  congr 2
  by_cases low : v < (quantityRange c).1
  · simp [clamp, outside, low]
  · by_cases high : (quantityRange c).2 < v <;> simp [clamp, outside, low, high]

/-- R164: the sum of the counts is the steps forward less the steps back. -/
theorem encoderSum_eq (x : FieldInputs) :
    encoderSum x = x.encoderSteps.count .forward - x.encoderSteps.count .backward := by
  unfold encoderSum
  induction x.encoderSteps with
  | nil => rfl
  | cons e steps ih => cases e <;> simp [stepCount, ih] <;> omega

theorem encoderSample_eq (s : State) (x : FieldInputs) :
    let counts : Int := x.encoderSteps.count .forward - x.encoderSteps.count .backward
    encoderSample s x =
      if x.encoderFault = false ∧ .bothChanged ∉ x.encoderSteps ∧
          -(s.cfg.image.cEncMax : Int) ≤ counts ∧ counts ≤ s.cfg.image.cEncMax then
        some (counts, false)
      else none := by
  intro counts
  have sum : encoderSum x = counts := encoderSum_eq x
  have tracks : x.encoderSteps.all (fun e => decide (e ≠ .bothChanged)) = true ↔ .bothChanged ∉ x.encoderSteps := by
    simp only [List.all_eq_true, decide_eq_true_eq]
    exact ⟨fun each both => each _ both rfl, fun neither e step same => neither (same ▸ step)⟩
  have magnitude : counts.natAbs ≤ s.cfg.image.cEncMax ↔
      -(s.cfg.image.cEncMax : Int) ≤ counts ∧ counts ≤ s.cfg.image.cEncMax := by omega
  rw [encoderSample, sum]
  simp only [tracks, magnitude]

theorem loopSample_eq (l : Loop) :
    loopSample l = match l with | .on => some (1, false) | .off => some (0, false) | .fault => none := by
  cases l <;> rfl

/-! ## Validity (R160) -/

/-- R160: an input channel after a sample. -/
def inputJudged (s : State) (x : FieldInputs) (c : Channel) : InputState :=
  if isFitted s c = false then inputOf s c
  else inputAfter ((sampleOf s x c).map fun v => v.1) (inputOf s c)

theorem inputAfter_some (v : Int) (i : InputState) :
    inputAfter (some v) i =
      if i.valid then { i with bad := 0, served := v }
      else if 9 ≤ i.good then { valid := true, bad := 0, good := 10, served := v }
      else { i with good := i.good + 1 } := by
  cases valid : i.valid <;> simp [inputAfter, valid]

theorem inputAfter_none (i : InputState) :
    inputAfter none i =
      if i.valid then
        (if 2 ≤ i.bad then { i with valid := false, bad := 3, good := 0 } else { i with bad := i.bad + 1 })
      else { i with good := 0 } := by
  cases valid : i.valid <;> simp [inputAfter, valid]

/-- R158, R160: what judging the sample of a channel leaves. -/
theorem judgeInput_judges {s : State} {c : Channel} (x : FieldInputs) (input : c.number < 18)
    (length : s.fpt.inputs.length = 18) :
    (∀ d, inputOf (judgeInput c x s) d = if d = c then inputJudged s x c else inputOf s d) ∧
      ((judgeInput c x s).alu.flags.clamped = true ↔ s.alu.flags.clamped = true ∨
        (isFitted s c = true ∧ ∃ v, sampleOf s x c = some (v, true))) ∧
      { judgeInput c x s with
        fpt := { (judgeInput c x s).fpt with inputs := s.fpt.inputs }
        alu :=
          { (judgeInput c x s).alu with
            flags := { (judgeInput c x s).alu.flags with clamped := s.alu.flags.clamped } } } = s := by
  unfold judgeInput inputJudged
  cases fitted : isFitted s c with
  | false => simp
  | true =>
    cases sample : sampleOf s x c with
    | none =>
      refine ⟨fun d => ?_, by simp [setInput], rfl⟩
      simpa using inputOf_setInput c d (inputAfter none (inputOf s c)) s input length
    | some v =>
      obtain ⟨v, clamped⟩ := v
      refine ⟨fun d => ?_, ?_, ?_⟩
      · have kept : inputOf (setFlagIf clamped .clamped (setInput c (inputAfter (some v) (inputOf s c)) s)) d =
            inputOf (setInput c (inputAfter (some v) (inputOf s c)) s) d := by simp [inputOf]
        simpa [kept] using inputOf_setInput c d (inputAfter (some v) (inputOf s c)) s input length
      · simp [setFlagIf_clamped_flags, setInput]
      · cases clamped <;> rfl

end Sys2Proof.Machine
end

section
/-! The field sample from the end of PROBE on: what each channel's sample does (08_field_ports section 8.1). -/

namespace Sys2Proof.Machine

open Sys2Proof

/-! ## The arrivals at the blocks (R158) -/

/-- R96: the own mark of a substituted stroke. -/
theorem strokeArrival_mark (before : State) (x : FieldInputs) (u : State) :
    arrival before x .stroke u =
      if u.ptb.exErector = true ∧ u.thu.quality ≠ .substituted ∧ (strokeArrival u).thu.quality = .substituted then
        { strokeArrival u with
          bsq :=
            { (strokeArrival u).bsq with
              substituted := (strokeArrival u).bsq.substituted.set u.own true } }
      else strokeArrival u := by
  have own : (strokeArrival u).own = u.own := by simp [State.own]
  have holder : (strokeArrival u).ptb.exErector = u.ptb.exErector := by simp
  simp only [arrival, ownMark, bsqActive, holder, own, markSubstituted, putAt]
  rfl

theorem limitArrival_eq (wasTrue : Bool) (u : State) :
    limitArrival wasTrue u =
      if wasTrue = false ∧ inputTrue u .retractedLimit = true then completeRetraction u else u := rfl

theorem feederArrival_eq (before : State) (x : FieldInputs) (u : State) :
    arrival before x .feederReady u =
      if u.ptb.exErector = true ∧ u.bsq.state = .pick ∧ u.bsq.gripTimer = none ∧
          inputTrue u .feederReady = true then
        writeErector (.grip (placementAt u.cfg.image u.bsq.cursor).segment)
          { u with bsq := { u.bsq with progress := .gripped, gripTimer := some u.elapsed } }
      else u := by
  simp only [arrival, bsqActive, pickTest]
  by_cases holder : u.ptb.exErector = true
  · simp only [holder, if_true, true_and]
    rfl
  · simp [holder]

theorem positionArrival_eq (before : State) (x : FieldInputs) (u : State) :
    arrival before x .atPosition u =
      if u.ptb.exErector = true ∧ u.bsq.state = .travel ∧ inputTrue u .atPosition = true then
        setBuild .awaitRetract u
      else u := by
  simp only [arrival, bsqActive, travelTest]
  by_cases holder : u.ptb.exErector = true
  · simp only [holder, if_true, true_and]
  · simp [holder]

theorem placementArrival_eq (before : State) (x : FieldInputs) (u : State) :
    arrival before x .placementDone u =
      if u.ptb.exErector = true ∧ u.bsq.state = .place ∧ inputTrue u .placementDone = true then
        enterAwaitExtend { u with bsq := { u.bsq with progress := .placed } }
      else u := by
  simp only [arrival, bsqActive, placeTest]
  by_cases holder : u.ptb.exErector = true
  · simp only [holder, if_true, true_and]
    rfl
  · simp [holder]

theorem groutPulses_iterate (n : Nat) (u : State) : groutPulses n u = groutPulse^[n] u := by
  induction n generalizing u with
  | zero => rfl
  | succ n ih => rw [groutPulses, ih, Function.iterate_succ_apply]

theorem meterArrival_eq (before : State) (x : FieldInputs) (u : State) :
    arrival before x .groutMeter u =
      if inputValid u .groutMeter = true ∧ (sampleOf u x .groutMeter).isSome = true then
        groutPulse^[x.meterPulses] u
      else u := by
  simp only [arrival, meterArrival, groutPulses_iterate]

/-- R125, R164: the encoder at BAL. -/
theorem screwArrival_eq (wasValid : Bool) (x : FieldInputs) (u : State) :
    screwArrival wasValid x u =
      if u.bal.active = false then u
      else if inputValid u .screwEncoder = true then
        (if (sampleOf u x .screwEncoder).isSome = true then
          { u with bal := { u.bal with acc := u.bal.acc + encoderSum x } }
        else u)
      else if wasValid = true then
        let v := if u.bal.conveyor = .fault then u else setConveyor .fault u
        { v with bal := { v.bal with acc := 0 } }
      else u := by
  have valid_of (v : State) (fitted : v.fpt.fitted = u.fpt.fitted) (inputs : v.fpt.inputs = u.fpt.inputs) :
      inputValid v .screwEncoder = inputValid u .screwEncoder := by
    simp [inputValid, isFitted, inputOf, fitted, inputs]
  unfold screwArrival
  dsimp only
  cases active : u.bal.active with
  | false => simp [encoderReport, encoderArrival, active]
  | true =>
    cases valid : inputValid u .screwEncoder with
    | true =>
      have report : encoderReport u = u := by simp [encoderReport, encoderTest, clearUnread, valid]
      simp [report, encoderArrival, active, valid, State.onBal]
    | false =>
      cases wasValid with
      | false => simp
      | true =>
        have tested : encoderTest u = if u.bal.conveyor = .fault then u else setConveyor .fault u := by
          by_cases fault : u.bal.conveyor = .fault <;> simp [encoderTest, active, valid, fault]
        have blind : inputValid (encoderTest u) .screwEncoder = false := by
          rw [valid_of _ (by simp) (by simp), valid]
        have report : encoderReport u = (encoderTest u).onBal fun b => { b with acc := 0 } := by
          rw [encoderReport, if_pos active, clearUnread, blind, if_neg (by simp)]
        simp only [report, tested, Bool.false_eq_true, Bool.true_eq_false, if_false, if_true, false_and]
        rfl

/-! ## A sample from the end of PROBE on (R158, R160, R162) -/

/-- One channel of a field sample, ESTOP_IN by its own rule. -/
def fieldChannel (x : FieldInputs) (u : State) (c : Channel) : State :=
  if c = .estopIn then settle (estopSample x.estopIn u) else sampleChannel x c u

theorem foldl_fieldChannel (x : FieldInputs) {cs : List Channel} (others : .estopIn ∉ cs) (s : State) :
    cs.foldl (fieldChannel x) s = sampleChannels x cs s := by
  induction cs generalizing s with
  | nil => rfl
  | cons c rest ih =>
    have other : c ≠ .estopIn := fun same => others (by simp [same])
    rw [List.foldl_cons, ih (fun here => others (by simp [here])), fieldChannel, if_neg other, sampleChannels]

/-- R158: a field sample of the channels in the order of their numbers. -/
theorem runSample_foldl (x : FieldInputs) (s : State) :
    runSample x s = (channelsBefore ++ .estopIn :: channelsAfter).foldl (fieldChannel x) s := by
  rw [List.foldl_append, List.foldl_cons, foldl_fieldChannel x (by decide), foldl_fieldChannel x (by decide),
    fieldChannel, if_pos rfl, runSample]

theorem sampleOf_congr {s u : State} (cfg : u.cfg = s.cfg) (x : FieldInputs) (c : Channel) :
    sampleOf u x c = sampleOf s x c := by
  cases c <;> simp [sampleOf, analogSample, analogScale, meterSample, encoderSample, cfg]

/-- The sample of a channel leaves every other one, and judges its own. -/
theorem inputOf_sampleChannel {s : State} {c : Channel} (x : FieldInputs) (input : c.number < 18)
    (length : s.fpt.inputs.length = 18) (d : Channel) :
    inputOf (sampleChannel x c s) d = if d = c then inputJudged s x c else inputOf s d := by
  rw [← (judgeInput_judges x input length).1 d]
  simp [sampleChannel, inputOf]

theorem sampleChannels_inputs_length (x : FieldInputs) (cs : List Channel) (s : State) :
    (sampleChannels x cs s).fpt.inputs.length = s.fpt.inputs.length := by
  induction cs generalizing s with
  | nil => rfl
  | cons c rest ih => simp [sampleChannels, ih, sampleChannel]

/-- A channel of a list without repetition is judged by its own sample, and any other left. -/
theorem inputOf_sampleChannels (x : FieldInputs) {cs : List Channel} (once : cs.Nodup)
    (inputs : ∀ c ∈ cs, c.number < 18) {s : State} (length : s.fpt.inputs.length = 18) (d : Channel) :
    inputOf (sampleChannels x cs s) d = if d ∈ cs then inputJudged s x d else inputOf s d := by
  induction cs generalizing s with
  | nil => simp [sampleChannels]
  | cons c rest ih =>
    obtain ⟨fresh, once⟩ := List.nodup_cons.1 once
    have read := inputOf_sampleChannel x (inputs c (by simp)) length
    have judged (d : Channel) (other : d ≠ c) : inputJudged (sampleChannel x c s) x d = inputJudged s x d := by
      have fitted : isFitted (sampleChannel x c s) d = isFitted s d := by simp [isFitted]
      rw [inputJudged, inputJudged, fitted, read, if_neg other, sampleOf_congr (s := s) (by simp)]
    rw [sampleChannels, ih once (fun c here => inputs c (by simp [here]))
      (by simpa [sampleChannel] using length)]
    by_cases same : d = c
    · subst same
      rw [if_neg fresh, read, if_pos rfl, if_pos (by simp)]
    · rw [judged d same, read, if_neg same]
      simp [same]

theorem estopAfter_eq (l : Loop) (e : EstopInput) :
    estopAfter l e =
      if l = .on then
        (if 9 ≤ e.run then { asserted := false, start := false, run := 10 } else { e with run := e.run + 1 })
      else { asserted := true, start := false, run := 0 } := by
  simp [estopAfter]

/-- R158, R160, R162: what a field sample leaves at the ports. -/
theorem runSample_ports (x : FieldInputs) (s : State) :
    (s.fpt.inputs.length = 18 →
      ∀ c, c.number < 18 → c ≠ .estopIn → inputOf (runSample x s) c = inputJudged s x c) ∧
      (runSample x s).fpt.estopIn = estopAfter x.estopIn s.fpt.estopIn := by
  let before := sampleChannels x channelsBefore s
  let mid := settle (estopSample x.estopIn before)
  refine ⟨fun length c input other => ?_, ?_⟩
  · have first := inputOf_sampleChannels x (cs := channelsBefore) (by decide) (by decide) length c
    have midLength : mid.fpt.inputs.length = 18 := by
      simpa [mid, before, sampleChannels_inputs_length] using length
    have second := inputOf_sampleChannels x (cs := channelsAfter) (by decide) (by decide) midLength c
    have read : inputOf mid c = inputOf before c := by simp [mid, inputOf]
    have fitted : isFitted mid c = isFitted s c := by simp [mid, before, isFitted]
    have sample : sampleOf mid x c = sampleOf s x c := sampleOf_congr (by simp [mid, before]) x c
    rw [runSample, second]
    by_cases here : c ∈ channelsBefore
    · have apart : c ∉ channelsAfter := by
        intro there
        revert here there
        cases c <;> decide
      rw [if_neg apart, read, first, if_pos here]
    · have there : c ∈ channelsAfter := by
        revert here input other
        cases c <;> decide
      rw [if_pos there, inputJudged, inputJudged, fitted, sample, read, first, if_neg here]
  · have sampled : (estopSample x.estopIn before).fpt.estopIn = estopAfter x.estopIn before.fpt.estopIn := by
      unfold estopSample
      dsimp only
      split <;> simp
    simpa [runSample, before] using sampled

end Sys2Proof.Machine
end

section
/-! The trials of PROBE and the field sample (08_field_ports sections 8.1 to 8.5). -/

namespace Sys2Proof.Machine

open Sys2Proof

/-! ## The order of the trials (R167) -/

theorem trialRuns_iff (p : Straps) (k : Nat) :
    trialRuns p k = true ↔ (k = 13 ∨ k = 14 → p.conveyor = true) ∧ (15 ≤ k → p.erector = true) := by
  unfold trialRuns
  by_cases belt : k = 13 ∨ k = 14
  · rw [if_pos belt]
    exact ⟨fun strap => ⟨fun _ => strap, fun later => by omega⟩, fun both => both.1 belt⟩
  · rw [if_neg belt]
    by_cases ring : 15 ≤ k
    · simp [ring, belt]
    · simp [ring, belt]

/-- The head of a filtered range is the least number below its end that passes. -/
theorem headD_filter_range (P : Nat → Bool) (n : Nat) :
    (((List.range n).filter P).headD 0 = 0 ∧ ∀ k < n, ¬P k = true) ∨
      (((List.range n).filter P).headD 0 < n ∧ P (((List.range n).filter P).headD 0) = true ∧
        ∀ k < n, P k = true → ((List.range n).filter P).headD 0 ≤ k) := by
  have sorted : ((List.range n).filter P).Pairwise (· < ·) := List.pairwise_lt_range.filter _
  have mem (k : Nat) : k ∈ (List.range n).filter P ↔ k < n ∧ P k = true := by simp
  cases list : (List.range n).filter P with
  | nil =>
    rw [list] at mem
    exact .inl ⟨rfl, fun k below passes => List.not_mem_nil ((mem k).2 ⟨below, passes⟩)⟩
  | cons a rest =>
    rw [list] at mem sorted
    obtain ⟨below, passes⟩ := (mem a).1 (by simp)
    refine .inr ⟨below, passes, fun k small here => ?_⟩
    rcases List.mem_cons.1 ((mem k).2 ⟨small, here⟩) with rfl | later
    · exact le_rfl
    · exact (List.rel_of_pairwise_cons sorted later).le

/-- R167: the trial after a trial. -/
theorem trialAfter_next (p : Straps) (n : Nat) :
    let runs (k : Nat) := n < k ∧ k ≤ 17 ∧ (k = 13 ∨ k = 14 → p.conveyor = true) ∧ (15 ≤ k → p.erector = true)
    (trialAfter p n = 0 ∧ (∀ k, ¬runs k)) ∨ (runs (trialAfter p n) ∧ ∀ k, runs k → trialAfter p n ≤ k) := by
  intro runs
  have passes (k : Nat) : (k < 18 ∧ (decide (n < k) && trialRuns p k) = true) ↔ runs k := by
    simp only [Bool.and_eq_true, decide_eq_true_eq, trialRuns_iff, runs]
    constructor
    · rintro ⟨small, after, strap⟩
      exact ⟨after, by omega, strap⟩
    · rintro ⟨after, small, strap⟩
      exact ⟨by omega, after, strap⟩
  rcases headD_filter_range (fun k => decide (n < k) && trialRuns p k) 18 with ⟨zero, none_⟩ | ⟨small, here, least⟩
  · exact .inl ⟨zero, fun k run => none_ k ((passes k).2 run).1 ((passes k).2 run).2⟩
  · exact .inr ⟨(passes _).1 ⟨small, here⟩, fun k run => least k ((passes k).2 run).1 ((passes k).2 run).2⟩

/-! ## An input-window trial (R167) -/

theorem isFitted_fitInput (c d : Channel) (v : Int) {s : State} (length : s.fpt.fitted.length = 26) :
    isFitted (fitInput c v s) d = true ↔ d = c ∨ isFitted s d = true := by
  rw [← isFitted_fit c d s length]
  simp [fitInput, setInput, isFitted]

theorem inputOf_fitInput (d : Channel) (v : Int) {c : Channel} {s : State} (input : c.number < 18)
    (length : s.fpt.inputs.length = 18) :
    inputOf (fitInput c v s) d =
      if d = c then { valid := true, bad := 0, good := 0, served := v } else inputOf s d := by
  rw [fitInput, inputOf_setInput c d _ _ input (by simpa [fit] using length)]
  rfl

/-- R167, log 10: what the trial after the one in hand begins with. -/
theorem nextTrial_begins (s : State) :
    (nextTrial s).fpt.probe =
        { trial := trialAfter s.cfg.straps s.fpt.probe.trial, samples := 0, run := 0, startPressure := none
          forcingSeen := false } ∧
      (nextTrial s).fpt.fitted = s.fpt.fitted ∧ (nextTrial s).fpt.inputs = s.fpt.inputs := by
  obtain ⟨probe, fitted, inputs, -⟩ := beginTrial_holds (trialAfter s.cfg.straps s.fpt.probe.trial) s
  exact ⟨probe, fitted, inputs⟩

theorem inputOf_congr {s u : State} (inputs : u.fpt.inputs = s.fpt.inputs) (c : Channel) : inputOf u c = inputOf s c := by
  rw [inputOf, inputOf, inputs]

theorem isFitted_congr {s u : State} (fitted : u.fpt.fitted = s.fpt.fitted) (c : Channel) :
    isFitted u c = isFitted s c := by
  rw [isFitted, isFitted, fitted]

theorem trialChannel_input (n : Nat) : (trialChannel n).number < 18 := by
  unfold trialChannel
  split <;> decide

/-- A sample counted, and its clamp flagged, moves the count alone. -/
theorem countedSample (clamped : Bool) (run : Nat) (s : State) :
    (setFlagIf clamped .clamped (countSample run s)).fpt =
        { s.fpt with probe := { s.fpt.probe with samples := s.fpt.probe.samples + 1, run := run } } ∧
      (setFlagIf clamped .clamped (countSample run s)).cfg = s.cfg := by
  cases clamped <;> exact ⟨rfl, rfl⟩

theorem windowTrial_moves {s : State} {c : Channel} (x : FieldInputs) (input : c.number < 18)
    (inputs : s.fpt.inputs.length = 18) (channels : s.fpt.fitted.length = 26) :
    let t := windowTrial c x s
    let ended := t.fpt.probe.trial = trialAfter s.cfg.straps s.fpt.probe.trial ∧ t.fpt.probe.samples = 0
    (∀ v, trialSample s x c = some v → 4 ≤ s.fpt.probe.run → ended ∧
      (∀ d, isFitted t d = true ↔ d = c ∨ isFitted s d = true) ∧
      (∀ d, inputOf t d =
        if d = c then { valid := true, bad := 0, good := 0, served := v.1 } else inputOf s d)) ∧
    (∀ v, trialSample s x c = some v → s.fpt.probe.run < 4 → s.fpt.probe.samples < 19 →
      t.fpt.probe = { s.fpt.probe with samples := s.fpt.probe.samples + 1, run := s.fpt.probe.run + 1 } ∧
      t.fpt.fitted = s.fpt.fitted ∧ t.fpt.inputs = s.fpt.inputs) ∧
    (trialSample s x c = none → s.fpt.probe.samples < 19 →
      t.fpt.probe = { s.fpt.probe with samples := s.fpt.probe.samples + 1, run := 0 } ∧
      t.fpt.fitted = s.fpt.fitted ∧ t.fpt.inputs = s.fpt.inputs) ∧
    (19 ≤ s.fpt.probe.samples → trialSample s x c = none ∨ s.fpt.probe.run < 4 →
      ended ∧ t.fpt.fitted = s.fpt.fitted ∧ t.fpt.inputs = s.fpt.inputs) := by
  intro t ended
  have counted (clamped : Bool) (run : Nat) := countedSample clamped run s
  cases sample : trialSample s x c with
  | none =>
    have stands : t = if 20 ≤ s.fpt.probe.samples + 1 then nextTrial (countSample 0 s) else countSample 0 s := by
      simp only [t, windowTrial, sample]
    refine ⟨fun v none_ => (by cases none_), fun v none_ => (by cases none_), fun _ early => ?_, fun late _ => ?_⟩
    · rw [stands, if_neg (by omega)]
      exact ⟨rfl, rfl, rfl⟩
    · have over_ : t = nextTrial (countSample 0 s) := by rw [stands, if_pos (by omega)]
      obtain ⟨probe, fitted, kept⟩ := nextTrial_begins (countSample 0 s)
      simp only [ended, over_, probe]
      exact ⟨⟨rfl, trivial⟩, fitted, kept⟩
  | some v =>
    obtain ⟨v, clamped⟩ := v
    obtain ⟨fpt, cfg⟩ := counted clamped (s.fpt.probe.run + 1)
    have stands : t =
        if 5 ≤ s.fpt.probe.run + 1 then
          nextTrial (fitInput c v (setFlagIf clamped .clamped (countSample (s.fpt.probe.run + 1) s)))
        else if 20 ≤ s.fpt.probe.samples + 1 then
          nextTrial (setFlagIf clamped .clamped (countSample (s.fpt.probe.run + 1) s))
        else setFlagIf clamped .clamped (countSample (s.fpt.probe.run + 1) s) := by
      simp only [t, windowTrial, sample]
    generalize setFlagIf clamped .clamped (countSample (s.fpt.probe.run + 1) s) = u at fpt cfg stands
    have channelsU : u.fpt.fitted.length = 26 := by rw [fpt]; exact channels
    have inputsU : u.fpt.inputs.length = 18 := by rw [fpt]; exact inputs
    refine ⟨fun w is found => ?_, fun w is few early => ?_, fun none_ => (by cases none_), fun late few => ?_⟩
    · cases is
      have over_ : t = nextTrial (fitInput c v u) := by rw [stands, if_pos (by omega)]
      obtain ⟨probe, fitted, kept⟩ := nextTrial_begins (fitInput c v u)
      have cfgU : (fitInput c v u).cfg = s.cfg := by rw [← cfg]; rfl
      have trialU : (fitInput c v u).fpt.probe.trial = s.fpt.probe.trial := by
        change u.fpt.probe.trial = _
        rw [fpt]
      refine ⟨?_, fun d => ?_, fun d => ?_⟩
      · simp only [ended, over_, probe, cfgU, trialU, and_self]
      · rw [over_, isFitted_congr fitted, isFitted_fitInput c d v channelsU,
          isFitted_congr (s := s) (by rw [fpt])]
      · rw [over_, inputOf_congr kept, inputOf_fitInput d v input inputsU, inputOf_congr (s := s) (by rw [fpt])]
    · rw [stands, if_neg (by omega), if_neg (by omega), fpt]
      exact ⟨rfl, rfl, rfl⟩
    · have few : s.fpt.probe.run < 4 := few.resolve_left (by simp)
      have over_ : t = nextTrial u := by rw [stands, if_neg (by omega), if_pos (by omega)]
      obtain ⟨probe, fitted, kept⟩ := nextTrial_begins u
      simp only [ended, over_, probe, fitted, kept, cfg, fpt, and_self]

/-! ## The drive trials (R168) -/

theorem trialAfter_ten (p : Straps) : trialAfter p 10 = 11 := by
  rcases trialAfter_next p 10 with ⟨-, none_⟩ | ⟨⟨later, -⟩, least⟩
  · exact absurd ⟨by omega, by omega, by omega, by omega⟩ (none_ 11)
  · exact le_antisymm (least 11 ⟨by omega, by omega, by omega, by omega⟩) later

theorem trialAfter_eleven (p : Straps) : trialAfter p 11 = 12 := by
  rcases trialAfter_next p 11 with ⟨-, none_⟩ | ⟨⟨later, -⟩, least⟩
  · exact absurd ⟨by omega, by omega, by omega, by omega⟩ (none_ 12)
  · exact le_antisymm (least 12 ⟨by omega, by omega, by omega, by omega⟩) later

theorem trialAfter_twelve (p : Straps) : trialAfter p 12 = 0 ∨ 13 ≤ trialAfter p 12 := by
  rcases trialAfter_next p 12 with ⟨zero, -⟩ | ⟨⟨later, -⟩, -⟩
  · exact .inl zero
  · exact .inr later

/-- R168, R169: what a trial writes as it begins. -/
def exercises (rateLow : Int) (n : Nat) (o : Outputs) : Outputs :=
  if n = 10 then { o with enable0 := true }
  else if n = 11 then { o with enable1 := true }
  else if n = 12 then { o with pump := rateLow, flushOpen := false }
  else o

theorem nextTrial_written (s : State) :
    (nextTrial s).fpt.written =
      exercises s.cfg.image.rateLow (trialAfter s.cfg.straps s.fpt.probe.trial) s.fpt.written :=
  (beginTrial_holds (trialAfter s.cfg.straps s.fpt.probe.trial) s).2.2.2

/-- R168: what one sample of a drive trial comes to. -/
theorem driveTrial_moves (ready : Loop) {motor channel : Channel} {release : State → State} {s : State} {n : Nat}
    (input : channel.number < 18) (inputs : s.fpt.inputs.length = 18) (channels : s.fpt.fitted.length = 26)
    (next : trialAfter s.cfg.straps s.fpt.probe.trial = n)
    (releases : ∀ u : State, (release u).cfg = u.cfg ∧ (release u).fpt.probe = u.fpt.probe ∧
      (release u).fpt.fitted = u.fpt.fitted ∧ (release u).fpt.inputs = u.fpt.inputs) :
    let t := driveTrial ready motor channel release s
    let begun := t.fpt.probe = { trial := n, samples := 0, run := 0, startPressure := none, forcingSeen := false }
    (ready = .on → begun ∧ (∀ d, isFitted t d = true ↔ d ∈ [motor, channel] ∨ isFitted s d = true) ∧
      inputOf t channel = { valid := true, bad := 0, good := 0, served := 1 } ∧
      t.fpt.written = exercises s.cfg.image.rateLow n s.fpt.written) ∧
    (ready ≠ .on → s.fpt.probe.samples < 49 →
      t.fpt.probe = { s.fpt.probe with samples := s.fpt.probe.samples + 1, run := 0 } ∧
        (t.fpt.fitted = s.fpt.fitted ∧ t.fpt.inputs = s.fpt.inputs) ∧ t.fpt.written = s.fpt.written) ∧
    (ready ≠ .on → 49 ≤ s.fpt.probe.samples → begun ∧
      (t.fpt.fitted = s.fpt.fitted ∧ t.fpt.inputs = s.fpt.inputs) ∧
      t.fpt.written = exercises s.cfg.image.rateLow n (release (countSample 0 s)).fpt.written) := by
  intro t begun
  refine ⟨fun on => ?_, fun off early => ?_, fun off late => ?_⟩
  · let u := fit motor (fitInput channel 1 (countSample 0 s))
    have ends : t = nextTrial u := if_pos on
    obtain ⟨probe, fitted, kept⟩ := nextTrial_begins u
    have written := nextTrial_written u
    have after : trialAfter u.cfg.straps u.fpt.probe.trial = n := next
    rw [after] at probe written
    have counted (d : Channel) : isFitted (countSample 0 s) d = isFitted s d := rfl
    simp only [begun, ends, probe, written, isFitted_congr fitted, inputOf_congr kept]
    refine ⟨trivial, fun d => ?_, ?_, rfl⟩
    · rw [isFitted_fit motor d _ (by simpa [fitInput, setInput, fit, countSample] using channels),
        isFitted_fitInput (s := countSample 0 s) channel d 1 channels, counted]
      simp [or_assoc]
    · have read := inputOf_fitInput channel 1 (s := countSample 0 s) input inputs
      rw [if_pos rfl] at read
      exact read
  · have stays : t = countSample 0 s := (if_neg off).trans (if_neg (by omega))
    rw [stays]
    exact ⟨rfl, ⟨rfl, rfl⟩, rfl⟩
  · have ends : t = nextTrial (release (countSample 0 s)) := (if_neg off).trans (if_pos (by omega))
    obtain ⟨cfg, same, fitted, kept⟩ := releases (countSample 0 s)
    obtain ⟨probe', fitted', kept'⟩ := nextTrial_begins (release (countSample 0 s))
    have written := nextTrial_written (release (countSample 0 s))
    have after : trialAfter (release (countSample 0 s)).cfg.straps (release (countSample 0 s)).fpt.probe.trial = n := by
      rw [cfg, same]
      exact next
    rw [after] at probe' written
    rw [cfg] at written
    simp only [begun, ends, probe', written, fitted', kept', fitted, kept]
    exact ⟨trivial, ⟨rfl, rfl⟩, rfl⟩

/-! ## The grout line trial (R169) -/

/-- R169: a pass event. -/
theorem groutPasses_iff (x : FieldInputs) (s : State) :
    groutPasses x s = true ↔
      (∃ v, sampleOf s x .groutMeter = some v ∧ 1 ≤ v.1) ∨
        ∃ a v, s.fpt.probe.startPressure = some a ∧ trialPressure x s = some v ∧ a + 50 ≤ v := by
  rw [groutPasses, Bool.or_eq_true]
  refine or_congr ?_ ?_
  · cases sampleOf s x .groutMeter <;> simp
  · cases s.fpt.probe.startPressure <;> cases trialPressure x s <;> simp

/-- The state once a sample of the trial is counted and noted. -/
def groutNoted (x : FieldInputs) (s : State) : State :=
  setFlagIf (trialClamp x s) .clamped (noteGrout x (countSample 0 s))

theorem serveTrial_rest (x : FieldInputs) (s : State) :
    (serveTrial x s).cfg = s.cfg ∧ (serveTrial x s).fpt.fitted = s.fpt.fitted ∧
      (serveTrial x s).fpt.written = s.fpt.written ∧ (serveTrial x s).fpt.probe = s.fpt.probe ∧
      (serveTrial x s).fpt.inputs.length = s.fpt.inputs.length := by
  unfold serveTrial
  split <;> simp [setInput]

theorem inputOf_serveTrial {x : FieldInputs} {s : State} (length : s.fpt.inputs.length = 18) :
    (∀ v, trialPressure x s = some v →
      inputOf (serveTrial x s) .groutPressure = { inputOf s .groutPressure with served := v }) ∧
      (trialPressure x s = none → inputOf (serveTrial x s) .groutPressure = inputOf s .groutPressure) := by
  refine ⟨fun v pressure => ?_, fun pressure => ?_⟩
  · simp only [serveTrial, pressure]
    rw [inputOf_setInput .groutPressure .groutPressure _ s (by decide) length, if_pos rfl]
  · simp only [serveTrial, pressure]

theorem groutNoted_holds (x : FieldInputs) (s : State) :
    let n := groutNoted x s
    n.cfg = s.cfg ∧ n.fpt.fitted = s.fpt.fitted ∧ n.fpt.written = s.fpt.written ∧
      n.fpt.inputs.length = s.fpt.inputs.length ∧
      n.fpt.probe =
        { s.fpt.probe with
          samples := s.fpt.probe.samples + 1, run := 0
          startPressure :=
            match s.fpt.probe.startPressure with
            | none => trialPressure x s
            | some a => some a
          forcingSeen := s.fpt.probe.forcingSeen || forcingNow s } ∧
      (∀ c, inputOf n c = inputOf (serveTrial x (countSample 0 s)) c) := by
  intro n
  obtain ⟨-, fitted, written, probe, length⟩ := serveTrial_rest x (countSample 0 s)
  have fpt : n.fpt = (noteGrout x (countSample 0 s)).fpt := by simp [n, groutNoted]
  refine ⟨by simp [n, groutNoted, noteGrout], ?_, ?_, ?_, ?_, fun c => inputOf_congr ?_ c⟩
  · rw [fpt]
    exact fitted
  · rw [fpt]
    exact written
  · rw [fpt]
    exact length
  · rw [fpt, noteGrout, State.onFpt]
    dsimp only
    rw [probe]
    rfl
  · rw [fpt]
    rfl

theorem endGroutTrial_ends {s : State} (trial : s.fpt.probe.trial = 12) :
    (endGroutTrial s).fpt.probe =
        { trial := trialAfter s.cfg.straps 12, samples := 0, run := 0, startPressure := none
          forcingSeen := false } ∧
      (endGroutTrial s).fpt.fitted = s.fpt.fitted ∧ (endGroutTrial s).fpt.inputs = s.fpt.inputs ∧
      (endGroutTrial s).fpt.written = { s.fpt.written with pump := 0 } := by
  obtain ⟨probe, -, -⟩ := nextTrial_begins s
  have written := nextTrial_written s
  have idle : exercises s.cfg.image.rateLow (trialAfter s.cfg.straps 12) s.fpt.written = s.fpt.written := by
    have := trialAfter_twelve s.cfg.straps
    rw [exercises, if_neg (by omega), if_neg (by omega), if_neg (by omega)]
  rw [trial] at probe written
  rw [idle] at written
  unfold endGroutTrial
  exact ⟨by simpa using probe, by simp, by simp, by simp [writePump, written]⟩

/-- R170: a fitted grout line, its meter serving 0. -/
theorem fitGrout_fits {s : State} (inputs : s.fpt.inputs.length = 18) (channels : s.fpt.fitted.length = 26) :
    (∀ d, isFitted (fitGrout s) d = true ↔ d ∈ [.groutPump, .flushValve, .groutMeter] ∨ isFitted s d = true) ∧
      (∀ d, inputOf (fitGrout s) d =
        if d = .groutMeter then { valid := true, bad := 0, good := 0, served := 0 } else inputOf s d) ∧
      (fitGrout s).cfg = s.cfg ∧ (fitGrout s).fpt.probe = s.fpt.probe ∧
      (fitGrout s).fpt.written = s.fpt.written := by
  refine ⟨fun d => ?_, fun d => ?_, rfl, rfl, rfl⟩
  · rw [fitGrout, isFitted_fit _ _ _ (by simpa [length_fitted_fit, fitInput, setInput] using channels),
      isFitted_fit _ _ _ (by simpa [length_fitted_fit, fitInput, setInput] using channels),
      isFitted_fitInput _ _ _ channels]
    simp [or_assoc]
  · rw [← inputOf_fitInput d 0 (c := .groutMeter) (by decide) inputs]
    exact inputOf_congr rfl d

/-- R169: what one sample of the grout line trial comes to. -/
theorem groutTrialStep_moves {s : State} (x : FieldInputs) (inputs : s.fpt.inputs.length = 18)
    (channels : s.fpt.fitted.length = 26) (trial : s.fpt.probe.trial = 12) :
    let t := groutTrialStep x s
    let begun := t.fpt.probe =
      { trial := trialAfter s.cfg.straps 12, samples := 0, run := 0, startPressure := none, forcingSeen := false }
    let line := (∀ d, isFitted t d = true ↔ d ∈ [.groutPump, .flushValve, .groutMeter] ∨ isFitted s d = true) ∧
      inputOf t .groutMeter = { valid := true, bad := 0, good := 0, served := 0 }
    let stopped := t.fpt.written = { s.fpt.written with pump := 0 }
    let seen := s.fpt.probe.forcingSeen = true ∨ forcingNow s = true
    (groutPasses x s = true → begun ∧ line ∧ stopped) ∧
      (groutPasses x s = false → 299 ≤ s.fpt.probe.samples → begun ∧ stopped ∧ (seen → line) ∧
        (¬seen → t.fpt.fitted = s.fpt.fitted)) ∧
      (groutPasses x s = false → s.fpt.probe.samples < 299 →
        t.fpt.probe = (groutNoted x s).fpt.probe ∧ t.fpt.fitted = s.fpt.fitted ∧
        t.fpt.written =
          { s.fpt.written with pump := if s.fpt.probe.samples = 199 then 0 else s.fpt.written.pump }) ∧
      inputOf t .groutPressure = inputOf (serveTrial x (countSample 0 s)) .groutPressure := by
  intro t begun line stopped seen
  obtain ⟨cfg, fitted, written, length, probe, served⟩ := groutNoted_holds x s
  have step : t =
      if groutPasses x s then endGroutTrial (fitGrout (groutNoted x s))
      else if 300 ≤ s.fpt.probe.samples + 1 then
        endGroutTrial (if (groutNoted x s).fpt.probe.forcingSeen then fitGrout (groutNoted x s) else groutNoted x s)
      else if s.fpt.probe.samples + 1 = 200 then writePump 0 (groutNoted x s)
      else groutNoted x s := rfl
  have noted : (groutNoted x s).fpt.probe.forcingSeen = true ↔ seen := by
    rw [probe]
    exact Bool.or_eq_true_iff
  generalize groutNoted x s = n at *
  have trialN : n.fpt.probe.trial = 12 := by rw [probe]; exact trial
  obtain ⟨fits, serves, cfgF, probeF, writtenF⟩ := fitGrout_fits (s := n) (by rw [length, inputs])
    (by rw [fitted, channels])
  have fitsEnd (ends : t = endGroutTrial (fitGrout n)) : begun ∧ line ∧ stopped ∧
      inputOf t .groutPressure = inputOf (serveTrial x (countSample 0 s)) .groutPressure := by
    obtain ⟨probeE, fittedE, inputsE, writtenE⟩ := endGroutTrial_ends (s := fitGrout n) (by rw [probeF, trialN])
    rw [cfgF, cfg] at probeE
    rw [writtenF, written] at writtenE
    refine ⟨by rw [← ends] at probeE; exact probeE, ⟨fun d => ?_, ?_⟩, by rw [← ends] at writtenE; exact writtenE, ?_⟩
    · rw [ends, isFitted_congr fittedE, fits, isFitted_congr fitted]
    · rw [ends, inputOf_congr inputsE, serves, if_pos rfl]
    · rw [ends, inputOf_congr inputsE, serves, if_neg (by decide), served]
  have plainEnd (ends : t = endGroutTrial n) : begun ∧ stopped ∧ t.fpt.fitted = s.fpt.fitted ∧
      inputOf t .groutPressure = inputOf (serveTrial x (countSample 0 s)) .groutPressure := by
    obtain ⟨probeE, fittedE, inputsE, writtenE⟩ := endGroutTrial_ends trialN
    rw [cfg] at probeE
    rw [written] at writtenE
    rw [← ends] at probeE writtenE fittedE inputsE
    exact ⟨probeE, writtenE, fittedE.trans fitted, (inputOf_congr inputsE _).trans (served _)⟩
  cases passes : groutPasses x s with
  | true =>
    obtain ⟨begins, fitsLine, stops, pressure⟩ := fitsEnd (by rw [step, if_pos passes])
    exact ⟨fun _ => ⟨begins, fitsLine, stops⟩, fun no => (by cases no), fun no => (by cases no), pressure⟩
  | false =>
    rw [if_neg (by simp [passes])] at step
    by_cases late : 300 ≤ s.fpt.probe.samples + 1
    · rw [if_pos late] at step
      by_cases was : seen
      · rw [if_pos (noted.2 was)] at step
        obtain ⟨begins, fitsLine, stops, pressure⟩ := fitsEnd step
        exact ⟨fun yes => (by cases yes), fun _ _ => ⟨begins, stops, fun _ => fitsLine, fun unseen => absurd was unseen⟩,
          fun _ early => by omega, pressure⟩
      · rw [if_neg (fun on => was (noted.1 on))] at step
        obtain ⟨begins, stops, kept, pressure⟩ := plainEnd step
        exact ⟨fun yes => (by cases yes), fun _ _ => ⟨begins, stops, fun on => absurd on was, fun _ => kept⟩,
          fun _ early => by omega, pressure⟩
    · rw [if_neg late] at step
      refine ⟨fun yes => (by cases yes), fun _ later => absurd later (by omega), fun _ _ => ?_, ?_⟩
      · by_cases two : s.fpt.probe.samples + 1 = 200
        · rw [step, if_pos two, if_pos (by omega)]
          exact ⟨by simp, by simpa using fitted, by simp [writePump, written]⟩
        · rw [step, if_neg two, if_neg (by omega)]
          exact ⟨rfl, fitted, written⟩
      · rw [← served, step]
        split
        · exact inputOf_congr (by simp) _
        · rfl

/-! ## The field sample (sections 8.1 to 8.5) -/

/-- Settles O49: the samples of the channels, their readings, and the trials of PROBE. -/
theorem fieldSampleJudgesEveryChannel : Obligations.FieldSampleJudgesEveryChannel := by
  unfold Obligations.FieldSampleJudgesEveryChannel
  intro after inputs
  have judged (s : State) (x : FieldInputs) (c : Channel) : inputJudged s x c = after s x c := by
    unfold inputJudged
    simp only [after]
    split
    · rfl
    · cases sampleOf s x c with
      | none => exact inputAfter_none _
      | some v => exact inputAfter_some v.1 _
  refine ⟨fun s x start timer due => ?_, fun s x c input other length => ?_, fun s x => ?_, ?_, ?_, ?_⟩
  · intro s1
    have sampled : exec (.fieldSampleExpiry x) s = .next (fieldSample x s1) := by
      change execFieldSampleExpiry x s = _
      rw [execFieldSampleExpiry, timer, onExpiry_due (span := Config.samplePeriod) due]
      rfl
    refine ⟨fun running => ?_, fun probe => ?_⟩
    · intro t
      have runs : fieldSample x s1 = runSample x s1 := if_neg running
      have fold : t = runSample x s1 := (runSample_foldl x s1).symm
      obtain ⟨ports, estopIn⟩ := runSample_ports x s1
      rw [sampled, runs, fold]
      refine ⟨rfl, by simp [s1], fun length c input other => ?_, estopIn.trans (estopAfter_eq _ _), by simp [s1],
        by simp [s1], by simp [s1], by simp [s1], by simp [s1], by simp [s1]⟩
      exact (ports length c input other).trans (judged s x c)
    · rw [sampled, fieldSample, if_pos probe]
  · intro good
    obtain ⟨read, clamped, rest⟩ := judgeInput_judges x input length
    obtain ⟨-, elapsed, -, -, -, cfg, ptb, -, -, thu, bsq, -, bal, -⟩ := judgeInput_frame c x s
    refine ⟨judgeInput c x s, fun d => ?_, clamped, rest, ?_⟩
    · rw [read, judged]
    · have sample (c' : Channel) : sampleOf (judgeInput c x s) x c' = sampleOf s x c' := sampleOf_congr cfg x c'
      have own : (judgeInput c x s).own = s.own := by simp only [State.own, cfg]
      simp only [good]
      unfold sampleChannel
      generalize judgeInput c x s = u at *
      cases c with
      | stroke =>
        rw [← ptb, ← thu, ← own]
        exact congrArg settle (strokeArrival_mark s x u)
      | groupPressure | groutPressure | motorTemp0 | motorTemp1 | motorTorque0 | motorTorque1 | retractedLimit
        | chamberPressure | driveReady0 | driveReady1 | gateClosed => rfl
      | feederReady =>
        rw [← ptb, ← bsq, ← cfg, ← elapsed]
        exact congrArg settle (feederArrival_eq s x u)
      | atPosition =>
        rw [← ptb, ← bsq]
        exact congrArg settle (positionArrival_eq s x u)
      | placementDone =>
        rw [← ptb, ← bsq]
        exact congrArg settle (placementArrival_eq s x u)
      | groutMeter =>
        have arrives := meterArrival_eq s x u
        rw [sample] at arrives
        exact congrArg settle arrives
      | screwEncoder =>
        have arrives := screwArrival_eq (inputValid s .screwEncoder) x u
        rw [sample, bal, encoderSum_eq, ← Int.add_sub_assoc] at arrives
        exact congrArg settle arrives
      | estopIn => exact absurd rfl other
      | motorRef0 | motorRef1 | groupValve | groutPump | flushValve | screwRef | gateCmd | erectorCmd =>
        exact absurd input (by decide)
  · intro analog discrete counts
    exact ⟨⟨fun a here => analogSample_eq here _, fun a here => analogSample_eq here _,
        fun a here => analogSample_eq here _, fun a here => analogSample_eq here _,
        fun a here => analogSample_eq here _, fun a here => analogSample_eq here _,
        fun a here => analogSample_eq here _, fun a here => analogSample_eq here _⟩,
      ⟨loopSample_eq _, loopSample_eq _, loopSample_eq _, loopSample_eq _, loopSample_eq _, loopSample_eq _,
        loopSample_eq _, loopSample_eq _⟩, rfl, encoderSample_eq s x⟩
  · exact ⟨fun p n _ => trialAfter_next p n, rfl⟩
  · intro s x c first second third channel inputs channels few early t sample ended
    have input : c.number < 18 := channel ▸ trialChannel_input _
    have window : t = windowTrial c x s := by
      simp only [t, trialStep, if_neg first, if_neg second, if_neg third, channel]
    obtain ⟨found, counts, misses, ends⟩ := windowTrial_moves x input inputs channels
    simp only [ended, window]
    exact ⟨fun v is run => found v is (by omega), counts, misses, fun late => ends (by omega)⟩
  · intro s x inputs channels t begun found serves none_ counted w pumped
    have begins (u : State) := nextTrial_begins u
    refine ⟨fun trial => ?_, fun trial => ?_, fun trial => ?_⟩
    · have drive : t = driveTrial x.driveReady0 .motorRef0 .driveReady0 (writeEnable0 false) s := if_pos trial
      have moves := driveTrial_moves x.driveReady0 (motor := .motorRef0) (channel := .driveReady0)
        (release := writeEnable0 false) (s := s) (n := 11) (by decide) inputs channels
        (by rw [trial, trialAfter_ten]) (fun u => by simp)
      have released : (writeEnable0 false (countSample 0 s)).fpt.written = { w with enable0 := false } := by
        simp [countSample, State.onFpt, w]
      rw [released, ← drive] at moves
      exact moves
    · have drive : t = driveTrial x.driveReady1 .motorRef1 .driveReady1 (writeEnable1 false) s :=
        (if_neg (by omega)).trans (if_pos trial)
      have moves := driveTrial_moves x.driveReady1 (motor := .motorRef1) (channel := .driveReady1)
        (release := writeEnable1 false) (s := s) (n := 12) (by decide) inputs channels
        (by rw [trial, trialAfter_eleven]) (fun u => by simp)
      have released : (writeEnable1 false (countSample 0 s)).fpt.written = { w with enable1 := false } := by
        simp [countSample, State.onFpt, w]
      rw [released, ← drive] at moves
      exact moves
    · have grout : t = groutTrialStep x s :=
        (if_neg (by omega)).trans ((if_neg (by omega)).trans (if_pos trial))
      obtain ⟨passes, ends, goes, pressureKept⟩ := groutTrialStep_moves x inputs channels trial
      rw [← grout] at passes ends goes pressureKept
      obtain ⟨serving, silent⟩ := inputOf_serveTrial (x := x) (s := countSample 0 s) inputs
      intro pressure pulse rise seen line
      have event : groutPasses x s = true ↔ pulse ∨ rise := groutPasses_iff x s
      have fails (noPulse : ¬pulse) (noRise : ¬rise) : groutPasses x s = false := by
        rw [← Bool.not_eq_true, event]
        exact fun either => either.elim noPulse noRise
      refine ⟨fun either => passes (event.2 either), fun noPulse noRise => ends (fails noPulse noRise),
        fun noPulse noRise early => ?_, fun v is => pressureKept.trans (serving v is),
        fun none_ => pressureKept.trans (silent none_)⟩
      obtain ⟨probe, fitted, written⟩ := goes (fails noPulse noRise) early
      exact ⟨probe.trans (groutNoted_holds x s).2.2.2.2.1, fitted, written⟩

end Sys2Proof.Machine
end
